-- ==== Sys2Proof/Word.lean ====
section
/-!
DEFINITION. Word.lean: the machine's word types.
-/
namespace Sys2Proof

/-- A byte. -/
abbrev Byte := BitVec 8

/-- A register: every register is 32 bits wide (R360). -/
abbrev Word := BitVec 32

end Sys2Proof
end

