-- ==== Sys2Proof/Types.lean ====
section
/-!
DEFINITION. Types.lean: the operands that commands carry from outside: who sends, bricks, messages and pin levels.
-/
namespace Sys2Proof.Machine

/-- The masters of the register file (R362). `vf n` is VF(n + 1), which serves PTn (R30). -/
inductive Master where
  | core | pf0 | vf (n : Fin 8) | smbus | debug
  deriving DecidableEq, Repr

/-- The requesters of hods (R382). -/
inductive Requester where
  | pf0 | vf (n : Fin 8) | smbus | rack | debug | core
  deriving DecidableEq, Repr

/-- The requester id of R382. -/
def Requester.id : Requester → Nat
  | .pf0 => 0
  | .vf n => n.val + 1
  | .smbus => 9
  | .rack => 10
  | .debug => 11
  | .core => 12

/-- The requester that a register master is (R371). -/
def Master.req : Master → Requester
  | .core => .core
  | .pf0 => .pf0
  | .vf n => .vf n
  | .smbus => .smbus
  | .debug => .debug

/-- A brick slot (R66): the header fields, the 256-byte payload and the 64-bit check field. -/
structure Brick where
  typ : BitVec 6
  vc : BitVec 3 := 0
  part : BitVec 3 := 0
  stream : BitVec 13 := 0
  grouted : Bool := false
  ackValid : Bool := false
  first : Bool := false
  last : Bool := false
  keySlot : Bool := false
  retry : Bool := false
  poison : Bool := false
  dst : BitVec 8 := 0
  src : BitVec 8 := 0
  grout : BitVec 8 := 0
  crVc : BitVec 3 := 0
  crCnt : BitVec 5 := 0
  seq : BitVec 32 := 0
  ack : BitVec 16 := 0
  addr : BitVec 48 := 0
  tagLo : BitVec 32 := 0
  payload : List Byte := []
  check : BitVec 64 := 0
  deriving DecidableEq, Repr

/-- What the endpoint declares in CONFIG (R62): its lane rate code (R7), the FEC modes it supports (bit m for mode m),
its receive credits per virtual channel, the octets it has locked, and whether it can seal. -/
structure Caps where
  rate : BitVec 8
  fecModes : BitVec 2
  credits : List (BitVec 16)
  octets : BitVec 8
  canSeal : Bool
  deriving DecidableEq, Repr

/-- How the lanes of a port's cables arrive (R57): the lanes whose polarity is inverted, and the far end's lane that each lane
of the port carries, in the port's lane order; a lane that the list does not reach carries its own. -/
structure Wiring where
  inverted : BitVec 64 := 0
  order : List Nat := []
  deriving DecidableEq, Repr

/-- A port whose training patterns show how its lanes arrive (R57). -/
structure Polled where
  port : Fin 8
  wiring : Wiring := {}
  deriving DecidableEq, Repr

/-- What the far end announces in RETRAIN and SEAL_SYNC (R86): its key slot and its slot counter. -/
structure SealAnnounce where
  slot : Bool
  counter : Nat
  deriving DecidableEq, Repr

/-- The straps (R552). -/
structure Straps where
  coolMode : Bool := false
  critSel : BitVec 2 := 0
  smbAddr : BitVec 3 := 0
  mgrEn : Bool := false
  bootKiln : Bool := false
  deriving DecidableEq, Repr

/-- What a start of the base die finds (R133, R141, R550): its straps, the spill memory fitted in GiB, the channels that fail
training, and the tiles that the power-on self-test or the manufacturing list marks as failed. -/
structure Boot where
  smbAddr : BitVec 3 := 0
  mgrEn : Bool := false
  bootKiln : Bool := false
  gib : Nat := 0
  badChannels : Nat := 0
  badTiles : List Nat := []
  deriving DecidableEq, Repr

/-- What the ECC of an access or a scrub found (R139): corrected words, words newly uncorrectable by physical address,
and whether a spill unit's tag mismatched (R135). -/
structure EccReport where
  corrected : Nat := 0
  bad : List Nat := []
  tagFail : Bool := false
  deriving DecidableEq, Repr

/-- A host access through BAR4 (R132): the byte address in the window, and what ECC and the spill tag find there. -/
structure HostAccess where
  addr : Nat
  ecc : EccReport := {}
  deriving DecidableEq, Repr

/-- A migration's copy that ends (R137): the page, the corrected words of its source by tile and number (R139), its words newly
uncorrectable, and the units whose tag did not match (R135). -/
structure MoveEnd where
  page : Nat
  ces : List (Nat × Nat) := []
  bad : List Nat := []
  tags : List Nat := []
  deriving DecidableEq, Repr

/-- What the hub measured over the ending course (R256): the average current in mA and bus voltage in mV of H0 to H9, and
the hub's own power in mW. -/
structure CourseMeas where
  chan : List (Nat × Nat)
  hubMw : Nat
  deriving DecidableEq, Repr

/-- What a sample finds: the raw value, the reading in engineering units, and the front end's reason: 0 none, 4 open,
5 short, 6 overrange, 7 a converter fault (R343 to R347). -/
structure Sample where
  raw : BitVec 16
  reading : Int
  reason : Nat
  deriving DecidableEq, Repr

/-- A frame of the rack chain as it arrives (R435): on the upstream link or the downstream one, its SRC and DST, its payload,
and whether its CRC is right. -/
structure Frame where
  up : Bool
  src : Nat
  dst : Nat
  payload : List Byte
  ok : Bool
  deriving DecidableEq, Repr

/-- The JTAG instructions of R492; `other` is any instruction code that the port does not have. -/
inductive JtagInstr where
  | bypass | idcode | sample | extest | intest | debug | other
  deriving DecidableEq, Repr

/-- One programming of one-time-programmable cells through the debug port (R480): the revocation fuse of IKk, an owner key,
or the debug key. -/
inductive OtpWrite where
  | revoke (k : Fin 4)
  | ok0 (key : List Byte)
  | ok1 (key : List Byte)
  | dk (key : List Byte)
  deriving DecidableEq, Repr

/-- An SPDM request (R482): its binding, its sender's endpoint id and message tag, the session that carries it, whether the
verification data of a FINISH is right, and the message from its version byte on. -/
structure SpdmMsg where
  pcie : Bool
  eid : Nat
  tag : Nat
  sid : Option Nat := none
  macOk : Bool := true
  bytes : List Byte
  deriving DecidableEq, Repr

/-- How a hod request is sent: its requester, its tag, its transaction id and its IDEMPOTENT flag (R387). -/
structure Call where
  who : Requester
  tag : Nat := 0
  txn : Nat := 0
  idem : Bool := false
  deriving DecidableEq, Repr

/-- Where a control request came from: its binding, endpoint, message tag and instance id, and on SMBus the sender's
address. -/
structure CtlFrom where
  pcie : Bool
  eid : Nat
  tag : Nat
  inst : Nat
  slave : Nat := 0
  deriving DecidableEq, Repr

end Sys2Proof.Machine
end

