-- ==== Sys2Proof/Syntax.lean ====
section
/-!
DEFINITION. Syntax.lean: the commands, one constructor for each row of the opcode table, in its order.
-/
namespace Sys2Proof

open Machine

/-- A command to the block. -/
inductive Instr where
  /-- FOOTING_POWER_ON (R376) -/
  | footingPowerOn (liquid : Bool) (crit : BitVec 2)
  /-- POWER_ON_RESET (R376) -/
  | powerOnReset (rise : Bool)
  /-- HUB_RST_DEASSERT (R550) -/
  | hubRstDeassert (b : Boot)
  /-- ROM_BOOT (R459) -/
  | romBoot
  /-- COURSE_BOUNDARY (R41) -/
  | courseBoundary
  /-- TELEMETRY_CLOSE (R255) -/
  | telemetryClose (meas : CourseMeas)
  /-- GRANT_POINT (R45) -/
  | grantPoint (late : Bool)
  /-- CRC_COMPLETE (R370) -/
  | crcComplete
  /-- CRS_PERIOD_WRITE (R34) -/
  | crsPeriodWrite (m : Master) (v : Word)
  /-- REGISTER_WRITE (R367) -/
  | registerWrite (m : Master) (a : Word) (size : Nat) (v : BitVec 64)
  /-- PAIR_LO_READ (R362) -/
  | pairLoRead (m : Master) (a : Word)
  /-- PAIR_HI_READ (R362) -/
  | pairHiRead (m : Master) (a : Word)
  /-- PAIR_HI_WRITE (R364) -/
  | pairHiWrite (m : Master) (a v : Word)
  /-- RC_READ (R366) -/
  | rcRead (m : Master) (a : Word)
  /-- CFG_REF_WRITE (R369) -/
  | cfgRefWrite (m : Master) (v : Word)
  /-- TXN_CTRL_BEGIN (R371) -/
  | txnCtrlBegin (m : Master)
  /-- TXN_CTRL_COMMIT (R373) -/
  | txnCtrlCommit (m : Master) (ref : Bool)
  /-- TXN_CTRL_ABORT (R374) -/
  | txnCtrlAbort (m : Master)
  /-- RESET_CTRL_WARM (R376) -/
  | resetCtrlWarm (m : Master)
  /-- TXN_OPEN_TIMEOUT (R374) -/
  | txnOpenTimeout (id : BitVec 16)
  /-- STAGE_MAX_TIMEOUT (R375) -/
  | stageMaxTimeout (id : BitVec 16)
  /-- PORT_CTRL_RETRAIN (R95) -/
  | portCtrlRetrain (m : Master) (x : Fin 8)
  /-- PORT_CTRL_FENCE_RELEASE (R95) -/
  | portCtrlFenceRelease (m : Master) (x : Fin 8)
  /-- CABLE_INSERTED (R61) -/
  | cableInserted (x : Fin 8) (cableB : Bool) (image : Option (List Byte))
  /-- CABLE_REMOVED (R82) -/
  | cableRemoved (x : Fin 8) (cableB : Bool)
  /-- SIGNAL_DETECTED (R60) -/
  | signalDetected (x : Fin 8) (octets : BitVec 8)
  /-- POLL_LOCKED (R60) -/
  | pollLocked (x : Polled)
  /-- POLL_TIMEOUT (R60) -/
  | pollTimeout (x : Polled) (octets : BitVec 8)
  /-- EQUALIZE_DONE (R60) -/
  | equalizeDone (x : Fin 8) (octets : BitVec 8)
  /-- EQUALIZE_TIMEOUT (R60) -/
  | equalizeTimeout (x : Fin 8)
  /-- CONFIG_EXCHANGE (R62) -/
  | configExchange (x : Fin 8) (caps : Caps)
  /-- CONFIG_TIMEOUT (R60) -/
  | configTimeout (x : Fin 8)
  /-- SEAL_SYNC_DONE (R86) -/
  | sealSyncDone (x : Fin 8) (ann : SealAnnounce)
  /-- SEAL_SYNC_TIMEOUT (R60) -/
  | sealSyncTimeout (x : Fin 8)
  /-- LANE_LOCK_LOST (R81) -/
  | laneLockLost (x : Fin 8) (lane : Fin 64)
  /-- UNCORRECTABLE_RUN (R81) -/
  | uncorrectableRun (x : Fin 8) (octet : Option (Fin 8))
  /-- RETRAIN_DONE (R60) -/
  | retrainDone (x : Fin 8) (far : BitVec 8) (ann : Option SealAnnounce)
  /-- RETRAIN_TIMEOUT (R60) -/
  | retrainTimeout (x : Fin 8)
  /-- FENCE_REENTRY_TIMEOUT (R90) -/
  | fenceReentryTimeout (x : Fin 8)
  /-- BRICK_RECEIVED (R73) -/
  | brickReceived (x : Fin 8) (b : Brick) (corrected uncorrectable : Nat)
  /-- NAK_RECEIVED (R74) -/
  | nakReceived (x : Fin 8) (seq : BitVec 32)
  /-- NAK_REPEAT_TIMEOUT (R74) -/
  | nakRepeatTimeout (x : Fin 8)
  /-- ACK_TIMER (R75) -/
  | ackTimer (x : Fin 8)
  /-- REPLAY_TIMEOUT (R76) -/
  | replayTimeout (x : Fin 8)
  /-- RETRY_LIMIT (R76) -/
  | retryLimit (x : Fin 8)
  /-- CREDIT_TIMEOUT (R80) -/
  | creditTimeout (x vc : Fin 8)
  /-- BRICK_TRANSMIT (R110) -/
  | brickTransmit (x : Fin 8) (overdue : List (Nat × Nat))
  /-- REKEY_REQUEST (R87) -/
  | rekeyRequest (x : Fin 8)
  /-- REKEY_SWITCH (R87) -/
  | rekeySwitch (x : Fin 8)
  /-- SEAL_COUNTER_EXHAUSTED (R87) -/
  | sealCounterExhausted (x : Fin 8)
  /-- SEAL_ACCEPT (R486) -/
  | sealAccept (x : Fin 8)
  /-- SEAL_REJECT_RECEIVED (R486) -/
  | sealRejectReceived (x : Fin 8)
  /-- SEAL_EXCHANGE_TIMEOUT (R488) -/
  | sealExchangeTimeout (x : Fin 8)
  /-- READ_REQ (R127) -/
  | readReq (x : Fin 8) (vc5 : Bool) (ecc : EccReport)
  /-- WRITE (R127) -/
  | write (x : Fin 8) (vc5 : Bool) (ecc : EccReport)
  /-- GROUP_WAKE_COMPLETE (R143) -/
  | groupWakeComplete (g : Fin 64)
  /-- GROUP_RETAIN_TIMEOUT (R142) -/
  | groupRetainTimeout (g : Fin 64)
  /-- BAR4_ACCESS (R132) -/
  | bar4Access (m : Master) (addr : HostAccess) (wr : Option (List Byte)) (n : Nat)
  /-- TILE_TEST_COMPLETE (R123) -/
  | tileTestComplete (t : Fin 768) (ok : Bool)
  /-- TILE_RETEST_START (R123) -/
  | tileRetestStart (t : Fin 768)
  /-- SCRUB_PASS (R140) -/
  | scrubPass (ces : List (Nat × Nat)) (bad : List Nat)
  /-- ACC_DECAY (R136) -/
  | accDecay
  /-- MIGRATION_COMPLETE (R137) -/
  | migrationComplete (page : MoveEnd)
  /-- MORTAR_DESC (R156) -/
  | mortarDesc (x : Fin 8)
  /-- MORTAR_OPND (R158) -/
  | mortarOpnd (x : Fin 8)
  /-- CHUNK_COMPLETE (R154) -/
  | chunkComplete (part : Fin 8) (id offset : Nat)
  /-- COLLECTIVE_TIMEOUT (R160) -/
  | collectiveTimeout (part : Fin 8) (id : Nat)
  /-- MORTAR_ST_START (R172) -/
  | mortarStStart
  /-- MORTAR_DRAIN_COMPLETE (R172) -/
  | mortarDrainComplete
  /-- MORTAR_DRAIN_TIMEOUT (R172) -/
  | mortarDrainTimeout
  /-- MORTAR_ST_COMPLETE (R172) -/
  | mortarStComplete (ok : Bool)
  /-- LOGITS (R179) -/
  | logits (x : Fin 8)
  /-- TOKEN_ISSUE (R197) -/
  | tokenIssue (stream : BitVec 13)
  /-- STEP_TIMEOUT (R179) -/
  | stepTimeout (stream : BitVec 13)
  /-- SMP_ST_START (R201) -/
  | smpStStart
  /-- SMP_DRAIN_COMPLETE (R201) -/
  | smpDrainComplete
  /-- SMP_DRAIN_TIMEOUT (R201) -/
  | smpDrainTimeout
  /-- SMP_ST_COMPLETE (R203) -/
  | smpStComplete (ok : Bool)
  /-- SMP_SLICE_START (R202) -/
  | smpSliceStart
  /-- SMP_SLICE_END (R202) -/
  | smpSliceEnd
  /-- DISPATCH (R223) -/
  | dispatch (q : Fin 64)
  /-- QUANTUM_END (R219) -/
  | quantumEnd (stream : BitVec 13)
  /-- READY_MESSAGE (R222) -/
  | readyMessage (x : Fin 8)
  /-- YIELD_MESSAGE (R213) -/
  | yieldMessage (x : Fin 8)
  /-- PARK_MESSAGE (R213) -/
  | parkMessage (x : Fin 8)
  /-- DONE_MESSAGE (R213) -/
  | doneMessage (x : Fin 8)
  /-- FAULT_MESSAGE (R213) -/
  | faultMessage (x : Fin 8)
  /-- REVOKE_ACK (R213) -/
  | revokeAck (x : Fin 8)
  /-- DRAIN_TIMEOUT (R213) -/
  | drainTimeout (stream : BitVec 13)
  /-- BARRIER_ARRIVE (R237) -/
  | barrierArrive (x : Fin 8)
  /-- BARRIER_TIMEOUT (R247) -/
  | barrierTimeout (id : Nat)
  /-- ADD_P (R243) -/
  | addP (x : Fin 8)
  /-- ADD_C (R243) -/
  | addC (x : Fin 8)
  /-- WAIT_GE (R244) -/
  | waitGe (x : Fin 8)
  /-- WAIT_LE (R244) -/
  | waitLe (x : Fin 8)
  /-- TALLY_READ (R242) -/
  | tallyRead (x : Fin 8)
  /-- TALLY_WAIT_TIMEOUT (R247) -/
  | tallyWaitTimeout (id : Nat) (ge : Bool)
  /-- TELEMETRY (R258) -/
  | telemetry (x : Fin 8)
  /-- VRALERT_ASSERT (R284) -/
  | vralertAssert (x : Fin 8)
  /-- VRALERT_RELEASE_TIMEOUT (R284) -/
  | vralertReleaseTimeout (x : Fin 8)
  /-- FLOW_LOSS_ASSERT (R283) -/
  | flowLossAssert
  /-- FLOW_LOSS_DEASSERT (R306) -/
  | flowLossDeassert
  /-- FLOW_LOSS_RELEASE_TIMEOUT (R283) -/
  | flowLossReleaseTimeout
  /-- LEASE_EXPIRY (R268) -/
  | leaseExpiry
  /-- SLED_SEATED (R295) -/
  | sledSeated (x : Fin 8)
  /-- SLED_UNSEATED (R295) -/
  | sledUnseated (x : Fin 8) (pinB : Bool)
  /-- RAMP_START (R302) -/
  | rampStart (c : Fin 10)
  /-- POWER_GOOD (R298) -/
  | powerGood (c : Fin 10) (ms peak : Nat)
  /-- RST_DELAY_EXPIRY (R299) -/
  | rstDelayExpiry (c : Fin 10)
  /-- RAMP_TIMEOUT (R298) -/
  | rampTimeout (c : Fin 10) (cur vds : Nat)
  /-- ENH_LOST (R298) -/
  | enhLost (c : Fin 10) (cur vds : Nat)
  /-- FAST_TRIP (R300) -/
  | fastTrip (c : Fin 10) (cur vds : Nat)
  /-- BREAKER_TIMEOUT (R300) -/
  | breakerTimeout (c : Fin 10) (cur vds : Nat)
  /-- SOA_TRIP (R304) -/
  | soaTrip (c : Fin 10) (acc cur vds : Nat)
  /-- BACKOFF_END (R301) -/
  | backoffEnd (c : Fin 10)
  /-- RETRY_COUNT_RESET (R301) -/
  | retryCountReset (c : Fin 10)
  /-- BUS_OUT_OF_RANGE (R302) -/
  | busOutOfRange (mv : Nat)
  /-- BUS_GOOD_TIMEOUT (R302) -/
  | busGoodTimeout (mv : Nat)
  /-- SYS_SHDN_ASSERT (R303) -/
  | sysShdnAssert
  /-- SYS_SHDN_RELEASE (R303) -/
  | sysShdnRelease
  /-- TRAY_SEQ_STEP (R306) -/
  | traySeqStep
  /-- FLOW_WAIT_TIMEOUT (R306) -/
  | flowWaitTimeout
  /-- SEQ_DOWN_STEP (R308) -/
  | seqDownStep
  /-- CH_CTRL_OFF (R313) -/
  | chCtrlOff (m : Master) (c : Fin 10)
  /-- CH_CTRL_ON (R313) -/
  | chCtrlOn (m : Master) (c : Fin 10)
  /-- CH_CTRL_RELEASE (R301) -/
  | chCtrlRelease (m : Master) (c : Fin 10)
  /-- ZONE_UPDATE (R318) -/
  | zoneUpdate
  /-- HEARTBEAT_WRITE (R323) -/
  | heartbeatWrite (m : Master) (v : Word)
  /-- HOST_SILENCE_TIMEOUT (R323) -/
  | hostSilenceTimeout
  /-- FAN_FAIL_TIMEOUT (R324) -/
  | fanFailTimeout (c : Fin 14) (tach : BitVec 16)
  /-- FAN_RECOVER_TIMEOUT (R324) -/
  | fanRecoverTimeout (c : Fin 14) (tach : BitVec 16)
  /-- PUMP_FLOW_LOW_TIMEOUT (R324) -/
  | pumpFlowLowTimeout (c : Fin 14) (flow : BitVec 16)
  /-- SENSOR_FAULT_TIMEOUT (R326) -/
  | sensorFaultTimeout (i : Fin 26)
  /-- SENSOR_RESTORE_TIMEOUT (R326) -/
  | sensorRestoreTimeout (i : Fin 26)
  /-- CRIT_COMPARATOR_TRIP (R327) -/
  | critComparatorTrip (i : Fin 24) (t : Int)
  /-- CRIT_RELEASE_TIMEOUT (R327) -/
  | critReleaseTimeout
  /-- ROPE_MEASURE (R329) -/
  | ropeMeasure (readings : List (Option Nat))
  /-- ROPE_MOIST (R329) -/
  | ropeMoist (r : Fin 6)
  /-- ROPE_OPEN (R329) -/
  | ropeOpen (r : Fin 6)
  /-- LEAK_ACTION (R330) -/
  | leakAction (r : Fin 6)
  /-- LEAK_CTRL_CLEAR (R332) -/
  | leakCtrlClear (m : Master) (mask : BitVec 6)
  /-- SCAN_FRAME (R341) -/
  | scanFrame
  /-- ADC_CONVERSION (R343) -/
  | adcConversion (smp : Sample)
  /-- ADC_CALIBRATION (R346) -/
  | adcCalibration (ok : Bool) (offset gain : Int)
  /-- ADC_FAULT_TIMEOUT (R347) -/
  | adcFaultTimeout
  /-- SAR_CHECK (R349) -/
  | sarCheck (c : Fin 10) (ok : Bool) (cur vsrc vds : Nat)
  /-- DTS_UPDATE (R350) -/
  | dtsUpdate (readings : List Int) (back : BitVec 32)
  /-- DTS_FAIL (R350) -/
  | dtsFail (m : Fin 32) (cause : Fin 2)
  /-- HUB_VRALERT_ASSERT (R544) -/
  | hubVralertAssert
  /-- HUB_THROTTLE_EXIT (R544) -/
  | hubThrottleExit
  /-- VMON_SAMPLE (R351) -/
  | vmonSample (readings : List Nat)
  /-- VMON_EXCURSION (R351) -/
  | vmonExcursion (v : Fin 24)
  /-- PM_COUNT (R352) -/
  | pmCount (counts : List (Nat × Int))
  /-- PM_DAILY_STORE (R352) -/
  | pmDailyStore
  /-- REFCLK_SD_LOST (R549) -/
  | refclkSdLost
  /-- CRYSTAL_LOST (R549) -/
  | crystalLost
  /-- CLK32K_LOST (R549) -/
  | clk32kLost
  /-- HOD_RING (R386) -/
  | hodRing (who : Requester)
  /-- VF_COMPLETION_RELEASE (R394) -/
  | vfCompletionRelease
  /-- PAGE_ALLOC (R131) -/
  | pageAlloc (c : Call) (part : Byte) (n : BitVec 16) (pin : Byte)
  /-- PAGE_FREE (R146) -/
  | pageFree (c : Call) (pages : List Word)
  /-- LEASE_SET (R146) -/
  | leaseSet (c : Call) (page : Word) (lessees writer : Byte)
  /-- PAGE_PIN (R146) -/
  | pagePin (c : Call) (page : Word) (unpin : Byte)
  /-- PTE_READ (R146) -/
  | pteRead (c : Call) (page : Word)
  /-- PAGE_MOVE (R146) -/
  | pageMove (c : Call) (page : Word) (demote : Byte)
  /-- HUB_OPND_WRITE (R173) -/
  | hubOpndWrite (c : Call) (tile : BitVec 16) (offset len : Word) (bytes : List Byte)
  /-- HUB_OPND_READ (R173) -/
  | hubOpndRead (c : Call) (tile : BitVec 16) (offset len : Word)
  /-- COLL_ABORT (R171) -/
  | collAbort (c : Call) (part : Byte) (coll : BitVec 16)
  /-- SMP_PROG_WRITE (R204) -/
  | smpProgWrite (c : Call) (tile : BitVec 16) (offset : Word) (record : List Byte)
  /-- SMP_BIND (R204) -/
  | smpBind (c : Call) (stream tile : BitVec 16) (offset : Word) (seed : Option (BitVec 64))
  /-- SMP_STATE_SET (R204) -/
  | smpStateSet (c : Call) (stream : BitVec 16) (aut : Option Word) (clear : Byte) (tokens : List Word)
  /-- SMP_LAST (R199) -/
  | smpLast (c : Call) (stream : BitVec 16)
  /-- SMP_TABLE_WRITE (R204) -/
  | smpTableWrite (c : Call) (tile : BitVec 16) (offset : Word) (bytes : List Byte)
  /-- STREAM_READY (R228) -/
  | streamReady (c : Call) (stream : BitVec 16) (user : List Byte)
  /-- STREAM_PARK (R228) -/
  | streamPark (c : Call) (stream : BitVec 16)
  /-- STREAM_STOP (R228) -/
  | streamStop (c : Call) (stream : BitVec 16)
  /-- STREAM_RESET (R215) -/
  | streamReset (c : Call) (stream : BitVec 16)
  /-- STREAM_SET_QUEUE (R216) -/
  | streamSetQueue (c : Call) (stream : BitVec 16) (queue : Byte)
  /-- STREAM_QUERY (R228) -/
  | streamQuery (c : Call) (stream : BitVec 16)
  /-- JOB_START (R225) -/
  | jobStart (c : Call) (part : Byte) (seed : BitVec 64)
  /-- JOB_END (R225) -/
  | jobEnd (c : Call) (part : Byte)
  /-- PART_SWITCH (R227) -/
  | partSwitch (c : Call) (part : Byte)
  /-- BAR_SET (R234) -/
  | barSet (c : Call) (bar : BitVec 16) (record : List Byte)
  /-- BAR_FREE (R251) -/
  | barFree (c : Call) (bar : BitVec 16)
  /-- BAR_RESET (R250) -/
  | barReset (c : Call) (bar : BitVec 16)
  /-- BAR_ARRIVE (R251) -/
  | barArrive (c : Call) (bar : BitVec 16) (phase : Byte)
  /-- BAR_QUERY (R555) -/
  | barQuery (c : Call) (bar : BitVec 16)
  /-- TALLY_SET (R241) -/
  | tallySet (c : Call) (tally : BitVec 16) (record : List Byte)
  /-- TALLY_QUERY (R555) -/
  | tallyQuery (c : Call) (tally : BitVec 16)
  /-- TALLY_FREE (R251) -/
  | tallyFree (c : Call) (tally : BitVec 16)
  /-- PWR_QUERY (R287) -/
  | pwrQuery (c : Call) (acc : Byte)
  /-- PHASE_TABLE_SET (R287) -/
  | phaseTableSet (c : Call) (acc : Byte) (record : List Byte)
  /-- EST_RESET (R287) -/
  | estReset (c : Call) (acc which : Byte)
  /-- HS_OFF (R310) -/
  | hsOff (c : Call) (mask : BitVec 16)
  /-- HS_ON (R310) -/
  | hsOn (c : Call) (mask : BitVec 16)
  /-- HS_RELEASE (R301) -/
  | hsRelease (c : Call) (ch : Byte)
  /-- HS_QUERY (R310) -/
  | hsQuery (c : Call) (ch : Byte)
  /-- TRAY_SEQ_UP (R308) -/
  | traySeqUp (c : Call)
  /-- TRAY_SEQ_DOWN (R308) -/
  | traySeqDown (c : Call)
  /-- COOL_HEARTBEAT (R323) -/
  | coolHeartbeat (c : Call)
  /-- COOL_QUERY (R333) -/
  | coolQuery (c : Call) (what index : Byte)
  /-- LEAK_CLEAR (R332) -/
  | leakClear (c : Call) (mask : Byte)
  /-- LEAK_QUERY (R333) -/
  | leakQuery (c : Call)
  /-- SENSE_READ (R353) -/
  | senseRead (c : Call) (mask : BitVec 64)
  /-- SENSE_CAL (R353) -/
  | senseCal (c : Call)
  /-- MON_READ (R353) -/
  | monRead (c : Call)
  /-- TXN_BEGIN (R371) -/
  | txnBegin (c : Call)
  /-- TXN_COMMIT (R373) -/
  | txnCommit (c : Call) (id : BitVec 16) (ref : Option Word)
  /-- TXN_ABORT (R374) -/
  | txnAbort (c : Call) (id : BitVec 16)
  /-- CFG_REF_SET (R369) -/
  | cfgRefSet (c : Call) (ref : Word)
  /-- WARM_RESET (R378) -/
  | warmReset (c : Call)
  /-- HOD_ECHO (R400) -/
  | hodEcho (c : Call) (bytes : List Byte)
  /-- HOD_CAPS (R400) -/
  | hodCaps (c : Call)
  /-- ID_READ (R430) -/
  | idRead (c : Call) (bus addr : Byte) (offset len : Word)
  /-- SMB_STATUS (R430) -/
  | smbStatus (c : Call)
  /-- RACK_QUERY (R450) -/
  | rackQuery (c : Call) (pos : Byte)
  /-- RACK_ROLE_REQUEST (R446) -/
  | rackRoleRequest (c : Call)
  /-- RACK_SLEEP (R448) -/
  | rackSleep (c : Call)
  /-- FW_WRITE (R465) -/
  | fwWrite (c : Call) (flags : Byte) (offset : Word) (bytes : List Byte)
  /-- FW_VERIFY (R465) -/
  | fwVerify (c : Call) (kind target : Byte)
  /-- FW_ACTIVATE (R465) -/
  | fwActivate (c : Call) (kind target copy : Byte)
  /-- FW_ACTIVATE_CANCEL (R467) -/
  | fwActivateCancel (c : Call)
  /-- FW_QUERY (R474) -/
  | fwQuery (c : Call)
  /-- JOBPLANE_LOAD (R468) -/
  | jobplaneLoad (c : Call) (flags : Byte) (offset : Word) (bytes : List Byte)
  /-- ACC_IMAGE_WRITE (R474) -/
  | accImageWrite (c : Call) (target : Byte) (offset : Word) (bytes : List Byte)
  /-- SEC_QUERY (R495) -/
  | secQuery (c : Call)
  /-- JTAG_UNLOCK_CHALLENGE (R493) -/
  | jtagUnlockChallenge (c : Call)
  /-- JTAG_UNLOCK_LEVEL (R493) -/
  | jtagUnlockLevel (c : Call) (level : Byte) (duration : Word) (token : List Byte)
  /-- JTAG_RELOCK (R493) -/
  | jtagRelock (c : Call)
  /-- DEBUG_LEVEL_EXPIRY (R493) -/
  | debugLevelExpiry
  /-- LOG_READ (R507) -/
  | logRead (c : Call) (index : Word) (count : BitVec 16)
  /-- LOG_CLEAR (R509) -/
  | logClear (c : Call)
  /-- LOG_ERASE_COMPLETE (R509) -/
  | logEraseComplete (ok : Bool)
  /-- LOG_STATUS (R517) -/
  | logStatus (c : Call)
  /-- SAFETY_QUERY (R530) -/
  | safetyQuery (c : Call)
  /-- EMU_WRITE (R402) -/
  | emuWrite (m : Master) (offset : Nat) (v : Word)
  /-- EMU_WRITE_APPLY (R402) -/
  | emuWriteApply
  /-- MCTP_PACKET_RECEIVED (R404) -/
  | mctpPacketReceived (pcie toVf : Bool) (packet : List Byte)
  /-- MCTP_ASSEMBLY_TIMEOUT (R404) -/
  | mctpAssemblyTimeout (pcie : Bool) (src : Byte)
  /-- SET_ENDPOINT_ID (R404) -/
  | setEndpointId (c : CtlFrom) (op eid : Byte)
  /-- GET_ENDPOINT_ID (R404) -/
  | getEndpointId (c : CtlFrom)
  /-- GET_ENDPOINT_UUID (R404) -/
  | getEndpointUuid (c : CtlFrom)
  /-- GET_MCTP_VERSION_SUPPORT (R404) -/
  | getMctpVersionSupport (c : CtlFrom) (typ : Byte)
  /-- GET_MESSAGE_TYPE_SUPPORT (R404) -/
  | getMessageTypeSupport (c : CtlFrom)
  /-- GET_VDM_SUPPORT (R404) -/
  | getVdmSupport (c : CtlFrom) (selector : Byte)
  /-- GET_VERSION (R482) -/
  | getVersion (q : SpdmMsg)
  /-- GET_CAPABILITIES (R482) -/
  | getCapabilities (q : SpdmMsg)
  /-- NEGOTIATE_ALGORITHMS (R482) -/
  | negotiateAlgorithms (q : SpdmMsg)
  /-- GET_DIGESTS (R482) -/
  | getDigests (q : SpdmMsg)
  /-- GET_CERTIFICATE (R482) -/
  | getCertificate (q : SpdmMsg)
  /-- CHALLENGE (R482) -/
  | challenge (q : SpdmMsg)
  /-- GET_MEASUREMENTS (R483) -/
  | getMeasurements (q : SpdmMsg)
  /-- KEY_EXCHANGE (R482) -/
  | keyExchange (q : SpdmMsg)
  /-- FINISH (R482) -/
  | finish (q : SpdmMsg)
  /-- HEARTBEAT (R482) -/
  | heartbeat (q : SpdmMsg)
  /-- KEY_UPDATE (R482) -/
  | keyUpdate (q : SpdmMsg)
  /-- END_SESSION (R482) -/
  | endSession (q : SpdmMsg)
  /-- SMB_CMD_STATUS (R419) -/
  | smbCmdStatus (pec : Bool)
  /-- STATUS_CLEAR (R419) -/
  | statusClear (v : Byte) (pec : Option Byte)
  /-- ALERT_MASK_READ (R414) -/
  | alertMaskRead (pec : Bool)
  /-- ALERT_MASK_WRITE (R420) -/
  | alertMaskWrite (v : Byte) (pec : Option Byte)
  /-- DEVICE_ID (R414) -/
  | deviceId (pec : Bool)
  /-- COURSE (R414) -/
  | course (pec : Bool)
  /-- MCTP_BLOCK_WRITE (R421) -/
  | mctpBlockWrite (data : List Byte) (pec : Option Byte)
  /-- MCTP_BLOCK_READ (R421) -/
  | mctpBlockRead (pec : Bool)
  /-- REG_ADDR (R414) -/
  | regAddr (count : Byte) (data : List Byte) (pec : Option Byte)
  /-- REG_DATA_READ (R415) -/
  | regDataRead (count : Byte) (pec : Bool)
  /-- REG_DATA_WRITE (R415) -/
  | regDataWrite (count : Byte) (data : List Byte) (pec : Option Byte)
  /-- HOD_PTR (R414) -/
  | hodPtr (v : BitVec 16) (pec : Option Byte)
  /-- HOD_DATA_READ (R415) -/
  | hodDataRead (count : Byte) (pec : Bool)
  /-- HOD_DATA_WRITE (R415) -/
  | hodDataWrite (count : Byte) (data : List Byte) (pec : Option Byte)
  /-- SMB_HOD_RING (R414) -/
  | smbHodRing (v : Byte) (pec : Option Byte)
  /-- HOD_STATUS (R414) -/
  | hodStatus (pec : Bool)
  /-- ALERT_RESPONSE (R420) -/
  | alertResponse (pec : Bool)
  /-- SMB_SCL_TIMEOUT (R413) -/
  | smbSclTimeout
  /-- SMB_STRETCH_TIMEOUT (R418) -/
  | smbStretchTimeout (code : Byte) (reading : Bool) (count : Byte)
  /-- SMB_RST_ASSERT (R423) -/
  | smbRstAssert (busy : Bool)
  /-- HUB_SLEEP_ENTRY (R412) -/
  | hubSleepEntry
  /-- HUB_SLEEP_EXIT (R422) -/
  | hubSleepExit
  /-- SMB_WAKE_MATCH (R422) -/
  | smbWakeMatch
  /-- PCIE_RESET (R376) -/
  | pcieReset
  /-- FLR (R411) -/
  | flr (vf : Option (Fin 8))
  /-- PCIE_LINK_UP (R433) -/
  | pcieLinkUp (rate width : Byte)
  /-- SLED_PRESENT (R426) -/
  | sledPresent (x : Fin 8)
  /-- SLED_ID_READ_COMPLETE (R426) -/
  | sledIdReadComplete (x : Fin 8) (image : Option (List Byte))
  /-- SLED_PRESENCE_LOST (R426) -/
  | sledPresenceLost (x : Fin 8)
  /-- ID_RETRY_TIMEOUT (R429) -/
  | idRetryTimeout (bus addr : Byte)
  /-- ID_BUS_STUCK (R429) -/
  | idBusStuck (bus : Fin 10)
  /-- ID_BUS_RETRY (R429) -/
  | idBusRetry (bus : Fin 10) (cableA cableB : Option (List Byte))
  /-- CHAIN_LINK_UP (R434) -/
  | chainLinkUp (down : Bool) (hop : Nat)
  /-- CHAIN_LINK_DOWN (R434) -/
  | chainLinkDown (down : Bool)
  /-- ENUM (R436) -/
  | enum (f : Frame) (hop : Nat)
  /-- ENUM_DONE (R436) -/
  | enumDone (f : Frame) (hop : Nat)
  /-- ROUND_SEND (R438) -/
  | roundSend (l2 : Bool)
  /-- ROUND (R443) -/
  | round (f : Frame) (l2 : Bool)
  /-- REPORT (R439) -/
  | report (f : Frame)
  /-- SYNC_PULSE (R442) -/
  | syncPulse (ofs : Int)
  /-- ROLE_REQ (R445) -/
  | roleReq (f : Frame)
  /-- MANAGER_LOST (R445) -/
  | managerLost
  /-- ROLE_REQ_TIMEOUT (R445) -/
  | roleReqTimeout
  /-- WAKE (R449) -/
  | wake (f : Frame)
  /-- SLEEP_COMMIT (R448) -/
  | sleepCommit
  /-- HOD (R450) -/
  | hod (f : Frame)
  /-- HOD_RSP (R450) -/
  | hodRsp (f : Frame)
  /-- RACK_QUERY_TIMEOUT (R450) -/
  | rackQueryTimeout (pos : Nat)
  /-- WATCHDOG_EXPIRY (R455) -/
  | watchdogExpiry (aged : Nat)
  /-- CORE_TRAP (R455) -/
  | coreTrap (aged : Nat)
  /-- CRASH_LOOP (R456) -/
  | crashLoop
  /-- FW_CTRL_KICK (R455) -/
  | fwCtrlKick (m : Master)
  /-- FW_CTRL_CONFIRM (R466) -/
  | fwCtrlConfirm (m : Master)
  /-- TRIAL_TIMEOUT (R466) -/
  | trialTimeout (aged : Nat)
  /-- ACC_PUSH_START (R470) -/
  | accPushStart
  /-- IMAGE_DONE (R472) -/
  | imageDone (x : Fin 8)
  /-- IMAGE_DONE_TIMEOUT (R472) -/
  | imageDoneTimeout (x : Fin 8)
  /-- DRBG_HEALTH_FAIL (R489) -/
  | drbgHealthFail (test : Byte)
  /-- DRBG_RESEED (R489) -/
  | drbgReseed
  /-- LOG_DRAIN (R504) -/
  | logDrain (bad : Option Nat)
  /-- WALL_REF_WRITE (R514) -/
  | wallRefWrite (m : Master) (v : Word)
  /-- WALL_OFS_WRAP (R514) -/
  | wallOfsWrap
  /-- VIN_AUX_LOSS (R541) -/
  | vinAuxLoss
  /-- BASE_SUPPLY_LOSS (R24) -/
  | baseSupplyLoss
  /-- CRYSTAL_RESTORED (R549) -/
  | crystalRestored (b : Boot)
  /-- REFCLK_SD_RESTORED (R549) -/
  | refclkSdRestored
  /-- CLK32K_RESTORED (R549) -/
  | clk32kRestored
  /-- SMB_RST_DEASSERT (R423) -/
  | smbRstDeassert
  /-- FIRST_KICK_TIMEOUT (R455) -/
  | firstKickTimeout (aged : Nat)
  /-- ACC_RESET_PULSE_END (R472) -/
  | accResetPulseEnd (x : Fin 8)
  /-- HS_OFF_GATE_OFF (R310) -/
  | hsOffGateOff (c : Fin 10)
  /-- THERMTRIP_LATCH_RELEASE (R545) -/
  | thermtripLatchRelease
  /-- DOMAIN_SWITCH_ON_COMPLETE (R309) -/
  | domainSwitchOnComplete (dom : Fin 171)
  /-- SLEEP_ENTRY_COMPLETE (R449) -/
  | sleepEntryComplete
  /-- TARGET_CLOCKS_RUN (R422) -/
  | targetClocksRun
  /-- SLEEP_EXIT_COMPLETE (R422) -/
  | sleepExitComplete
  /-- OTP_FUSE_PROGRAM (R480) -/
  | otpFuseProgram (w : OtpWrite)
  /-- JTAG_INSTRUCTION (R492) -/
  | jtagInstruction (i : JtagInstr)
  /-- SMB_UNKNOWN_COMMAND (R414) -/
  | smbUnknownCommand (code : Byte)
  /-- MCTP_UNSUPPORTED_CONTROL (R404) -/
  | mctpUnsupportedControl (c : CtlFrom) (cmd : Byte)
  /-- SPDM_UNSUPPORTED_REQUEST (R482) -/
  | spdmUnsupportedRequest (code : Byte) (q : SpdmMsg)
  /-- HOD_BUF_WRITE (R386) -/
  | hodBufWrite (who : Requester) (offset : Nat) (bytes : List Byte)
  deriving DecidableEq, Repr

end Sys2Proof
end

