-- ==== Sys2Proof/Config.lean ====
section
/-!
DEFINITION. Config.lean: what an implementation fixes, and the values the spec leaves open. A constant without a body is
a free value: no proof can see what it is. Each is named in a log entry.
-/
namespace Sys2Proof.Config

/-- ID.DEVICE: the vendor and device code (R6). -/
def device : Nat := 0x48560A08

/-- The ordering codes OA8-1280-CL, OA8-1280-BL and OA8-0640-CL (R3). -/
inductive OrderCode where
  | cl1280 | bl1280 | cl0640
  deriving DecidableEq, Repr, Inhabited

/-- The part's ordering code and its silicon stepping, fused at manufacture (R3, R4, R7). -/
opaque orderCode : OrderCode
opaque stepping : BitVec 4

/-- ID.VARIANT.LANE_RATE of an ordering code: 0x01 for 212.5 Gb/s, 0x02 for 106.25 Gb/s (R7). -/
def OrderCode.laneRate : OrderCode → Nat
  | .cl1280 | .bl1280 => 1
  | .cl0640 => 2

/-- ID.VARIANT.LID of an ordering code: 0x1 for the cold-plate lid, 0x2 for the bare lid (R7). -/
def OrderCode.lid : OrderCode → Nat
  | .cl1280 | .cl0640 => 1
  | .bl1280 => 2

/-- ID.VARIANT of a part: bits [31:16] are reserved and read zero (R7). -/
def variantOf (c : OrderCode) (step : BitVec 4) : Nat := c.laneRate * 256 + c.lid * 16 + step.toNat

/-- ID.VARIANT: ordering-code fields and stepping (R7). -/
def variant : Word := BitVec.ofNat 32 (variantOf orderCode stepping)

/-- ID.SERIAL: the unit's serial number, fused at manufacture (R6). -/
opaque serial : BitVec 64

/-- The offset into the current course, in 16 ns units, at the `n`th moment the model stamps (R48). -/
opaque offset : Nat → BitVec 16

/-- Byte `i` of data that is known to be bad, read at the `n`th free value (R135, R139). -/
opaque badData : Nat → Nat → Byte

/-- Milliseconds since the wall reference at the `n`th stamp (R514). -/
opaque wallMs : Nat → BitVec 31

/-- The output of the random generator at its `n`th draw (R489). -/
opaque drbg : Nat → List Byte

/-- The unique device secret, fused at manufacture (R478). -/
opaque uds : List Byte

/-- The hub's slot-0 certificate chain (R478, R482), by the contents of its Alias certificate. X.509 lies outside the spec. -/
opaque hubChain : List Byte → List Byte

/-- The digest of the DeviceID certificate, and that of an Alias certificate of given contents (R478, R495). -/
opaque deviceCert : List Byte
opaque aliasCert : List Byte → List Byte

/-- The per-message secret of a signature made at the `n`th free value (R479). -/
opaque signSecret : Nat → Nat

/-- The public key, x then y, that a DER certificate carries, and whether a certificate is signed by the key of another:
issuer, subject (R486, R487). X.509 lies outside the spec. -/
opaque certKey : List Byte → List Byte
opaque certSigned : List Byte → List Byte → Bool

/-- Heivitik's accelerator root key, held in OTP (R487). -/
opaque accRoot : List Byte

/-- The REASON of a REVOKE that ends a dispatch for a cause R223 lists no code for, at the `n`th free value. -/
opaque revokeReason : Nat → BitVec 8

/-- The bytes of the emulated register file that a firmware release of a given EMU_VER implements (R401). -/
opaque emuSize : Nat → Nat

/-- The bytes of the MCTP endpoint's UUID (R404): the spec gives none. -/
opaque uuid : Nat → BitVec 8

/-- Byte `k` of a context as it lies in its tile, at the `n`th free value: the spec gives its layout nowhere (R210). -/
opaque ctxByte : Nat → Nat → BitVec 8

/-- The number, in block 0x08, of the event that names a dropped stream class change (R42): the spec gives none. -/
opaque classDropCode : BitVec 8

/-- A time within a wait in progress, in µs, at the `n`th free value (R555): time within a wait is not modelled. -/
opaque elapsed : Nat → BitVec 32

/-- The speed in rpm of a fan or pump, and the flow in 0.01 L/min of a pump, as measured when the free counter has the given
value (R315). -/
opaque tach : Nat → Nat → BitVec 16
opaque flow : Nat → Nat → BitVec 16

/-- The resistance of the shunt of a hot-swap channel, in µΩ: the board's own (R292). -/
opaque shunt : Nat → Nat

/-- A byte of the tray board's FRU memory (bus 8) or of a memory that the tray designer fits (bus 9), and whether the
`n`th read of it succeeds (R425, R430): bus, address, offset. -/
opaque fruByte : Nat → Nat → Nat → Byte
opaque fruOk : Nat → Nat → Nat → Bool

/-- The public keys IK0 to IK3 in ROM (R480). -/
opaque imageKey : Nat → List Byte

/-- The `n`th operation on the boot flash succeeds and reads back right (R462, R465); the `n`th blow of a fuse shows its
change on read-back (R481). -/
opaque flashOk : Nat → Bool
opaque fuseOk : Nat → Bool

/-- The SHA-384 digest of the ROM (R478, R483). -/
opaque romDigest : List Byte

/-- What an SPDM response holds that the spec does not state, by response code at the `n`th free value (R482). -/
opaque spdmOpen : Nat → Nat → List Byte

/-- What the boundary register captures at the `n`th free value (R492). -/
opaque boundaryScan : Nat → Nat

/-- What slot `i` of the log reads as at the `n`th free value, where its content has changed in the flash (R508). -/
opaque slotRead : Nat → Nat → Option (List Byte)

end Sys2Proof.Config
end

