-- ==== Sys2Proof/Machine/Bits.lean ====
section
/-!
DEFINITION. Machine/Bits.lean: bit fields, byte orders and the check codes the spec names (R68, R368, R387, R388, R413).
-/
namespace Sys2Proof.Machine

/-- Bits `hi` down to `lo` of `v`. -/
def bits (v hi lo : Nat) : Nat := (v >>> lo) % 2 ^ (hi + 1 - lo)

/-- `v` with bits `hi` down to `lo` replaced by `x`. -/
def putBits (v hi lo x : Nat) : Nat :=
  v - (bits v hi lo) * 2 ^ lo + (x % 2 ^ (hi + 1 - lo)) * 2 ^ lo

/-- The mask of bits `hi` down to `lo`. -/
def maskBits (hi lo : Nat) : Nat := (2 ^ (hi + 1 - lo) - 1) * 2 ^ lo

/-- 1 for true and 0 for false. -/
def b2n (b : Bool) : Nat := if b then 1 else 0

/-- A two's complement value of `w` bits, as an integer. -/
def signed (w v : Nat) : Int := if v % 2 ^ w < 2 ^ (w - 1) then (v % 2 ^ w : Nat) else ((v % 2 ^ w : Nat) : Int) - (2 ^ w : Nat)

/-- An integer in two's complement of `w` bits. -/
def unsigned (w : Nat) (v : Int) : Nat := (v % (2 ^ w : Nat)).toNat

/-- `v` as `n` bytes, least significant first (R387). -/
def leBytes : Nat → Nat → List Byte
  | 0, _ => []
  | n + 1, v => BitVec.ofNat 8 v :: leBytes n (v / 256)

/-- The number that bytes, least significant first, spell. -/
def leNat : List Byte → Nat
  | [] => 0
  | b :: bs => b.toNat + 256 * leNat bs

/-- `v` as `n` bytes, most significant first (R66). -/
def beBytes (n v : Nat) : List Byte := (leBytes n v).reverse

/-- The number that bytes, most significant first, spell. -/
def beNat (bs : List Byte) : Nat := leNat bs.reverse

/-- `n` zero bytes. -/
def zeros (n : Nat) : List Byte := List.replicate n 0

/-- Exactly `n` bytes: cut, or filled with zero bytes. -/
def padTo (n : Nat) (bs : List Byte) : List Byte := bs.take n ++ zeros (n - bs.length)

/-- `n` bytes of `bs` from offset `o`, zero beyond its end. -/
def slice (bs : List Byte) (o n : Nat) : List Byte := padTo n (bs.drop o)

/-- Eight rounds of a reflected CRC over a register of any width. -/
def crcStepR (poly : Nat) : Nat → Nat → Nat
  | 0, c => c
  | k + 1, c => crcStepR poly k (if c % 2 = 1 then (c / 2) ^^^ poly else c / 2)

/-- CRC-32C over bytes from a running value: reflected polynomial 0x1EDC_6F41 (R368). -/
def crc32cRun : Nat → List Byte → Nat
  | c, [] => c
  | c, b :: bs => crc32cRun (crcStepR 0x82F63B78 8 (c ^^^ b.toNat)) bs

/-- CRC-32C of R368: initial value and final XOR 0xFFFF_FFFF. -/
def crc32c (bs : List Byte) : Nat := crc32cRun 0xFFFFFFFF bs ^^^ 0xFFFFFFFF

/-- Eight rounds of a CRC that takes the most significant bit first, over `w` bits. -/
def crcStepL (w poly : Nat) : Nat → Nat → Nat
  | 0, c => c
  | k + 1, c =>
    crcStepL w poly k (if c < 2 ^ (w - 1) then 2 * c else (2 * c % 2 ^ w) ^^^ poly)

/-- CRC-64 over bytes from a running value (R68). -/
def crc64Run : Nat → List Byte → Nat
  | c, [] => c
  | c, b :: bs => crc64Run (crcStepL 64 0x42F0E1EBA9EA3693 8 (c ^^^ (b.toNat * 2 ^ 56))) bs

/-- The CRC-64 of R68: no reflection, initial value and final XOR all ones. -/
def crc64 (bs : List Byte) : Nat := crc64Run 0xFFFFFFFFFFFFFFFF bs ^^^ 0xFFFFFFFFFFFFFFFF

/-- CRC-8 over bytes, polynomial 0x07, the packet error code of the SMBus target (R416). -/
def crc8Run : Nat → List Byte → Nat
  | c, [] => c
  | c, b :: bs => crc8Run (crcStepL 8 0x07 8 (c ^^^ b.toNat)) bs

/-- The packet error code of a transfer. -/
def crc8 (bs : List Byte) : Nat := crc8Run 0 bs

/-- The number of ones among the low `n` bits. -/
def popcount : Nat → Nat → Nat
  | 0, _ => 0
  | n + 1, v => v % 2 + popcount n (v / 2)

/-- The indexes below `n` whose bit is set in `v`. -/
def onesBelow (n v : Nat) : List Nat := (List.range n).filter (fun i => v.testBit i)

/-- `v` with bit `i` set or cleared. -/
def setBit (v i : Nat) (b : Bool) : Nat := putBits v i i (b2n b)

/-- Saturating at `top`. -/
def sat (top v : Nat) : Nat := min top v

/-- Round half away from nothing: the quotient of naturals rounded to nearest, ties up. -/
def divRound (a b : Nat) : Nat := (a + b / 2) / b

/-- The quotient rounded up. -/
def divUp (a b : Nat) : Nat := (a + b - 1) / b

/-- One bit for each index below `n` that satisfies `p`. -/
def maskOf (n : Nat) (p : Nat → Bool) : Nat := (List.range n).foldl (fun m i => if p i then m + 2 ^ i else m) 0

end Sys2Proof.Machine
end

