-- ==== Sys2Proof/Machine/Tbl.lean ====
section
/-!
DEFINITION. Machine/Tbl.lean: sparse tables in one canonical form: keys strictly rising, and no entry equal to what an
unlisted key reads as. Every addressed memory and every indexed group of state is one of these.
-/
namespace Sys2Proof.Machine

/-- A sparse table from numbers to `α`. -/
abbrev Tbl (α : Type) := List (Nat × α)

/-- The value at a key, `d` where the table lists none. -/
def Tbl.get {α : Type} (d : α) : Tbl α → Nat → α
  | [], _ => d
  | (k', v) :: t, k => if k = k' then v else Tbl.get d t k

/-- The table without the key. -/
def Tbl.erase {α : Type} (t : Tbl α) (k : Nat) : Tbl α := t.filter fun e => decide (e.1 ≠ k)

/-- The table with an entry put in its place. -/
def Tbl.insert {α : Type} : Tbl α → Nat → α → Tbl α
  | [], k, v => [(k, v)]
  | (k', v') :: t, k, v =>
    if k = k' then (k, v) :: t else if k < k' then (k, v) :: (k', v') :: t else (k', v') :: Tbl.insert t k v

/-- A write that keeps the canonical form: writing what an unlisted key reads as removes the entry. -/
def Tbl.set {α : Type} [DecidableEq α] (d : α) (t : Tbl α) (k : Nat) (v : α) : Tbl α :=
  if v = d then t.erase k else t.insert k v

/-- A change of the value at a key. -/
def Tbl.upd {α : Type} [DecidableEq α] (d : α) (t : Tbl α) (k : Nat) (f : α → α) : Tbl α :=
  t.set d k (f (t.get d k))

/-- Every entry whose key lies from `lo` up to but not including `hi` removed. -/
def Tbl.clear {α : Type} (t : Tbl α) (lo hi : Nat) : Tbl α :=
  t.filter (fun e => decide (¬ (lo ≤ e.1 ∧ e.1 < hi)))

/-- A key lies below the first key of a table. -/
def Tbl.below {α : Type} (k : Nat) : Tbl α → Bool
  | [] => true
  | (k', _) :: _ => decide (k < k')

/-- The canonical form: keys strictly rising, and no entry equal to what its key reads as when unlisted. -/
def Tbl.wf {α : Type} [DecidableEq α] (d : Nat → α) : Tbl α → Bool
  | [] => true
  | (k, v) :: t => decide (v ≠ d k) && Tbl.below k t && Tbl.wf d t

/-- A byte memory: an unlisted byte reads zero. -/
abbrev Mem := Tbl Byte

/-- One byte of a memory. -/
def Mem.read (m : Mem) (a : Nat) : Byte := Tbl.get 0 m a

/-- A memory with one byte written. -/
def Mem.write (m : Mem) (a : Nat) (v : Byte) : Mem := Tbl.set 0 m a v

/-- `n` bytes from address `a`. -/
def Mem.readN (m : Mem) (a : Nat) : Nat → List Byte
  | 0 => []
  | n + 1 => m.read a :: Mem.readN m (a + 1) n

/-- A memory with bytes written from address `a` upward. -/
def Mem.writeN (m : Mem) (a : Nat) : List Byte → Mem
  | [] => m
  | b :: bs => Mem.writeN (m.write a b) (a + 1) bs

/-- The bytes from `lo` up to `hi` zeroed. -/
def Mem.zero (m : Mem) (lo hi : Nat) : Mem := Tbl.clear m lo hi

/-- A memory with `n` bytes at `dst` taken from `src`; the bytes at `dst` are replaced. -/
def Mem.copy (m : Mem) (src dst n : Nat) : Mem :=
  (m.filter (fun e => decide (src ≤ e.1 ∧ e.1 < src + n))).foldl
    (fun acc e => Mem.write acc (e.1 - src + dst) e.2) (m.zero dst (dst + n))

/-- A byte memory is in canonical form. -/
def Mem.wf (m : Mem) : Bool := Tbl.wf (fun _ => (0 : Byte)) m

end Sys2Proof.Machine
end

