-- ==== Sys2Proof/Machine/RegMap.lean ====
section
/-!
DEFINITION. Machine/RegMap.lean: the register maps and field tables of every chapter, one row for each register or
array of registers, with each field's access code (R10) and its reset value. Offsets are BAR0 offsets (R359).
-/
namespace Sys2Proof.Machine

/-- The access codes of R10 that a field can carry. -/
inductive Acc where
  | ro | rw | w1c | rc | wm
  deriving DecidableEq, Repr

/-- One field of a register: its bits, its code, whether it is course-buffered (CB), whether it is privileged in a
register that is not privileged as a whole, and its reset value. -/
structure Field where
  hi : Nat
  lo : Nat
  acc : Acc
  cb : Bool := false
  pv : Bool := false
  reset : Nat := 0
  deriving DecidableEq, Repr

/-- What a register is in a 64-bit pair (R362). -/
inductive Half where
  | none | lo | hi
  deriving DecidableEq, Repr

/-- One row of a register map: `n1` by `n2` registers from `base` with strides `s1` and `s2`; whether the register is
coded PV as a whole and AO; its half of a pair. -/
structure RegRow where
  base : Nat
  n1 : Nat := 1
  s1 : Nat := 0
  n2 : Nat := 1
  s2 : Nat := 0
  pv : Bool := true
  ao : Bool := false
  half : Half := .none
  fields : List Field
  deriving DecidableEq, Repr

namespace Map
def ro (hi lo : Nat) : Field := { hi, lo, acc := .ro }
def w1c (hi lo : Nat) : Field := { hi, lo, acc := .w1c }
def w1cPv (hi lo : Nat) : Field := { hi, lo, acc := .w1c, pv := true }
def rc (hi lo : Nat) : Field := { hi, lo, acc := .rc }
def wm (hi lo : Nat) : Field := { hi, lo, acc := .wm }
def rw (hi lo reset : Nat) : Field := { hi, lo, acc := .rw, reset }
def cb (hi lo reset : Nat) : Field := { hi, lo, acc := .rw, cb := true, reset }
/-- One read-only word, reporting the machine's state. -/
def word : List Field := [ro 31 0]

/-- Block 0x00, Identification: rules R6. -/
def id : List RegRow := [
  /- ID.DEVICE -/ { base := 0x0, pv := false, fields := word },
  /- ID.VARIANT -/ { base := 0x4, pv := false, fields := [ro 15 8, ro 7 4, ro 3 0] },
  /- ID.SERIAL_LO -/ { base := 0x8, pv := false, half := .lo, fields := word },
  /- ID.SERIAL_HI -/ { base := 0xC, pv := false, half := .hi, fields := word }]

/-- Block 0x01, Top and course: rules R51, R551. -/
def top : List RegRow := [
  /- TOP.CRS_PERIOD -/ { base := 0x100000, fields := [cb 9 0 0x32] },
  /- TOP.CRS_CTRL -/ { base := 0x100004, fields := [cb 7 0 0xff] },
  /- TOP.CRS_COUNT_LO -/ { base := 0x100008, pv := false, ao := true, half := .lo, fields := word },
  /- TOP.CRS_COUNT_HI -/ { base := 0x10000C, pv := false, ao := true, half := .hi, fields := word },
  /- TOP.CRS_OFFSET -/ { base := 0x100010, pv := false, fields := word },
  /- TOP.CRS_STATUS -/ { base := 0x100014, pv := false, fields := [ro 15 8, ro 4 4, ro 3 3, w1cPv 2 2, w1cPv 1 1, ro 0 0] },
  /- TOP.LATE_COUNT_LO -/ { base := 0x100018, pv := false, half := .lo, fields := word },
  /- TOP.LATE_COUNT_HI -/ { base := 0x10001C, pv := false, half := .hi, fields := word },
  /- TOP.CRS_SYNC_OFS -/ { base := 0x100020, pv := false, fields := word },
  /- TOP.HUB_THERM -/ { base := 0x100030, fields := [w1c 31 31, ro 30 30, ro 29 29, ro 28 28, ro 15 0] },
  /- TOP.HUB_THR_CFG -/ { base := 0x100034, fields := [cb 6 0 0x32] },
  /- TOP.CLK_STATUS -/ { base := 0x100038, fields := [ro 3 3, w1c 2 2, w1c 1 1, ro 0 0] },
  /- TOP.STRAPS -/ { base := 0x10003C, ao := true, fields := word }]

/-- Block 0x02, Link: rules R92. -/
def link : List RegRow := [
  /- LINK.GLOBAL_STATUS -/ { base := 0x200000, fields := word },
  /- LINK.PORT_CFG -/ { base := 0x201000, n1 := 8, s1 := 0x1000, fields := [cb 11 8 6, cb 4 4 0, cb 0 0 1] },
  /- LINK.PORT_CTRL -/ { base := 0x201004, n1 := 8, s1 := 0x1000, fields := [wm 1 1, wm 0 0] },
  /- LINK.PORT_STATUS -/ { base := 0x201008, n1 := 8, s1 := 0x1000, fields := [ro 31 28, ro 27 24, ro 23 23, ro 22 22, ro 21 21, ro 20 20, ro 15 8, ro 7 4, w1c 3 3, w1c 2 2] },
  /- LINK.OCTET_STATUS -/ { base := 0x20100C, n1 := 8, s1 := 0x1000, fields := word },
  /- LINK.SEAL_CFG -/ { base := 0x201010, n1 := 8, s1 := 0x1000, fields := [cb 0 0 0] },
  /- LINK.SEAL_STATUS -/ { base := 0x201014, n1 := 8, s1 := 0x1000, fields := word },
  /- LINK.SEAL_CTR_LO -/ { base := 0x201018, n1 := 8, s1 := 0x1000, half := .lo, fields := word },
  /- LINK.SEAL_CTR_HI -/ { base := 0x20101C, n1 := 8, s1 := 0x1000, half := .hi, fields := word },
  /- LINK.RETRY_COUNT_LO -/ { base := 0x201020, n1 := 8, s1 := 0x1000, half := .lo, fields := word },
  /- LINK.RETRY_COUNT_HI -/ { base := 0x201024, n1 := 8, s1 := 0x1000, half := .hi, fields := word },
  /- LINK.CRC_ERR_LO -/ { base := 0x201028, n1 := 8, s1 := 0x1000, half := .lo, fields := word },
  /- LINK.CRC_ERR_HI -/ { base := 0x20102C, n1 := 8, s1 := 0x1000, half := .hi, fields := word },
  /- LINK.DUP_DISCARD_LO -/ { base := 0x201030, n1 := 8, s1 := 0x1000, half := .lo, fields := word },
  /- LINK.DUP_DISCARD_HI -/ { base := 0x201034, n1 := 8, s1 := 0x1000, half := .hi, fields := word },
  /- LINK.FEC_CORR_LO -/ { base := 0x201038, n1 := 8, s1 := 0x1000, half := .lo, fields := word },
  /- LINK.FEC_CORR_HI -/ { base := 0x20103C, n1 := 8, s1 := 0x1000, half := .hi, fields := word },
  /- LINK.FEC_UNCORR_LO -/ { base := 0x201040, n1 := 8, s1 := 0x1000, half := .lo, fields := word },
  /- LINK.FEC_UNCORR_HI -/ { base := 0x201044, n1 := 8, s1 := 0x1000, half := .hi, fields := word },
  /- LINK.PROTO_ERR_LO -/ { base := 0x201048, n1 := 8, s1 := 0x1000, half := .lo, fields := word },
  /- LINK.PROTO_ERR_HI -/ { base := 0x20104C, n1 := 8, s1 := 0x1000, half := .hi, fields := word },
  /- LINK.CREDIT_VCn -/ { base := 0x201050, n1 := 8, s1 := 0x1000, n2 := 6, s2 := 0x4, fields := word }]

/-- Block 0x03, Crossbar: rules R114. -/
def xbar : List RegRow := [
  /- XBAR.ARB_WEIGHT -/ { base := 0x300000, fields := [cb 15 12 2, cb 11 8 6, cb 7 4 4, cb 3 0 4] },
  /- XBAR.ARB_CFG -/ { base := 0x300004, fields := [cb 23 8 0x7d0, cb 2 0 1] },
  /- XBAR.STATUS -/ { base := 0x300008, fields := [w1c 1 1, w1c 0 0] },
  /- XBAR.ROUTE_ERR_LO -/ { base := 0x300010, half := .lo, fields := word },
  /- XBAR.ROUTE_ERR_HI -/ { base := 0x300014, half := .hi, fields := word },
  /- XBAR.POISON_RESP_LO -/ { base := 0x300018, half := .lo, fields := word },
  /- XBAR.POISON_RESP_HI -/ { base := 0x30001C, half := .hi, fields := word },
  /- XBAR.FENCE_DROP_LO -/ { base := 0x300020, n1 := 8, s1 := 0x8, half := .lo, fields := word },
  /- XBAR.FENCE_DROP_HI -/ { base := 0x300024, n1 := 8, s1 := 0x8, half := .hi, fields := word },
  /- XBAR.PORT_PART -/ { base := 0x300100, n1 := 8, s1 := 0x4, fields := [cb 7 0 1] },
  /- XBAR.PART_WEIGHT -/ { base := 0x300140, n1 := 8, s1 := 0x4, fields := [cb 3 0 1] },
  /- XBAR.CLASS_MAP -/ { base := 0x302000, n1 := 256, s1 := 0x4, fields := word }]

/-- Block 0x04, Tiles: rules R147. -/
def tile : List RegRow := [
  /- TILE.STATUS -/ { base := 0x400000, fields := [w1c 3 3, ro 2 2, w1c 1 1, w1c 0 0] },
  /- TILE.PT_CFG -/ { base := 0x400004, fields := [cb 3 0 1] },
  /- TILE.SCRUB_CFG -/ { base := 0x400008, fields := [cb 23 8 0x40, cb 7 0 0xa] },
  /- TILE.LEASE_USED -/ { base := 0x40000C, fields := word },
  /- TILE.CE_COUNT_LO -/ { base := 0x400010, half := .lo, fields := word },
  /- TILE.CE_COUNT_HI -/ { base := 0x400014, half := .hi, fields := word },
  /- TILE.UE_COUNT_LO -/ { base := 0x400018, half := .lo, fields := word },
  /- TILE.UE_COUNT_HI -/ { base := 0x40001C, half := .hi, fields := word },
  /- TILE.WAKE_COUNT_LO -/ { base := 0x400020, half := .lo, fields := word },
  /- TILE.WAKE_COUNT_HI -/ { base := 0x400024, half := .hi, fields := word },
  /- TILE.BAR4_REFUSED_LO -/ { base := 0x400028, half := .lo, fields := word },
  /- TILE.BAR4_REFUSED_HI -/ { base := 0x40002C, half := .hi, fields := word },
  /- TILE.GRP_PWR -/ { base := 0x400040, n1 := 64, s1 := 0x4, fields := [cb 1 0 0] },
  /- TILE.PART_FRAMES -/ { base := 0x400140, n1 := 8, s1 := 0x4, fields := word },
  /- TILE.OWNER -/ { base := 0x400200, n1 := 768, s1 := 0x4, fields := [ro 8 8, ro 7 4, cb 3 0 0xf] },
  /- TILE.PTE_SEL -/ { base := 0x401000, fields := [rw 20 0 0] },
  /- TILE.PTE_LO -/ { base := 0x401004, half := .lo, fields := word },
  /- TILE.PTE_HI -/ { base := 0x401008, half := .hi, fields := word }]

/-- Block 0x05, Spill: rules R149. -/
def spill : List RegRow := [
  /- SPILL.CFG -/ { base := 0x500000, fields := [cb 8 8 0, cb 7 0 0xff] },
  /- SPILL.WM -/ { base := 0x500004, fields := [cb 31 16 0x40, cb 15 0 0x10] },
  /- SPILL.MIG_CFG -/ { base := 0x500008, fields := [cb 31 24 0x40, cb 23 8 0xc8, cb 5 0 8] },
  /- SPILL.STATUS -/ { base := 0x50000C, fields := [w1c 9 9, ro 8 8, ro 7 0] },
  /- SPILL.FREE -/ { base := 0x500010, fields := word },
  /- SPILL.DEMOTE_LO -/ { base := 0x500018, half := .lo, fields := word },
  /- SPILL.DEMOTE_HI -/ { base := 0x50001C, half := .hi, fields := word },
  /- SPILL.PROMOTE_LO -/ { base := 0x500020, half := .lo, fields := word },
  /- SPILL.PROMOTE_HI -/ { base := 0x500024, half := .hi, fields := word },
  /- SPILL.TAG_FAIL_LO -/ { base := 0x500028, half := .lo, fields := word },
  /- SPILL.TAG_FAIL_HI -/ { base := 0x50002C, half := .hi, fields := word }]

/-- Block 0x06, Mortar: rules R174. -/
def mortar : List RegRow := [
  /- MORTAR.CFG -/ { base := 0x600000, fields := [cb 31 16 0x4e20, cb 0 0 1] },
  /- MORTAR.ENG_PWR -/ { base := 0x600004, fields := [cb 23 0 0xffffff] },
  /- MORTAR.ENG_FAILED -/ { base := 0x600008, fields := word },
  /- MORTAR.ST_STATUS -/ { base := 0x60000C, fields := word },
  /- MORTAR.STATUS -/ { base := 0x600010, fields := [w1c 2 2, w1c 1 1, w1c 0 0] },
  /- MORTAR.OPEN -/ { base := 0x600014, fields := word },
  /- MORTAR.PART_CHUNKS -/ { base := 0x600020, n1 := 8, s1 := 0x4, fields := [cb 11 0 0x180] },
  /- MORTAR.COLL_DONE_LO -/ { base := 0x600040, half := .lo, fields := word },
  /- MORTAR.COLL_DONE_HI -/ { base := 0x600044, half := .hi, fields := word },
  /- MORTAR.COLL_ERR_LO -/ { base := 0x600048, half := .lo, fields := word },
  /- MORTAR.COLL_ERR_HI -/ { base := 0x60004C, half := .hi, fields := word },
  /- MORTAR.SAT_ELEM_LO -/ { base := 0x600050, half := .lo, fields := word },
  /- MORTAR.SAT_ELEM_HI -/ { base := 0x600054, half := .hi, fields := word },
  /- MORTAR.ORPHAN_LO -/ { base := 0x600058, half := .lo, fields := word },
  /- MORTAR.ORPHAN_HI -/ { base := 0x60005C, half := .hi, fields := word }]

/-- Block 0x07, Samplers: rules R205. -/
def smp : List RegRow := [
  /- SMP.CFG -/ { base := 0x700000, fields := [cb 31 16 0x4e20, cb 2 2 1, cb 1 0 3] },
  /- SMP.STATUS -/ { base := 0x700004, fields := [ro 7 6, ro 5 5, ro 4 4, ro 3 3, w1c 2 2, w1c 1 1, w1c 0 0] },
  /- SMP.ST_STATUS -/ { base := 0x700008, fields := word },
  /- SMP.OPEN -/ { base := 0x70000C, fields := word },
  /- SMP.STEP_OK_LO -/ { base := 0x700010, half := .lo, fields := word },
  /- SMP.STEP_OK_HI -/ { base := 0x700014, half := .hi, fields := word },
  /- SMP.STEP_ERR_LO -/ { base := 0x700018, half := .lo, fields := word },
  /- SMP.STEP_ERR_HI -/ { base := 0x70001C, half := .hi, fields := word },
  /- SMP.ORPHAN_LO -/ { base := 0x700020, half := .lo, fields := word },
  /- SMP.ORPHAN_HI -/ { base := 0x700024, half := .hi, fields := word },
  /- SMP.DRAFT_NODES_LO -/ { base := 0x700028, half := .lo, fields := word },
  /- SMP.DRAFT_NODES_HI -/ { base := 0x70002C, half := .hi, fields := word },
  /- SMP.DRAFT_ACC_LO -/ { base := 0x700030, half := .lo, fields := word },
  /- SMP.DRAFT_ACC_HI -/ { base := 0x700034, half := .hi, fields := word },
  /- SMP.DEFER_LO -/ { base := 0x700038, half := .lo, fields := word },
  /- SMP.DEFER_HI -/ { base := 0x70003C, half := .hi, fields := word }]

/-- Block 0x08, Streams: rules R229. -/
def stream : List RegRow := [
  /- STREAM.STATUS -/ { base := 0x800000, fields := [ro 3 3, w1c 2 2, w1c 1 1, w1c 0 0] },
  /- STREAM.CFG -/ { base := 0x800004, fields := [cb 31 16 0x3e8, cb 0 0 1] },
  /- STREAM.HOT_USED -/ { base := 0x800008, fields := word },
  /- STREAM.JOB_STATE -/ { base := 0x80000C, fields := word },
  /- STREAM.SWITCH_LO -/ { base := 0x800010, half := .lo, fields := word },
  /- STREAM.SWITCH_HI -/ { base := 0x800014, half := .hi, fields := word },
  /- STREAM.SWITCH_COLD_LO -/ { base := 0x800018, half := .lo, fields := word },
  /- STREAM.SWITCH_COLD_HI -/ { base := 0x80001C, half := .hi, fields := word },
  /- STREAM.FAULTED_LO -/ { base := 0x800020, half := .lo, fields := word },
  /- STREAM.FAULTED_HI -/ { base := 0x800024, half := .hi, fields := word },
  /- STREAM.ACC_NAK_LO -/ { base := 0x800028, half := .lo, fields := word },
  /- STREAM.ACC_NAK_HI -/ { base := 0x80002C, half := .hi, fields := word },
  /- STREAM.PART_CFG -/ { base := 0x800040, n1 := 8, s1 := 0x4, fields := [cb 31 31 0, cb 29 16 0, cb 12 0 0] },
  /- STREAM.PART_CTX -/ { base := 0x800060, n1 := 8, s1 := 0x4, fields := [cb 25 16 0, cb 9 0 0x3ff] },
  /- STREAM.JOB_STATUS -/ { base := 0x800080, n1 := 8, s1 := 0x4, fields := word },
  /- STREAM.JOB_NUM -/ { base := 0x8000A0, n1 := 8, s1 := 0x4, fields := word },
  /- STREAM.QUEUE_CFG -/ { base := 0x800100, n1 := 64, s1 := 0x4, fields := [cb 31 31 0, cb 30 30 0, cb 29 27 0, cb 23 16 0, cb 15 8 0, cb 7 4 1] },
  /- STREAM.QUEUE_QUANT -/ { base := 0x800200, n1 := 64, s1 := 0x4, fields := [cb 15 0 0] },
  /- STREAM.QUEUE_STATUS -/ { base := 0x800300, n1 := 64, s1 := 0x4, fields := word },
  /- STREAM.CTX_SEL -/ { base := 0x801000, fields := [rw 12 0 0] },
  /- STREAM.CTX_STATE -/ { base := 0x801004, fields := word }]

/-- Block 0x09, Barriers and tallies: rules R252. -/
def barrier : List RegRow := [
  /- BARRIER.STATUS -/ { base := 0x900000, fields := [w1c 2 2, w1c 1 1, w1c 0 0] },
  /- BARRIER.RELEASE_LO -/ { base := 0x900010, half := .lo, fields := word },
  /- BARRIER.RELEASE_HI -/ { base := 0x900014, half := .hi, fields := word },
  /- BARRIER.TIMEOUT_LO -/ { base := 0x900018, half := .lo, fields := word },
  /- BARRIER.TIMEOUT_HI -/ { base := 0x90001C, half := .hi, fields := word },
  /- BARRIER.SYNC_ERR_LO -/ { base := 0x900020, half := .lo, fields := word },
  /- BARRIER.SYNC_ERR_HI -/ { base := 0x900024, half := .hi, fields := word },
  /- BARRIER.REBASE_LO -/ { base := 0x900028, half := .lo, fields := word },
  /- BARRIER.REBASE_HI -/ { base := 0x90002C, half := .hi, fields := word },
  /- BARRIER.PART_BAR -/ { base := 0x900040, n1 := 8, s1 := 0x4, fields := [cb 28 16 0, cb 11 0 0] },
  /- BARRIER.PART_TALLY -/ { base := 0x900060, n1 := 8, s1 := 0x4, fields := [cb 30 16 0, cb 13 0 0] },
  /- BARRIER.OBJ_SEL -/ { base := 0x901000, fields := [rw 31 31 0, rw 13 0 0] },
  /- BARRIER.OBJ_STATE -/ { base := 0x901004, fields := word },
  /- BARRIER.OBJ_P -/ { base := 0x901008, fields := word },
  /- BARRIER.OBJ_C -/ { base := 0x90100C, fields := word }]

/-- Block 0x0A, Governor: rules R288. -/
def pwrgov : List RegRow := [
  /- PWRGOV.CTRL -/ { base := 0xA00000, fields := [cb 23 16 8, cb 11 8 4, cb 0 0 0] },
  /- PWRGOV.LIMIT_CFG -/ { base := 0xA00004, fields := [cb 15 8 0xa, cb 1 0 0] },
  /- PWRGOV.TRAY_WIN -/ { base := 0xA00008, fields := [cb 15 0 0x3a98] },
  /- PWRGOV.RACK_FLOOR -/ { base := 0xA0000C, fields := [cb 15 0 0x1f40] },
  /- PWRGOV.RACK_BUDGET -/ { base := 0xA00010, fields := word },
  /- PWRGOV.SHIFT_CFG -/ { base := 0xA00014, fields := [cb 23 16 5, cb 15 0 0x190] },
  /- PWRGOV.PROT_CFG -/ { base := 0xA00018, fields := [cb 31 24 0x2d, cb 23 16 0x50, cb 15 8 0x14, cb 7 0 5] },
  /- PWRGOV.STATUS -/ { base := 0xA0001C, fields := [w1c 4 4, ro 3 3, w1c 2 2, w1c 1 1, w1c 0 0] },
  /- PWRGOV.CAP -/ { base := 0xA00020, fields := word },
  /- PWRGOV.ENERGY_HUB_LO -/ { base := 0xA00028, half := .lo, fields := word },
  /- PWRGOV.ENERGY_HUB_HI -/ { base := 0xA0002C, half := .hi, fields := word },
  /- PWRGOV.ACC_CFG -/ { base := 0xA01000, n1 := 8, s1 := 0x1000, fields := [cb 20 16 0, cb 15 0 0] },
  /- PWRGOV.ACC_STATUS -/ { base := 0xA01004, n1 := 8, s1 := 0x1000, fields := word },
  /- PWRGOV.REASON -/ { base := 0xA01008, n1 := 8, s1 := 0x1000, fields := word },
  /- PWRGOV.GRANT -/ { base := 0xA0100C, n1 := 8, s1 := 0x1000, fields := word },
  /- PWRGOV.ENERGY_LO -/ { base := 0xA01010, n1 := 8, s1 := 0x1000, half := .lo, fields := word },
  /- PWRGOV.ENERGY_HI -/ { base := 0xA01014, n1 := 8, s1 := 0x1000, half := .hi, fields := word },
  /- PWRGOV.THR_TIME_LO -/ { base := 0xA01100, n1 := 8, s1 := 0x1000, n2 := 16, s2 := 0x10, half := .lo, fields := word },
  /- PWRGOV.THR_TIME_HI -/ { base := 0xA01104, n1 := 8, s1 := 0x1000, n2 := 16, s2 := 0x10, half := .hi, fields := word },
  /- PWRGOV.THR_COUNT_LO -/ { base := 0xA01108, n1 := 8, s1 := 0x1000, n2 := 16, s2 := 0x10, half := .lo, fields := word },
  /- PWRGOV.THR_COUNT_HI -/ { base := 0xA0110C, n1 := 8, s1 := 0x1000, n2 := 16, s2 := 0x10, half := .hi, fields := word },
  /- PWRGOV.PHASE -/ { base := 0xA01200, n1 := 8, s1 := 0x1000, n2 := 64, s2 := 0x4, fields := [cb 19 16 0, cb 15 8 0xff, cb 7 0 0] },
  /- PWRGOV.EPP -/ { base := 0xA01300, n1 := 8, s1 := 0x1000, n2 := 64, s2 := 0x4, fields := [cb 31 0 0] },
  /- PWRGOV.CEIL -/ { base := 0xA01400, n1 := 8, s1 := 0x1000, n2 := 64, s2 := 0x4, fields := word }]

/-- Block 0x0B, Hot-swap: rules R311. -/
def hotswap : List RegRow := [
  /- HOTSWAP.STATUS -/ { base := 0xB00000, fields := [w1c 3 3, w1c 2 2, w1c 1 1, w1c 0 0] },
  /- HOTSWAP.SEQ_CFG -/ { base := 0xB00004, ao := true, fields := [cb 31 24 0x1e, cb 15 8 0x3f, cb 7 0 0x26] },
  /- HOTSWAP.SEQ_STATUS -/ { base := 0xB00008, fields := word },
  /- HOTSWAP.VBUS -/ { base := 0xB0000C, fields := word },
  /- HOTSWAP.DOM_STATUS -/ { base := 0xB00010, n1 := 6, s1 := 0x4, fields := word },
  /- HOTSWAP.CH_CFG -/ { base := 0xB01000, n1 := 10, s1 := 0x1000, ao := true, fields := [cb 31 31 1, cb 30 28 3, cb 23 16 0x14, cb 13 8 0x14, cb 7 0 0xa] },
  /- HOTSWAP.CH_LIMIT -/ { base := 0xB01004, n1 := 10, s1 := 0x1000, ao := true, fields := [cb 24 24 0, cb 23 16 0x7d, cb 8 0 0x80] },
  /- HOTSWAP.CH_SOA -/ { base := 0xB01008, n1 := 10, s1 := 0x1000, ao := true, fields := [cb 27 16 0xbb8, cb 15 8 5, cb 7 0 0x7d] },
  /- HOTSWAP.CH_CTRL -/ { base := 0xB0100C, n1 := 10, s1 := 0x1000, fields := [wm 2 2, wm 1 1, wm 0 0] },
  /- HOTSWAP.CH_STATUS -/ { base := 0xB01010, n1 := 10, s1 := 0x1000, ao := true, fields := word },
  /- HOTSWAP.CH_MEAS -/ { base := 0xB01014, n1 := 10, s1 := 0x1000, fields := word },
  /- HOTSWAP.CH_TRIP_LO -/ { base := 0xB01018, n1 := 10, s1 := 0x1000, half := .lo, fields := word },
  /- HOTSWAP.CH_TRIP_HI -/ { base := 0xB0101C, n1 := 10, s1 := 0x1000, half := .hi, fields := word }]

/-- Block 0x0C, Cooling: rules R334. -/
def cool : List RegRow := [
  /- COOL.STATUS -/ { base := 0xC00000, fields := [ro 7 7, ro 6 6, ro 5 5, w1c 4 4, w1c 3 3, w1c 2 2, w1c 1 1, w1c 0 0] },
  /- COOL.STRAPS -/ { base := 0xC00004, fields := word },
  /- COOL.HEARTBEAT -/ { base := 0xC00008, fields := [rw 31 0 0] },
  /- COOL.SENS_FAULT -/ { base := 0xC0000C, fields := word },
  /- COOL.ZONE_CFG -/ { base := 0xC00010, n1 := 8, s1 := 0x4, fields := [cb 31 31 1, cb 30 30 0, cb 29 20 0x3e8, cb 19 10 0x12c, cb 9 0 0x230] },
  /- COOL.ZONE_GAIN -/ { base := 0xC00030, n1 := 8, s1 := 0x4, fields := [cb 23 16 0x5a, cb 15 8 0x19, cb 7 0 0x14] },
  /- COOL.ZONE_IN -/ { base := 0xC00050, n1 := 8, s1 := 0x4, fields := [cb 26 0 0x7ffffff] },
  /- COOL.ZONE_OUT -/ { base := 0xC00070, n1 := 8, s1 := 0x4, fields := [cb 13 0 0x3fff] },
  /- COOL.ZONE_STATUS -/ { base := 0xC00090, n1 := 8, s1 := 0x4, fields := word },
  /- COOL.TEMP -/ { base := 0xC00100, n1 := 27, s1 := 0x4, fields := word },
  /- COOL.CH_CFG -/ { base := 0xC01000, n1 := 14, s1 := 0x1000, fields := [cb 31 31 1, cb 30 24 0x14, cb 21 20 1, cb 15 0 0x3a98] },
  /- COOL.CH_STATUS -/ { base := 0xC01004, n1 := 14, s1 := 0x1000, fields := word },
  /- COOL.CH_TACH -/ { base := 0xC01008, n1 := 14, s1 := 0x1000, fields := word },
  /- COOL.CH_SKIP -/ { base := 0xC01010, n1 := 14, s1 := 0x1000, n2 := 4, s2 := 0x4, fields := [cb 25 16 0, cb 9 0 0] },
  /- COOL.CH_FLOW -/ { base := 0xC01020, n1 := 14, s1 := 0x1000, fields := [cb 31 16 0, cb 15 0 0x1c2] }]

/-- Block 0x0D, Leaks: rules R336. -/
def leak : List RegRow := [
  /- LEAK.STATUS -/ { base := 0xD00000, ao := true, fields := [ro 29 24, ro 21 16, ro 13 8, w1c 0 0] },
  /- LEAK.CTRL -/ { base := 0xD00004, fields := [wm 5 0] },
  /- LEAK.ROPE_CFG -/ { base := 0xD00010, n1 := 6, s1 := 0x4, ao := true, fields := [cb 31 31 0, cb 29 20 0x1f4, cb 19 10 0x64, cb 7 0 0xff] },
  /- LEAK.ROPE_MEAS -/ { base := 0xD00030, n1 := 6, s1 := 0x4, fields := word },
  /- LEAK.ACT_COUNT_LO -/ { base := 0xD00050, ao := true, half := .lo, fields := word },
  /- LEAK.ACT_COUNT_HI -/ { base := 0xD00054, ao := true, half := .hi, fields := word }]

/-- Block 0x0E, Sensing: rules R354. -/
def sense : List RegRow := [
  /- SENSE.STATUS -/ { base := 0xE00000, fields := [w1c 6 6, w1c 5 5, w1c 4 4, w1c 3 3, w1c 2 2, ro 1 1, w1c 0 0] },
  /- SENSE.CFG -/ { base := 0xE00004, ao := true, fields := [cb 31 16 0x2710, cb 15 8 0x3c, cb 2 0 0] },
  /- SENSE.SCAN -/ { base := 0xE00008, fields := word },
  /- SENSE.SCAN_COUNT_LO -/ { base := 0xE00010, ao := true, half := .lo, fields := word },
  /- SENSE.SCAN_COUNT_HI -/ { base := 0xE00014, ao := true, half := .hi, fields := word },
  /- SENSE.INVALID_LO -/ { base := 0xE00018, ao := true, half := .lo, fields := word },
  /- SENSE.INVALID_HI -/ { base := 0xE0001C, ao := true, half := .hi, fields := word },
  /- SENSE.CH_CFG -/ { base := 0xE00100, n1 := 48, s1 := 0x4, ao := true, fields := [cb 31 31 1, cb 5 3 0, cb 1 0 0] },
  /- SENSE.SAMPLE -/ { base := 0xE00200, n1 := 48, s1 := 0x4, fields := word },
  /- SENSE.LAST_VALID -/ { base := 0xE00300, n1 := 48, s1 := 0x4, fields := word },
  /- SENSE.LV_TS_LO -/ { base := 0xE00400, n1 := 48, s1 := 0x8, half := .lo, fields := word },
  /- SENSE.LV_TS_HI -/ { base := 0xE00404, n1 := 48, s1 := 0x8, half := .hi, fields := word },
  /- SENSE.DTS -/ { base := 0xE00600, n1 := 32, s1 := 0x4, fields := word },
  /- SENSE.VMON -/ { base := 0xE00680, n1 := 24, s1 := 0x4, fields := word },
  /- SENSE.VMON_LIM -/ { base := 0xE00700, n1 := 24, s1 := 0x4, fields := [cb 31 16 0xffff, cb 15 0 0] },
  /- SENSE.VMON_EXT -/ { base := 0xE00780, n1 := 24, s1 := 0x4, fields := [rc 31 0] },
  /- SENSE.PM_FREQ -/ { base := 0xE00800, n1 := 16, s1 := 0x4, fields := word },
  /- SENSE.PM_AGE -/ { base := 0xE00840, n1 := 16, s1 := 0x4, fields := word }]

/-- Block 0x0F, REG and HOD: rules R379, R405. -/
def reg : List RegRow := [
  /- REG.STATUS -/ { base := 0xF00000, fields := [w1c 3 3, w1c 2 2, w1c 1 1, w1c 0 0] },
  /- REG.SNAP_STATUS -/ { base := 0xF00004, pv := false, fields := word },
  /- REG.CRC_CFG -/ { base := 0xF00008, fields := [cb 0 0 1] },
  /- REG.CFG_CRC -/ { base := 0xF0000C, fields := word },
  /- REG.CFG_REF -/ { base := 0xF00010, fields := [rw 31 0 0] },
  /- REG.CFG_REF_B -/ { base := 0xF00014, fields := word },
  /- REG.CRC_STATUS -/ { base := 0xF00018, fields := word },
  /- REG.TXN_CTRL -/ { base := 0xF00020, fields := [wm 3 3, wm 2 2, wm 1 1, wm 0 0] },
  /- REG.TXN_STATUS -/ { base := 0xF00024, fields := word },
  /- REG.TXN_REF -/ { base := 0xF00028, fields := [rw 31 0 0] },
  /- REG.TXN_CFG -/ { base := 0xF0002C, fields := [cb 31 16 0x4e20, cb 15 0 0x960] },
  /- REG.TXN_RESULT -/ { base := 0xF00030, fields := word },
  /- REG.RESET_CTRL -/ { base := 0xF00034, fields := [wm 0 0] },
  /- REG.RESET_CAUSE -/ { base := 0xF00038, ao := true, fields := word },
  /- REG.PV_DENY_LO -/ { base := 0xF00040, half := .lo, fields := word },
  /- REG.PV_DENY_HI -/ { base := 0xF00044, half := .hi, fields := word },
  /- REG.CRC_FAIL_LO -/ { base := 0xF00048, half := .lo, fields := word },
  /- REG.CRC_FAIL_HI -/ { base := 0xF0004C, half := .hi, fields := word },
  /- HOD.GLOBAL_STATUS -/ { base := 0xF01000, fields := [w1c 5 5, w1c 4 4, w1c 3 3, w1c 2 2, w1c 1 1] },
  /- HOD.EMU_STATUS -/ { base := 0xF01004, fields := word },
  /- HOD.REQ_COUNT_LO -/ { base := 0xF01010, half := .lo, fields := word },
  /- HOD.REQ_COUNT_HI -/ { base := 0xF01014, half := .hi, fields := word },
  /- HOD.REPLAY_COUNT_LO -/ { base := 0xF01018, half := .lo, fields := word },
  /- HOD.REPLAY_COUNT_HI -/ { base := 0xF0101C, half := .hi, fields := word },
  /- HOD.REFUSED_LO -/ { base := 0xF01020, half := .lo, fields := word },
  /- HOD.REFUSED_HI -/ { base := 0xF01024, half := .hi, fields := word },
  /- HOD.EMU_DROP_LO -/ { base := 0xF01028, half := .lo, fields := word },
  /- HOD.EMU_DROP_HI -/ { base := 0xF0102C, half := .hi, fields := word },
  /- HOD.MCTP_DROP_LO -/ { base := 0xF01030, half := .lo, fields := word },
  /- HOD.MCTP_DROP_HI -/ { base := 0xF01034, half := .hi, fields := word },
  /- HOD.H_STATUS -/ { base := 0xF01100, n1 := 32, s1 := 0x4, fields := word }]

/-- Block 0x10, SMBus and identity: rules R431. -/
def smbus : List RegRow := [
  /- SMBUS.CFG -/ { base := 0x1000000, fields := [cb 0 0 0] },
  /- SMBUS.ADDR -/ { base := 0x1000004, fields := word },
  /- SMBUS.STATUS -/ { base := 0x1000008, fields := word },
  /- SMBUS.ALERT_MASK -/ { base := 0x100000C, ao := true, fields := [rw 6 1 0x39] },
  /- SMBUS.XFER_LO -/ { base := 0x1000010, half := .lo, fields := word },
  /- SMBUS.XFER_HI -/ { base := 0x1000014, half := .hi, fields := word },
  /- SMBUS.PEC_FAIL_LO -/ { base := 0x1000018, half := .lo, fields := word },
  /- SMBUS.PEC_FAIL_HI -/ { base := 0x100001C, half := .hi, fields := word },
  /- SMBUS.STRETCH_TO_LO -/ { base := 0x1000020, half := .lo, fields := word },
  /- SMBUS.STRETCH_TO_HI -/ { base := 0x1000024, half := .hi, fields := word },
  /- SMBUS.ID_CFG -/ { base := 0x1000040, n1 := 10, s1 := 0x4, fields := [cb 0 0 0] },
  /- SMBUS.ID_STATUS -/ { base := 0x1000080, n1 := 10, s1 := 0x4, fields := word },
  /- SMBUS.PRSNT -/ { base := 0x10000C0, fields := word }]

/-- Block 0x11, Rack chain: rules R451. -/
def rack : List RegRow := [
  /- RACK.CFG -/ { base := 0x1100000, ao := true, fields := [cb 1 1 0, cb 0 0 1] },
  /- RACK.STATUS -/ { base := 0x1100004, fields := [ro 31 30, ro 29 24, ro 23 18, w1c 7 7, w1c 6 6, ro 5 5, ro 4 4, ro 3 3, ro 2 2, w1c 1 1, w1c 0 0] },
  /- RACK.BUDGET -/ { base := 0x1100008, fields := [cb 15 0 0] },
  /- RACK.DIGEST -/ { base := 0x110000C, fields := [cb 31 0 0] },
  /- RACK.EPOCH -/ { base := 0x1100010, fields := word },
  /- RACK.MGR -/ { base := 0x1100014, fields := word },
  /- RACK.ROUND_LO -/ { base := 0x1100018, half := .lo, fields := word },
  /- RACK.ROUND_HI -/ { base := 0x110001C, half := .hi, fields := word },
  /- RACK.SLEEP_K_LO -/ { base := 0x1100020, half := .lo, fields := word },
  /- RACK.SLEEP_K_HI -/ { base := 0x1100024, half := .hi, fields := word },
  /- RACK.HOP -/ { base := 0x1100028, fields := word },
  /- RACK.ROUNDS_LO -/ { base := 0x1100030, half := .lo, fields := word },
  /- RACK.ROUNDS_HI -/ { base := 0x1100034, half := .hi, fields := word },
  /- RACK.FRAME_ERR_LO -/ { base := 0x1100038, half := .lo, fields := word },
  /- RACK.FRAME_ERR_HI -/ { base := 0x110003C, half := .hi, fields := word },
  /- RACK.GRANT -/ { base := 0x1100100, n1 := 32, s1 := 0x4, fields := word }]

/-- Block 0x12, Firmware: rules R475. -/
def fw : List RegRow := [
  /- FW.STATUS -/ { base := 0x1200000, fields := [w1c 6 6, w1c 5 5, w1c 4 4, w1c 3 3, w1c 2 2, ro 1 1, w1c 0 0] },
  /- FW.BOOT -/ { base := 0x1200004, ao := true, fields := word },
  /- FW.CTRL -/ { base := 0x1200008, fields := [wm 1 1, wm 0 0] },
  /- FW.WDT -/ { base := 0x120000C, fields := [rw 9 0 0x64] },
  /- FW.CFG -/ { base := 0x1200010, fields := [cb 31 16 0x7d0, cb 15 8 8, cb 2 0 2] },
  /- FW.VERSION -/ { base := 0x1200014, fields := word },
  /- FW.JP_IF -/ { base := 0x1200018, fields := word },
  /- FW.ACC_MAP -/ { base := 0x120001C, fields := [cb 7 0 0] },
  /- FW.ACC_STATUS -/ { base := 0x1200020, fields := word },
  /- FW.RESTART_LO -/ { base := 0x1200028, half := .lo, fields := word },
  /- FW.RESTART_HI -/ { base := 0x120002C, half := .hi, fields := word },
  /- FW.PUSH_LO -/ { base := 0x1200030, half := .lo, fields := word },
  /- FW.PUSH_HI -/ { base := 0x1200034, half := .hi, fields := word }]

/-- Block 0x13, Security: rules R496. -/
def sec : List RegRow := [
  /- SEC.STATUS -/ { base := 0x1300000, fields := [ro 5 5, w1c 4 4, w1c 3 3, w1c 2 2, ro 1 1, w1c 0 0] },
  /- SEC.CFG -/ { base := 0x1300004, ao := true, fields := [cb 1 1 1, cb 0 0 0] },
  /- SEC.ARB -/ { base := 0x1300008, ao := true, fields := word },
  /- SEC.DEBUG -/ { base := 0x130000C, ao := true, fields := word },
  /- SEC.KEYS -/ { base := 0x1300010, fields := word },
  /- SEC.SEAL_EX_LO -/ { base := 0x1300020, half := .lo, fields := word },
  /- SEC.SEAL_EX_HI -/ { base := 0x1300024, half := .hi, fields := word },
  /- SEC.SEAL_REJ_LO -/ { base := 0x1300028, half := .lo, fields := word },
  /- SEC.SEAL_REJ_HI -/ { base := 0x130002C, half := .hi, fields := word },
  /- SEC.SPDM_REQ_LO -/ { base := 0x1300030, half := .lo, fields := word },
  /- SEC.SPDM_REQ_HI -/ { base := 0x1300034, half := .hi, fields := word },
  /- SEC.PORT_SEAL -/ { base := 0x1300040, n1 := 8, s1 := 0x4, fields := word },
  /- SEC.ACC_ROOT -/ { base := 0x1300100, n1 := 3, s1 := 0x40, n2 := 12, s2 := 0x4, ao := true, fields := [cb 31 0 0] }]

/-- Block 0x14, Event recorder: rules R518. -/
def evrec : List RegRow := [
  /- EVREC.STATUS -/ { base := 0x1400000, fields := [ro 4 4, ro 3 3, ro 2 2, w1c 1 1, w1c 0 0] },
  /- EVREC.CFG -/ { base := 0x1400004, fields := [cb 1 0 1] },
  /- EVREC.RECORDS -/ { base := 0x1400008, fields := word },
  /- EVREC.SHADOW -/ { base := 0x140000C, ao := true, fields := word },
  /- EVREC.CLEAR_COUNT -/ { base := 0x1400010, fields := word },
  /- EVREC.WALL_REF_LO -/ { base := 0x1400018, ao := true, half := .lo, fields := [rw 31 0 0] },
  /- EVREC.WALL_REF_HI -/ { base := 0x140001C, ao := true, half := .hi, fields := [rw 31 0 0] },
  /- EVREC.DROP_LO -/ { base := 0x1400020, n1 := 9, s1 := 0x8, half := .lo, fields := word },
  /- EVREC.DROP_HI -/ { base := 0x1400024, n1 := 9, s1 := 0x8, half := .hi, fields := word }]

/-- Block 0x15, Safety: rules R531. -/
def safety : List RegRow := [
  /- SAFETY.STATUS -/ { base := 0x1500000, fields := [w1c 8 8, w1c 7 7, ro 6 6, ro 5 5, ro 4 4, ro 3 3, ro 2 2, ro 1 1, ro 0 0] },
  /- SAFETY.WIRES -/ { base := 0x1500004, fields := word },
  /- SAFETY.RECOVERY -/ { base := 0x1500008, fields := word },
  /- SAFETY.DATA_INT -/ { base := 0x150000C, fields := word },
  /- SAFETY.MGMT_INT -/ { base := 0x1500010, fields := word },
  /- SAFETY.FAULT_LO -/ { base := 0x1500018, half := .lo, fields := word },
  /- SAFETY.FAULT_HI -/ { base := 0x150001C, half := .hi, fields := word }]

end Map

/-- Every register of BAR0 that a register map lists (R359). -/
def regMap : List RegRow :=
  Map.id ++ Map.top ++ Map.link ++ Map.xbar ++ Map.tile ++ Map.spill ++ Map.mortar ++ Map.smp ++ Map.stream ++ Map.barrier ++ Map.pwrgov ++ Map.hotswap ++ Map.cool ++ Map.leak ++ Map.sense ++ Map.reg ++ Map.smbus ++ Map.rack ++ Map.fw ++ Map.sec ++ Map.evrec ++ Map.safety

/-- A run of covered registers of one group: offset, count, stride and the mask of the RW·CB fields (R368). -/
structure CrcRun where
  off : Nat
  n : Nat
  s : Nat
  mask : Nat
  deriving DecidableEq, Repr

/-- A group of runs repeated `n` times at stride `s`, in ascending offset order. -/
structure CrcGroup where
  n : Nat
  s : Nat
  runs : List CrcRun
  deriving DecidableEq, Repr

/-- The coverage of the configuration CRC, in ascending BAR0 offset (R368): every register with a field whose access
code includes CB and does not include WM. PWRGOV.EPP is covered with no bit taken, since hardware updates it. -/
def crcCover : List CrcGroup := [
  ⟨1, 0x0, [⟨0x100000, 1, 0x0, 0x3FF⟩, ⟨0x100004, 1, 0x0, 0xFF⟩, ⟨0x100034, 1, 0x0, 0x7F⟩]⟩,
  ⟨8, 0x1000, [⟨0x201000, 1, 0x0, 0xF11⟩, ⟨0x201010, 1, 0x0, 0x1⟩]⟩,
  ⟨1, 0x0, [⟨0x300000, 1, 0x0, 0xFFFF⟩, ⟨0x300004, 1, 0x0, 0xFFFF07⟩, ⟨0x300100, 8, 0x4, 0xFF⟩, ⟨0x300140, 8, 0x4, 0xF⟩, ⟨0x400004, 1, 0x0, 0xF⟩, ⟨0x400008, 1, 0x0, 0xFFFFFF⟩, ⟨0x400040, 64, 0x4, 0x3⟩, ⟨0x400200, 768, 0x4, 0xF⟩, ⟨0x500000, 1, 0x0, 0x1FF⟩, ⟨0x500004, 1, 0x0, 0xFFFFFFFF⟩, ⟨0x500008, 1, 0x0, 0xFFFFFF3F⟩, ⟨0x600000, 1, 0x0, 0xFFFF0001⟩, ⟨0x600004, 1, 0x0, 0xFFFFFF⟩, ⟨0x600020, 8, 0x4, 0xFFF⟩, ⟨0x700000, 1, 0x0, 0xFFFF0007⟩, ⟨0x800004, 1, 0x0, 0xFFFF0001⟩, ⟨0x800040, 8, 0x4, 0xBFFF1FFF⟩, ⟨0x800060, 8, 0x4, 0x3FF03FF⟩, ⟨0x800100, 64, 0x4, 0xF8FFFFF0⟩, ⟨0x800200, 64, 0x4, 0xFFFF⟩, ⟨0x900040, 8, 0x4, 0x1FFF0FFF⟩, ⟨0x900060, 8, 0x4, 0x7FFF3FFF⟩, ⟨0xA00000, 1, 0x0, 0xFF0F01⟩, ⟨0xA00004, 1, 0x0, 0xFF03⟩, ⟨0xA00008, 1, 0x0, 0xFFFF⟩, ⟨0xA0000C, 1, 0x0, 0xFFFF⟩, ⟨0xA00014, 1, 0x0, 0xFFFFFF⟩, ⟨0xA00018, 1, 0x0, 0xFFFFFFFF⟩]⟩,
  ⟨8, 0x1000, [⟨0xA01000, 1, 0x0, 0x1FFFFF⟩, ⟨0xA01200, 64, 0x4, 0xFFFFF⟩, ⟨0xA01300, 64, 0x4, 0x0⟩]⟩,
  ⟨1, 0x0, [⟨0xB00004, 1, 0x0, 0xFF00FFFF⟩]⟩,
  ⟨10, 0x1000, [⟨0xB01000, 1, 0x0, 0xF0FF3FFF⟩, ⟨0xB01004, 1, 0x0, 0x1FF01FF⟩, ⟨0xB01008, 1, 0x0, 0xFFFFFFF⟩]⟩,
  ⟨1, 0x0, [⟨0xC00010, 8, 0x4, 0xFFFFFFFF⟩, ⟨0xC00030, 8, 0x4, 0xFFFFFF⟩, ⟨0xC00050, 8, 0x4, 0x7FFFFFF⟩, ⟨0xC00070, 8, 0x4, 0x3FFF⟩]⟩,
  ⟨14, 0x1000, [⟨0xC01000, 1, 0x0, 0xFF30FFFF⟩, ⟨0xC01010, 4, 0x4, 0x3FF03FF⟩, ⟨0xC01020, 1, 0x0, 0xFFFFFFFF⟩]⟩,
  ⟨1, 0x0, [⟨0xD00010, 6, 0x4, 0xBFFFFCFF⟩, ⟨0xE00004, 1, 0x0, 0xFFFFFF07⟩, ⟨0xE00100, 48, 0x4, 0x8000003B⟩, ⟨0xE00700, 24, 0x4, 0xFFFFFFFF⟩, ⟨0xF00008, 1, 0x0, 0x1⟩, ⟨0xF0002C, 1, 0x0, 0xFFFFFFFF⟩, ⟨0x1000000, 1, 0x0, 0x1⟩, ⟨0x1000040, 10, 0x4, 0x1⟩, ⟨0x1100000, 1, 0x0, 0x3⟩, ⟨0x1100008, 1, 0x0, 0xFFFF⟩, ⟨0x110000C, 1, 0x0, 0xFFFFFFFF⟩, ⟨0x1200010, 1, 0x0, 0xFFFFFF07⟩, ⟨0x120001C, 1, 0x0, 0xFF⟩, ⟨0x1300004, 1, 0x0, 0x3⟩]⟩,
  ⟨1, 0x0, [⟨0x1300100, 12, 0x4, 0xFFFFFFFF⟩]⟩,
  ⟨1, 0x0, [⟨0x1300140, 12, 0x4, 0xFFFFFFFF⟩]⟩,
  ⟨1, 0x0, [⟨0x1300180, 12, 0x4, 0xFFFFFFFF⟩, ⟨0x1400004, 1, 0x0, 0x3⟩]⟩]

end Sys2Proof.Machine
end

