-- ==== Sys2Proof/Machine/State.lean ====
section
/-!
DEFINITION. Machine/State.lean: every piece of state the spec gives the hub, as plain data, and the state after reset.
A field's docstring names the rule that gives it; its default value is its reset value.
-/
namespace Sys2Proof.Machine

/-- Why a command stops the model: none does, since every command of the table has an effect the spec gives. -/
inductive Fault where
  /-- Raised by no command: the hub reports every error in its own state. Safe. -/
  | none
  deriving DecidableEq, Repr

/-- Why a command is turned away by the model. -/
inductive Refusal where
  /-- The command has no meaning yet: raised by an arm of `exec` only. Safe. -/
  | notModelled (mnemonic : String)
  deriving DecidableEq, Repr

/-! ### Registers, snapshots and courses -/

/-- A 64-bit counter and its wrap flag (R363). -/
structure Ctr where
  val : BitVec 64 := 0
  wrap : Bool := false
  deriving DecidableEq, Repr

/-- One master's shadow (R362, R364): the latched half, the latched wrap flag and address, STRAY, and the held low
half of a pair write with the pair's address. -/
structure Shadow where
  hi : Nat := 0
  wrap : Bool := false
  addr : Option Nat := none
  stray : Bool := false
  held : Option (Nat × Nat) := none
  deriving DecidableEq, Repr

/-- The course timer (R34 to R50). -/
structure Courses where
  /-- The course counter, 48 bits (R36). -/
  count : BitVec 48 := 0
  /-- The counter's wrap flag (R54). -/
  wrap : Bool := false
  /-- The length of the course in progress, in µs (R34, R50). -/
  period : Nat := 50
  /-- The course in progress is late (R45). -/
  late : Bool := false
  /-- TOP.CRS_STATUS.LATE: the previous course was late. -/
  prevLate : Bool := false
  /-- TOP.CRS_STATUS.LATE_RUN (R47). -/
  lateRun : Nat := 0
  /-- Telemetry has closed in the course in progress (R44). -/
  closed : Bool := false
  /-- The grant point of the course in progress has passed (R45). -/
  granted : Bool := false
  /-- The outputs on which the last boundary drove a tick (R37, R38): bit x is CRS_OUTx. -/
  ticks : Nat := 0
  deriving DecidableEq, Repr

/-! ### Hods -/

/-- One encoded field of a hod request or of an event payload (R388). -/
inductive Arg where
  | u8 (v : Nat) | u16 (v : Nat) | u32 (v : Nat) | u64 (v : Nat)
  /-- A list: the width of its entries in bytes, then the entries. -/
  | list (w : Nat) (vs : List Nat)
  | block (bs : List Byte)
  /-- A record defined elsewhere, already laid out. -/
  | record (bs : List Byte)
  deriving DecidableEq, Repr

/-- The way a request came in, and so the way its response goes out (R382, R403, R450). -/
inductive Path where
  /-- The requester's hod window, SMBus hod commands or the core's internal queue. -/
  | window
  /-- MCTP: over PCIe when `pcie`, else over SMBus; the sender's endpoint id and message tag. -/
  | mctp (pcie : Bool) (eid : Nat) (tag : Nat)
  /-- A HOD frame of the rack chain: the position that asked. -/
  | frame (pos : Nat)
  deriving DecidableEq, Repr

/-- A request that has passed the form checks (R387, R390). -/
structure HodReq where
  who : Requester
  path : Path := .window
  op : Nat
  tag : Nat := 0
  txn : Nat := 0
  idem : Bool := false
  args : List Arg := []
  /-- CRC-32C of the request (R391). -/
  crc : Nat := 0
  deriving DecidableEq, Repr

/-- HOD.STATUS.STATE (R385). -/
inductive HodPhase where
  | idle | pending | running | waiting | deferred | done
  deriving DecidableEq, Repr

/-- One entry of a tag memory (R391). -/
structure TagEntry where
  tag : Nat
  op : Nat
  crc : Nat
  status : Nat
  /-- Length of the original response payload. -/
  len : Nat
  /-- The first 240 bytes of it. -/
  payload : List Byte
  /-- The payload was lost at a warm reset. -/
  lost : Bool := false
  deriving DecidableEq, Repr

/-- One requester's hod (R382 to R386), and the requester's tag memory and outstanding request (R383, R391). -/
structure Hod where
  phase : HodPhase := .idle
  code : Nat := 0
  tag : Nat := 0
  intrEn : Bool := false
  /-- HOD.BUF, 4,096 bytes. -/
  buf : Mem := []
  /-- The request in progress, on whatever path (R383). -/
  out : Option HodReq := none
  /-- Requests in progress at a reset of the requester's function, whose responses are discarded (R411). -/
  stale : List HodReq := []
  /-- The last 64 entered requests, newest first (R391). -/
  tags : List TagEntry := []
  deriving DecidableEq, Repr

/-- A finished request whose completion is released after a boundary (R394). -/
structure Held where
  req : HodReq
  status : Nat
  detail : Nat
  /-- LENGTH of the response; longer than the payload in a truncated replay (R392). -/
  len : Nat
  payload : List Byte
  /-- It enters the tag memory (R391). -/
  enter : Bool
  truncated : Bool := false
  /-- The boundary of R394 has passed. -/
  due : Bool := false
  deriving DecidableEq, Repr

/-- A message in assembly on an MCTP binding (R404). -/
structure Assembly where
  pcie : Bool
  src : Nat
  tag : Nat
  owner : Bool
  /-- The next packet sequence number. -/
  seq : Nat
  bytes : List Byte
  deriving DecidableEq, Repr

/-- An MCTP message the hub sends, assembled: binding, destination endpoint, message tag, bytes. -/
structure MctpOut where
  pcie : Bool
  dst : Nat
  tag : Nat
  bytes : List Byte
  deriving DecidableEq, Repr

/-- The hod block (R382 to R407). -/
structure Hods where
  /-- One hod for each requester id. -/
  hod : Tbl Hod := []
  /-- Requests that complete only when a later condition holds, in order of intake. -/
  waiting : List HodReq := []
  /-- Completions held for release (R394). -/
  held : List Held := []
  /-- Requests taken in while the management core is down (R397). -/
  parked : List HodReq := []
  /-- Completions of requests that a warm reset has cut off, given once the core has booted (R397). -/
  afterBoot : List Held := []
  /-- The emulated register file's image, as words by offset (R401). -/
  emu : Tbl Nat := []
  /-- Emulated writes in the hardware queue: offset and value (R402). -/
  emuQueue : List (Nat × Nat) := []
  /-- Emulated writes dropped in the course, by requester: their number and the first one's offset (R407). -/
  emuDrops : Tbl (Nat × Nat) := []
  /-- The endpoint ids set on the SMBus and PCIe bindings; 0 for none (R403). -/
  eidSmb : Nat := 0
  eidPcie : Nat := 0
  /-- Messages in assembly (R404). -/
  asm : List Assembly := []
  /-- MCTP messages sent on PCIe in the course. -/
  mctpOut : List MctpOut := []
  deriving DecidableEq, Repr

/-! ### Transactions, staged changes and the configuration CRC -/

/-- The state of a transaction (R380). -/
inductive TxnPhase where
  | opened | commitPending | staging
  deriving DecidableEq, Repr

/-- One staged change (R11, R35, R41): a register write (requester id, offset, selected bits, value) or a hod. -/
inductive TxnItem where
  | reg (who a sel v : Nat)
  | hod (q : HodReq)
  deriving DecidableEq, Repr

/-- A transition of R375 in progress: a tile's test, a tile group, a port, a mortar engine or a sampler. -/
inductive Transition where
  | tile (n : Nat) | group (g : Nat) | port (x : Nat) (forSeal : Bool) | engine (n : Nat) | sampler (s : Nat)
  deriving DecidableEq, Repr

/-- A transaction (R371 to R375). -/
structure Txn where
  id : Nat
  owner : Requester
  phase : TxnPhase := .opened
  /-- Staged items, each with its index among all items; a register written again keeps its place. -/
  items : List (Nat × TxnItem) := []
  overflow : Bool := false
  /-- Courses it has been OPEN, or courses since stage 1. -/
  age : Nat := 0
  /-- The reference the commit carries. -/
  ref : Option Nat := none
  /-- The TXN_COMMIT hod to complete; none for a commit by register. -/
  commit : Option HodReq := none
  /-- Registers whose value in effect changed at a boundary since TXN_BEGIN (R373). -/
  changed : List Nat := []
  /-- Transitions started in stage 1. -/
  waits : List Transition := []
  /-- Register writes that the transaction held when its first stage applied. -/
  written : Nat := 0
  deriving DecidableEq, Repr

/-- One master's last commit (REG.TXN_RESULT). -/
structure TxnResult where
  id : Nat := 0
  item : Nat := 0
  status : Nat := 0
  deriving DecidableEq, Repr

/-- REG.CRC_STATUS.STATE (R380). -/
inductive CrcPhase where
  | none | pending | ok | refBad | mismatch
  deriving DecidableEq, Repr

/-- The register block's own state (R362 to R380). -/
structure RegBlock where
  /-- Shadows by requester id. -/
  shadow : Tbl Shadow := []
  /-- The data that the last read returned on the bus. -/
  rdata : BitVec 64 := 0
  /-- The last read through BAR4 met a poisoned page or an uncorrectable word (R135, R139). -/
  barPoison : Bool := false
  /-- Changes staged for the next boundary outside any transaction, in order of arrival (R35, R396). -/
  staged : List TxnItem := []
  /-- The reference that a change applied at this boundary brings (R369). -/
  refDue : Option Nat := none
  /-- Open transactions, then those whose commits have arrived, in order of arrival. -/
  txns : List Txn := []
  /-- The id that TXN_BEGIN last returned. -/
  lastId : Nat := 0
  result : Tbl TxnResult := []
  /-- REG.TXN_REF of each master, by requester id. -/
  txnRef : Tbl Nat := []
  /-- The live CRC (R368). -/
  crc : Nat := 0
  /-- The recomputation is not yet valid. -/
  crcBusy : Bool := false
  crcPhase : CrcPhase := .none
  /-- Copies A and B of the reference (R369). -/
  refA : Option Nat := none
  refB : Option Nat := none
  /-- REF_BAD persists until a new reference: whether the good copy is A (R370). -/
  goodA : Option Bool := none
  /-- REG.RESET_CAUSE (R380). -/
  cause : Nat := 0
  /-- A warm reset is scheduled for the next boundary, with its cause code and its requester. -/
  warm : Option (Nat × Nat) := none
  deriving DecidableEq, Repr

/-! ### Event recorder -/

/-- An event record (R500), without its CRC, which is computed from the other fields. -/
structure Rec where
  seq : BitVec 32
  course : BitVec 48
  wallOfs : BitVec 32
  code : Nat
  sev : Nat
  req : Nat := 0xFF
  wallValid : Bool := false
  cont : Bool := false
  part : Nat := 0xFF
  payload : List Byte := []
  /-- The 64 bytes that its slot of the flash now reads as, where they are no longer those written (R508). -/
  raw : Option (List Byte) := none
  deriving DecidableEq, Repr

/-- The recorder (R500 to R519). -/
structure Evrec where
  /-- The shadow queue, oldest first (R504). -/
  shadow : List Rec := []
  /-- The log in flash, oldest first (R503). -/
  log : List Rec := []
  /-- SEQ of each scope: 0 is tray-wide, p + 1 is PTp (R501). -/
  seq : Tbl (BitVec 32) := []
  full : Bool := false
  mediaFail : Bool := false
  clearing : Bool := false
  /-- The clear pair of the clear in progress, once formed, and the drop counters as they stood when the clear began, by
  scope (R512). -/
  clearPair : List Rec := []
  dropsAt : List (BitVec 64) := []
  /-- The clear pairs in the two journal copies, and which is in force (R510). -/
  journalA : List Rec := []
  journalB : List Rec := []
  inForceB : Bool := false
  clearCount : Nat := 0
  /-- The wall reference (R514). -/
  wallRef : Option (BitVec 64) := none
  /-- The footing die's count of records in the shadow; none when unknown (R502). -/
  footCount : Option Nat := none
  /-- Codes already recorded in this course where a rule allows one record a course: code and object. -/
  once : List (Nat × Nat) := []
  deriving DecidableEq, Repr

/-! ### Links and crossbar -/

/-- The link states (R60). -/
inductive LinkState where
  | disabled | detect | poll | equalize | config | sealSync | active | retrain | fenced | failed
  deriving DecidableEq, Repr

/-- The encoding of LINK.PORT_STATUS.STATE (R60). -/
def LinkState.code : LinkState → Nat
  | .disabled => 0 | .detect => 1 | .poll => 2 | .equalize => 3 | .config => 4
  | .sealSync => 5 | .active => 6 | .retrain => 7 | .fenced => 8 | .failed => 9

/-- A seal exchange of a port (R484 to R488, R497). -/
structure SealEx where
  /-- PORT_SEAL.XSTATE: 0 none, 1 offered, 2 confirmed, 3 failed. -/
  xstate : Nat := 0
  xid : Nat := 0
  lastRej : Nat := 0
  auth : Bool := false
  /-- The key slot the exchange fills. -/
  slot : Bool := false
  /-- A rekey, not the initial exchange; and a rekey is wanted and its key not yet installed (R87, R488). -/
  rekey : Bool := false
  want : Bool := false
  /-- Attempts that have failed. -/
  fails : Nat := 0
  /-- The generator's draw that gave the ephemeral key, and the body of the OFFER sent. -/
  draw : Nat := 0
  offer : List Byte := []
  /-- The fragments of the ACCEPT received so far. -/
  body : List Byte := []
  deriving DecidableEq, Repr

/-- One Uaman port (R56 to R100). -/
structure Port where
  st : LinkState := .detect
  /-- SEAL_SYNC was entered from RETRAIN (R556). -/
  fromRetrain : Bool := false
  /-- Octets that carry the link, and octets retired since the last full training (R98). -/
  active : BitVec 8 := 0
  retired : BitVec 8 := 0
  /-- Octets locked in the training in progress. -/
  locked : BitVec 8 := 0
  /-- The corrections in force since POLL (R57): lanes whose polarity is inverted, and a full reversal of lane order within
  cable A or cable B. -/
  inverted : BitVec 64 := 0
  revA : Bool := false
  revB : Bool := false
  /-- The equalisation presets that the last EQUALIZE started from, by cable: that of a length class, or the default preset
  (R58, R59). -/
  presetA : Option Nat := none
  presetB : Option Nat := none
  cblA : Bool := false
  cblB : Bool := false
  /-- The FEC mode in effect, and the mode a RETRAIN will resume in (R65). -/
  fec : Bool := false
  fecNext : Bool := false
  lastFail : Nat := 0
  attempts : Nat := 0
  /-- The endpoint's FEC modes and seal capability from CONFIG (R62). -/
  fecCap : BitVec 2 := 0
  canSeal : Bool := false
  /-- Sealed in both directions; key slots in use; slot counters under the current keys (R85 to R87). -/
  sealed : Bool := false
  /-- The port's seal engine is on and usable (R309). -/
  sealUp : Bool := false
  txSlot : Bool := false
  rxSlot : Bool := false
  txCtr : Nat := 0
  rxCtr : Nat := 0
  /-- Keys installed, by direction and slot: the 32-byte key and the 4-byte salt; empty for none (R85, R486). -/
  txKey0 : List Byte := []
  txKey1 : List Byte := []
  rxKey0 : List Byte := []
  rxKey1 : List Byte := []
  /-- LINK.SEAL_STATUS.REKEY_OVERDUE, and the same of the receive direction (R87). -/
  overdue : Bool := false
  rxOverdue : Bool := false
  /-- The key slot and slot counter that the hub last announced, in RETRAIN or SEAL_SYNC (R86). -/
  announced : Option SealAnnounce := none
  /-- SEAL_EN took effect and the port is not yet sealed (R89). -/
  sealHold : Bool := false
  /-- The port goes plain at the end of its RETRAIN (R89). -/
  toPlain : Bool := false
  /-- Bricks from the endpoint that wait on the hold (R89). -/
  heldIn : List Brick := []
  ex : SealEx := {}
  /-- Next sequence number to send, and next expected (R72, R73). -/
  txNext : BitVec 32 := 0
  rxNext : BitVec 32 := 0
  /-- Unacknowledged bricks, oldest first (R72), and how many of them a replay in progress has yet to resend. -/
  retry : List Brick := []
  resend : Nat := 0
  /-- How often each of them has been sent without acknowledgement progress, oldest first (R76). -/
  sends : List Nat := []
  /-- A NAK has been sent and the expected brick has not arrived (R74); a NAK waits for a slot. -/
  nakWait : Bool := false
  nakOut : Bool := false
  /-- Accepted bricks not yet acknowledged; an acknowledgement waits for a slot (R75). -/
  ackDue : Nat := 0
  ackOut : Bool := false
  /-- Credits toward the endpoint, available and advertised, by VC (R79). -/
  credit : Tbl Nat := []
  advert : Tbl Nat := []
  /-- The hub's own receive credits (R78), by VC: those that the endpoint holds, and those that are due back to it (R77). -/
  rxCredit : Tbl Nat := []
  owed : Tbl Nat := []
  /-- The RETRAIN in progress came from the retry limit (R76). -/
  retryLimit : Bool := false
  /-- A full training attempt starts at the next boundary (R83). -/
  reinsert : Bool := false
  /-- The CONFIG exchange has passed and the attempt ends when the state becomes ACTIVE. -/
  training : Bool := false
  /-- Tag failures in this course (R99). -/
  tagFails : Nat := 0
  /-- The reason of the last fence. -/
  fenceReason : Nat := 0
  /-- Bricks discarded for the present fence in this course, and whether its event is recorded (R105). -/
  fenceDrops : Nat := 0
  fenceEvt : Bool := true
  /-- The last slot sent. -/
  sent : Option Brick := none
  /-- Bricks waiting toward this port in arrival order: source unit and brick. -/
  egress : List (Nat × Brick) := []
  /-- Slots of the last seven that went to VC3 or VC4, newest first (R110). -/
  prio : List Bool := []
  /-- The VC whose turn it is among VC0, VC1, VC2 and VC5, and how many bricks it has sent in this turn (R110). -/
  turn : Nat := 0
  used : Nat := 0
  /-- For each VC, the partition whose turn it is and the bricks it has sent in this turn (R110). -/
  partTurn : Tbl (Nat × Nat) := []
  /-- The ingress source served last, by 8 × VC + partition. -/
  srcTurn : Tbl Nat := []
  /-- Bricks served by ageing in this course, by VC (R117). -/
  aged : Tbl Nat := []
  /-- Hundredths of a slot owed to the port under self-throttle (R544). -/
  thr : Nat := 0
  deriving DecidableEq, Repr

/-- A brick waiting at a unit of the hub: the unit's endpoint code (R69), the ingress port and the brick. -/
structure InItem where
  unit : Nat
  port : Nat
  brick : Brick
  deriving DecidableEq, Repr

/-- The links and the crossbar. -/
structure Fabric where
  port : Tbl Port := []
  inbox : List InItem := []
  deriving DecidableEq, Repr

/-! ### Tiles and spill -/

/-- The tile states (R121). -/
inductive TileState where
  | available | testing | owned | hub | failed | unpowered
  deriving DecidableEq, Repr

/-- The state code of R121. -/
def TileState.code : TileState → Nat
  | .available => 0 | .testing => 1 | .owned => 2 | .hub => 3 | .failed => 4 | .unpowered => 5

/-- One tile (R121 to R123, R141). TILE.OWNER.PART is the register's own field. -/
structure Tile where
  st : TileState := .available
  /-- A test has ended and the tile waits for the boundary that gives it to the partition in PART (R122). -/
  tested : Bool := false
  /-- The test in progress is a re-test of an AVAILABLE tile (R123). -/
  retest : Bool := false
  /-- Flagged under R141; and failed since the last boot repair, for which it waits. -/
  repair : Bool := false
  await : Bool := false
  /-- Corrected errors of this scrub pass (R140, R141). -/
  ce : Nat := 0
  deriving DecidableEq, Repr

/-- A page table entry (R126). -/
structure Pte where
  valid : Bool := false
  part : Nat := 0
  /-- In a spill frame. -/
  res : Bool := false
  pin : Bool := false
  moving : Bool := false
  poison : Bool := false
  acc : Nat := 0
  gen : Nat := 0
  lessees : Nat := 0
  writer : Option Nat := none
  frame : Nat := 0
  deriving DecidableEq, Repr

/-- The power state of a tile group (R142, R143). -/
inductive GroupPower where
  | on | retained | waking | off | starting
  deriving DecidableEq, Repr

/-- A migration in progress (R136, R137). -/
structure Migration where
  page : Nat
  dst : Nat
  toSpill : Bool
  /-- The page was freed while it moved. -/
  freed : Bool := false
  deriving DecidableEq, Repr

/-- The tile and spill blocks (R118 to R151). -/
structure Tiles where
  /-- At reset tile 752 holds the page table (R125). -/
  tile : Tbl Tile := [(752, { st := .hub })]
  pte : Tbl Pte := []
  group : Tbl GroupPower := []
  /-- The tile in whose place each group's spare is fitted, and the groups whose fitted spare has failed, one bit each (R141). -/
  spareFor : Tbl (Option Nat) := []
  spareBad : Nat := 0
  /-- Tiles on the field list of failed tiles that firmware keeps (R141), oldest first. -/
  failList : List Nat := []
  /-- The tile at which the rotation of re-tests goes on (R123). -/
  retestAt : Nat := 0
  /-- Words whose stored code is uncorrectable: physical address over 8 (R139). -/
  ue : List Nat := []
  /-- The tier of each partition's last placement (R131). -/
  lastTier : Tbl Nat := []
  /-- Write messages in progress that have met an error: port, VC and stream (R127, R139). -/
  badWrite : List (Nat × Nat × Nat) := []
  /-- Ports whose oldest tile access waits for a wake: port and VC (R143). -/
  wakeWait : List (Nat × Nat) := []
  moves : List Migration := []
  /-- Pages that PAGE_MOVE asked to move: page and whether to spill (R146). -/
  moveAsk : List (Nat × Bool) := []
  /-- Pages freed during a migration that has completed (R137). -/
  freeNext : List Nat := []
  /-- Partitions in a demotion run (R136). -/
  demoting : List Nat := []
  /-- Demotions completed in this course, by partition (R151). -/
  demoted : Tbl Nat := []
  /-- Courses since the last halving of the access counts (R136). -/
  decay : Nat := 0
  /-- Spill frames offered by the populated memory, and channels trained (R133). -/
  spillFrames : Nat := 0
  chPresent : Nat := 0
  memFail : Bool := false
  deriving DecidableEq, Repr

/-! ### Mortar engines -/

/-- One open chunk (R152, R154): its element offset, its engine, and the operand bricks received by accelerator. -/
structure Chunk where
  off : Nat
  engine : Nat
  ops : List (Nat × List Byte) := []
  poison : Bool := false
  deriving DecidableEq, Repr

/-- One open collective (R155 to R161). -/
structure Coll where
  part : Nat
  id : Nat
  stream : Nat
  /-- The 64 bytes of its descriptor. -/
  desc : List Byte
  /-- The accelerators whose descriptors have arrived, one bit each. -/
  arrived : Nat := 0
  chunks : List Chunk := []
  /-- The operand bricks received: accelerator and offset. -/
  got : List (Nat × Nat) := []
  /-- Chunks delivered, the engine of the last one, and the flags of the status brick (R159). -/
  delivered : Nat := 0
  engine : Nat := 0
  sat : Bool := false
  poisoned : Bool := false
  deriving DecidableEq, Repr

/-- The stage of a self-test (R172, R201). -/
inductive StPhase where
  | none | draining | testing
  deriving DecidableEq, Repr

/-- A self-test rotation (R172, R201). -/
structure Rotation where
  phase : StPhase := .none
  /-- The unit under test, or the next to be tested. -/
  unit : Nat := 0
  skips : Nat := 0
  paused : Bool := false
  /-- Courses since the last start. -/
  count : Nat := 0
  deriving DecidableEq, Repr

/-- The mortar block (R152 to R176). -/
structure Mortar where
  colls : List Coll := []
  failed : Nat := 0
  /-- Engine domains that are on, one bit each. -/
  on : Nat := 0xFFFFFF
  st : Rotation := {}
  /-- For each partition, the highest SR_SEQ used in the job and the values marked (R166). -/
  srTop : Tbl Nat := []
  srUsed : Tbl (List Nat) := []
  deriving DecidableEq, Repr


/-! ### Samplers -/

/-- One open step (R177 to R179): its sampler, its stream, and what it read when it opened. -/
structure Step where
  smp : Nat
  part : Nat
  stream : Nat
  /-- The step counter value and the stream key it uses (R194). -/
  ctr : BitVec 64
  key : Nat
  /-- The program record and where it lies. -/
  prog : List Byte
  tile : Nat
  ofs : Nat
  /-- The tree: the parent and the token of each node (R190). -/
  nodes : List (Nat × Nat) := []
  /-- The count table's words and the bias list, as read at the opening (R187, R188). -/
  counts : List Nat := []
  bias : List (Nat × Nat) := []
  /-- The automaton state at the opening (R189). -/
  aut : Nat := 0
  /-- The logit bricks received: the set (with 128 added for a draft set), the offset, the data bytes. -/
  got : List (Nat × Nat × List Byte) := []
  /-- The accelerators that have sent a brick, one bit each, and the first of them. -/
  senders : Nat
  first : Nat
  /-- Set slots reserved (R178). -/
  sets : Nat
  deferred : Bool := false
  poison : Bool := false
  deriving DecidableEq, Repr

/-- The sampler block (R177 to R207). -/
structure Samplers where
  steps : List Step := []
  failed : Nat := 0
  /-- Sampler domains that are on, one bit each. -/
  on : Nat := 3
  st : Rotation := {}
  /-- A self-test slice is running, one has run in this course, and the slices of the test done (R202). -/
  inSlice : Bool := false
  sliced : Bool := false
  slices : Nat := 0
  /-- The streams whose next step a slice has held up, and the hods that arrived during the slice (R202). -/
  waiting : List Nat := []
  hodsHeld : Nat := 0
  /-- The states last recorded by events 0x0704 and 0x0705. -/
  slicing : Bool := false
  noneAvail : Bool := false
  deriving DecidableEq, Repr

/-! ### Streams, queues and jobs -/

/-- The states of a stream (R212). -/
inductive StreamState where
  | idle | ready | running | parked | draining | faulted
  deriving DecidableEq, Repr

/-- The state code of R212. -/
def StreamState.code : StreamState → Nat
  | .idle => 0 | .ready => 1 | .running => 2 | .parked => 3 | .draining => 4 | .faulted => 5

/-- A stream's context (R209), whether it is hot or cold. -/
structure Strm where
  st : StreamState := .idle
  reason : Nat := 0
  /-- The queue it was given, and the queue of its present dispatch (R216). -/
  queue : Option Nat := none
  onQueue : Nat := 0
  /-- The sampler program: tile and offset (R204). -/
  prog : Option (Nat × Nat) := none
  seed : BitVec 64 := 0
  /-- The step counter (R195). -/
  step : BitVec 64 := 0
  /-- The automaton state (R189). -/
  aut : Nat := 0
  /-- The last TOKEN payload (R199). -/
  last : List Byte := []
  /-- Event 0x0706 has been recorded for the stream (R187). -/
  cntFull : Bool := false
  /-- The user area, 32 bytes. -/
  user : List Byte := []
  /-- The sequence of its last dispatch (R221), which also orders the streams by last dispatch; 0 before any. -/
  dseq : Nat := 0
  /-- Steps ended since its dispatch or since its count restarted (R219). -/
  count : Nat := 0
  /-- Stages that have acknowledged its REVOKE, one bit each (R213). -/
  acks : Nat := 0
  hot : Bool := false
  deriving DecidableEq, Repr

/-- The state of a partition's job (R225). -/
inductive JobState where
  | none | running | ending
  deriving DecidableEq, Repr

/-- The stream block (R208 to R231). -/
structure Streams where
  strm : Tbl Strm := []
  /-- The READY streams of each queue, in FIFO order (R218). -/
  ready : Tbl (List Nat) := []
  /-- Dispatches since power-on reset (R221). -/
  dseq : Nat := 0
  /-- For each accelerator, the latency queue whose turn it is there, and its dispatches in this turn (R219). -/
  turns : Tbl (Nat × Nat) := []
  /-- Dispatches of each queue that ended while a stream waited, with no successor yet (R224). -/
  owed : Tbl Nat := []
  /-- Contexts evicted since the last boundary, which takes them to their tile (R210). -/
  evicted : List Nat := []
  /-- While a boundary's hods act, the streams' states when the ending course closed (R214). -/
  atClose : Option (Tbl StreamState) := none
  job : Tbl JobState := []
  jobNum : Tbl Nat := []
  /-- The rounding key of each partition's job (R166). -/
  srKey : Tbl Nat := []
  /-- The last boundary was a tray-wide job boundary (R226). -/
  jobBoundary : Bool := false
  /-- Queues last recorded as blocked, one bit each (R231). -/
  blocked : Nat := 0
  /-- Ports fenced since the last boundary, one bit each: their streams park at the next one (R213). -/
  fenced : Nat := 0
  /-- Streams of each partition that faulted in the drain (R231). -/
  drainFaults : Tbl Nat := []
  deriving DecidableEq, Repr

/-! ### Barriers and tallies -/

/-- A barrier that is not FREE (R234 to R237). -/
structure Barrier where
  pmask : Nat
  /-- E[0] to E[7], then E_HUB. -/
  expect : List Nat
  timeout : Nat
  align : Nat
  phase : BitVec 32 := 0
  /-- Arrivals counted in the phase: A0 to A7, then the hub. -/
  counts : List Nat := [0, 0, 0, 0, 0, 0, 0, 0, 0]
  /-- The first counted arrival of the phase: endpoint code and core. -/
  first : Option (Nat × Nat) := none
  deriving DecidableEq, Repr

/-- A tally that is not FREE (R241 to R245). -/
structure Tally where
  prod : Nat
  cons : Nat
  window : Nat
  alignBar : Nat
  timeout : Nat
  p : Nat := 0
  c : Nat := 0
  error : Bool := false
  /-- The pending WAIT_GE and WAIT_LE: ARG and core. -/
  ge : Option (Nat × Nat) := none
  le : Option (Nat × Nat) := none
  deriving DecidableEq, Repr

/-- The sync engine (R232 to R254): barriers and tallies by id, FREE where absent. -/
structure Sync where
  bar : Tbl (Option Barrier) := []
  tal : Tbl (Option Tally) := []
  deriving DecidableEq, Repr

/-! ### Hot-swap channels and the tray sequence -/

/-- The channel states (R296). -/
inductive ChState where
  | disabled | waitSeat | waitSlot | ramp | on | backoff | latched | held | cmdOff
  deriving DecidableEq, Repr

/-- The state code of R296. -/
def ChState.code : ChState → Nat
  | .disabled => 0 | .waitSeat => 1 | .waitSlot => 2 | .ramp => 3 | .on => 4 | .backoff => 5 | .latched => 6
  | .held => 7 | .cmdOff => 8

/-- One hot-swap channel, held in AON-FOOT (R292 to R305). -/
structure HsCh where
  st : ChState := .waitSeat
  cause : Nat := 0
  retries : Nat := 0
  seatA : Bool := false
  seatB : Bool := false
  ntcFault : Bool := false
  /-- ACCx_RST_L is asserted by the power path (R299). -/
  rst : Bool := true
  /-- The reset has been asserted since the port last reached ACTIVE, so that an image push is due (R470). -/
  fresh : Bool := true
  /-- The channel is LATCHED by a T_OFF whose reading has not yet come below T_OFF (R303). -/
  hot : Bool := false
  /-- HS_OFF or CH_CFG.EN = 0 has asserted the reset and the gate has yet to turn off (R296, R310). -/
  offPend : Bool := false
  /-- The SOA accumulator, in 10^-12 J (R304). -/
  soa : Nat := 0
  /-- CH_MEAS: current in 10 mA, source voltage in 10 mV (R311). -/
  cur : Nat := 0
  vsrc : Nat := 0
  sarFault : Bool := false
  /-- A tick goes out to the position: power-good held at the last boundary (R38). -/
  tick : Bool := false
  deriving DecidableEq, Repr

/-- The power path (R292 to R314). -/
structure HotSwap where
  /-- H8 and H9 count as seated (R292). -/
  ch : Tbl HsCh := [(8, { seatA := true, seatB := true, rst := false }), (9, { seatA := true, seatB := true, rst := false })]
  /-- SEQ_STATUS.STEP (R306). -/
  step : Nat := 0
  /-- A TRAY_SEQ UP is in progress. -/
  up : Bool := false
  /-- A TRAY_SEQ DOWN is in progress: gates yet to turn off, in order (R308). -/
  down : List Nat := []
  /-- The bus voltage in 10 mV, and whether it has been within limits for 50 ms (R302). -/
  vbus : Nat := 0
  busGood : Bool := false
  /-- FLOW_LOSS_L is asserted (R283), and H0 to H7 wait on its release timer. -/
  flowLoss : Bool := false
  /-- ACCx_STOP_L is asserted on all eight (R283). -/
  stop : Bool := false
  /-- The footing die asserts ACCx_THROT_L to every powered sled because the base die is unpowered (R24). -/
  baseThrot : Bool := false
  deriving DecidableEq, Repr

/-! ### Cooling and leaks -/

/-- One zone (R317 to R319). Duties are in 10^-6 %. -/
structure Zone where
  integ : Nat := 0
  target : Nat := 0
  full : Bool := false
  noInput : Bool := false
  /-- T_ZONE, in 0.125 °C. -/
  tz : Int := 0
  /-- Every valid input has stayed below T_HIGH − 2 °C since the last update boundary. -/
  stayed : Bool := true
  deriving DecidableEq, Repr

/-- The states of a cooling channel (R335). -/
inductive CoolState where
  | disabled | ok | failed | noBus | stopped
  deriving DecidableEq, Repr

def CoolState.code : CoolState → Nat
  | .disabled => 0 | .ok => 1 | .failed => 2 | .noBus => 3 | .stopped => 4

/-- One fan or pump channel (R315, R320 to R324). -/
structure CoolCh where
  st : CoolState := .ok
  cmd : Nat := 0
  target : Nat := 0
  /-- The last tach speed in rpm and flow in 0.01 L/min. -/
  tach : Nat := 0
  flow : Nat := 0
  /-- A change to FAILED, or back to OK, that takes effect at the next boundary (R324). -/
  pend : Option CoolState := none
  /-- The pump's flow warning is in force (R324). -/
  lowFlow : Bool := false
  deriving DecidableEq, Repr

/-- A leak rope, in AON-FOOT (R329 to R332). -/
structure Rope where
  /-- 0 DRY, 1 MOIST, 2 LEAK, 3 OPEN. -/
  st : Nat := 0
  res : Nat := 0
  /-- The last measurement was valid, and one has been valid since the rope's state began. -/
  seen : Bool := false
  known : Bool := false
  action : Bool := false
  /-- Measurements in a row that read DRY, up to 1,000 (10 s). -/
  dryRun : Nat := 0
  deriving DecidableEq, Repr

/-- Cooling (R315 to R338). -/
structure Cooling where
  liquid : Bool := false
  critSel : Nat := 0
  zone : Tbl Zone := []
  ch : Tbl CoolCh := []
  rope : Tbl Rope := []
  /-- Failed zone inputs, one bit each (R326, R328). -/
  fault : Nat := 0
  /-- The inputs' readings at the last telemetry close (R318): input and reading. -/
  snap : List (Nat × Int) := []
  /-- The course in progress began at an update boundary that made no zone updates: a start or a warm reset took its place
  (R318). -/
  zoneDue : Bool := false
  hostSilent : Bool := false
  fanFail : Bool := false
  /-- What pulls SYS_SHDN_L low: a critical comparator, or an external source (R327). -/
  shdnCrit : Bool := false
  shdnExt : Bool := false
  deriving DecidableEq, Repr

/-! ### Sensing -/

/-- One ADC channel in the footing die (R339 to R347). -/
structure AdcCh where
  seq : BitVec 6 := 0
  /-- The latest valid reading in engineering units; none before the first. -/
  reading : Option Int := none
  /-- The reason code of the latest settled word: 0 valid, 4 open, 5 short, 6 overrange, 7 converter fault. -/
  last : Nat := 1
  deriving DecidableEq, Repr

/-- The base die's mirror of one ADC channel (R348). -/
structure Mirror where
  word : Nat := 0
  valid : Nat := 0
  ts : BitVec 64 := 0
  deriving DecidableEq, Repr

/-- The visit in progress (R341, R344): channel, invalid samples left and their reason, valid samples left. -/
structure Visit where
  ch : Nat
  invalid : Nat
  reason : Nat
  valid : Nat
  gain : Nat
  filter : Nat
  deriving DecidableEq, Repr

/-- One die thermal sensor (R350). -/
structure Dts where
  reading : Int := 0
  fail : Bool := false
  deriving DecidableEq, Repr

/-- One voltage monitor (R351): reading in mV, the lowest and highest since its extremes were last read, and an excursion
in progress that has been recorded. -/
structure Vmon where
  mv : Nat := 0
  ext : Option (Nat × Nat) := none
  out : Bool := false
  deriving DecidableEq, Repr

/-- One process monitor (R352): normalised frequency, the shortfalls of the last 24 hours with the newest first, AGE_PPM,
the daily averages stored in flash with the oldest first, and TREND. -/
structure Pmon where
  khz : Nat := 0
  counts : List Int := []
  age : Int := 0
  days : List Int := []
  trend : Int := 0
  warned : Bool := false
  deriving DecidableEq, Repr

/-- The sensing block (R339 to R356). -/
structure Sense where
  adc : Tbl AdcCh := []
  mirror : Tbl Mirror := []
  visit : Option Visit := none
  /-- Enabled channels still to be visited in the frame, in ascending order. -/
  queue : List Nat := []
  /-- A converter fault is present, and it has lasted 50 ms (R347). -/
  fault : Bool := false
  adcFault : Bool := false
  /-- A calibration has succeeded since the fault; the scan in progress has had no reason-7 word. -/
  faultCal : Bool := false
  clean : Bool := false
  dts : Tbl Dts := []
  vmon : Tbl Vmon := []
  pm : Tbl Pmon := []
  deriving DecidableEq, Repr

/-! ### Governor -/

/-- Verified identity data of an accelerator (R260), or the fallback of R261. -/
structure Ident where
  verified : Bool := false
  ncores : Nat := 256
  /-- F_STEP in kHz. -/
  fStep : Nat := 12500
  ceil : List Nat := List.replicate 256 0x20
  fMin : Nat := 0x20
  fGuar : Nat := 0x20
  /-- The VF points: code and mV. -/
  vf : List (Nat × Nat) := [(0x20, 750)]
  vMin : Nat := 750
  vMax : Nat := 750
  pMax : Nat := 300
  pBase : Nat := 0
  iMax : Nat := 400
  tThrottle : Nat := 85
  tOff : Nat := 95
  deriving DecidableEq, Repr

/-- The fields of an accepted telemetry brick (R257). -/
structure Telem where
  phase : Nat := 0
  ts : BitVec 64 := 0
  energy : Nat := 0
  current : Nat := 0
  tj : Option Int := none
  progress : Nat := 0
  work : Nat := 0
  stageValid : Bool := false
  act : List Nat := []
  deriving DecidableEq, Repr

/-- A computed grant (R264, R278): chip voltage in 5 mV, core codes, the chip code, the power estimate in W, and the
course-based reasons. -/
structure Grant where
  vid : Nat := 0
  codes : List Nat := []
  code : Nat := 0
  alloc : Nat := 0
  reasons : Nat := 0
  deriving DecidableEq, Repr

/-- What the governor keeps for one accelerator. -/
structure GovAcc where
  ident : Ident := {}
  /-- The ceilings in effect, lowered by ageing reports (R263). -/
  ceil : List Nat := List.replicate 256 0x20
  /-- The last accepted telemetry, the one accepted in the course in progress, and the one before it. -/
  telem : Option Telem := none
  fresh : Bool := false
  prevEnergy : Option Nat := none
  stale : Bool := false
  staleRun : Nat := 0
  badTelem : Nat := 0
  /-- Progress, code and voltage of the last fresh course (R271). -/
  pr : Nat := 0
  f0 : Nat := 0
  v0 : Nat := 0
  /-- TL_a, in % of P_MAX (R269). -/
  tl : Nat := 100
  /-- The grant in effect, and the one computed for the next course; whether that one was handed over. -/
  grant : Grant := {}
  next : Option Grant := none
  sent : Bool := false
  latency : Bool := false
  critical : Bool := false
  phase : Nat := 0
  /-- Hardware reasons now: VR alert, diode over-temperature or failure (R284 to R286). -/
  vrWire : Bool := false
  vrForced : Bool := false
  diode : Bool := false
  diodesDead : Bool := false
  /-- Grants left in the VR hold (R284). -/
  vrHold : Nat := 0
  /-- REASON.LAST, and the reasons seen so far in the course (R280). -/
  last : Nat := 0
  seen : Nat := 1
  /-- The bits of the hardware forms and of reason 0 that were 0 at some time in the course (R281). -/
  gap : Nat := 0xFFFE
  /-- Energy window bins, the one in progress first and the others newest first: the energy in 10^-12 J and the length in µs of
  each; what missing bins hold, in W (R267). -/
  bins : List (Nat × Nat) := []
  fill : Nat := 0
  /-- Energy below one mJ, in 10^-12 J (R282). -/
  frac : Nat := 0
  /-- Measured sled power of the last close, in W. -/
  power : Nat := 0
  deriving DecidableEq, Repr

/-- The governor (R255 to R291). -/
structure Gov where
  acc : Tbl GovAcc := []
  /-- C and A of the last computation (R266). -/
  cap : Nat := 0
  budget : Nat := 0
  /-- The rack lease (R268): rounds left, and the budget. -/
  rounds : Nat := 0
  lease : Nat := 0
  /-- PWRGOV.RACK_BUDGET.WATTS: the R_C in effect (R268, R289, R441). -/
  rc : Nat := 0
  /-- The bins of the tray window, as an accelerator's; the courses in the bins in progress. -/
  bins : List (Nat × Nat) := []
  binCourses : Nat := 0
  /-- The power, in W, with which missing bins of the tray window are filled: WATTS at the restart (R267). -/
  fill : Nat := 15000
  /-- The energy of H8, H9 and the hub, in 10^-12 J, and the length, in µs, of the last 20 courses, newest first (R439). -/
  other : List (Nat × Nat) := []
  frac : Nat := 0
  deriving DecidableEq, Repr

/-! ### Host, SMBus and identity buses -/

/-- One identity memory as the hub last read it (R425 to R429): 0 absent, 1 pending, 2 valid, 3 unreadable or invalid. -/
structure IdMem where
  st : Nat := 0
  bytes : List Byte := []
  retries : Nat := 0
  deriving DecidableEq, Repr

/-- Hub sleep (R412, R422). -/
inductive Sleep where
  | awake | entering | asleep | exiting
  deriving DecidableEq, Repr

/-- An entry of an MSI-X table (R410): its mask, its Pending Bit, and how often its interrupt was sent. -/
structure Vec where
  masked : Bool := false
  pend : Bool := false
  sent : Nat := 0
  deriving DecidableEq, Repr

/-- The host interface, the SMBus target and the identity buses (R408 to R433). -/
structure Bus where
  /-- The MSI-X tables: the vectors, by 8 × function + vector (R410). -/
  irq : Tbl Vec := []
  linkUp : Bool := false
  rate : Nat := 0
  width : Nat := 0
  /-- NumVFs of PF0's SR-IOV capability (R409): no command of the table writes it, and a reset of PF0 clears it. -/
  numVfs : Nat := 0
  /-- Partitions a stream of which has faulted, one bit each, and those past a boundary (R410). -/
  vfFault : Nat := 0
  vfDue : Nat := 0
  smbAddr : Nat := 0
  hodDone : Bool := false
  pecErr : Bool := false
  cmdErr : Bool := false
  regAddr : Nat := 0
  hodPtr : Nat := 0
  /-- SMB_RST_L is asserted (R423). -/
  smbRst : Bool := false
  /-- Outbound MCTP packets, oldest first (R421), and the bus owner's address. -/
  out : List (List Byte) := []
  owner : Nat := 0
  /-- The bytes that the last read transfer returned, PEC included, and whether the last transfer met a NACK. -/
  rsp : List Byte := []
  nack : Bool := false
  /-- Identity memories by 128 × bus + address, and stuck buses, one bit each. -/
  mem : Tbl IdMem := []
  idFault : Nat := 0
  /-- PRSNTx_L and CBL_PRSNT[k]_L low, one bit each. -/
  sled : Nat := 0
  cable : Nat := 0
  sleep : Sleep := .awake
  /-- A wake came during entry; the SMBus target's clocks run. -/
  wake : Bool := false
  clocks : Bool := true
  deriving DecidableEq, Repr

/-! ### The rack chain -/

/-- The roles of R437. -/
inductive Role where
  | standalone | worker | standby | manager
  deriving DecidableEq, Repr

def Role.code : Role → Nat
  | .standalone => 0 | .worker => 1 | .standby => 2 | .manager => 3

/-- A REPORT as the manager holds it (R439). -/
structure Report where
  pos : Nat
  course : Nat
  demand : Nat
  floor : Nat
  vote : Nat
  deriving DecidableEq, Repr

/-- The rack chain (R434 to R453). -/
structure Rack where
  up : Bool := false
  dn : Bool := false
  hopUp : Nat := 0
  hopDn : Nat := 0
  pos : Nat := 0
  count : Nat := 0
  role : Role := .standalone
  enumerating : Bool := false
  /-- The last round received or sent (R438). -/
  course : Nat := 0
  epoch : Nat := 0
  mgrPos : Nat := 0
  state : Nat := 0
  sleepK : Nat := 0
  period : Nat := 0
  nextPeriod : Nat := 0
  periodAt : Nat := 0
  /-- The manager's DEMAND and BUDGET entries (R440), by position − 1. -/
  grant : Tbl (Nat × Nat) := []
  reports : List Report := []
  rejoinFail : Bool := false
  timeLost : Bool := false
  epochMis : Bool := false
  cfgMis : Bool := false
  /-- The hub runs on its local counter (R50); the offset to the manager's boundary in ns (R442). -/
  local_ : Bool := false
  ofs : Int := 0
  aligned : Bool := false
  /-- ROUNDS_LEFT fell at the last boundary that is a multiple of 20: a round of that boundary that holds it gives it back
  (R443). -/
  fell : Bool := false
  /-- This hub's course number when it last heard a round, or took its role (R437, R445). -/
  heard : Nat := 0
  /-- A pulse from the manager's side has come in the course in progress (R442). -/
  pulsed : Bool := false
  /-- The manager's course number less this hub's, once a round lets it rejoin (R444). -/
  rejoin : Option Int := none
  /-- The adjusted course of a rejoin is in progress, and takes this number at its end. -/
  jump : Option Nat := none
  /-- A ROLE_REQ of this hub waits (R445), and the next manager to name (R446). -/
  asking : Bool := false
  handover : Nat := 0
  /-- This hub's vote for the proposal (R448). -/
  vote : Nat := 0
  /-- RACK_SLEEP has asked for an agreement that the next round proposes. -/
  propose : Bool := false
  /-- A period announced by the manager, with its course (R438). -/
  pending : Option (Nat × Nat) := none
  /-- Frames sent in this course: toward downstream, TYPE, DST, payload. -/
  sent : List (Bool × Nat × Nat × List Byte) := []
  deriving DecidableEq, Repr

/-! ### Firmware -/

/-- What the hub keeps of an image header (R460). -/
structure Image where
  slot : Bool := false
  major : Nat := 0
  minor : Nat := 0
  svn : Nat := 0
  epoch : Nat := 0
  epochMin : Nat := 0
  jpIf : Nat := 0
  emuVer : Nat := 0
  /-- The digest recorded when the region was loaded (R455). -/
  digest : List Byte := []
  deriving DecidableEq, Repr

/-- A boot-control record (R458): sequence and the active slot and copies, B when true. -/
structure Bcr where
  seq : Nat
  hub : Bool
  ac0 : Bool
  ac1 : Bool
  deriving DecidableEq, Repr

/-- The management core: before ROM_BOOT, handed over and not yet kicked, running, in kiln mode. -/
inductive CorePhase where
  | off | handover | up | kiln
  deriving DecidableEq, Repr

/-- A pending activation (R465, R467, R473). -/
structure Activation where
  kind : Nat
  target : Nat
  mask : Nat
  deriving DecidableEq, Repr

/-- The push to one accelerator (R470 to R472): FW.ACC_STATUS's state, retries used, the copy pushed, the length, CRC and
BODY_DIGEST of its body, and whether the hash of the bytes read equalled the digest. -/
structure Push where
  st : Nat := 0
  retries : Nat := 0
  copy : Bool := false
  len : Nat := 0
  crc : Nat := 0
  digest : List Byte := []
  good : Bool := true
  /-- ACCx_RST_L is held for the 1 ms pulse (R472, R473). -/
  pulse : Bool := false
  deriving DecidableEq, Repr

/-- Firmware, boot and update (R454 to R477). -/
structure Fw where
  phase : CorePhase := .off
  /-- FW.BOOT (R476). -/
  cause : Nat := 0
  trial : Bool := false
  slot : Bool := false
  restarts : Nat := 0
  kilnCause : Nat := 0
  /-- The image of the running region, a staged one, and the previous one during a trial. -/
  run : Option Image := none
  stage : Option Image := none
  prev : Option Image := none
  /-- The copies of the boot-control record, none where a copy is not valid. -/
  bcr0 : Option Bcr := none
  bcr1 : Option Bcr := none
  /-- The ROM ran the other slot after a crash loop (R456). -/
  fellBack : Bool := false
  /-- The ROM ran a slot that the record does not name, and firmware has yet to write a record naming it (R459). -/
  bootRec : Bool := false
  /-- Where the next write of each target must start: 0 and 1 the hub slots, 4 to 7 the accelerator copies. -/
  cursor : Tbl (Option Nat) := []
  /-- The last verdict of each target plus one; 0 before any. -/
  verdict : Tbl Nat := []
  pend : Option Activation := none
  /-- The running job-plane module and one partly loaded (R468). -/
  jp : Option (List Byte) := none
  jpPart : Option (List Byte) := none
  /-- A module that starts at the next boundary. -/
  jpNext : Option (List Byte) := none
  acc : Tbl Push := []
  /-- Firmware has verified the copies in use, so that pushes may start (R470). -/
  checked : Bool := false
  deriving DecidableEq, Repr

/-- Kiln mode (R463). -/
def Fw.kiln (f : Fw) : Bool := f.phase == .kiln

/-! ### Fuses -/

/-- The one-time-programmable cells (R480, R481): revoked image keys, the owner keys, the debug key and the anti-rollback
count. -/
structure Otp where
  revoked : Nat := 0
  ok0 : Option (List Byte) := none
  ok1 : Option (List Byte) := none
  dk : Option (List Byte) := none
  arb : Nat := 0
  deriving DecidableEq, Repr

/-! ### Security -/

/-- An SPDM session (R482): its id, its binding, and whether its handshake is complete. -/
structure Session where
  id : Nat
  pcie : Bool
  open_ : Bool := false
  /-- Key updates made, and messages under the present keys. -/
  keys : Nat := 0
  seq : Nat := 0
  deriving DecidableEq, Repr

/-- The security block (R478 to R499). -/
structure Sec where
  /-- SEC.DEBUG: the level and the duration it was given for (R492, R493). -/
  level : Nat := 0
  dur : Nat := 0
  /-- The time since the level took effect, and since the challenge was given, in µs. -/
  spent : Nat := 0
  asked : Nat := 0
  /-- The level byte of the Alias key in use (R478). -/
  alias_ : Nat := 0
  /-- A challenge valid for one attempt, by its draw (R493). -/
  challenge : Option Nat := none
  /-- A level that takes effect at the next boundary: level, duration, requester and key. -/
  next : Option (Nat × Nat × Nat × Nat) := none
  /-- The DRBG runs, and the requests since it was last seeded (R489). -/
  rng : Bool := true
  drawn : Nat := 0
  /-- The SPDM connection of each binding: 0 none, 1 version, 2 capabilities, 3 algorithms; SMBus then PCIe. -/
  conn : Tbl Nat := []
  sessions : List Session := []
  sessionId : Nat := 0
  /-- The number of each partition's spill key set, and the partitions that lack one (R491). -/
  keySet : Tbl Nat := []
  keyLack : Nat := 0
  /-- The leaf certificate's digest and key of the endpoint of each port (R483, R486). -/
  leaf : Tbl (List Byte) := []
  leafKey : Tbl (List Byte) := []
  /-- BODY_DIGEST confirmed at IMAGE_GO, by accelerator (R483). -/
  image : Tbl (List Byte) := []
  /-- The instruction in the JTAG port, and what its data register captured (R492). -/
  jtag : JtagInstr := .idcode
  tdo : Nat := 0
  deriving DecidableEq, Repr

/-! ### Safety, package and clocks -/

/-- The safety block (R530 to R533). -/
structure Safety where
  /-- Accelerators fenced whose leases await the next boundary, one bit each. -/
  leasePending : Nat := 0
  /-- The faults whose recovery is in progress, and whether another began meanwhile (R522): ports 0 to 7, 8 the management
  core. -/
  faults : List (Nat × Bool) := []
  dataLast : Nat := 0
  dataMax : Nat := 0
  mgmtLast : Nat := 0
  mgmtMax : Nat := 0
  deriving DecidableEq, Repr

/-- Thermal protection, clocks and supplies (R541 to R552). -/
structure Therm where
  throt : Bool := false
  causeTj : Bool := false
  causeVr : Bool := false
  /-- HUB_THERMTRIP_L is latched in AON-FOOT, by this sensor at this reading (R545). -/
  tripLatch : Bool := false
  tripSensor : Nat := 0
  tripReading : Int := 0
  /-- A trip has happened since the last start. -/
  tripped : Bool := false
  refclkLost : Bool := false
  subst : Bool := false
  /-- The crystal has been lost and not restored (R549). -/
  xtalLost : Bool := false
  /-- The base-die supplies and VIN_AUX are within their ranges. -/
  supply : Bool := true
  aux : Bool := true
  /-- VIN_AUX was lost since the last start (R502). -/
  auxLost : Bool := true
  straps : Straps := {}
  deriving DecidableEq, Repr
/-! ### The whole machine -/


/-- The hub (both dies) but for its large memories and its fuses. -/
structure Hub where
  /-- Stored bits of every register, by BAR0 offset; an unlisted register holds its reset value. -/
  regs : Tbl Word := []
  /-- The 64-bit counters, by the offset of their low half. -/
  ctrs : Tbl Ctr := []
  /-- The model's own counter of free values, no state of the spec's. -/
  free : Nat := 0
  /-- The base die is out of power-on reset. -/
  up : Bool := false
  crs : Courses := {}
  ev : Evrec := {}
  hods : Hods := {}
  rb : RegBlock := {}
  fab : Fabric := {}
  tile : Tiles := {}
  mortar : Mortar := {}
  smp : Samplers := {}
  str : Streams := {}
  sync : Sync := {}
  hs : HotSwap := {}
  cool : Cooling := {}
  sense : Sense := {}
  gov : Gov := {}
  bus : Bus := {}
  rack : Rack := {}
  fw : Fw := {}
  sec : Sec := {}
  safety : Safety := {}
  therm : Therm := {}
  deriving DecidableEq, Repr

/-- The byte memories (R119, R133, R457): tile SRAM and spill memory by physical address, and the boot flash. A byte that
nothing has written reads zero in the first two; the flash is kept inverted, so that an unwritten byte reads 0xFF. -/
structure Memories where
  tile : Mem := []
  spill : Mem := []
  flash : Mem := []
  deriving DecidableEq, Repr

/-- The device: hub, memories and fuses. -/
structure Dev where
  hub : Hub := {}
  mem : Memories := {}
  otp : Otp := {}
  deriving DecidableEq, Repr

/-- The machine: the commands that wait, first in first out, and the device. -/
structure State where
  pending : List Instr := []
  dev : Dev := {}
  deriving DecidableEq, Repr

/-- The machine right after reset: VIN_AUX has risen with the footing-die straps at 0, the footing die runs, and the base
die is held in power-on reset, every register at its reset value (R376), every channel in WAIT_SEAT (R313). With COOL_MODE at
0, H8 and the pumps are not enabled (R306, R335), and ACCx_THROT_L is asserted to every powered sled (R24). -/
def State.reset : State :=
  { dev := { hub := {
      regs := [(0xB09000, 0x3014140A#32), (0xC0D000, 0x0A100BB8#32), (0xC0E000, 0x0A100BB8#32)]
      hs := { baseThrot := true } } } }

end Sys2Proof.Machine
end

