-- ==== Sys2Proof/Machine/Ops.lean ====
section
/-!
DEFINITION. Machine/Ops.lean: the named operations that the meanings share: registers and their fields, 64-bit
counters, free values, event records, bricks and what a unit does to send one.
-/
namespace Sys2Proof.Machine

/-! ### Registers -/

/-- The offset `a` lies in a row of the register map. -/
def RegRow.has (r : RegRow) (a : Nat) : Bool :=
  (List.range r.n1).any fun i =>
    let o := r.base + i * r.s1
    decide (o ≤ a) && (if r.n2 = 1 then decide (a = o) else
      decide ((a - o) % r.s2 = 0) && decide ((a - o) / r.s2 < r.n2))

/-- COOL.CH_SKIP of the pumps and COOL.CH_FLOW of the fans: they read 0 and ignore writes (R334). -/
def absentReg (a : Nat) : Bool :=
  let c := a / 0x1000 - 0xC01
  decide (0xC01000 ≤ a ∧ a < 0xC0F000) &&
    (decide (12 ≤ c ∧ 0x10 ≤ a % 0x1000 ∧ a % 0x1000 < 0x20) || decide (c < 12 ∧ a % 0x1000 = 0x20))

/-- The row of an offset; none where it is reserved or unmapped (R360). -/
def findRow (a : Nat) : Option RegRow := if absentReg a then none else if a % 4 = 0 then regMap.find? (fun r => r.has a) else none

/-- The bits of a row's fields that satisfy `p`. -/
def RegRow.mask (r : RegRow) (p : Field → Bool) : Nat :=
  r.fields.foldl (fun m f => if p f then m ||| maskBits f.hi f.lo else m) 0

/-- The reset value of a row: each field's own. -/
def RegRow.resetVal (r : RegRow) : Nat :=
  r.fields.foldl (fun m f => m + f.reset * 2 ^ f.lo) 0

/-- Registers whose reset value differs from their array's: R230 (PT0's streams and contexts), R253 (PT0's objects),
R335 (zones other than Z0, pumps), R355 (gain of channels 8 to 23). -/
def resetExcept (a : Nat) : Option Nat :=
  if a = 0x800040 then some 0x82000000
  else if a = 0x800060 then some 0x020003FF
  else if a = 0x900040 then some 0x10000000
  else if a = 0x900060 then some 0x40000000
  else if 0xC00014 ≤ a ∧ a < 0xC00030 then some 0x3E84B230
  else if 0xC00054 ≤ a ∧ a < 0xC00070 then some 0
  else if 0xC00074 ≤ a ∧ a < 0xC00090 then some 0
  else if a = 0xC0D000 ∨ a = 0xC0E000 then some 0x8A100BB8
  else if 0xE00120 ≤ a ∧ a < 0xE00160 ∧ a % 4 = 0 then some 0x80000020
  else none

/-- The reset value of a register. -/
def regReset (a : Nat) : Word :=
  match resetExcept a with
  | some v => BitVec.ofNat 32 v
  | none =>
    match findRow a with
    | some r => BitVec.ofNat 32 r.resetVal
    | none => 0

/-- The value in effect of a register's stored bits (R11): a CB read returns this one. -/
def Hub.reg (h : Hub) (a : Nat) : Nat := (Tbl.get (regReset a) h.regs a).toNat

/-- The hub with a register's stored bits set. -/
def Hub.setReg (h : Hub) (a v : Nat) : Hub :=
  { h with regs := h.regs.set (regReset a) a (BitVec.ofNat 32 v) }

/-- A field of a register's value in effect. -/
def Hub.fld (h : Hub) (a hi lo : Nat) : Nat := bits (h.reg a) hi lo

/-- One bit of a register's value in effect. -/
def Hub.bitAt (h : Hub) (a i : Nat) : Bool := (h.reg a).testBit i

/-- The hub with one field of a register set. -/
def Hub.setFld (h : Hub) (a hi lo v : Nat) : Hub := h.setReg a (putBits (h.reg a) hi lo v)

/-- The hub with a status bit set by its source. -/
def Hub.flag (h : Hub) (a i : Nat) : Hub := h.setReg a (h.reg a ||| 2 ^ i)

/-- The hub with a status bit set when `c`. -/
def Hub.flagIf (h : Hub) (c : Bool) (a i : Nat) : Hub := if c then h.flag a i else h

/-! ### Counters and free values -/

/-- A 64-bit counter, by the offset of its low half. -/
def Hub.ctr (h : Hub) (a : Nat) : Ctr := Tbl.get {} h.ctrs a

/-- A counter advanced by `n`, setting its wrap flag when it passes its top (R363). -/
def Ctr.add (c : Ctr) (n : Nat) : Ctr :=
  { val := c.val + BitVec.ofNat 64 n, wrap := c.wrap || decide (2 ^ 64 ≤ c.val.toNat + n) }

/-- The hub with a counter advanced. -/
def Hub.bump (h : Hub) (a : Nat) (n : Nat := 1) : Hub :=
  { h with ctrs := h.ctrs.set {} a ((h.ctr a).add n) }

/-- The hub with a counter back at zero. -/
def Hub.zeroCtr (h : Hub) (a : Nat) : Hub := { h with ctrs := h.ctrs.erase a }

/-- The hub past one use of a free value. -/
def Hub.tick (h : Hub) : Hub := { h with free := h.free + 1 }

/-- The offsets that the course in progress has, in 16 ns units: those before its end (R48). The single adjusted course of a
rack rejoin lasts up to 20 µs longer than the period (R444). -/
def Courses.units (c : Courses) (adjusted : Bool) : Nat := ((c.period + if adjusted then 20 else 0) * 125 + 1) / 2

/-- The offset into the course in progress, as TOP.CRS_OFFSET reads it: a free value below the course's length (R48). -/
def Hub.offsetNow (h : Hub) : Nat := (Config.offset h.free).toNat % max 1 (h.crs.units h.rack.jump.isSome)

/-- The timestamp of this moment (R48): the course and a free offset into it. -/
def Hub.stamp (h : Hub) : Nat := h.crs.count.toNat * 2 ^ 16 + h.offsetNow

/-! ### Encoding of hod fields and event payloads (R388) -/

/-- An offset rounded up to a multiple of `w`. -/
def alignUp (o w : Nat) : Nat := (o + w - 1) / w * w

/-- One field appended at its alignment. -/
def Arg.put (acc : List Byte) : Arg → List Byte
  | .u8 v => acc ++ leBytes 1 v
  | .u16 v => padTo (alignUp acc.length 2) acc ++ leBytes 2 v
  | .u32 v => padTo (alignUp acc.length 4) acc ++ leBytes 4 v
  | .u64 v => padTo (alignUp acc.length 8) acc ++ leBytes 8 v
  | .list w vs =>
    let a := padTo (alignUp acc.length 2) acc ++ leBytes 2 vs.length
    vs.foldl (fun b v => padTo (alignUp b.length w) b ++ leBytes w v) a
  | .block bs =>
    let a := padTo (alignUp acc.length 2) acc ++ leBytes 2 bs.length
    padTo (alignUp a.length 16) a ++ bs
  | .record bs => padTo (alignUp acc.length 4) acc ++ padTo (alignUp bs.length 4) bs

/-- Fields encoded in order, the whole rounded up to a multiple of 4 (R388). -/
def encodeArgs (as : List Arg) : List Byte :=
  let b := as.foldl Arg.put []
  padTo (alignUp b.length 4) b

/-! ### Event records (R500 to R516) -/

/-- The severity of an event code (R515). -/
def severity (c : Nat) : Nat :=
  if [0x0111, 0x0112, 0x0113, 0x0A01, 0x0A02, 0x0A03, 0x0A04, 0x0A0A, 0x0B0A, 0x0C04, 0x0D02, 0x0E01].contains c
    || c / 256 == 0x15 then 3
  else if [0x0201, 0x0205, 0x020A, 0x0302, 0x0402, 0x0403, 0x0501, 0x0503, 0x0602, 0x0702, 0x0801, 0x0902, 0x0903,
    0x0A06, 0x0A09, 0x0B02, 0x0B03, 0x0B07, 0x0B08, 0x0B09, 0x0C01, 0x0C02, 0x0E06, 0x0F01, 0x0F02, 0x1003,
    0x1104, 0x1105, 0x1107, 0x1108, 0x1202, 0x1203, 0x1207, 0x1208, 0x1306, 0x1403, 0x1406].contains c then 2
  else if [0x0110, 0x0203, 0x0204, 0x0206, 0x0207, 0x0209, 0x020C, 0x020D, 0x0301, 0x0303, 0x0404, 0x0405,
    0x0601, 0x0603, 0x0701, 0x0703, 0x0705, 0x0706, 0x0805, 0x0806, 0x0807, 0x0901, 0x0904, 0x0A05, 0x0A08,
    0x0B06, 0x0C03, 0x0C05, 0x0C06, 0x0C07, 0x0D01, 0x0D03, 0x0E02, 0x0E03, 0x0E04, 0x0E05, 0x0F03, 0x0F04,
    0x0F05, 0x0F06, 0x0F07, 0x0F08, 0x0F09, 0x1004, 0x1005, 0x1006, 0x1008, 0x1102, 0x1103, 0x1204, 0x1206,
    0x1303, 0x1304, 0x1305, 0x1401, 0x1402].contains c then 1
  else 0

/-- The record may use the 16 reserved entries of the shadow (R504): severity 3, or a code that its chapter enters in
the always-on shadow (R476 for 0x1203 and 0x1204, R499 for 0x1304 and 0x1305). -/
def reservedEntry (code : Nat) : Bool :=
  severity code == 3 || [0x1203, 0x1204, 0x1304, 0x1305].contains code

/-- The shadow has an entry open to a record of this code (R504). -/
def Evrec.open_ (e : Evrec) (code : Nat) : Bool :=
  decide (e.shadow.length < 64) && (reservedEntry code ||
    decide ((e.shadow.filter (fun r => !reservedEntry r.code)).length < 48))

/-- The counter of records dropped in a scope (R506): 0 is tray-wide, p + 1 is PTp. -/
def dropCtr (scope : Nat) : Nat := 0x1400020 + 8 * scope

/-- The requester that an event's payload names (R314, R337, R381, R407, R476, R499): its place among the fields. -/
def requesterAt (code : Nat) : Option Nat :=
  if [0x0F05, 0x0F06, 0x0F07, 0x0F08, 0x0F09].contains code then some 0
  else if [0x0B04, 0x0D04, 0x0F03, 0x0F04, 0x1203].contains code then some 1
  else if code = 0x1305 then some 2
  else none

/-- The REQUESTER field of a record (R500): the requester that its payload names, else 0xFF. -/
def requesterOf (code : Nat) (pl : List Arg) : Nat :=
  match (requesterAt code).bind (pl[·]?) with
  | some (.u8 v) => v
  | _ => 0xFF

/-- A record of an event of scope `part` (0xFF for tray-wide), with its payload fields. -/
def Hub.mkRec (h : Hub) (code : Nat) (pl : List Arg) (part req : Nat) : Rec :=
  { seq := Tbl.get 0 h.ev.seq (if part < 8 then part + 1 else 0), course := h.crs.count,
    wallOfs := if h.ev.wallRef.isSome then (Config.wallMs h.free).zeroExtend 32 else 0, code, sev := severity code,
    req := if req = 0xFF then requesterOf code pl else req, wallValid := h.ev.wallRef.isSome, part, payload := padTo 32 (encodeArgs pl) }

/-- A function raises an MSI-X vector (R410): it is sent, or, while masked, sets its Pending Bit. PF0 is function 0, VFn is n. -/
def Hub.irq (h : Hub) (fn v : Nat) : Hub :=
  { h with bus := { h.bus with irq := h.bus.irq.upd {} (8 * fn + v) fun e =>
      if e.masked then { e with pend := true } else { e with sent := e.sent + 1 } } }

/-- An event: its record enters the shadow, or is dropped and counted (R500 to R506); at or above INT_SEV it raises
PF0 vector 1 (R515), and a safety event raises vector 2 (R27, R410). -/
def Hub.event (h : Hub) (code : Nat) (pl : List Arg) (part : Nat := 0xFF) (req : Nat := 0xFF) : Hub :=
  let scope := if part < 8 then part + 1 else 0
  let r := h.mkRec code pl part req
  let ok := !h.ev.full && h.ev.open_ code
  let h := { h with
    free := h.free + 1
    ev := { h.ev with
      seq := Tbl.upd 0 h.ev.seq scope (· + 1)
      shadow := if ok then h.ev.shadow ++ [r] else h.ev.shadow
      footCount := if ok then h.ev.footCount.map (· + 1) else h.ev.footCount } }
  let h := if h.fld 0x1400004 1 0 ≤ severity code then h.irq 0 1 else h
  let h := if severity code = 3 then h.irq 0 2 else h
  if ok then h else h.bump (dropCtr scope)

/-- An event that a rule allows at most once a course for an object. -/
def Hub.eventOnce (h : Hub) (code obj : Nat) (pl : List Arg) (part : Nat := 0xFF) (req : Nat := 0xFF) : Hub :=
  if h.ev.once.contains (code, obj) then h
  else ({ h with ev := { h.ev with once := (code, obj) :: h.ev.once } }).event code pl part req

/-! ### Bricks -/

/-- The brick types (R71). -/
inductive BT where
  | idle | nak | credit | readReq | write | readResp | writeCpl | mortarDesc | mortarOpnd | mortarRslt
  | logits | token | barrierArrive | barrierRelease | tally | syncError | telemetry | grant | image | mgmt | act
  deriving DecidableEq, Repr

/-- The TYPE code of R71. -/
def BT.code : BT → Nat
  | .idle => 0x00 | .nak => 0x01 | .credit => 0x02 | .readReq => 0x08 | .write => 0x09 | .readResp => 0x0C
  | .writeCpl => 0x0D | .mortarDesc => 0x10 | .mortarOpnd => 0x11 | .mortarRslt => 0x12 | .logits => 0x18
  | .token => 0x19 | .barrierArrive => 0x20 | .barrierRelease => 0x21 | .tally => 0x22 | .syncError => 0x23
  | .telemetry => 0x28 | .grant => 0x29 | .image => 0x2A | .mgmt => 0x2B | .act => 0x30

/-- The brick type that a TYPE code names; none where it is undefined. -/
def BT.ofCode (c : Nat) : Option BT :=
  [BT.idle, .nak, .credit, .readReq, .write, .readResp, .writeCpl, .mortarDesc, .mortarOpnd, .mortarRslt, .logits,
   .token, .barrierArrive, .barrierRelease, .tally, .syncError, .telemetry, .grant, .image, .mgmt, .act].find?
    (fun t => t.code == c)

/-- The virtual channels a type is allowed on (R71); any for the link's own types. -/
def BT.vcs : BT → List Nat
  | .idle | .nak | .credit => [0, 1, 2, 3, 4, 5, 6, 7]
  | .readReq | .write => [0, 5]
  | .readResp | .writeCpl => [1, 5]
  | .mortarDesc | .mortarOpnd | .mortarRslt => [2]
  | .logits => [0]
  | .token => [1]
  | .barrierArrive | .barrierRelease | .tally | .syncError => [3]
  | .telemetry | .grant | .image | .mgmt => [4]
  | .act => [0]

def Brick.bt (b : Brick) : Option BT := BT.ofCode b.typ.toNat

/-- The brick is of a type. -/
def Brick.is (b : Brick) (t : BT) : Bool := b.typ.toNat == t.code

/-- Header words W0 to W4 in wire order, 20 bytes (R66, R84). -/
def Brick.head20 (b : Brick) : List Byte :=
  beBytes 4 (b.typ.toNat * 2 ^ 26 + b.vc.toNat * 2 ^ 23 + b.part.toNat * 2 ^ 20 + b.stream.toNat * 2 ^ 7 +
    b2n b.grouted * 64 + b2n b.ackValid * 32 + b2n b.first * 16 + b2n b.last * 8 + b2n b.keySlot * 4 +
    b2n b.retry * 2 + b2n b.poison) ++
  beBytes 4 (b.dst.toNat * 2 ^ 24 + b.src.toNat * 2 ^ 16 + b.grout.toNat * 2 ^ 8 + b.crVc.toNat * 32 + b.crCnt.toNat) ++
  beBytes 4 b.seq.toNat ++
  beBytes 4 (b.ack.toNat * 2 ^ 16 + b.addr.toNat / 2 ^ 32) ++
  beBytes 4 (b.addr.toNat % 2 ^ 32)

/-- The 280 bytes that the CRC-64 covers, in wire order (R68). -/
def Brick.wire (b : Brick) : List Byte := b.head20 ++ beBytes 4 b.tagLo.toNat ++ padTo 256 b.payload

/-- The CRC-64 of a brick on a plain port (R68). -/
def Brick.crc (b : Brick) : BitVec 64 := BitVec.ofNat 64 (crc64 b.wire)

/-- The data bytes: the payload without its grout (R67). -/
def Brick.data (b : Brick) : List Byte := padTo (256 - b.grout.toNat) b.payload

/-- A brick with `p` as its data, the rest of the payload being grout (R67). -/
def mkBrick (t : BT) (vc part stream dst src : Nat) (p : List Byte) : Brick :=
  let g := if p.isEmpty then 0 else 256 - min 256 p.length
  { typ := BitVec.ofNat 6 t.code, vc := BitVec.ofNat 3 vc, part := BitVec.ofNat 3 part,
    stream := BitVec.ofNat 13 stream, grouted := g ≠ 0, first := true, last := true, dst := BitVec.ofNat 8 dst,
    src := BitVec.ofNat 8 src, grout := BitVec.ofNat 8 g, payload := padTo 256 p }

/-! ### Ports -/

/-- A port of the hub. -/
def Hub.port (h : Hub) (x : Nat) : Port := Tbl.get {} h.fab.port x

/-- The hub with a port changed. -/
def Hub.updPort (h : Hub) (x : Nat) (f : Port → Port) : Hub :=
  { h with fab := { h.fab with port := h.fab.port.upd {} x f } }

/-- The port registers of Ux (R92). -/
def portReg (x o : Nat) : Nat := 0x201000 + 0x1000 * x + o

/-- The port is ACTIVE, in RETRAIN, or in a SEAL_SYNC that it entered from RETRAIN (R556). -/
def Port.up (p : Port) : Bool :=
  p.st == .active || p.st == .retrain || (p.st == .sealSync && p.fromRetrain)

/-- The port is FENCED or FAILED. -/
def Port.fenced (p : Port) : Bool := p.st == .fenced || p.st == .failed

/-- The port is fenced or untrained, so that bricks toward it are discarded (R105). -/
def Port.closed (p : Port) : Bool := !p.up

/-- A partition that accelerator x belongs to (R103). -/
def Hub.member (h : Hub) (x part : Nat) : Bool := h.bitAt (0x300100 + 4 * x) part

/-- The virtual channel of the reply to a request (R102): VC1 for VC0, VC5 for VC5. -/
def pairVc (vc : Nat) : Nat := if vc = 5 then 5 else 1

/-- The hub with a brick queued toward a port that is up. -/
def Hub.enqueue (h : Hub) (x src : Nat) (b : Brick) : Hub :=
  h.updPort x (fun p => { p with egress := p.egress ++ [(src, b)] })

/-- A poisoned reply (R102): to the sender at port x, with the request's partition, stream and address. -/
def poisonReply (x : Nat) (b : Brick) : Brick :=
  let t := if b.is .readReq then BT.readResp else .writeCpl
  { mkBrick t (pairVc b.vc.toNat) b.part.toNat b.stream.toNat x 0xC0 [] with poison := true, addr := b.addr }

/-- A fault of a class of R521 begins. While the recovery of another is in progress it sets MULTI_FAULT, and event 0x1503 names
the first fault and this one (R522). The codes are the model's (log entry 48): 0 to 7 a port, 8 the management core, 9 a self-test
that failed, 10 an uncorrectable word, 11 a sensor, 12 a fan or pump, 13 a hot-swap trip, 14 the SMBus, 15 an identity bus, 16 the
log flash, 17 a chain link. -/
def Hub.faultMet (h : Hub) (code : Nat) : Hub :=
  match h.safety.faults with
  | [] => h
  | (c, _) :: _ =>
    let h := { h with safety := { h.safety with faults := h.safety.faults.map (fun e : Nat × Bool => (e.1, true)) } }
    (h.flag 0x1500000 8).event 0x1503 [.u8 c, .u8 code]

/-- A discarded brick toward a closed port (R105), counted for the fence. -/
def Hub.dropAt (h : Hub) (x : Nat) : Hub :=
  (h.bump (0x300020 + 8 * x)).updPort x (fun p => { p with fenceDrops := p.fenceDrops + 1 })

/-- A brick from a unit of the hub toward accelerator x: queued, or discarded where the port is closed (R105). -/
def Hub.send (h : Hub) (x src : Nat) (b : Brick) : Hub :=
  if (h.port x).closed then h.dropAt x else h.enqueue x src b

/-- Bricks sent in order. -/
def Hub.sendAll (h : Hub) (x src : Nat) (bs : List Brick) : Hub := bs.foldl (fun h b => h.send x src b) h

/-- A message cut into bricks of at most 256 data bytes: FIRST on the first, LAST on the last (R66). -/
def mkBricks (t : BT) (vc part stream dst src addr : Nat) (p : List Byte) : List Brick :=
  let n := max 1 (divUp p.length 256)
  (List.range n).map fun k =>
    { mkBrick t vc part stream dst src ((p.drop (256 * k)).take 256) with
      first := k == 0, last := k + 1 == n, addr := BitVec.ofNat 48 addr }

/-- A brick to 0xF0 (R103): to every accelerator of the brick's partition whose port is neither fenced nor untrained. -/
def Hub.broadcast (h : Hub) (src : Nat) (b : Brick) : Hub :=
  (List.range 8).foldl (fun h x =>
    if h.member x b.part.toNat && (h.port x).up then h.enqueue x src { b with dst := 0xF0 } else h) h

/-- The poisoned reply to a READ_REQ, or to the LAST brick of a WRITE, goes to its sender and is counted (R102). -/
def Hub.replyPoison (h : Hub) (x : Nat) (b : Brick) : Hub :=
  if b.is .readReq || (b.is .write && b.last) then (h.send x 0xC0 (poisonReply x b)).bump 0x300018 else h

/-! ### Bricks waiting at the hub's units -/

/-- The oldest brick at a unit, from a port, of a type; with the inbox without it. -/
def takeFirst (p : InItem → Bool) : List InItem → Option (InItem × List InItem)
  | [] => none
  | i :: is => if p i then some (i, is) else (takeFirst p is).map (fun r => (r.1, i :: r.2))

/-- The receive credits that the hub advertises for each VC on every port (R78). A VC's credits are its own. -/
def hubCredits (vc : Nat) : Nat := [128, 512, 1024, 64, 64, 512].getD vc 0

/-- A receive credit to return to the endpoint of port x on a VC, its buffer being free (R77): what the endpoint holds and
what is due back never exceed what the hub advertised (R78). -/
def Hub.owe (h : Hub) (x vc : Nat) : Hub :=
  h.updPort x (fun p => { p with
    owed := p.owed.upd 0 vc fun n => min (n + 1) (hubCredits vc - p.rxCredit.get 0 vc) })

/-- The oldest brick from port x of a type at a unit is taken from its buffer, and its credit falls due. -/
def Hub.takeBrick (h : Hub) (unit x : Nat) (t : BT) : Option (Brick × Hub) :=
  match takeFirst (fun i => i.unit == unit && i.port == x && i.brick.is t) h.fab.inbox with
  | none => none
  | some (i, rest) => some (i.brick, ({ h with fab := { h.fab with inbox := rest } }).owe x i.brick.vc.toNat)

/-- A write message of tile space is marked as having met an error, or its mark is taken away with its LAST brick (R127). -/
def Hub.markWrite (h : Hub) (key : Nat × Nat × Nat) (on : Bool) : Hub :=
  let rest := h.tile.badWrite.erase key
  { h with tile := { h.tile with badWrite := if on then key :: rest else rest } }

/-- A refused brick (R102): counted, recorded once per ingress port per course, its credit returned, and answered if it
is a read, or the LAST brick of a write. A write to tile space that loses another brick is marked for its WRITE_CPL (R127). -/
def Hub.refuseBrick (h : Hub) (x : Nat) (b : Brick) : Hub :=
  let h := ((h.bump 0x300010).flag 0x300008 0).eventOnce 0x0301 x
    [.u8 x, .u8 b.dst.toNat, .u8 b.vc.toNat, .u8 b.part.toNat, .u8 b.typ.toNat] b.part.toNat
  let h := h.owe x b.vc.toNat
  let key := (x, b.vc.toNat, b.stream.toNat)
  let h := if b.is .write && b.dst == 0x30 then h.markWrite key (!b.last) else h
  h.replyPoison x b

/-! ### Hod outcomes -/

/-- The final status codes of R389. -/
inductive Status where
  | ok | accepted | replayed | refused | badOpcode | badLength | badArg | busy | conflict | version
  | noResource | timeout | media
  deriving DecidableEq, Repr

def Status.code : Status → Nat
  | .ok => 0x00 | .accepted => 0x01 | .replayed => 0x02 | .refused => 0x10 | .badOpcode => 0x11 | .badLength => 0x12
  | .badArg => 0x13 | .busy => 0x14 | .conflict => 0x16 | .version => 0x17 | .noResource => 0x18 | .timeout => 0x19
  | .media => 0x1A

/-- How far the service of a hod has come. -/
inductive HodOut where
  /-- Finished, with its status, DETAIL and response payload. -/
  | done (st : Status) (detail : Nat) (payload : List Byte)
  /-- Its effect takes place at the next boundary (R396). -/
  | boundary
  /-- It completes when a later condition holds. -/
  | wait
  deriving DecidableEq, Repr

/-- OK with the fields listed. -/
def HodOut.ok (as : List Arg) : HodOut := .done .ok 0 (encodeArgs as)
/-- REFUSED: DETAIL 0 and LENGTH 0, whatever the cause (R394). -/
def HodOut.refused : HodOut := .done .refused 0 []
/-- BAD_ARG naming the failing field, counting from 1 (R389). -/
def HodOut.badArg (field : Nat) : HodOut := .done .badArg field []
/-- A status with no payload. -/
def HodOut.fail (st : Status) : HodOut := .done st 0 []

/-- The requester is a VF. -/
def Requester.isVf : Requester → Bool
  | .vf _ => true
  | _ => false

/-- The partition a request names: a VF's own, else the partition field (R388). -/
def HodReq.part (q : HodReq) (p : Nat) : Nat :=
  match q.who with
  | .vf n => n.val
  | _ => p

end Sys2Proof.Machine
end

