-- ==== Sys2Proof/Machine/HotSwap.lean ====
section
/-!
DEFINITION. Machine/HotSwap.lean: the hot-swap channels, their trips, holds and back-offs, the tray sequence, and the power
path hods (R292 to R314), with the readings of sensors that other blocks share.
-/
namespace Sys2Proof.Machine

/-! ### Shared readings -/

/-- An input of R317 has failed (R326, R328). -/
def Hub.inputFault (h : Hub) (i : Nat) : Bool := h.cool.fault.testBit i

/-- HUB_TJ: the highest die sensor, a failed one counting as the hottest code (R350). -/
def Hub.hubTj (h : Hub) : Int :=
  (List.range 32).foldl (fun m i =>
    let d := Tbl.get {} h.sense.dts i
    max m (if d.fail then 0x7FFF else d.reading)) (-32768)

/-- The reading of a zone input in 0.125 °C: none for a failed standard input, one never read, or a coolant input in air mode; the
hottest code for a failed privileged input (R316, R326, R328). -/
def Hub.input (h : Hub) (i : Nat) : Option Int :=
  if i = 26 then some h.hubTj
  else if (i = 24 ∨ i = 25) ∧ !h.cool.liquid then none
  else if h.inputFault i then (if i < 24 then none else some 0x7FFF)
  else (Tbl.get ({} : AdcCh) h.sense.adc i).reading

/-- A diode that has failed, with no valid reading since (R286). -/
def Hub.diodeLost (h : Hub) (i : Nat) : Bool := h.inputFault i && (Tbl.get ({} : AdcCh) h.sense.adc i).last != 0

/-- A remote diode's valid reading (R285, R286). -/
def Hub.diodeAt (h : Hub) (i : Nat) : Option Int :=
  if h.diodeLost i then none else (Tbl.get ({} : AdcCh) h.sense.adc i).reading

/-- The higher valid reading of accelerator x's remote diodes, with its diode (R285). -/
def Hub.diodeMax (h : Hub) (x : Nat) : Option (Nat × Int) :=
  match h.diodeAt (8 + 2 * x), h.diodeAt (9 + 2 * x) with
  | some a, some b => some (if a < b then (2 * x + 1, b) else (2 * x, a))
  | some a, none => some (2 * x, a)
  | none, some b => some (2 * x + 1, b)
  | none, none => none

def Hub.acc (h : Hub) (x : Nat) : GovAcc := Tbl.get {} h.gov.acc x

def Hub.updAcc (h : Hub) (x : Nat) (f : GovAcc → GovAcc) : Hub :=
  { h with gov := { h.gov with acc := h.gov.acc.upd {} x f } }

/-- PWRGOV registers of Ax (R288). -/
def accReg (x o : Nat) : Nat := 0xA01000 + 0x1000 * x + o

/-- T_THROTTLE and T_OFF in effect, in 0.125 °C (R262). -/
def Hub.tThrottle (h : Hub) (x : Nat) : Int := 8 * (((h.acc x).ident.tThrottle : Int) - (h.fld (accReg x 0) 20 16 : Nat))
def Hub.tOff (h : Hub) (x : Nat) : Int := 8 * (((h.acc x).ident.tOff : Int) - (h.fld (accReg x 0) 20 16 : Nat))

/-- SYS_SHDN_L is low (R327, R545). -/
def Hub.shdn (h : Hub) : Bool := h.cool.shdnCrit || h.cool.shdnExt || h.therm.tripLatch

def Hub.rope (h : Hub) (r : Nat) : Rope := Tbl.get {} h.cool.rope r
/-- LEAK.ROPE_CFG[r]. -/
def ropeCfg (r : Nat) : Nat := 0xD00010 + 4 * r

/-- Any rope's action is latched (R331). -/
def Hub.leaking (h : Hub) : Bool := (List.range 6).any (fun r => (h.rope r).action)

/-- A latched rope maps the channel; any latched rope holds H8 (R303, R331). -/
def Hub.leakHolds (h : Hub) (c : Nat) : Bool :=
  if c = 8 then h.leaking
  else decide (c < 8) && (List.range 6).any (fun r => (h.rope r).action && h.bitAt (ropeCfg r) c)

/-! ### Channels -/

def Hub.hsCh (h : Hub) (c : Nat) : HsCh := Tbl.get {} h.hs.ch c

def Hub.updHs (h : Hub) (c : Nat) (f : HsCh → HsCh) : Hub :=
  { h with hs := { h.hs with ch := h.hs.ch.upd {} c f } }

/-- HOTSWAP registers of channel c (R311). -/
def hsReg (c o : Nat) : Nat := 0xB01000 + 0x1000 * c + o

def Hub.hsEn (h : Hub) (c : Nat) : Bool := h.bitAt (hsReg c 0) 31

/-- Both seat pins have been low for 50 ms (R295). -/
def HsCh.seated (c : HsCh) : Bool := c.seatA && c.seatB

/-- The gate is on or ramping. -/
def HsCh.live (c : HsCh) : Bool := c.st == .ramp || c.st == .on

/-- Step 5 of a TRAY_SEQ UP is complete once no sled waits for its slot (R306, R308). -/
def Hub.seqSettle (h : Hub) : Hub :=
  if h.hs.up && h.hs.step == 5 && (List.range 8).all (fun c => (h.hsCh c).st != .waitSlot) then
    { h with hs := { h.hs with up := false } }
  else h

/-- A channel's gate turns off, into a state with a cause; ACCx_RST_L is asserted (R299). -/
def Hub.gateOff (h : Hub) (c : Nat) (st : ChState) (cause : Nat) : Hub :=
  (h.updHs c (fun k => { k with st, cause, rst := decide (c < 8), fresh := true, offPend := false })).seqSettle

/-- H8 and H9 count as seated (R292): they leave WAIT_SEAT as the tray sequence begins, unless disabled (R296). -/
def Hub.fixedSeats (h : Hub) : Hub :=
  [8, 9].foldl (fun h c =>
    if !h.hsEn c && !(h.hsCh c).live then h.updHs c (fun k => { k with st := .disabled })
    else if (h.hsCh c).st = .waitSeat then h.updHs c (fun k => { k with st := .waitSlot })
    else h) h

/-- A hold cause of a channel is active (R302, R303). -/
def Hub.holdActive (h : Hub) (c : Nat) : Bool :=
  h.leakHolds c || (decide (c < 8) && h.shdn) ||
  (decide (c < 8) && (h.hsCh c).cause == 0xA && (match h.diodeMax c with | some (_, t) => decide (h.tOff c ≤ t) | none => false))

/-- A hold cause turns a channel off (R303), whatever its state; a DISABLED one stays so (R296, log entry 110). -/
def Hub.holdCh (h : Hub) (c cause : Nat) : Hub :=
  if (h.hsCh c).st = .disabled then h
  else (h.gateOff c .held cause).event 0x0B0A [.u8 c, .u8 cause]

/-- A retried trip (R300, R301): back-off, or the latch once RETRY_MAX retries are used. -/
def Hub.trip (h : Hub) (c cause cur vds : Nat) : Hub :=
  let k := h.hsCh c
  if !k.live then h
  else
    let h := h.bump (hsReg c 0x18)
    let h := (h.eventOnce 0x0B02 c [.u8 c, .u8 cause, .u8 k.retries, .u32 cur, .u32 vds]).faultMet 13
    if h.fld (hsReg c 0) 30 28 ≤ k.retries then (h.gateOff c .latched cause).event 0x0B03 [.u8 c, .u8 cause]
    else (h.gateOff c .backoff cause).updHs c (fun k => { k with retries := k.retries + 1 })

/-- The start conditions of R302 and the step of R306 hold for a channel in WAIT_SLOT. -/
def Hub.startable (h : Hub) (c : Nat) : Bool :=
  let k := h.hsCh c
  k.st == .waitSlot && k.seated && !k.offPend && h.hs.busGood && !h.holdActive c && h.hs.down.isEmpty &&
  (if c < 8 then decide (5 ≤ h.hs.step) && !h.fw.kiln &&
      (match h.diodeMax c with | some (_, t) => decide (t < h.tOff c) | none => true)
   else decide (3 ≤ h.hs.step) && (c == 8 || !h.hsEn 8 || (h.hsCh 8).st != .waitSlot))

/-- The channel that holds the next slot: the lowest ready index (R307). -/
def Hub.nextSlot (h : Hub) : Option Nat := (List.range 8).find? h.startable

/-- A channel whose conditions and slot have come enters RAMP (R297, R302, R307). -/
def Hub.rampStart (h : Hub) (c : Nat) : Hub :=
  if h.startable c && (decide (8 ≤ c) || h.nextSlot == some c) then
    (h.updHs c (fun k => { k with st := .ramp, rst := decide (c < 8), fresh := true })).seqSettle
  else h

/-- Power-good: V_GS and V_DS together (R298, R299). -/
def Hub.powerGood (h : Hub) (c ms peak : Nat) : Hub :=
  if (h.hsCh c).st = .ramp then (h.updHs c (fun k => { k with st := .on })).event 0x0B01 [.u8 c, .u32 ms, .u32 peak] else h

/-- RST_DELAY after power-good (R299), unless the channel is about to turn off (R308, R310). -/
def Hub.rstDelay (h : Hub) (c : Nat) : Hub :=
  if c < 8 ∧ (h.hsCh c).st = .on ∧ (h.hsCh c).offPend = false ∧ !h.hs.down.contains c then h.updHs c (fun k => { k with rst := false }) else h

/-- The back-off of a channel ends (R301). -/
def Hub.backoffEnd (h : Hub) (c : Nat) : Hub :=
  if (h.hsCh c).st = .backoff then h.updHs c (fun k => { k with st := .waitSlot }) else h

/-- A channel has stayed ON for 60 s (R301). -/
def Hub.retryReset (h : Hub) (c : Nat) : Hub :=
  if (h.hsCh c).st = .on then h.updHs c (fun k => { k with retries := 0 }) else h

/-- The push to an accelerator (R470). -/
def Hub.push (h : Hub) (x : Nat) : Push := Tbl.get {} h.fw.acc x
def Hub.updPush (h : Hub) (x : Nat) (f : Push → Push) : Hub :=
  { h with fw := { h.fw with acc := h.fw.acc.upd {} x f } }

/-- A FAILED or NO_IMAGE position returns to WAIT (R472). -/
def Hub.pushAgain (h : Hub) (x : Nat) : Hub :=
  let s := (h.push x).st
  if x < 8 ∧ (s = 5 ∨ s = 6) then h.updPush x (fun p => { p with st := 1, retries := 0 }) else h

/-- ACCx_RST_L is deasserted: by the power path and by the push (R299, R472). -/
def Hub.rstReleased (h : Hub) (x : Nat) : Bool :=
  let p := h.push x
  !(h.hsCh x).rst && !p.pulse && p.st != 5 && p.st != 6

/-- Both seat pins of a position have been low for 50 ms (R295). -/
def Hub.sledSeated (h : Hub) (x : Nat) : Hub :=
  if x < 8 ∧ (h.hsCh x).seated = false then
    ((h.pushAgain x).updHs x (fun k => { k with seatA := true, seatB := true, st := if k.st = .waitSeat then .waitSlot else k.st })).event
      0x0B05 [.u8 x, .u8 0, .u8 (h.hsCh x).st.code]
  else h

/-- A seat pin goes high (R295). -/
def Hub.sledUnseated (h : Hub) (x : Nat) (pinB : Bool) : Hub :=
  if x < 8 then
    let k := h.hsCh x
    let h := h.updHs x (fun k => if pinB then { k with seatB := false } else { k with seatA := false })
    if !k.seated then h
    else
      let h := if k.hot then h.event 0x0B0A [.u8 x, .u8 0xA] else h
      let h := (h.gateOff x (if k.st = .disabled then .disabled else .waitSeat) 0x9).updHs x
        (fun k => { k with retries := 0, hot := false })
      h.event 0x0B05 [.u8 x, .u8 1, .u8 k.st.code]
  else h

/-- The bus leaves its limits (R302): channels in RAMP or ON turn off and wait. -/
def Hub.busBad (h : Hub) (v : Nat) : Hub :=
  let uv := h.fld 0xB00004 7 0 * 100
  let ov := h.fld 0xB00004 15 8 * 100
  let h := { h with hs := { h.hs with vbus := v } }
  if uv ≤ v ∧ v ≤ ov then h
  else
    let cause := if v < uv then 0x7 else 0x8
    let live := (List.range 10).filter (fun c => (h.hsCh c).live)
    let was := h.hs.busGood
    let h := live.foldl (fun h c => h.gateOff c .waitSlot cause) h
    let h := ({ h with hs := { h.hs with busGood := false } } : Hub).flag 0xB00000 (if v < uv then 1 else 2)
    if was || !live.isEmpty then h.event 0x0B08 [.u16 v, .u16 (live.foldl (fun m c => m + 2 ^ c) 0)] else h

/-- The bus has been within limits for 50 ms (R302). -/
def Hub.busOk (h : Hub) (v : Nat) : Hub :=
  let h := { h with hs := { h.hs with vbus := v } }
  if h.fld 0xB00004 7 0 * 100 ≤ v ∧ v ≤ h.fld 0xB00004 15 8 * 100 ∧ h.hs.busGood = false then
    ({ h with hs := { h.hs with busGood := true } } : Hub).event 0x0B08 [.u16 v, .u16 0]
  else h

/-- SYS_SHDN_L has gone low (R303): H0 to H7 are held. -/
def Hub.shdnFall (h : Hub) : Hub := (List.range 8).foldl (fun h c => h.holdCh c 0xC) h

/-- SYS_SHDN_L has gone high: the hold cause of channels held by it ends. -/
def Hub.shdnRise (h : Hub) : Hub :=
  (List.range 8).foldl (fun h c =>
    if (h.hsCh c).st = .held ∧ (h.hsCh c).cause = 0xC then h.event 0x0B0A [.u8 c, .u8 0xC] else h) h

/-- A change of what drives SYS_SHDN_L: its edges act and are recorded with the input that crossed (R303, R327). -/
def Hub.driveShdn (h : Hub) (f : Hub → Hub) (input : Nat) (reading : Int) : Hub :=
  let was := h.shdn
  let h := f h
  if was = h.shdn then h
  else
    let h := h.event 0x0C04 [.u8 input, .u16 (unsigned 16 reading)]
    if h.shdn then h.shdnFall else h.shdnRise

/-- The row SYS_SHDN_ASSERT: the hub senses the pin, low whoever pulls it (R303, R327). -/
def Hub.shdnPin (h : Hub) (low : Bool) : Hub :=
  h.driveShdn (fun h => { h with cool := { h.cool with shdnExt := low } }) 0xFF 0

/-- Accelerator Hx is switched off at T_OFF and latched (R285, R303). -/
def Hub.tOffTrip (h : Hub) (x diode : Nat) (t : Int) : Hub :=
  let k := h.hsCh x
  if k.st = .disabled ∨ k.st = .waitSeat ∨ (k.st = .latched ∧ k.cause = 0xA) then h
  else ((((h.gateOff x .latched 0xA).updHs x (fun k => { k with hot := true })).event 0x0A04
    [.u8 x, .u8 diode, .u16 (unsigned 16 t)]).event 0x0B0A [.u8 x, .u8 0xA])

/-- The reading of a sled latched at T_OFF has come below it: its hold cause has ended (R303, R314). -/
def Hub.tOffEnd (h : Hub) (x : Nat) : Hub :=
  if (h.hsCh x).hot then (h.updHs x (fun k => { k with hot := false })).event 0x0B0A [.u8 x, .u8 0xA] else h

/-! ### SAR paths (R294, R304, R349) -/

/-- One millisecond of the SOA model, at the averages shown (R304, log entry 111): current in mA, V_DS in mV, P_CONT in W. -/
def soaStep (acc i vds pc : Nat) : Nat := acc + i * vds * 1000 - pc * 1000000 * 1000

/-- Every millisecond a SAR path checks itself, and its averages are shown (R294, R349). While a check fails, the
current counts as I_LIM and V_DS as the bus voltage. A channel has one path, numbered 0 in event 0x0E06 (log entry 114). An accumulator that passes SOA_E trips the channel (R304). -/
def Hub.sarCheck (h : Hub) (c : Nat) (ok : Bool) (i vsrc vds : Nat) : Hub :=
  if 10 ≤ c then h
  else
    let k := h.hsCh c
    let i := if ok then i else h.fld (hsReg c 4) 8 0 * 125000 / Config.shunt c
    let vds := if ok then vds else h.hs.vbus * 10
    let h := h.updHs c (fun k => { k with
      cur := if ok then i / 10 else 0xFFFF, vsrc := if ok then vsrc / 10 else 0xFFFF, sarFault := !ok
      soa := soaStep k.soa i vds (h.fld (hsReg c 8) 15 8) })
    let h := if ok then h else h.flag 0xE00000 6
    let h := if k.sarFault = !ok then h else h.event 0x0E06 [.u8 c, .u8 0, .u8 (b2n ok)]
    if h.fld (hsReg c 8) 27 16 * 10 ^ 9 < (h.hsCh c).soa then h.trip c 0x3 i vds else h

/-- The accumulator has passed SOA_E (R304): its value in mJ. -/
def Hub.soaTrip (h : Hub) (c acc i vds : Nat) : Hub :=
  if h.fld (hsReg c 8) 27 16 < acc then
    (h.updHs c (fun k => { k with soa := acc * 10 ^ 9 })).trip c 0x3 i vds
  else h

/-- An NTC reads above FET_TMAX, or open or short (R300, R305). -/
def Hub.ntcRead (h : Hub) (c : Nat) (t : Int) : Hub :=
  if h.bitAt (hsReg c 4) 24 then
    let h := if (h.hsCh c).ntcFault then h.updHs c (fun k => { k with ntcFault := false }) else h
    if 8 * (h.fld (hsReg c 4) 23 16 : Nat) < t then h.trip c 0x4 ((h.hsCh c).cur * 10) (h.hs.vbus * 10 - (h.hsCh c).vsrc * 10) else h
  else h

def Hub.ntcBad (h : Hub) (c code : Nat) : Hub :=
  if h.bitAt (hsReg c 4) 24 && !(h.hsCh c).ntcFault then
    (h.updHs c (fun k => { k with ntcFault := true })).event 0x0B06 [.u8 c, .u8 (code - 4)]
  else h

/-! ### The tray sequence (R306 to R308) -/

/-- The sequence advances where its step is complete (R306). -/
def Hub.seqStep (h : Hub) : Hub :=
  let done (c : Nat) : Bool :=
    let s := (h.hsCh c).st
    s == .on || s == .latched || s == .held || s == .disabled
  if h.hs.step = 2 then { h with hs := { h.hs with step := 3 } }
  else if h.hs.step = 3 then
    if done 8 && done 9 then
      let h := [8, 9].foldl (fun h c =>
        let k := h.hsCh c
        if k.st = .latched ∨ k.st = .held then h.event 0x0B07 [.u8 c, .u8 k.st.code, .u8 k.cause] else h) h
      { h with hs := { h.hs with step := 4 } }
    else h
  else if h.hs.step = 4 then
    if !h.cool.liquid || !h.hs.flowLoss then
      ({ h with hs := { h.hs with step := 5 } } : Hub).seqSettle
    else h
  else h

/-- FLOW_WAIT_S has passed in step 4 (R306). -/
def Hub.flowWait (h : Hub) : Hub :=
  if h.hs.step = 4 ∧ h.cool.liquid ∧ h.hs.flowLoss then
    (h.flag 0xB00000 3).event 0x0B09 [.u8 (h.fld 0xB00004 31 24)]
  else h

/-- A command turns a channel's gate off into CMD_OFF (R308, R310, R313): it overrides no trip, latch or hold. -/
def Hub.cmdOff (h : Hub) (c : Nat) : Hub :=
  let k := h.hsCh c
  if k.live || k.st == .waitSlot || k.st == .waitSeat then h.gateOff c .cmdOff 0xD else h

/-- CMD_OFF ends (R310, R313). -/
def Hub.cmdOn (h : Hub) (c : Nat) : Hub :=
  if (h.hsCh c).st = .cmdOff then
    (h.pushAgain c).updHs c (fun k => { k with st := if k.seated then .waitSlot else .waitSeat })
  else h

/-- HS_OFF names a channel (R310): a live sled's reset comes 1 ms before its gate turns off. -/
def Hub.hsOff (h : Hub) (c : Nat) : Hub :=
  if c < 8 ∧ (h.hsCh c).live then h.updHs c (fun k => { k with rst := true, fresh := true, offPend := true }) else h.cmdOff c

/-- 1 ms after HS_OFF or EN = 0 asserted the reset (R296, R310). -/
def Hub.offGate (h : Hub) (c : Nat) : Hub :=
  if (h.hsCh c).offPend then
    (if (h.hsCh c).live then h.cmdOff c else h.updHs c (fun k => { k with offPend := false }))
  else h

/-- TRAY_SEQ DOWN at its boundary (R308). -/
def Hub.seqDown (h : Hub) : Hub :=
  let h := (List.range 8).foldl (fun h c =>
    if (h.hsCh c).st = .on then h.updHs c (fun k => { k with rst := true, fresh := true }) else h) h
  { h with hs := { h.hs with down := [7, 6, 5, 4, 3, 2, 1, 0, 9, 8] } }

/-- The next timed stage of TRAY_SEQ DOWN (R308). -/
def Hub.seqDownStep (h : Hub) : Hub :=
  match h.hs.down with
  | [] => h
  | c :: rest => ({ h with hs := { h.hs with down := rest } } : Hub).cmdOff c

/-- TRAY_SEQ UP (R308). -/
def Hub.seqUp (h : Hub) : Hub :=
  let h := (List.range 10).foldl (fun h c => h.cmdOn c) h
  { h with hs := { h.hs with step := 3, up := true } }

/-- A release (R301): whether it is accepted, and its effect. -/
def Hub.release? (h : Hub) (c : Nat) : HodOut :=
  let k := h.hsCh c
  if 10 ≤ c then .badArg 1
  else if k.st ≠ .latched ∧ k.st ≠ .held then .badArg 1
  else if h.holdActive c then .fail .busy
  else .ok []

def Hub.releaseCh (h : Hub) (c who : Nat) : Hub :=
  match h.release? c with
  | .done .ok _ _ =>
    (h.updHs c (fun k => { k with st := if k.seated then .waitSlot else .waitSeat, retries := 0 })).event 0x0B04 [.u8 c, .u8 who]
  | _ => h

/-- A write of CH_CFG.EN takes effect (R296): EN = 0 disables the channel, and a live sled's gate turns off 1 ms after its reset
(R310). -/
def Hub.applyChEn (h : Hub) (c : Nat) : Hub :=
  if h.hsEn c then
    if (h.hsCh c).st = .disabled then
      h.updHs c (fun k => { k with st := if k.seated then .waitSlot else .waitSeat })
    else h
  else if (h.hsCh c).st = .disabled then h
  else
    let on := decide (c < 8) && (h.hsCh c).live
    (h.gateOff c .disabled (h.hsCh c).cause).updHs c (fun k => { k with offPend := on })

/-- HOTSWAP.CH_CTRL takes effect (R313): OFF prevails over ON. -/
def Hub.chCtrl (h : Hub) (c v who : Nat) : Hub :=
  let h := if v.testBit 0 then h.cmdOff c else if v.testBit 1 then h.cmdOn c else h
  if v.testBit 2 then h.releaseCh c who else h

/-! ### Hods (R310) -/

def hsOffHod (q : HodReq) (mask : Nat) (h : Hub) : Hub × HodOut :=
  if q.who.isVf then (h, .refused) else ((onesBelow 10 mask).foldl (fun h c => h.hsOff c) h, .ok [])

def hsOnHod (q : HodReq) (mask : Nat) (h : Hub) : Hub × HodOut :=
  if q.who.isVf then (h, .refused)
  else if (onesBelow 10 mask).any (fun c => (h.hsCh c).st == .disabled) then (h, .badArg 1)
  else ((onesBelow 10 mask).foldl (fun h c => h.cmdOn c) h, .ok [])

def hsReleaseHod (q : HodReq) (c : Nat) (h : Hub) : Hub × HodOut :=
  if q.who.isVf then (h, .refused) else (h.releaseCh c q.who.id, h.release? c)

/-- The back-off before a retry, in ms (R301). -/
def backoffMs (retry : Nat) : Nat := if retry ≤ 1 then 1000 else if retry = 2 then 4000 else 16000

/-- HS_QUERY: the back-off remaining is a free value in BACKOFF, within the back-off of R301. -/
def hsQueryHod (q : HodReq) (c : Nat) (h : Hub) : Hub × HodOut :=
  if q.who.isVf then (h, .refused)
  else if 10 ≤ c then (h, .badArg 1)
  else
    let k := h.hsCh c
    (h.tick, .ok [.u8 k.st.code, .u8 k.cause, .u16 k.retries,
      .u32 (if k.st = .backoff then (Config.elapsed h.free).toNat % (backoffMs k.retries + 1) else 0),
      .u32 (k.cur * 65536 + k.vsrc), .u32 (k.soa / 10 ^ 9), .u64 (h.ctr (hsReg c 0x18)).val.toNat])

def traySeqHod (q : HodReq) (down : Bool) (h : Hub) : Hub × HodOut :=
  if q.who.isVf then (h, .refused)
  else if h.hs.up || !h.hs.down.isEmpty then (h, .fail .busy)
  else (if down then h.seqDown else h.seqUp, .ok [])

/-- Ticks follow power-good at each boundary (R38, R299). -/
def Hub.hsBoundary (h : Hub) : Hub :=
  (List.range 8).foldl (fun h c => h.updHs c (fun k => { k with tick := k.st == .on })) h

end Sys2Proof.Machine
end

