-- ==== Sys2Proof/Machine/Cooling.lean ====
section
/-!
DEFINITION. Machine/Cooling.lean: zones, ramps, skip bands, failed channels, failed inputs, leak ropes and their hods
(R315 to R338). Duties are in units of 10^-6 %.
-/
namespace Sys2Proof.Machine

/-- 0.1% of duty, and 100%. -/
def permille : Nat := 100000
def fullDuty : Nat := 100000000

def Hub.zone (h : Hub) (z : Nat) : Zone := Tbl.get {} h.cool.zone z
def Hub.updZone (h : Hub) (z : Nat) (f : Zone → Zone) : Hub :=
  { h with cool := { h.cool with zone := h.cool.zone.upd {} z f } }
def Hub.coolCh (h : Hub) (c : Nat) : CoolCh := Tbl.get {} h.cool.ch c
def Hub.updCool (h : Hub) (c : Nat) (f : CoolCh → CoolCh) : Hub :=
  { h with cool := { h.cool with ch := h.cool.ch.upd {} c f } }

/-- COOL.ZONE_CFG[z] with an offset of the zone's bank, and the registers of channel c (R334). -/
def zoneReg (z o : Nat) : Nat := 0xC00010 + o + 4 * z
def coolReg (c o : Nat) : Nat := 0xC01000 + 0x1000 * c + o

def Hub.zoneEn (h : Hub) (z : Nat) : Bool := h.bitAt (zoneReg z 0) 31
def Hub.coolEn (h : Hub) (c : Nat) : Bool := h.bitAt (coolReg c 0) 31
/-- A pump. -/
def isPump (c : Nat) : Bool := decide (12 ≤ c)
/-- The hot-swap channel that powers a cooling channel (R315). -/
def busOf (c : Nat) : Nat := if isPump c then 8 else 9
/-- The channel is monitored: an enabled fan, or in liquid mode an enabled pump (R316, R324). -/
def Hub.coolMon (h : Hub) (c : Nat) : Bool := h.coolEn c && (!isPump c || h.cool.liquid)

/-- The valid readings of a zone's inputs among readings given by `rd` (R318). -/
def Hub.zoneInputs (h : Hub) (z : Nat) (rd : Nat → Option Int) : List (Nat × Int) :=
  (onesBelow 27 (h.reg (zoneReg z 0x40))).filterMap fun i => (rd i).map fun t => (i, t)

/-- The reading of an input at the telemetry close, with the failures of now (R318, R326, R328). -/
def Hub.snapInput (h : Hub) (i : Nat) : Option Int :=
  if i < 26 ∧ h.inputFault i then (if i < 24 then none else some 0x7FFF)
  else if (i = 24 ∨ i = 25) ∧ !h.cool.liquid then none
  else (h.cool.snap.find? (·.1 == i)).map (·.2)

/-- The snapshot of R318 at the 60% point. -/
def Hub.coolSnap (h : Hub) : Hub :=
  { h with cool := { h.cool with snap := (List.range 27).filterMap fun i => (h.input i).map fun t => (i, t) } }

/-- The sum of duties, clamped. -/
def clampDuty (lo : Nat) (v : Int) : Nat := (max (lo : Int) (min v fullDuty)).toNat

/-- Nearest multiple of 0.001% (R318). -/
def roundInteg (v : Int) : Int := (v + 500) / 1000 * 1000

/-- The loop of an AUTO zone at an update boundary (R318). -/
def Hub.zoneLoop (h : Hub) (z : Nat) : Hub :=
  match h.zoneInputs z h.snapInput with
  | [] => h.updZone z (fun k => { k with target := fullDuty, noInput := true })
  | (i, t) :: rest =>
    let t := rest.foldl (fun m r => max m r.2) ((i, t).2)
    let cfg := h.reg (zoneReg z 0)
    let e : Int := t - (bits cfg 9 0 : Nat)
    let kp : Int := (h.fld (zoneReg z 0x20) 7 0 : Nat)
    let ki : Int := (h.fld (zoneReg z 0x20) 15 8 : Nat)
    h.updZone z fun k =>
      let integ := clampDuty 0 (roundInteg (k.integ + ki * e * 1250))
      { k with integ, noInput := false, tz := t
               target := clampDuty (bits cfg 19 10 * permille) (kp * e * 12500 + integ) }

/-- The forcing of a zone at a boundary, and its end at an update boundary (R319). -/
def Hub.zoneForce (h : Hub) (z : Nat) (update : Bool) : Hub :=
  let ins := h.zoneInputs z h.input
  let hi : Int := 8 * (h.fld (zoneReg z 0x20) 23 16 : Nat)
  let k := h.zone z
  let hot := ins.find? (fun r => decide (hi ≤ r.2))
  let auto := !h.bitAt (zoneReg z 0) 30
  let starved := auto && k.noInput
  let below := ins.all (fun r => decide (r.2 < hi - 16))
  if !k.full && (hot.isSome || starved) then
    ((h.updZone z (fun k => { k with full := true, stayed := false })).flag 0xC00000 1).event 0x0C06
      [.u8 z, .u8 (if hot.isSome then 0 else 1), .u8 ((hot.map (·.1)).getD 0xFF)]
  else if k.full && update && k.stayed && below && !starved then
    (h.updZone z (fun k => { k with full := false, stayed := true })).event 0x0C06 [.u8 z, .u8 2, .u8 0xFF]
  else h.updZone z (fun k => { k with stayed := (update || k.stayed) && below })

/-! ### Channels (R320 to R325) -/

/-- The highest target among the enabled zones that list a channel; 100% in none (R320). -/
def Hub.zoneTarget (h : Hub) (c : Nat) : Nat :=
  match (List.range 8).filter (fun z => h.zoneEn z && h.bitAt (zoneReg z 0x60) c) with
  | [] => fullDuty
  | z :: zs => zs.foldl (fun m z => max m (h.zone z).target) (h.zone z).target

/-- A skip band of a fan: LO and HI; none when off (R321). -/
def Hub.bands (h : Hub) (c : Nat) : List (Nat × Nat) :=
  if isPump c then []
  else (List.range 4).filterMap fun b =>
    let v := h.reg (coolReg c (0x10 + 4 * b))
    let lo := bits v 9 0 * permille
    let hi := bits v 25 16 * permille
    if lo = 0 ∧ hi = 0 then none else some (lo, hi)

/-- A target inside a band goes to the nearer edge, HI when both are equally near (R321). -/
def Hub.skipTarget (h : Hub) (c t : Nat) : Nat :=
  match (h.bands c).find? (fun b => decide (b.1 < t) && decide (t < b.2)) with
  | some b => if t - b.1 < b.2 - t then b.1 else b.2
  | none => t

/-- One ramp step toward a target, with the bands of R321. -/
def Hub.rampTo (h : Hub) (c cmd t step : Nat) : Nat :=
  let next := if cmd < t then min t (cmd + step) else max t (cmd - step)
  match (h.bands c).find? (fun b => decide (b.1 < next) && decide (next < b.2)) with
  | none => next
  | some b =>
    if cmd < t then (if b.2 ≤ t then b.2 else b.1)
    else (if t ≤ b.1 then b.1 else b.2)

/-- The state of a cooling channel at a boundary (R324, R331): leaks stop the pumps, EN and its bus decide the rest. -/
def Hub.coolState (h : Hub) (c : Nat) : CoolState :=
  let k := h.coolCh c
  if isPump c && h.cool.liquid && h.leaking then .stopped
  else if !h.coolEn c then .disabled
  else if !h.coolMon c then .ok
  else if h.hsEn (busOf c) && (h.hsCh (busOf c)).st != .on && decide (4 ≤ h.hs.step) then .noBus
  else if (k.pend == some .failed) || (k.st == .failed && k.pend != some .ok) then .failed
  else .ok

/-- The expected speed in rpm (R324). -/
def Hub.expected (h : Hub) (c : Nat) : Nat := (h.coolCh c).cmd / permille * h.fld (coolReg c 0) 15 0 / 1000

/-- The states of the channels change at a boundary, each change recorded (R324, R325). -/
def Hub.coolStates (h : Hub) : Hub :=
  (List.range 14).foldl (fun h c =>
    let k := h.coolCh c
    let s := h.coolState c
    let h := h.updCool c (fun k => { k with st := s, pend := none })
    if s = k.st then h
    else
      let bad (s : CoolState) : Bool := s == .failed || s == .noBus
      let h := if bad s then h.flag 0xC00000 2 else h
      let h := if s = .failed then h.faultMet 12 else h
      if bad s || bad k.st then h.event 0x0C01 [.u8 c, .u8 s.code, .u16 k.tach, .u16 (h.expected c)] else h) h

/-- The channels that keep the fan-failure response active (R325). -/
def Hub.failSet (h : Hub) : Nat :=
  (List.range 14).foldl (fun m c =>
    let s := (h.coolCh c).st
    if h.coolMon c && (s == .failed || s == .noBus) then m + 2 ^ c else m) 0

/-- The fan-failure response starts or ends (R325). -/
def Hub.fanResponse (h : Hub) : Hub :=
  let m := h.failSet
  if h.cool.fanFail = decide (m ≠ 0) then h
  else ({ h with cool := { h.cool with fanFail := decide (m ≠ 0) } } : Hub).event 0x0C02 [.u16 m]

/-- A channel's duty at a boundary, by the precedence of R322. A channel with EN = 0 is neither failed nor part of the response,
and follows its zones. -/
def Hub.drive (h : Hub) (c : Nat) : Hub :=
  let k := h.coolCh c
  let step := h.fld (coolReg c 0) 30 24 * h.crs.period
  let t := h.skipTarget c (h.zoneTarget c)
  let forced := (List.range 8).any (fun z => h.zoneEn z && (h.zone z).full && h.bitAt (zoneReg z 0x60) c)
  let cmd :=
    if isPump c && (!h.cool.liquid || k.st == .stopped) then 0
    else if k.st = .failed ∨ k.st = .noBus then fullDuty
    else if h.cool.fanFail && h.coolMon c then
      (if isPump c then h.rampTo c k.cmd fullDuty step else fullDuty)
    else if forced then (if isPump c then h.rampTo c k.cmd fullDuty step else fullDuty)
    else h.rampTo c k.cmd t step
  h.updCool c (fun k => { k with cmd, target := t })

/-- The speeds and flows measured since the last boundary: what the fans and meters give is free (R315, log entry 113). Pumps
are not measured in air mode (R316). -/
def Hub.speeds (h : Hub) : Hub :=
  ((List.range 14).foldl (fun h c =>
    if isPump c && !h.cool.liquid then h
    else h.updCool c (fun k => { k with
      tach := (Config.tach h.free c).toNat, flow := if isPump c then (Config.flow h.free c).toNat else 0 })) h).tick

/-- Step 7 of R41: zones, then channels. -/
def Hub.coolBoundary (h : Hub) : Hub :=
  let update := h.crs.count.toNat % 2000 == 0
  let h := (List.range 8).foldl (fun h z =>
    if h.zoneEn z then
      let h := if h.bitAt (zoneReg z 0) 30 then
          h.updZone z (fun k => { k with target := h.fld (zoneReg z 0) 29 20 * permille, noInput := false })
        else if update then h.zoneLoop z else h
      h.zoneForce z update
    else h) h
  let h := h.coolStates.fanResponse
  ((List.range 14).foldl (fun h c => h.drive c) h).speeds

/-- Step 7 of R41 at a boundary: at an update boundary the zones' loops run first (R318). -/
def Hub.coolStep (h : Hub) : Hub := ({ h with cool := { h.cool with zoneDue := false } } : Hub).coolBoundary

/-- The zone updates of a course that began without them, at a start or a warm reset; every other update boundary has made
its own (R41, R318, log entry 112). -/
def Hub.zoneUpdate (h : Hub) : Hub := if h.cool.zoneDue then h.coolStep else h

/-- A zone changes from MANUAL to AUTO: its integrator starts from MAN_DUTY (R319). -/
def Hub.applyZone (h : Hub) (z old : Nat) : Hub :=
  if old.testBit 30 && !h.bitAt (zoneReg z 0) 30 then
    h.updZone z (fun k => { k with integ := bits old 29 20 * permille })
  else h

/-- EN = 0 removes a FAILED channel from monitoring (R325). -/
def Hub.applyCoolEn (h : Hub) (c : Nat) : Hub :=
  if !h.coolEn c ∧ (h.coolCh c).st = .failed then
    (h.updCool c (fun k => { k with st := .disabled, pend := none })).event 0x0C01
      [.u8 c, .u8 0, .u16 (h.coolCh c).tach, .u16 (h.expected c)]
  else h

/-- A tach has read below 20% of the expected speed for 2 s (R324). -/
def Hub.fanFail (h : Hub) (c tach : Nat) : Hub :=
  let h := h.updCool c (fun k => { k with tach })
  let k := h.coolCh c
  if c < 14 ∧ h.coolMon c ∧ k.st = .ok ∧ (h.hsCh (busOf c)).st = .on ∧ 200 * permille ≤ k.cmd ∧ 5 * tach < h.expected c then
    h.updCool c (fun k => { k with pend := some .failed })
  else h

/-- A FAILED channel's tach has read at least 50% of the expected speed for 10 s (R324). -/
def Hub.fanRecover (h : Hub) (c tach : Nat) : Hub :=
  let h := h.updCool c (fun k => { k with tach })
  if (h.coolCh c).st = .failed ∧ h.expected c ≤ 2 * tach then h.updCool c (fun k => { k with pend := some .ok }) else h

/-- A pump's flow has stayed below FLOW_LOW for 2 s (R324): a warning. The flow is in 0.01 L/min. -/
def Hub.flowLow (h : Hub) (c flow : Nat) : Hub :=
  let h := h.updCool c (fun k => { k with flow })
  if isPump c ∧ c < 14 ∧ h.coolMon c ∧ flow < 10 * h.fld (coolReg c 0x20) 31 16 then
    (h.flag 0xC00000 4).event 0x0C07 [.u8 c, .u16 flow]
  else h

/-! ### Host silence (R323) -/

def Hub.heartbeat (h : Hub) : Hub :=
  if h.cool.hostSilent then
    ({ h with cool := { h.cool with hostSilent := false } } : Hub).tick.event 0x0C05 [.u32 (Config.elapsed h.free).toNat]
  else h

def Hub.hostSilence (h : Hub) : Hub :=
  if h.cool.hostSilent then h
  else ({ h with cool := { h.cool with hostSilent := true } } : Hub).event 0x0C05 [.u32 5]

/-! ### Inputs (R326 to R328) -/

/-- Standard 0, privileged 1. -/
def inputClass (i : Nat) : Nat := if i < 24 then 0 else 1

/-- An input has read open or short for 100 ms, or its converter has failed (R326, R328, R347). The coolant inputs are not used
in air mode (R316). -/
def Hub.failInput (h : Hub) (i code : Nat) : Hub :=
  if h.inputFault i ∨ ((i = 24 ∨ i = 25) ∧ !h.cool.liquid) then h
  else
    (({ h with cool := { h.cool with fault := h.cool.fault + 2 ^ i } } : Hub).flag 0xC00000 3).event 0x0C03
      [.u8 i, .u8 (inputClass i), .u8 code]

/-- A failed input has read in range for 1 s (R326, R328). -/
def Hub.restoreInput (h : Hub) (i : Nat) : Hub :=
  if h.inputFault i then
    ({ h with cool := { h.cool with fault := h.cool.fault - 2 ^ i } } : Hub).event 0x0C03 [.u8 i, .u8 (inputClass i), .u8 0]
  else h

/-- The critical threshold of CRIT_SEL, in 0.125 °C (R327). -/
def Hub.critAt (h : Hub) : Int := 8 * (95 + 5 * (h.cool.critSel : Int))

/-- An input's reading is classed as open or short by its front end (R326, R343). -/
def Hub.inputOpen (h : Hub) (i : Nat) : Bool :=
  let r := (Tbl.get ({} : AdcCh) h.sense.adc i).last
  r == 4 || r == 5

/-- A standard input in range reaches the threshold (R327). -/
def Hub.critTrip (h : Hub) (i : Nat) (t : Int) : Hub :=
  if i < 24 ∧ h.critAt ≤ t ∧ !h.inputOpen i then
    h.driveShdn (fun h => { h with cool := { h.cool with shdnCrit := true } }) i t
  else h

/-- Every comparator has seen its reading below the threshold − 5 °C for 1 s (R327); the ADC has no part in it (R339). -/
def Hub.critRelease (h : Hub) : Hub :=
  if h.cool.shdnCrit then
    h.driveShdn (fun h => { h with cool := { h.cool with shdnCrit := false } }) 0xFF 0
  else h

/-! ### Ropes (R329 to R332) -/

def Hub.updRope (h : Hub) (r : Nat) (f : Rope → Rope) : Hub :=
  { h with cool := { h.cool with rope := h.cool.rope.upd {} r f } }

def Hub.ropeEn (h : Hub) (r : Nat) : Bool := h.bitAt (ropeCfg r) 31
def Hub.moistK (h : Hub) (r : Nat) : Nat := h.fld (ropeCfg r) 29 20
def Hub.leakK (h : Hub) (r : Nat) : Nat := h.fld (ropeCfg r) 19 10

/-- A rope's measurement, in kΩ (R329): none where no valid reading came, which neither confirms nor breaks a condition held for a
time (R345). -/
def Hub.ropeRead (h : Hub) (r : Nat) (v : Option Nat) : Hub :=
  if !h.ropeEn r then h
  else match v with
    | none => h.updRope r (fun k => { k with seen := false })
    | some res =>
      let res := sat 2047 res
      let dry := decide (h.moistK r < res) && decide (res ≤ 1500)
      let was := (h.rope r).st
      let h := h.updRope r (fun k => { k with
        res, seen := true, known := true, st := if dry then 0 else k.st, dryRun := if dry then sat 1000 (k.dryRun + 1) else 0 })
      if dry ∧ was = 3 then h.event 0x0D03 [.u8 r] else h

/-- The measurement of every enabled rope (R329). -/
def Hub.ropeMeasure (h : Hub) (vs : List (Option Nat)) : Hub :=
  (List.range 6).foldl (fun h r => h.ropeRead r (vs.getD r none)) h

/-- A rope has been below MOIST_K for 1 s (R329). -/
def Hub.ropeMoist (h : Hub) (r : Nat) : Hub :=
  let k := h.rope r
  if h.ropeEn r ∧ k.known ∧ (k.st = 2 → h.leakK r ≤ k.res) ∧ k.st ≠ 1 ∧ k.res < h.moistK r then
    let h := h.updRope r (fun k => { k with st := 1, dryRun := 0 })
    let h := if k.st = 3 then h.event 0x0D03 [.u8 r] else h
    h.event 0x0D01 [.u8 r, .u16 k.res]
  else h

/-- A rope has been above 1,500 kΩ, or without a valid reading, for 1 s (R329, R345). -/
def Hub.ropeOpen (h : Hub) (r : Nat) : Hub :=
  let k := h.rope r
  if h.ropeEn r ∧ k.st ≠ 3 ∧ (1500 < k.res ∨ k.seen = false) then
    (h.updRope r (fun k => { k with st := 3, dryRun := 0 })).event 0x0D03 [.u8 r]
  else h

/-- A rope has been below LEAK_K for 50 ms (R329 to R331): its action is latched, and the pumps, H8 and the mapped sleds
stop at once. -/
def Hub.leakAction (h : Hub) (r : Nat) : Hub :=
  let k := h.rope r
  if h.ropeEn r ∧ k.known ∧ k.res < h.leakK r ∧ k.st ≠ 2 then
    let h := h.updRope r (fun k => { k with st := 2, dryRun := 0, action := true })
    if k.action then h
    else
      let h := (List.range 9).foldl (fun h c =>
        if c = 8 ∨ h.bitAt (ropeCfg r) c then h.holdCh c 0xB else h) h
      let h := if h.cool.liquid then [12, 13].foldl (fun h c => h.updCool c (fun k => { k with cmd := 0, st := .stopped })) h else h
      (h.bump 0xD00050).event 0x0D02 [.u8 r, .u16 k.res, .u8 (h.fld (ropeCfg r) 7 0)]
  else h

/-- A rope's action may be cleared (R332). -/
def Hub.clearable (h : Hub) (r : Nat) : Bool := (h.rope r).st == 0 && decide (1000 ≤ (h.rope r).dryRun)

/-- A rope's action ends (R332). -/
def Hub.leakClear (h : Hub) (r who : Nat) : Hub :=
  if (h.rope r).action then
    let h := (h.updRope r (fun k => { k with action := false })).event 0x0D04 [.u8 r, .u8 who]
    (List.range 9).foldl (fun h c =>
      if (h.hsCh c).st = .held ∧ (h.hsCh c).cause = 0xB ∧ !h.leakHolds c then h.event 0x0B0A [.u8 c, .u8 0xB] else h) h
  else h

/-- LEAK.CTRL.CLEAR takes effect (R332): a rope that is not ready is left as it is, and BAD_CFG sets. -/
def Hub.leakCtrl (h : Hub) (mask who : Nat) : Hub :=
  (onesBelow 6 mask).foldl (fun h r =>
    if h.clearable r then h.leakClear r who else if (h.rope r).action then h.flag 0xD00000 0 else h) h

/-! ### Hods (R333) -/

def coolHeartbeatHod (q : HodReq) (h : Hub) : Hub × HodOut :=
  if q.who.isVf then (h, .refused)
  else (if q.who = .pf0 ∨ q.who = .smbus then h.heartbeat else h, .ok [])

/-- COOL_QUERY: a zone when `isCh` is false, a channel otherwise. -/
def coolQueryHod (q : HodReq) (isCh : Bool) (n : Nat) (h : Hub) : Hub × HodOut :=
  if q.who.isVf then (h, .refused)
  else if isCh then
    if 14 ≤ n then (h, .badArg 2)
    else
      let k := h.coolCh n
      (h, .ok [.u8 k.st.code, .u16 (k.cmd / permille), .u16 (k.target / permille), .u16 k.tach, .u16 k.flow])
  else if 8 ≤ n then (h, .badArg 2)
  else
    let k := h.zone n
    (h, .ok [.u16 (k.target / permille), .u16 (unsigned 16 k.tz), .u8 (b2n k.full + 2 * b2n k.noInput), .u32 (k.integ / 1000)])

def leakClearHod (q : HodReq) (mask : Nat) (h : Hub) : Hub × HodOut :=
  if q.who.isVf then (h, .refused)
  else if (onesBelow 6 mask).any (fun r => (h.rope r).action && !h.clearable r) then (h, .fail .busy)
  else ((onesBelow 6 mask).foldl (fun h r => h.leakClear r q.who.id) h, .ok [])

def Rope.meas (k : Rope) : Nat := k.st * 2 ^ 30 + k.res

def leakQueryHod (q : HodReq) (h : Hub) : Hub × HodOut :=
  if q.who.isVf then (h, .refused)
  else (h, .ok ((List.range 6).map (fun r => Arg.u32 (h.rope r).meas) ++
    [.u8 ((List.range 6).foldl (fun m r => if (h.rope r).action then m + 2 ^ r else m) 0), .u64 (h.ctr 0xD00050).val.toNat]))

end Sys2Proof.Machine
end

