-- ==== Sys2Proof/Machine/Crypto.lean ====
section
/-!
DEFINITION. Machine/Crypto.lean: AES-128 (FIPS 197) for the draws of R166 and R194, and SHA-384 (FIPS 180-4) for the
digests of R194 and R509. The spec names both standards; the algorithms are PRESUMED from them (log entry 12).
-/
namespace Sys2Proof.Machine

/-! ### AES-128 -/

/-- The substitution table. -/
def aesSbox : List Nat :=
  [99, 124, 119, 123, 242, 107, 111, 197, 48, 1, 103, 43, 254, 215, 171, 118, 202, 130, 201, 125, 250, 89, 71, 240, 173, 212, 162, 175, 156, 164, 114, 192, 183, 253, 147, 38, 54, 63, 247, 204, 52, 165, 229, 241, 113, 216, 49, 21, 4, 199, 35, 195, 24, 150, 5, 154, 7, 18, 128, 226, 235, 39, 178, 117] ++
  [9, 131, 44, 26, 27, 110, 90, 160, 82, 59, 214, 179, 41, 227, 47, 132, 83, 209, 0, 237, 32, 252, 177, 91, 106, 203, 190, 57, 74, 76, 88, 207, 208, 239, 170, 251, 67, 77, 51, 133, 69, 249, 2, 127, 80, 60, 159, 168, 81, 163, 64, 143, 146, 157, 56, 245, 188, 182, 218, 33, 16, 255, 243, 210] ++
  [205, 12, 19, 236, 95, 151, 68, 23, 196, 167, 126, 61, 100, 93, 25, 115, 96, 129, 79, 220, 34, 42, 144, 136, 70, 238, 184, 20, 222, 94, 11, 219, 224, 50, 58, 10, 73, 6, 36, 92, 194, 211, 172, 98, 145, 149, 228, 121, 231, 200, 55, 109, 141, 213, 78, 169, 108, 86, 244, 234, 101, 122, 174, 8] ++
  [186, 120, 37, 46, 28, 166, 180, 198, 232, 221, 116, 31, 75, 189, 139, 138, 112, 62, 181, 102, 72, 3, 246, 14, 97, 53, 87, 185, 134, 193, 29, 158, 225, 248, 152, 17, 105, 217, 142, 148, 155, 30, 135, 233, 206, 85, 40, 223, 140, 161, 137, 13, 191, 230, 66, 104, 65, 153, 45, 15, 176, 84, 187, 22]

/-- Substitution of one byte. -/
def aesSub (b : Nat) : Nat := aesSbox.getD b 0

/-- Doubling in the field of AES. -/
def aesDouble (b : Nat) : Nat := if b < 128 then 2 * b else (2 * b % 256) ^^^ 0x1B

/-- Bytes combined by exclusive or. -/
def xorBytes (a b : List Nat) : List Nat := List.zipWith (· ^^^ ·) a b

/-- The row shift of a 16-byte block held by columns. -/
def aesShift (s : List Nat) : List Nat :=
  (List.range 16).map fun i => s.getD ((i + 4 * (i % 4)) % 16) 0

/-- The mix of one column. -/
def aesMix (a b c d : Nat) : List Nat :=
  let t := a ^^^ b ^^^ c ^^^ d
  [a ^^^ t ^^^ aesDouble (a ^^^ b), b ^^^ t ^^^ aesDouble (b ^^^ c),
   c ^^^ t ^^^ aesDouble (c ^^^ d), d ^^^ t ^^^ aesDouble (d ^^^ a)]

/-- The mix of a block. -/
def aesMixAll : List Nat → List Nat
  | a :: b :: c :: d :: r => aesMix a b c d ++ aesMixAll r
  | _ => []

/-- The next round key: `rc` is the round constant. -/
def aesNextKey (rc : Nat) (k : List Nat) : List Nat :=
  let t := [aesSub (k.getD 13 0) ^^^ rc, aesSub (k.getD 14 0), aesSub (k.getD 15 0), aesSub (k.getD 12 0)]
  let w0 := xorBytes (k.take 4) t
  let w1 := xorBytes ((k.drop 4).take 4) w0
  let w2 := xorBytes ((k.drop 8).take 4) w1
  w0 ++ w1 ++ w2 ++ xorBytes (k.drop 12) w2

/-- The ten rounds that remain after the first key addition. -/
def aesRounds : Nat → Nat → List Nat → List Nat → List Nat
  | 0, _, _, s => s
  | n + 1, rc, k, s =>
    let k := aesNextKey rc k
    let s := aesShift (s.map aesSub)
    aesRounds n (aesDouble rc) k (xorBytes (if n = 0 then s else aesMixAll s) k)

/-- A number of 16 bytes as bytes, the most significant first. -/
def block16 (v : Nat) : List Nat := (List.range 16).map fun i => (v >>> (120 - 8 * i)) % 256

/-- AES-128 of a block under a key, each a 128-bit number whose most significant byte is byte 0 (R166). -/
def aes128 (key block : Nat) : Nat :=
  let k := block16 key
  (aesRounds 10 1 k (xorBytes (block16 block) k)).foldl (fun a b => a * 256 + b) 0

/-! ### SHA-384 -/

/-- The primes below 420, of which the first eighty are needed: 19 is the largest that can divide another of them. -/
def smallPrimes : List Nat :=
  (List.range 418).map (· + 2) |>.filter fun n => [2, 3, 5, 7, 11, 13, 17, 19].all fun d => n % d != 0 || n == d

/-- The integer `k`th root of `v`, from a lower bound `r`, whose low `n` bits remain to be found. -/
def rootFrom (k v : Nat) : Nat → Nat → Nat
  | 0, r => r
  | n + 1, r => rootFrom k v n (if (r + 2 ^ n) ^ k ≤ v then r + 2 ^ n else r)

/-- The first 64 bits of the fractional part of the `k`th root of a number below 512. -/
def rootFraction (k p : Nat) : Nat := rootFrom k (p * 2 ^ (64 * k)) 69 0 % 2 ^ 64

/-- The round constants: of the cube roots of the first eighty primes. -/
def shaK : List Nat := (smallPrimes.take 80).map (rootFraction 3)

/-- The initial state of SHA-384: of the square roots of the ninth to the sixteenth prime. -/
def shaInit : List Nat := ((smallPrimes.drop 8).take 8).map (rootFraction 2)

/-- 64-bit rotation to the right. -/
def rotr64 (x n : Nat) : Nat := (x >>> n) ||| (x <<< (64 - n)) % 2 ^ 64

/-- The message schedule, newest word first, extended by `n` words. -/
def shaExtend : Nat → List Nat → List Nat
  | 0, w => w
  | n + 1, w =>
    let a := w.getD 14 0
    let b := w.getD 1 0
    let s0 := rotr64 a 1 ^^^ rotr64 a 8 ^^^ (a >>> 7)
    let s1 := rotr64 b 19 ^^^ rotr64 b 61 ^^^ (b >>> 6)
    shaExtend n ((w.getD 15 0 + s0 + w.getD 6 0 + s1) % 2 ^ 64 :: w)

/-- One round on the eight working words. -/
def shaRound (s : List Nat) (kw : Nat) : List Nat :=
  match s with
  | [a, b, c, d, e, f, g, h] =>
    let s1 := rotr64 e 14 ^^^ rotr64 e 18 ^^^ rotr64 e 41
    let ch := (e &&& f) ^^^ ((2 ^ 64 - 1 - e) &&& g)
    let t1 := h + s1 + ch + kw
    let s0 := rotr64 a 28 ^^^ rotr64 a 34 ^^^ rotr64 a 39
    let mj := (a &&& b) ^^^ (a &&& c) ^^^ (b &&& c)
    [(t1 + s0 + mj) % 2 ^ 64, a, b, c, (d + t1) % 2 ^ 64, e, f, g]
  | _ => s

/-- One 128-byte block. -/
def shaBlock (s : List Nat) (bs : List Byte) : List Nat :=
  let w0 := (List.range 16).map fun i => beNat ((bs.drop (8 * i)).take 8)
  let w := (shaExtend 64 w0.reverse).reverse
  let r := (List.zipWith (· + ·) shaK w).foldl shaRound s
  List.zipWith (fun a b => (a + b) % 2 ^ 64) s r

/-- `n` blocks. -/
def shaBlocks : Nat → List Nat → List Byte → List Nat
  | 0, s, _ => s
  | n + 1, s, bs => shaBlocks n (shaBlock s (bs.take 128)) (bs.drop 128)

/-- The SHA-384 digest, 48 bytes. -/
def sha384 (bs : List Byte) : List Byte :=
  let n := (bs.length + 17 + 127) / 128
  let m := padTo (128 * n - 16) (bs ++ [0x80]) ++ beBytes 16 (8 * bs.length)
  ((shaBlocks n shaInit m).flatMap (beBytes 8)).take 48

end Sys2Proof.Machine
end

