-- ==== Sys2Proof/Machine/StreamOps.lean ====
section
/-!
DEFINITION. Machine/StreamOps.lean: what the other units ask of streams, queues and jobs, and the messages of the stream
engine (R208, R212, R221 to R225).
-/
namespace Sys2Proof.Machine

/-- Weighted round robin over `n` places from `turn`, of which `used` bricks are sent: the first place with something
waiting that has not used its weight, going once round; with the place's new count. -/
def wrr (n turn used : Nat) (weight : Nat → Nat) (has : Nat → Bool) : Option (Nat × Nat) :=
  if has turn && decide (used < weight turn) then some (turn, used + 1)
  else ((List.range n).map (fun k => (turn + 1 + k) % n)).find? has |>.map (fun k => (k, 1))

/-- A stream's context. -/
def Hub.stream (h : Hub) (s : Nat) : Strm := Tbl.get {} h.str.strm s

def Hub.updStrm (h : Hub) (s : Nat) (f : Strm → Strm) : Hub :=
  { h with str := { h.str with strm := h.str.strm.upd {} s f } }

/-- STREAM.PART_CFG[p] and STREAM.PART_CTX[p]. -/
def partCfg (p : Nat) : Nat := 0x800040 + 4 * p
def partCtx (p : Nat) : Nat := 0x800060 + 4 * p

/-- Partition p is enabled (R31). -/
def Hub.partEn (h : Hub) (p : Nat) : Bool := decide (p < 8) && h.bitAt (partCfg p) 31

def Hub.partBase (h : Hub) (p : Nat) : Nat := h.fld (partCfg p) 12 0
def Hub.partCount (h : Hub) (p : Nat) : Nat := h.fld (partCfg p) 29 16

/-- The partition whose enabled range contains a stream id (R208). -/
def Hub.streamPart (h : Hub) (s : Nat) : Option Nat :=
  (List.range 8).find? fun p =>
    h.partEn p && decide (h.partBase p ≤ s) && decide (s < h.partBase p + h.partCount p)

/-- STREAM.QUEUE_CFG of a queue. -/
def queueCfg (q : Nat) : Nat := 0x800100 + 4 * q

def Hub.queueEn (h : Hub) (q : Nat) : Bool := h.bitAt (queueCfg q) 31
def Hub.queueLat (h : Hub) (q : Nat) : Bool := h.bitAt (queueCfg q) 30
def Hub.queuePart (h : Hub) (q : Nat) : Nat := h.fld (queueCfg q) 29 27
def Hub.queueStages (h : Hub) (q : Nat) : Nat := h.fld (queueCfg q) 23 16
def Hub.quantum (h : Hub) (q : Nat) : Nat := h.fld (0x800200 + 4 * q) 15 0

/-- The class of a stream, the class of its queue (R216): true for the latency class. -/
def Hub.latency (h : Hub) (s : Nat) : Bool :=
  match (h.stream s).queue with
  | some q => h.queueLat q
  | none => false

def Hub.jobState (h : Hub) (p : Nat) : JobState := Tbl.get .none h.str.job p

/-- The partition has a running job (R161, R218). -/
def Hub.jobRunning (h : Hub) (p : Nat) : Bool := h.jobState p == .running

/-- The rounding key of a partition's job (R166). -/
def Hub.roundKey (h : Hub) (p : Nat) : Nat := Tbl.get 0 h.str.srKey p

/-- The leftmost 128 bits of SHA-384 over a label, the byte 0x01 and a seed (R166, R194). -/
def seedKey (label : List Byte) (seed : Nat) : Nat := beNat ((sha384 (label ++ [0x01] ++ leBytes 8 seed)).take 16)

/-- "OA8-SMP" and "OA8-SRK". -/
def smpLabel : List Byte := [0x4F, 0x41, 0x38, 0x2D, 0x53, 0x4D, 0x50]
def srkLabel : List Byte := [0x4F, 0x41, 0x38, 0x2D, 0x53, 0x52, 0x4B]

/-! ### Messages (R221) -/

/-- A message of the stream engine to an accelerator (R221). -/
def Hub.streamMsg (h : Hub) (x s part msg flags queue reason replaces quantum dseq : Nat) (user : List Byte) : Hub :=
  h.send x 0xC3 (mkBrick .mgmt 4 part s x 0xC3
    (leBytes 1 msg ++ leBytes 1 flags ++ leBytes 1 queue ++ leBytes 1 reason ++ leBytes 2 replaces ++ zeros 2 ++
     leBytes 4 quantum ++ zeros 4 ++ leBytes 8 dseq ++ padTo 32 user))

/-- REVOKE to the accelerators of a mask (R223). -/
def Hub.revoke (h : Hub) (s stages reason : Nat) : Hub :=
  let c := h.stream s
  (onesBelow 8 stages).foldl (fun h x =>
    h.streamMsg x s (h.queuePart c.onQueue) 0x02 0 c.onQueue reason 0 0 c.dseq []) h

/-- A REVOKE at an end of a dispatch for which R223 lists no REASON: the reason is a free value. -/
def Hub.revokeOpen (h : Hub) (s stages : Nat) : Hub := (h.revoke s stages (Config.revokeReason h.free).toNat).tick

/-- A stream enters FAULTED (R213, R231); PF0 vector 5 is raised, and the partition's VF is told after the next boundary
(R410). -/
def Hub.faultStream (h : Hub) (s reason acc : Nat) : Hub :=
  let c := h.stream s
  let part := (h.streamPart s).getD 0
  let h := if c.st = .running then h.revokeOpen s (h.queueStages c.onQueue) else h
  let h := { h with str := { h.str with
    ready := match c.queue with | some q => h.str.ready.upd [] q (fun l => l.erase s) | none => h.str.ready
    drainFaults := if c.st = StreamState.draining then h.str.drainFaults.upd 0 part (· + 1) else h.str.drainFaults } }
  let h := h.updStrm s (fun c => { c with st := .faulted, reason })
  let h := (({ h with bus := { h.bus with vfFault := h.bus.vfFault ||| 2 ^ part } } : Hub)).irq 0 5
  ((h.bump 0x800020).flag 0x800000 2).eventOnce 0x0801 part [.u8 part, .u16 s, .u8 reason, .u8 acc] part

end Sys2Proof.Machine
end

