-- ==== Sys2Proof/Machine/Governor.lean ====
section
/-!
DEFINITION. Machine/Governor.lean: telemetry, the limits, the allocator, the balance between stages, the conversion to
codes, the hardware clamps, throttle reasons and energy, and the safety wires of an accelerator (R255 to R291). Powers
are in W, energies in 10^-12 J. Fixed-point steps of R271 are computed exactly and rounded up to 1 W.
-/
namespace Sys2Proof.Machine

/-! ### Reasons (R280, R281) -/

/-- ACCx_THROT_L as the base-die safety logic drives it (R284 to R286). -/
def GovAcc.throt (g : GovAcc) : Bool := g.vrForced || g.diode || g.diodesDead

/-- The hardware forms of reasons 5, 7 and 8. -/
def Hub.hwReasons (h : Hub) (x : Nat) : Nat :=
  let g := h.acc x
  b2n (g.diode || g.diodesDead) * 32 + b2n g.vrForced * 128 + b2n h.hs.stop * 256

/-- REASON.NOW: the grant's reasons with the hardware forms; bit 0 exactly when no other bit is 1. -/
def Hub.reasonNow (h : Hub) (x : Nat) : Nat :=
  let m := (h.acc x).grant.reasons ||| h.hwReasons x
  if m = 0 then 1 else m

/-- THR_TIME and THR_COUNT of a reason (R288). -/
def thrTime (x n : Nat) : Nat := accReg x (0x100 + 16 * n)
def thrCount (x n : Nat) : Nat := accReg x (0x108 + 16 * n)

/-- The reasons of an accelerator that were not among `old` are entered (R281). -/
def Hub.countEntries (h : Hub) (x old : Nat) : Hub :=
  (onesBelow 16 (h.reasonNow x)).foldl (fun h n => if old.testBit n then h else h.bump (thrCount x n)) h

/-- A change of an accelerator's reasons: entries are counted, and what was seen in the course is kept. -/
def Hub.reasonEdge (h : Hub) (x : Nat) (f : Hub → Hub) : Hub :=
  let old := h.reasonNow x
  let h := (f h).countEntries x old
  let now := h.reasonNow x
  h.updAcc x (fun g => { g with seen := g.seen ||| now, gap := g.gap ||| (0xFFFF - now % 65536) })

/-- A course begins for an accelerator whose reasons were `old` (R280, R281). -/
def Hub.courseReasons (h : Hub) (x old : Nat) : Hub :=
  let h := h.countEntries x old
  let now := h.reasonNow x
  h.updAcc x (fun g => { g with seen := now, gap := 0xFFFF - now })

/-- The time a reason accrues for a course that ends (R281): all of it for a course-based reason or a hardware one active
throughout; for one active part of it, a free number of µs within the course. -/
def Hub.accrue (h : Hub) (x n : Nat) : Hub :=
  let g := h.acc x
  let p := h.crs.period
  if g.grant.reasons.testBit n then h.bump (thrTime x n) p
  else if !g.seen.testBit n then h
  else if !g.gap.testBit n then h.bump (thrTime x n) p
  else (h.bump (thrTime x n) ((Config.elapsed h.free).toNat % (p + 1))).tick

/-- The governor at a boundary: the ending course accrues, LAST is latched, and the grants handed over take effect. -/
def Hub.govBoundary (h : Hub) : Hub :=
  (List.range 8).foldl (fun h x =>
    let h := (List.range 16).foldl (fun h n => h.accrue x n) h
    let old := h.reasonNow x
    let h := h.updAcc x (fun g => { g with
      last := g.seen ||| old, grant := if g.sent then g.next.getD g.grant else g.grant
      next := none, sent := false, fresh := false, seen := 0, gap := 0 })
    let h := h.updAcc x (fun g => if (h.hsCh x).st = .on then g else { g with grant := {} })
    h.courseReasons x old) h

/-! ### Telemetry (R257 to R259, R263) -/

/-- A TELEMETRY payload is well formed (R257, R258). -/
def telemOk (b : Brick) : Bool :=
  let p := padTo 256 b.payload
  let at_ (i : Nat) : Nat := leNat (slice p i 1)
  !b.poison && at_ 0 == 1 && decide (at_ 1 < 8) && decide (at_ 2 < 64) && leNat (slice p 5 3) == 0 &&
  leNat (slice p 52 76) == 0 && b.part == 0 && b.stream == 0 && b.addr == 0

/-- The fields of a TELEMETRY payload that the governor uses. -/
def telemOf (b : Brick) : Telem :=
  let p := padTo 256 b.payload
  let num (o n : Nat) : Nat := leNat (slice p o n)
  { phase := num 2 1 % 64, ts := BitVec.ofNat 64 (num 8 8), energy := num 16 8, current := num 24 4
    tj := if (num 1 1).testBit 1 then some (signed 16 (num 28 2)) else none
    progress := num 32 4, work := num 36 4, stageValid := (num 1 1).testBit 2
    act := (List.range 256).map (fun c => num (128 + c / 2) 1 / 16 ^ (c % 2) % 16) }

/-- An ageing report lowers a core's ceiling (R263). -/
def Hub.ageing (h : Hub) (x core code : Nat) : Hub :=
  let g := h.acc x
  let old := g.ceil.getD core 0
  if core < g.ident.ncores ∧ code < old then
    (h.updAcc x (fun g => { g with ceil := g.ceil.set core code })).event 0x0A07 [.u8 x, .u8 core, .u8 old, .u8 code]
  else h

/-- The oldest TELEMETRY brick of accelerator x is accepted, or discarded and counted (R258). -/
def Hub.telemetry (h : Hub) (x : Nat) : Hub :=
  match h.takeBrick 0xC2 x .telemetry with
  | none => h
  | some (b, h) =>
    if h.crs.closed || !telemOk b then h.updAcc x (fun g => { g with badTelem := sat 255 (g.badTelem + 1) })
    else
      let h := h.updAcc x (fun g => { g with telem := some (telemOf b), fresh := true })
      let num (o : Nat) : Nat := leNat (slice b.payload o 1)
      if (num 1).testBit 0 then h.ageing x (num 3) (num 4) else h

/-- The TELEMETRY bricks that wait at the governor are judged before telemetry closes (R44, R258). -/
def Hub.drainTelemetry (h : Hub) : Hub := (h.fab.inbox.filter (·.unit == 0xC2)).foldl (fun h i => h.telemetry i.port) h

/-! ### The power model (R260 to R262, R271) -/

/-- The VF voltage of a code in mV: linear between points, rounded up to 5 mV (R260). -/
def voltOf : List (Nat × Nat) → Nat → Nat
  | [], _ => 0
  | [(_, v)], _ => divUp v 5 * 5
  | (c0, v0) :: (c1, v1) :: t, f =>
    if f ≤ c0 then divUp v0 5 * 5
    else if f < c1 then divUp (v0 * (c1 - f) + v1 * (f - c0)) (5 * (c1 - c0)) * 5
    else voltOf ((c1, v1) :: t) f

def Ident.volt (i : Ident) (f : Nat) : Nat := voltOf i.vf f

/-- P_MAX under the fused sled maximum (R262). -/
def Ident.pCap (i : Ident) : Nat := min i.pMax 1500

/-- The phase that the accelerator's last telemetry names, with its preferences and its estimate (R270, R271). -/
def Hub.phaseOf (h : Hub) (x : Nat) : Nat := (((h.acc x).telem).map (·.phase)).getD 0
def Hub.phaseCfg (h : Hub) (x : Nat) : Nat := h.reg (accReg x (0x200 + 4 * h.phaseOf x))
def Hub.fminOf (h : Hub) (x : Nat) : Nat := bits (h.phaseCfg x) 7 0
def Hub.fmaxOf (h : Hub) (x : Nat) : Nat := bits (h.phaseCfg x) 15 8
def Hub.eppOf (h : Hub) (x : Nat) : Nat := h.reg (accReg x (0x300 + 4 * h.phaseOf x))

/-- The estimated power with the cores' codes adding up to `sum` at voltage `v`, each core carrying an equal share. -/
def Hub.power (h : Hub) (x sum v : Nat) : Nat :=
  let g := h.acc x
  let den := 256 * g.ident.ncores * g.f0 * g.v0 ^ 2 * h.crs.period * 1000000
  g.ident.pBase + (if den = 0 then 0 else divUp (h.eppOf x * g.pr * sum * v ^ 2) den)

/-- The accelerator's power at F_MIN: a core whose ceiling is lower counts at its ceiling (R262). -/
def Hub.powerMin (h : Hub) (x : Nat) : Nat :=
  let g := h.acc x
  h.power x (((g.ceil.take g.ident.ncores).map (min g.ident.fMin)).sum) (g.ident.volt g.ident.fMin)

/-- P(a, F) of R271. -/
def Hub.pw (h : Hub) (x f : Nat) : Nat :=
  let i := (h.acc x).ident
  if f = i.fMin then h.powerMin x else h.power x (i.ncores * f) (i.volt f)

/-- The highest code up to `top` that satisfies `p`; none below it. -/
def highest (p : Nat → Bool) : Nat → Option Nat
  | 0 => if p 0 then some 0 else none
  | n + 1 => if p (n + 1) then some (n + 1) else highest p n

/-- An existing core's ceiling lies above a code, so that a limit at the code lowers a grant. -/
def Hub.lowers (h : Hub) (x f : Nat) : Bool := ((h.acc x).ceil.take (h.acc x).ident.ncores).any (fun c => decide (f < c))

/-! ### Energy windows and limits (R266 to R269, R282) -/

def Hub.winS (h : Hub) : Nat := h.fld 0xA00004 15 8

/-- The energy of the newest `us` µs of a window: whole bins, then a share of the bin that reaches beyond it; bins that are
missing hold `fill` W. -/
def spanEnergy (fill : Nat) : Nat → List (Nat × Nat) → Nat
  | us, [] => fill * us * 1000000
  | us, (e, t) :: rest => if t ≤ us then e + spanEnergy fill (us - t) rest else e * us / t

/-- The window cap of a limit in W over WIN_S, less one course (R267). -/
def Hub.windowCap (h : Hub) (watts : Nat) (bins : List (Nat × Nat)) (fill : Nat) : Nat :=
  (watts * h.winS * 10 ^ 12 - spanEnergy fill (h.winS * 1000000 - h.crs.period) bins) / (h.crs.period * 1000000)

/-- One course's energy and length enter the bin in progress; after 1,000 courses a new one begins. 3,001 full bins hold 60 s
at any period. -/
def pushBin (full : Bool) (bins : List (Nat × Nat)) (e us : Nat) : List (Nat × Nat) :=
  let bins := match bins with
    | [] => [(e, us)]
    | b :: rest => (b.1 + e, b.2 + us) :: rest
  if full then ((0, 0) :: bins).take 3002 else bins

/-- WIN_S has changed: the windows restart with their bins filled at their limits (R267). -/
def Hub.restartWindows (h : Hub) : Hub :=
  let h := { h with gov := { h.gov with bins := [], binCourses := 0, fill := h.fld 0xA00008 15 0 } }
  (List.range 8).foldl (fun h x => h.updAcc x (fun g => { g with bins := [], fill := h.fld (accReg x 0) 15 0 })) h

/-- Measured energy of a channel over the ending course. -/
def CourseMeas.energy (m : CourseMeas) (period c : Nat) : Nat :=
  let r := m.chan.getD c (0, 0)
  r.1 * r.2 * period

/-- Energy enters a counter in mJ, with what is below one mJ kept (R282). -/
def Hub.addEnergy (h : Hub) (a frac e : Nat) : Hub := h.bump a ((frac + e) / 10 ^ 9)

/-- The measured energy of the ending course enters the counters and the windows. -/
def Hub.energies (h : Hub) (m : CourseMeas) : Hub :=
  let p := h.crs.period
  let full := h.gov.binCourses + 1 == 1000
  let h := (List.range 8).foldl (fun h x =>
    let e := m.energy p x
    let h := h.addEnergy (accReg x 0x10) (h.acc x).frac e
    h.updAcc x (fun g => { g with
      frac := (g.frac + e) % 10 ^ 9, power := e / (p * 1000000), bins := pushBin full g.bins e p })) h
  let hub := m.hubMw * p * 1000
  let all := hub + ((List.range 10).map (m.energy p)).sum
  let h := h.addEnergy 0xA00028 h.gov.frac hub
  { h with gov := { h.gov with
      frac := (h.gov.frac + hub) % 10 ^ 9, binCourses := (h.gov.binCourses + 1) % 1000
      bins := pushBin full h.gov.bins all p } }

/-- Accelerator x is powered. -/
def Hub.powered (h : Hub) (x : Nat) : Bool := (h.hsCh x).st == .on

def Hub.poweredAll (h : Hub) : List Nat := (List.range 8).filter h.powered

/-- The rack cap R_C (R268). -/
def Hub.rackCap (h : Hub) : Nat := if 0 < h.gov.rounds then h.gov.lease else h.fld 0xA0000C 15 0

/-- The energy of H8, H9 and the hub over the ending course, and its length (R439). -/
def Hub.otherEnergy (h : Hub) (m : CourseMeas) : Nat × Nat :=
  let p := h.crs.period
  (m.energy p 8 + m.energy p 9 + m.hubMw * p * 1000, p)

/-- The power of H8, H9 and the hub over the ending course, in W, rounded up. -/
def Hub.otherPower (h : Hub) (m : CourseMeas) : Nat :=
  let e := h.otherEnergy m
  divUp e.1 (e.2 * 1000000)

/-- The window cap W_C within its bounds (R267). -/
def Hub.trayWindow (h : Hub) (m : CourseMeas) : Nat :=
  let w := h.windowCap (h.fld 0xA00008 15 0) h.gov.bins h.gov.fill
  let top := (h.poweredAll.map (fun x => (h.acc x).ident.pCap)).sum + h.otherPower m
  max (h.poweredAll.map h.powerMin).sum (min w top)

/-- The tray cap C and the reasons it records when it binds (R266). -/
def Hub.trayCap (h : Hub) (m : CourseMeas) : Nat × Nat :=
  let w := h.trayWindow m
  let r := h.rackCap
  let src := h.fld 0xA00004 1 0
  if src = 0 then (w, 2) else if src = 1 then (r, 4)
  else (min w r, if w < r then 2 else if r < w then 4 else 6)

/-- TL_a moves by the course's junction temperature (R269). -/
def Hub.thermalStep (h : Hub) (x : Nat) : Hub :=
  match ((h.acc x).telem).bind (·.tj) with
  | none => h
  | some t =>
    let hot := decide (h.tThrottle x - 8 * (h.fld 0xA00018 7 0 : Nat) ≤ t)
    h.updAcc x (fun g => { g with tl := if hot then g.tl - 5 else min 100 (g.tl + 1) })

/-- The values of R269, each with its reason. -/
def Hub.limitValues (h : Hub) (m : CourseMeas) (x : Nat) : List (Nat × Nat) :=
  let g := h.acc x
  let pm := g.ident.pCap
  let accLimit := h.fld (accReg x 0) 15 0
  let cur := (g.telem.map (·.current)).getD 0
  let i := (m.chan.getD x (0, 0)).1
  let lim := h.fld (hsReg x 4) 8 0 * 125000 / Config.shunt x
  let ct : Int := (h.input 24).getD (-32768)
  let excess : Nat := (ct - 8 * (h.fld 0xA00018 31 24 : Nat)).toNat
  [(pm, 3)] ++
  (if accLimit = 0 then [] else [(h.windowCap accLimit g.bins g.fill, 3)]) ++
  (if 950 * g.ident.iMax < cur then [(g.power * 950 * g.ident.iMax / cur, 4)] else []) ++
  [(pm * g.tl / 100, 5)] ++
  (if h.cool.liquid then [(pm * (160 - excess) / 160, 6)] else []) ++
  (if 9 * lim < 10 * i then [(g.power * 9 * lim / (10 * i), 13)] else []) ++
  (if h.cool.fanFail then [(pm * h.fld 0xA00018 23 16 / 100, 14)] else []) ++
  (if h.leaking then [(h.powerMin x, 15)] else [])

/-- L_a and the mask of the reasons of its smallest values (R269). -/
def Hub.limitOf (h : Hub) (m : CourseMeas) (x : Nat) : Nat × Nat :=
  let vs := h.limitValues m x
  let lo := vs.foldl (fun a v => min a v.1) (h.acc x).ident.pCap
  (max lo (h.powerMin x), vs.foldl (fun r v => if v.1 = lo then r ||| 2 ^ v.2 else r) 0)

/-! ### The allocator (R272) -/

/-- What the allocator holds for one powered accelerator. -/
structure Share where
  x : Nat
  lim : Nat
  limReasons : Nat
  lo : Nat
  hi : Nat
  f : Nat
  deriving DecidableEq, Repr

/-- What a stale accelerator is charged, whatever its code: the larger of its last granted power estimate and its measured
sled power (R259). -/
def Hub.staleCharge (h : Hub) (x : Nat) : Nat := max (h.acc x).grant.alloc (h.acc x).power

/-- What an accelerator at a code is charged against the budget (R259, R272). -/
def Hub.charge (h : Hub) (x f : Nat) : Nat := if (h.acc x).stale then h.staleCharge x else h.pw x f

/-- An accelerator may take the next code within what is left of the budget (R272). A stale one costs nothing more, and takes
codes only while its estimate stays within its charge (R259, log entry 107). -/
def Hub.affords (h : Hub) (rem : Int) (x f : Nat) : Bool :=
  if (h.acc x).stale then decide (h.pw x (f + 1) ≤ h.staleCharge x)
  else decide ((h.pw x (f + 1) : Int) - h.pw x f ≤ rem)

def Hub.shareOf (h : Hub) (m : CourseMeas) (x : Nat) : Share :=
  let i := (h.acc x).ident
  let l := h.limitOf m x
  let hi := (highest (fun f => decide (h.pw x f ≤ l.1)) (h.fmaxOf x)).getD 0
  let lo := max (h.fminOf x) i.fMin
  let lo := if l.1 < h.pw x lo then max i.fMin hi else lo
  { x, lim := l.1, limReasons := l.2, lo, hi, f := lo }

/-- What is left of the budget. -/
def Hub.remOf (h : Hub) (budget : Int) (ss : List Share) : Int :=
  budget - (((ss.map (fun s => h.charge s.x s.f)).sum : Nat) : Int)

/-- The marginal value of the next code, as a fraction (R271). -/
def Hub.marginal (h : Hub) (s : Share) : Nat × Nat :=
  let bias : Int := signed 4 (bits (h.phaseCfg s.x) 19 16)
  ((h.acc s.x).pr * (16 + bias).toNat, (h.acc s.x).f0 * (h.pw s.x (s.f + 1) - h.pw s.x s.f))

/-- The accelerator that takes the next code: the largest marginal value, ties to the lowest index. -/
def Hub.pick (h : Hub) (rem : Int) (ss : List Share) : Option Share :=
  ss.foldl (fun best s =>
    if s.f < s.hi ∧ h.eppOf s.x ≠ 0 ∧ h.affords rem s.x s.f then
      match best with
      | none => some s
      | some b =>
        let (n, d) := h.marginal s
        let (n', d') := h.marginal b
        if n' * d < n * d' then some s else best
    else best) none

/-- The loop of R272. -/
def Hub.raiseCodes (h : Hub) : Nat → Int → List Share → List Share
  | 0, _, ss => ss
  | k + 1, rem, ss =>
    match h.pick rem ss with
    | none => ss
    | some s =>
      h.raiseCodes k (rem - ((h.charge s.x (s.f + 1) : Int) - h.charge s.x s.f))
        (ss.map (fun t => if t.x = s.x then { t with f := t.f + 1 } else t))

/-- The allocation of the budget A, and whether the floor was breached. -/
def Hub.allocate (h : Hub) (m : CourseMeas) (budget : Int) : List Share × Bool :=
  let ss := h.poweredAll.map (h.shareOf m)
  let rem := h.remOf budget ss
  if rem < 0 then (ss.map (fun s => { s with f := (h.acc s.x).ident.fMin }), true)
  else
    let sum := (ss.map (fun s => (h.acc s.x).ident.pCap)).sum
    let ss := ss.map fun s =>
      if h.eppOf s.x = 0 then
        let room := if (h.acc s.x).stale then h.staleCharge s.x - h.pw s.x s.lo
          else rem.toNat * (h.acc s.x).ident.pCap / sum
        { s with f := (highest (fun f => decide (h.pw s.x f - h.pw s.x s.lo ≤ room)) s.hi).getD s.lo }
      else s
    (h.raiseCodes 2048 (h.remOf budget ss) ss, false)

/-! ### Balance between stages (R273, R274) -/

/-- The running latency-class stream of an accelerator, if any; its class is that of its queue (R216, R273). -/
def Hub.latStream (h : Hub) (x : Nat) : Option Nat :=
  (h.str.strm.find? (fun e => e.2.st == .running && h.latency e.1 && (h.queueStages e.2.onQueue).testBit x)).map (·.1)

/-- Insertion by a key, keeping equal keys in order. -/
def insertBy (key : Nat → Nat) (a : Nat) : List Nat → List Nat
  | [] => [a]
  | b :: t => if key a < key b then a :: b :: t else b :: insertBy key a t

/-- Offers taken in order until their sum reaches the limit: donor and amount. -/
def takeOffers : Nat → List (Nat × Nat) → List (Nat × Nat)
  | _, [] => []
  | room, (d, o) :: t => (d, min o room) :: takeOffers (room - min o room) t

/-- What the shifts leave: the allocations, the donors that fell, the critical members, and the reasons of a critical member
whose receipt was cut. -/
structure Shifted where
  alloc : Tbl Nat
  donors : List Nat := []
  crits : List Nat := []
  cuts : Tbl Nat := []
  deriving DecidableEq, Repr

/-- The reasons for which a critical member takes less than is offered: its L_a, or its phase's FMAX (R269, R270, R274). -/
def Hub.cutReasons (h : Hub) (s : Share) : Nat :=
  let fm := h.pw s.x (h.fmaxOf s.x)
  (if s.lim ≤ fm then s.limReasons else 0) ||| b2n (decide (fm ≤ s.lim)) * 1024

/-- The shift within one group (R274). -/
def Hub.shiftGroup (h : Hub) (ss : List Share) (t : Shifted) (members : List Nat) : Shifted :=
  let alloc := t.alloc
  let work (x : Nat) : Nat := (((h.acc x).telem).map (·.work)).getD 0
  let okay := decide (2 ≤ members.length) && members.all (fun x => (h.acc x).fresh && (((h.acc x).telem).map (·.stageValid)).getD false)
  match members with
  | [] => t
  | m0 :: rest =>
    if !okay then t
    else
      let crit := rest.foldl (fun c x => if work c < work x then x else c) m0
      let donors := members.filter (fun x => decide (100 * work x < 95 * work crit))
      let sorted := donors.foldl (fun l x => insertBy work x l) []
      let offers := sorted.map fun x =>
        let a := alloc.get 0 x
        (x, min (a * h.fld 0xA00014 23 16 / 100) (a - h.powerMin x))
      let taken := takeOffers (h.fld 0xA00014 15 0) offers
      let sum := (taken.map (·.2)).sum
      let share := ss.find? (·.x == crit)
      let top := (share.map (fun s => min s.lim (h.pw crit (h.fmaxOf crit)))).getD 0
      let got := min sum (top - alloc.get 0 crit)
      let back := takeOffers (sum - got) taken.reverse
      let net := taken.map (fun t => (t.1, t.2 - ((back.find? (·.1 == t.1)).map (·.2)).getD 0))
      { alloc := net.foldl (fun a t => a.upd 0 t.1 (· - t.2)) (alloc.upd 0 crit (· + got))
        donors := t.donors ++ (net.filter (fun t => decide (0 < t.2))).map (·.1)
        crits := t.crits ++ [crit]
        cuts := if got < sum then t.cuts.set 0 crit ((share.map h.cutReasons).getD 0) else t.cuts }

/-- The shift of every group. -/
def Hub.shift (h : Hub) (ss : List Share) (alloc : Tbl Nat) : Shifted :=
  if h.bitAt 0xA00000 0 then { alloc }
  else
    let streams := ((ss.filterMap (fun s => h.latStream s.x))).foldl (fun l s => if l.contains s then l else l ++ [s]) []
    streams.foldl (fun t s => h.shiftGroup ss t ((ss.map (·.x)).filter (fun x => h.latStream x == some s))) { alloc }

/-! ### Conversion to codes (R276, R278, R262, R284) -/

/-- The last reported activity of a core is 0. -/
def Hub.idleCore (h : Hub) (x c : Nat) : Bool :=
  match (h.acc x).telem with
  | none => false
  | some t => t.act.getD c 15 == 0

/-- The code of a core whose activity was 0. -/
def Hub.idleCode (h : Hub) (x c : Nat) : Nat :=
  max (min (h.fminOf x) ((h.acc x).ceil.getD c 0)) (h.acc x).ident.fMin

/-- The estimated power at chip code F with the idle cores at their own code. -/
def Hub.estimate (h : Hub) (x f : Nat) : Nat :=
  let i := (h.acc x).ident
  h.power x (((List.range i.ncores).map (fun c => if h.idleCore x c then h.idleCode x c else f)).sum) (i.volt f)

/-- A capped code. -/
def capAt (cap : Option Nat) (f : Nat) : Nat := (cap.map (min f)).getD f

/-- The hardware clamps on one core's code (R262), with reason 12 when the ceiling or the voltage reach lowers it. -/
def clampCore (i : Ident) (ceil f : Nat) : Nat × Bool :=
  let a := min f ceil
  let b := max a (min i.fMin ceil)
  let c := (highest (fun k => decide (i.volt k ≤ i.vMax)) b).getD 0
  (c, decide (a < f) || decide (c < b))

/-- The grant of a powered accelerator for its allocation; `base` holds the reasons of the steps before. -/
def Hub.convertGrant (h : Hub) (x alloc base : Nat) : Grant :=
  let g := h.acc x
  let i := g.ident
  let f := (highest (fun f => decide (h.estimate x f ≤ alloc)) 255).getD i.fMin
  let rep := h.bitAt 0xA00000 0
  let hold := g.vrForced || decide (0 < g.vrHold)
  let fmax := h.fmaxOf x
  let slew := h.fld 0xA00000 23 16
  let cap := if rep || hold then some i.fGuar else none
  let cores := (List.range i.ncores).map fun c =>
    let ceil := g.ceil.getD c 0
    let want := if h.idleCore x c then h.idleCode x c else min f fmax
    let capped := capAt cap want
    let prev := g.grant.codes.getD c i.fMin
    clampCore i ceil (min capped (prev + slew))
  let live (c : Nat) : Bool := !h.idleCore x c
  let anyCore (p : Nat → Bool) : Bool := (List.range i.ncores).any p
  let r10 := anyCore (fun c => live c && decide (fmax < min f (g.ceil.getD c 0)))
  let r9 := rep && anyCore (fun c => decide (i.fGuar < min (if live c then min f fmax else h.idleCode x c) (g.ceil.getD c 0)))
  let r12 := cores.any (·.2) || anyCore (fun c => live c && decide (g.ceil.getD c 0 < capAt cap (min f fmax)))
  let codes := cores.map (·.1) ++ List.replicate (256 - i.ncores) 0
  let top := codes.foldl max 0
  { vid := divUp (max (i.volt top) i.vMin) 5, codes, code := top, alloc := h.power x codes.sum (i.volt top)
    reasons := base ||| b2n r10 * 1024 ||| b2n r9 * 512 ||| b2n r12 * 4096 ||| b2n hold * 128 }

/-! ### The close and the grant point (R255, R259, R271, R264) -/

/-- Fresh telemetry updates the estimate of the pair it names (R271). -/
def Hub.learn (h : Hub) (x : Nat) : Hub :=
  let g := h.acc x
  match g.telem with
  | none => h
  | some t =>
    if !g.fresh then h
    else
      let a := accReg x (0x300 + 4 * t.phase)
      let old := h.reg a
      let h := match g.prevEnergy with
        | some e =>
          if 0 < t.progress ∧ e ≤ t.energy then
            let sample := sat 0xFFFFFFFF ((t.energy - e) * 1000000 * 256 / t.progress)
            let new := if old = 0 then sample
              else ((old : Int) + ((sample : Int) - old) / (2 ^ h.fld 0xA00000 11 8 : Nat)).toNat
            h.setReg a new
          else h
        | none => h
      h.updAcc x (fun g => { g with
        prevEnergy := some t.energy, pr := t.progress
        f0 := if g.grant.codes = [] then g.ident.fMin else g.grant.code
        v0 := if g.grant.codes = [] then g.ident.volt g.ident.fMin else g.grant.vid * 5 })

/-- Staleness at the close (R259). -/
def Hub.staleness (h : Hub) (x : Nat) : Hub :=
  let g := h.acc x
  if !h.powered x then h.updAcc x (fun g => { g with stale := false, staleRun := 0 })
  else if g.fresh then h.updAcc x (fun g => { g with stale := false, staleRun := 0 })
  else
    let h := h.updAcc x (fun g => { g with stale := true, staleRun := sat 255 (g.staleRun + 1) })
    if g.staleRun = 7 then h.event 0x0A05 [.u8 x, .u64 ((g.telem.map (·.ts.toNat)).getD 0)] else h

/-- The reasons of the steps before the conversion, for one share. -/
def Hub.shareReasons (h : Hub) (tray : Nat) (t : Shifted) (s : Share) : Nat :=
  let free := (highest (fun f => decide (h.pw s.x f ≤ s.lim)) 255).getD 0
  let byLimit := s.f == s.hi && s.hi == free && decide (free < 255) && h.lowers s.x s.f
  let byPhase := s.f == s.hi && decide (s.hi < free) && h.lowers s.x s.f
  (if s.f < s.hi then tray else 0) ||| (if byLimit then s.limReasons else 0) ||| b2n byPhase * 1024 |||
    b2n (t.donors.contains s.x) * 2048 ||| t.cuts.get 0 s.x

/-- The computation of the course's grants (R255, R266 to R278). A floor breach names no one accelerator: 0xFF (log entry
108). -/
def Hub.computeGrants (h : Hub) (m : CourseMeas) : Hub :=
  let cap := h.trayCap m
  let budget : Int := (cap.1 : Int) - (h.otherPower m : Nat)
  let (ss, breach) := h.allocate m budget
  let h := { h with gov := { h.gov with cap := sat 65535 cap.1, budget := sat 65535 budget.toNat } }
  let h := if breach then
      (h.flag 0xA0001C 4).eventOnce 0x0A09 0 [.u8 0xFF, .u32 budget.toNat, .u32 ((ss.map (fun s => h.powerMin s.x)).sum)]
    else h
  let alloc := ss.foldl (fun t s => Tbl.set 0 t s.x (h.pw s.x s.f)) ([] : Tbl Nat)
  let t : Shifted := if breach then { alloc } else h.shift ss alloc
  let grants := ss.map (fun s => (s.x, h.convertGrant s.x (t.alloc.get 0 s.x) (h.shareReasons cap.2 t s)))
  (List.range 8).foldl (fun h x =>
    h.updAcc x (fun g => { g with
      next := (grants.find? (·.1 == x)).map (·.2), latency := (h.latStream x).isSome
      critical := t.crits.contains x, phase := h.phaseOf x
      vrHold := if g.vrForced then g.vrHold else g.vrHold - 1 })) h

/-- Telemetry closes, the snapshot is taken and the grants are computed (R255, R256). -/
def Hub.govClose (h : Hub) (m : CourseMeas) : Hub :=
  if h.crs.closed then h
  else
    let h := { h with crs := { h.crs with closed := true } }
    let h := h.energies m
    let h := { h with gov := { h.gov with other := (h.otherEnergy m :: h.gov.other).take 20 } }
    let h := (List.range 8).foldl (fun h x => ((h.staleness x).learn x).thermalStep x) h
    h.computeGrants m

/-- The GRANT brick of accelerator x (R264), for the course that begins at the next tick: after a rejoin's adjusted course
that is the manager's number (R444). -/
def Hub.grantBrick (h : Hub) (x : Nat) (g : Grant) : Brick :=
  let course := h.rack.jump.getD (h.crs.count + 1).toNat
  mkBrick' x course g h.crs.period
where
  /-- The header values of R264 in the fields of R66. -/
  mkBrick' (x course : Nat) (g : Grant) (period : Nat) : Brick :=
    { mkBrick .grant 4 (period / 128) (period % 128 * 64 + bits course 45 40) x 0xC2 (g.codes.map (BitVec.ofNat 8)) with
      addr := BitVec.ofNat 48 (g.vid * 2 ^ 40 + course % 2 ^ 40) }

/-- The grant of one accelerator is handed to its port, once and only while the port is ACTIVE (R46, R255). -/
def Hub.handGrant (h : Hub) (x : Nat) : Hub :=
  match (h.acc x).next with
  | some g =>
    if h.powered x && (h.port x).st == .active && !(h.acc x).sent then
      (h.send x 0xC2 (h.grantBrick x g)).updAcc x (fun g => { g with sent := true })
    else h
  | none => h

/-- The grants are handed to their ports (R255); one whose port is not ACTIVE waits for it until the boundary (R46). -/
def Hub.handGrants (h : Hub) : Hub := (List.range 8).foldl Hub.handGrant h

/-! ### Safety wires (R283 to R286) -/

/-- ACCx_VRALERT_L asserts (R284). An alert during the forcing ends the record of the one before. -/
def Hub.vrAssert (h : Hub) (x : Nat) : Hub :=
  if 8 ≤ x then h
  else if (h.acc x).vrForced then (h.event 0x0A01 [.u8 x, .u32 (Config.elapsed h.free).toNat]).tick
  else h.reasonEdge x (fun h => h.updAcc x (fun g => { g with vrWire := true, vrForced := true }))

/-- ACCx_VRALERT_L has been deasserted for 10 µs (R284): the wire is released and the hold begins. -/
def Hub.vrRelease (h : Hub) (x : Nat) : Hub :=
  if x < 8 ∧ (h.acc x).vrForced then
    ((h.reasonEdge x (fun h => h.updAcc x (fun g =>
      { g with vrWire := false, vrForced := false, vrHold := h.fld 0xA00018 15 8 }))).event 0x0A01
        [.u8 x, .u32 (Config.elapsed h.free).toNat]).tick
  else h

/-- ACCx_STOP_L changes on all eight (R283). -/
def Hub.driveStop (h : Hub) (v : Bool) : Hub :=
  let old := fun x => h.reasonNow x
  let h := { h with hs := { h.hs with stop := v } }
  (List.range 8).foldl (fun h x =>
    let h := h.countEntries x (old x)
    let now := h.reasonNow x
    h.updAcc x (fun g => { g with seen := g.seen ||| now, gap := g.gap ||| (0xFFFF - now % 65536) })) h

/-- FLOW_LOSS_L asserts (R283). -/
def Hub.flowAssert (h : Hub) : Hub :=
  let h := { h with hs := { h.hs with flowLoss := true } }
  if h.hs.stop then h else (h.driveStop true).event 0x0A02 [.u8 1]

/-- FLOW_LOSS_L deasserts (R306): step 4 of the tray sequence may end. -/
def Hub.flowDeassert (h : Hub) : Hub :=
  let h := { h with hs := { h.hs with flowLoss := false } }
  if h.hs.step = 4 then h.seqStep else h

/-- FLOW_LOSS_L has been deasserted for 1 s (R283). -/
def Hub.flowRelease (h : Hub) : Hub :=
  if h.hs.stop && !h.hs.flowLoss then (h.driveStop false).event 0x0A02 [.u8 0] else h

/-- The diode actions of R285 and R286 on the readings now valid. -/
def Hub.diodeCheck (h : Hub) (x : Nat) : Hub :=
  let dead := h.diodeLost (8 + 2 * x) && h.diodeLost (9 + 2 * x)
  let g := h.acc x
  if dead then
    if g.diodesDead then h
    else (h.reasonEdge x (fun h => h.updAcc x (fun g => { g with diodesDead := true }))).event 0x0A0A [.u8 x, .u8 (2 * x), .u8 (2 * x + 1)]
  else
    let h := if g.diodesDead then h.reasonEdge x (fun h => h.updAcc x (fun g => { g with diodesDead := false })) else h
    match h.diodeMax x with
    | none => h
    | some (d, t) =>
      let hot := decide (h.tThrottle x ≤ t) || (g.diode && decide (h.tThrottle x - 24 ≤ t))
      let h := if hot = g.diode then h
        else (h.reasonEdge x (fun h => h.updAcc x (fun g => { g with diode := hot }))).event 0x0A03
          [.u8 x, .u8 d, .u16 (unsigned 16 t)]
      if h.tOff x ≤ t then h.tOffTrip x d t else h.tOffEnd x

/-! ### Hods and checks (R287 to R290) -/

/-- GRANT of R290. -/
def Hub.grantReg (h : Hub) (x : Nat) : Nat :=
  let g := (h.acc x).grant
  let cs := g.codes.take (h.acc x).ident.ncores
  g.vid * 2 ^ 24 + cs.foldl max 0 * 2 ^ 16 + (match cs with | [] => 0 | c :: t => t.foldl min c) * 2 ^ 8

def pwrQueryHod (q : HodReq) (x : Nat) (h : Hub) : Hub × HodOut :=
  if q.who.isVf then (h, .refused)
  else if 8 ≤ x then (h, .badArg 1)
  else
    let g := h.acc x
    (h, .ok ([.u32 (h.grantReg x), .u16 (h.reasonNow x), .u16 g.last] ++
      (List.range 16).flatMap (fun n => [Arg.u64 (h.ctr (thrTime x n)).val.toNat, .u64 (h.ctr (thrCount x n)).val.toNat]) ++
      [.u64 (h.ctr (accReg x 0x10)).val.toNat, .u16 g.staleRun, .u8 (b2n g.critical)]))

def phaseTableSetHod (q : HodReq) (x : Nat) (es : List Nat) (h : Hub) : Hub × HodOut :=
  if q.who.isVf then (h, .refused)
  else if 8 ≤ x then (h, .badArg 1)
  else if es.length ≠ 64 ∨ es.any (fun e => decide (bits e 15 8 < bits e 7 0)) then (h, .badArg 2)
  else ((List.range 64).foldl (fun h n => h.setReg (accReg x (0x200 + 4 * n)) (es.getD n 0 % 2 ^ 20)) h, .ok [])

/-- EST_RESET: a phase of 0xFF names all 64. -/
def estResetHod (q : HodReq) (x ph : Nat) (h : Hub) : Hub × HodOut :=
  if q.who.isVf then (h, .refused)
  else if 8 ≤ x then (h, .badArg 1)
  else if ph = 0xFF then ((List.range 64).foldl (fun h n => h.setReg (accReg x (0x300 + 4 * n)) 0) h, .ok [])
  else if 64 ≤ ph then (h, .badArg 2)
  else (h.setReg (accReg x (0x300 + 4 * ph)) 0, .ok [])

end Sys2Proof.Machine
end

