-- ==== Sys2Proof/Machine/HodCore.lean ====
section
/-!
DEFINITION. Machine/HodCore.lean: the requesters' hods, the tag memory and the ways a response goes out (R382 to R394,
R403, R404, R421, R450).
-/
namespace Sys2Proof.Machine

def Hub.hod (h : Hub) (r : Nat) : Hod := Tbl.get {} h.hods.hod r
def Hub.updHod (h : Hub) (r : Nat) (f : Hod → Hod) : Hub :=
  { h with hods := { h.hods with hod := h.hods.hod.upd {} r f } }

/-- HOD.STATUS of a hod (R385). -/
def Hod.statusWord (k : Hod) : Nat :=
  let st := match k.phase with
    | .idle => 0 | .pending => 1 | .running => 2 | .waiting => 3 | .deferred => 4 | .done => 5
  st * 2 ^ 28 + k.code * 2 ^ 16 + k.tag

/-- The 16 bytes of a header (R387). -/
def hodHead (op tag len flags txn status detail : Nat) : List Byte :=
  leBytes 2 op ++ leBytes 2 tag ++ leBytes 2 len ++ leBytes 1 flags ++ leBytes 1 0x01 ++ leBytes 2 txn ++
  leBytes 1 status ++ leBytes 1 detail ++ zeros 4

/-- A response message: TRUNCATED when `len` is longer than what is carried. -/
def hodRsp (q : HodReq) (status detail len : Nat) (payload : List Byte) (truncated : Bool) : List Byte :=
  hodHead q.op q.tag len (b2n q.idem + 2 + 4 * b2n truncated) q.txn status detail ++ payload

/-! ### MCTP packets (R403, R404, R421) -/

/-- A message cut into packets of at most 64 bytes: each with its MCTP header. -/
def mctpPackets (dst src tag : Nat) (own : Bool) (msg : List Byte) : List (List Byte) :=
  let n := max 1 (divUp msg.length 64)
  (List.range n).map fun k =>
    leBytes 1 0x01 ++ leBytes 1 dst ++ leBytes 1 src ++
    leBytes 1 (b2n (k == 0) * 128 + b2n (k + 1 == n) * 64 + k % 4 * 16 + b2n own * 8 + tag % 8) ++
    (msg.drop (64 * k)).take 64

/-- An MCTP message discarded (R403, R407). -/
def Hub.mctpDrop (h : Hub) (pcie : Bool) (src cause : Nat) : Hub :=
  ((h.bump 0xF01030).flag 0xF01000 5).eventOnce 0x0F08 (b2n (!pcie))
    [.u8 (if pcie then 0 else 9), .u8 (b2n (!pcie)), .u8 src, .u8 cause]

/-- An outbound SMBus packet with the address bytes that the binding places in it, and its PEC (R421). -/
def Hub.smbPacket (h : Hub) (p : List Byte) : List Byte :=
  let b := leBytes 1 (2 * h.bus.owner) ++ leBytes 1 0x0F ++ leBytes 1 (p.length + 1) ++ leBytes 1 (2 * h.bus.smbAddr + 1) ++ p
  b ++ [BitVec.ofNat 8 (crc8 b)]

/-- An MCTP message sent on a binding; on SMBus it waits in the packet queue, or is discarded whole (R421). -/
def Hub.mctpSend (h : Hub) (pcie : Bool) (dst tag : Nat) (msg : List Byte) : Hub :=
  if pcie then { h with hods := { h.hods with mctpOut := h.hods.mctpOut ++ [{ pcie, dst, tag, bytes := msg }] } }
  else
    let ps := (mctpPackets dst h.hods.eidSmb tag false msg).map h.smbPacket
    if 130 < h.bus.out.length + ps.length then
      ((h.bump 0xF01030).flag 0xF01000 5).event 0x1008 [.u16 ps.length]
    else { h with bus := { h.bus with out := h.bus.out ++ ps } }

/-! ### Responses -/

/-- A frame on the chain: both ways for a broadcast, else toward its position, on links that are up (R435). -/
def Hub.frame (h : Hub) (typ dst : Nat) (payload : List Byte) : Hub :=
  let ways := (if dst = 0 then [false, true] else [decide (h.rack.pos < dst)]).filter (fun d => if d then h.rack.dn else h.rack.up)
  { h with rack := { h.rack with sent := h.rack.sent ++ ways.map (fun d => (d, typ, dst, payload)) } }

/-- A response goes out the way its request came in (R386, R403, R450). -/
def Hub.respond (h : Hub) (q : HodReq) (msg : List Byte) (status : Nat) : Hub :=
  let r := q.who.id
  match q.path with
  | .mctp pcie eid tag => h.mctpSend pcie eid tag (leBytes 1 0x7E ++ [0x48, 0x56] ++ msg)
  | .frame pos => h.frame 0x08 pos msg
  | .window =>
    let en := (h.hod r).intrEn
    let h := h.updHod r (fun k => { k with
      phase := .done, code := status, tag := q.tag, buf := Mem.writeN [] 0 (msg.take 4096) })
    let h := if r = 9 then { h with bus := { h.bus with hodDone := true } } else h
    if en && decide (r < 9) then h.irq r 0 else h

/-- The response of a request that is no longer outstanding, discarded where its function has been reset since (R411). -/
def Hub.deliver (h : Hub) (q : HodReq) (msg : List Byte) (status : Nat) : Hub :=
  let r := q.who.id
  if (h.hod r).stale.contains q then h.updHod r (fun k => { k with stale := k.stale.erase q })
  else (h.updHod r (fun k => { k with out := none })).respond q msg status

/-- A request's completion is released at the point of R394. -/
def Hub.timed (h : Hub) (q : HodReq) : Bool :=
  q.who.isVf || (q.who == .debug && decide (h.sec.level < 2))

/-- The completion of a request in its final form, entering the tag memory when `enter` (R391). -/
def Hub.releaseRsp (h : Hub) (c : Held) : Hub :=
  let q := c.req
  let h := if c.status = 0x10 then h.bump 0xF01020 else h
  let e : TagEntry :=
    { tag := q.tag, op := q.op, crc := q.crc, status := c.status, len := c.payload.length, payload := c.payload.take 240 }
  let h := if c.enter then h.updHod q.who.id (fun k => { k with tags := (e :: k.tags).take 64 }) else h
  h.deliver q (hodRsp q c.status c.detail c.len c.payload c.truncated) c.status

/-- A finished request: released at once, or held for the boundary of R394. `due` says that the boundary at which its
work ends is the one just passed. -/
def Hub.finish (h : Hub) (c : Held) : Hub :=
  if h.timed c.req then { h with hods := { h.hods with held := h.hods.held ++ [c] } } else h.releaseRsp c

/-- The completion of a served request: entered unless it is BUSY_RETRY or idempotent (R390, R391, R393). -/
def completion (q : HodReq) (st : Status) (detail : Nat) (payload : List Byte) (due : Bool) : Held :=
  { req := q, status := st.code, detail, len := payload.length, payload, enter := st != .busy && !q.idem, due }

/-- Every waiting request of an opcode that satisfies `p` completes. -/
def Hub.finishWaitIf (h : Hub) (op : Nat) (p : HodReq → Bool) (st : Status) (detail : Nat) (payload : List Byte) : Hub :=
  let qs := h.hods.waiting.filter (fun q => q.op == op && p q)
  let h := { h with hods := { h.hods with waiting := h.hods.waiting.filter (fun q => !(q.op == op && p q)) } }
  qs.foldl (fun h q => h.finish (completion q st detail payload false)) h

/-- Every waiting request of an opcode completes. -/
def Hub.finishWait (h : Hub) (op : Nat) (st : Status) (detail : Nat) (payload : List Byte) : Hub :=
  h.finishWaitIf op (fun _ => true) st detail payload

/-! ### Transactions ended by the hub (R374) -/

def Hub.updRb (h : Hub) (f : RegBlock → RegBlock) : Hub := { h with rb := f h.rb }

/-- REG.STATUS.BAD_ACCESS (R360, R364). -/
def Hub.badAccess (h : Hub) : Hub := h.flag 0xF00000 1

/-- A requester's OPEN transaction (R371). -/
def Hub.openTxn (h : Hub) (r : Requester) : Option Txn := h.rb.txns.find? (fun t => t.owner == r && t.phase == .opened)

def Hub.dropTxn (h : Hub) (id : Nat) : Hub := h.updRb fun b => { b with txns := b.txns.filter (·.id != id) }

/-- The hub aborts an OPEN transaction (R374): causes 1 too long OPEN, 2 its requester reset, 3 fenced or removed. -/
def Hub.hubAbort (h : Hub) (t : Txn) (cause : Nat) : Hub :=
  ((h.dropTxn t.id).flag 0xF00000 2).event 0x0F03 [.u16 t.id, .u8 t.owner.id, .u8 cause]

/-- The hub aborts a requester's OPEN transaction, if it has one. -/
def Hub.abortFor (h : Hub) (r : Requester) (cause : Nat) : Hub :=
  match h.openTxn r with
  | some t => h.hubAbort t cause
  | none => h

end Sys2Proof.Machine
end

