-- ==== Sys2Proof/Machine/HodTable.lean ====
section
/-!
DEFINITION. Machine/HodTable.lean: the opcodes of the hods and the encoding of their arguments (R388, R399).
-/
namespace Sys2Proof.Machine

/-- One argument field of a request (R388): `list w` has entries of `w` bytes, `opt w` is an optional field of `w` bytes
behind its presence flag, `record n` has `n` bytes. -/
inductive Fld where
  | u8 | u16 | u32 | u64 | list (w : Nat) | block | record (n : Nat) | opt (w : Nat)
  deriving DecidableEq, Repr

/-- A number of `w` bytes as a field. -/
def Arg.num (w v : Nat) : Arg := if w = 1 then .u8 v else if w = 2 then .u16 v else if w = 4 then .u32 v else .u64 v

/-- A field read at an offset: its value and where the next field begins. -/
def Fld.read (b : List Byte) (o : Nat) (f : Fld) : List Arg × Nat :=
  let at_ (w : Nat) : Nat := alignUp o w
  let num (p w : Nat) : Nat := leNat (slice b p w)
  match f with
  | .u8 => ([.u8 (num o 1)], o + 1)
  | .u16 => ([.u16 (num (at_ 2) 2)], at_ 2 + 2)
  | .u32 => ([.u32 (num (at_ 4) 4)], at_ 4 + 4)
  | .u64 => ([.u64 (num (at_ 8) 8)], at_ 8 + 8)
  | .list w =>
    let n := num (at_ 2) 2
    let s := alignUp (at_ 2 + 2) w
    ([.list w ((List.range (min n 4080)).map fun i => num (s + w * i) w)], s + w * n)
  | .block =>
    let n := num (at_ 2) 2
    let s := alignUp (at_ 2 + 2) 16
    ([.block (slice b s (min n 4080))], s + n)
  | .record n => ([.record (slice b (at_ 4) n)], at_ 4 + alignUp n 4)
  | .opt w =>
    let s := alignUp (o + 1) w
    ([.u8 (num o 1), Arg.num w (num s w)], s + w)

/-- The fields of a payload, and its encoded length (R388). -/
def readArgs (fs : List Fld) (b : List Byte) : List Arg × Nat :=
  let r := fs.foldl (fun (a : List Arg × Nat) f => let (x, o) := f.read b a.2; (a.1 ++ x, o)) ([], 0)
  (r.1, alignUp r.2 4)

/-- An opcode (R399): its arguments; `vf` where a VF is entitled to it; `ro` where it is read-only; `bnd` where its effect
takes place at the next boundary; `txn` where it may be staged in a transaction (R372); `part` where its first argument is
the partition field; `kiln` where it is served in kiln mode (R463). -/
structure OpRow where
  op : Nat
  args : List Fld := []
  vf : Bool := false
  ro : Bool := false
  bnd : Bool := false
  txn : Bool := false
  part : Bool := false
  kiln : Bool := false
  deriving DecidableEq, Repr

/-- A row whose effect takes place at a boundary and which may be staged. -/
def OpRow.at (op : Nat) (args : List Fld) : OpRow := { op, args, bnd := true, txn := true }
/-- The same, open to VFs. -/
def OpRow.own (op : Nat) (args : List Fld) : OpRow := { OpRow.at op args with vf := true }

/-- Blocks 0x04 to 0x09. -/
def opsOwn : List OpRow := [
  { OpRow.own 0x0401 [.u8, .u16, .u8] with part := true },
  .own 0x0402 [.list 4], .own 0x0403 [.u32, .u8, .u8], .own 0x0404 [.u32, .u8],
  { OpRow.own 0x0405 [.u32] with ro := true },
  .own 0x0501 [.u32, .u8],
  .own 0x0601 [.u16, .u32, .u32, .block],
  { OpRow.own 0x0602 [.u16, .u32, .u32] with ro := true },
  { OpRow.own 0x0603 [.u8, .u16] with part := true },
  .own 0x0701 [.u16, .u32, .record 64], .own 0x0702 [.u16, .u16, .u32, .opt 8],
  .own 0x0703 [.u16, .opt 4, .u8, .list 4],
  { OpRow.own 0x0704 [.u16] with ro := true },
  .own 0x0705 [.u16, .u32, .block],
  .own 0x0801 [.u16, .record 32], .own 0x0802 [.u16], .own 0x0803 [.u16], .own 0x0804 [.u16], .own 0x0805 [.u16, .u8],
  { OpRow.own 0x0806 [.u16] with ro := true },
  { OpRow.own 0x0807 [.u8, .u64] with part := true },
  { OpRow.own 0x0808 [.u8] with part := true, txn := false },
  { OpRow.own 0x0809 [.u8] with part := true },
  .own 0x0901 [.u16, .record 28], .own 0x0902 [.u16], .own 0x0903 [.u16], .own 0x0904 [.u16, .u8],
  { OpRow.own 0x0905 [.u16] with ro := true },
  .own 0x0906 [.u16, .record 16],
  { OpRow.own 0x0907 [.u16] with ro := true },
  .own 0x0908 [.u16]]

/-- Blocks 0x0A to 0x0E. -/
def opsTray : List OpRow := [
  { OpRow.at 0x0A01 [.u8] with ro := true }, .at 0x0A02 [.u8, .record 256], .at 0x0A03 [.u8, .u8],
  .at 0x0B01 [.u16], .at 0x0B02 [.u16], .at 0x0B03 [.u8], { OpRow.at 0x0B04 [.u8] with ro := true },
  { OpRow.at 0x0B05 [.u8] with txn := false },
  { op := 0x0C01 }, { OpRow.at 0x0C02 [.u8, .u8] with ro := true },
  { OpRow.at 0x0D01 [.u8] with txn := false }, { op := 0x0D02, ro := true },
  { op := 0x0E01, args := [.u64], ro := true }, { op := 0x0E02 }, { op := 0x0E03, ro := true }]

/-- Blocks 0x0F to 0x15. -/
def opsSystem : List OpRow := [
  { op := 0x0F01, vf := true }, { op := 0x0F02, args := [.u16, .opt 4], vf := true }, { op := 0x0F03, args := [.u16], vf := true },
  .at 0x0F04 [.u32], { op := 0x0F05 },
  { op := 0x0F06, args := [.block], vf := true, ro := true, kiln := true }, { op := 0x0F07, vf := true, ro := true, kiln := true },
  { op := 0x1001, args := [.u8, .u8, .u32, .u32], ro := true }, { op := 0x1002, ro := true },
  { op := 0x1101, args := [.u8], ro := true }, { op := 0x1102 }, { op := 0x1103 },
  { op := 0x1201, args := [.u8, .u32, .block], kiln := true }, { op := 0x1202, args := [.u8, .u8], kiln := true },
  { op := 0x1203, args := [.u8, .u8, .u8], kiln := true }, { op := 0x1204, ro := true, kiln := true },
  { op := 0x1205, args := [.u8, .u32, .block] }, { op := 0x1206, args := [.u8, .u32, .block], kiln := true },
  { op := 0x1301, ro := true, kiln := true }, { op := 0x1302, args := [.u8, .u8, .u32, .block] },
  { op := 0x1401, args := [.u32, .u16], vf := true, ro := true }, { op := 0x1402, vf := true },
  { op := 0x1403, vf := true, ro := true }, { op := 0x1501, ro := true }]

/-- Every opcode that the management core serves (R398, R399). -/
def opTable : List OpRow := opsOwn ++ opsTray ++ opsSystem

def findOp (op : Nat) : Option OpRow := opTable.find? (·.op == op)

/-! ### Arguments of a request -/

/-- A numeric argument, by its place. -/
def HodReq.num (q : HodReq) (i : Nat) : Nat :=
  match q.args[i]? with
  | some (.u8 v) | some (.u16 v) | some (.u32 v) | some (.u64 v) => v
  | _ => 0

/-- The bytes of a block or a record. -/
def HodReq.bytes (q : HodReq) (i : Nat) : List Byte :=
  match q.args[i]? with
  | some (.block b) | some (.record b) => b
  | _ => []

/-- The entries of a list. -/
def HodReq.entries (q : HodReq) (i : Nat) : List Nat :=
  match q.args[i]? with
  | some (.list _ vs) => vs
  | _ => []

/-- A field of a record argument. -/
def HodReq.recField (q : HodReq) (i o n : Nat) : Nat := leNat (slice (q.bytes i) o n)

/-- An argument that is 0 or 1 (R388), then what it leads to; any other value is BAD_ARG, naming the field. -/
def HodReq.choice {α : Type} (q : HodReq) (i field : Nat) (a : α) (k : Bool → α × HodOut) : α × HodOut :=
  if 1 < q.num i then (a, .badArg field) else k (q.num i == 1)

end Sys2Proof.Machine
end

