-- ==== Sys2Proof/Machine/MortarFmt.lean ====
section
/-!
DEFINITION. Machine/MortarFmt.lean: the element formats of the mortar engines, their exact values, and the one rounding
of each result (R162 to R166).
-/
namespace Sys2Proof.Machine

/-- A value of an operand: a finite value `m` in units of 2^-149 (floating-point and MX) or 1 (integer), with the sign
of a zero; an infinity; or not a number. -/
inductive XVal where
  | nan
  | inf (neg : Bool)
  | fin (neg0 : Bool) (m : Int)
  deriving DecidableEq, Repr

/-- The layout of a floating-point element: exponent bits, mantissa bits, bias, and whether its top exponent holds Inf
and NaN (IEEE 754), NaN only in its last code (E4M3), or neither. -/
structure FloatFmt where
  eb : Nat
  mb : Nat
  bias : Nat
  ieee : Bool := true
  lastNan : Bool := false
  deriving DecidableEq, Repr

def fp32Fmt : FloatFmt := { eb := 8, mb := 23, bias := 127 }
def bf16Fmt : FloatFmt := { eb := 8, mb := 7, bias := 127 }
def fp16Fmt : FloatFmt := { eb := 5, mb := 10, bias := 15 }
def e4m3Fmt : FloatFmt := { eb := 4, mb := 3, bias := 7, ieee := false, lastNan := true }
def e5m2Fmt : FloatFmt := { eb := 5, mb := 2, bias := 15 }
def e3m2Fmt : FloatFmt := { eb := 3, mb := 2, bias := 3, ieee := false }
def e2m3Fmt : FloatFmt := { eb := 2, mb := 3, bias := 1, ieee := false }
def e2m1Fmt : FloatFmt := { eb := 2, mb := 1, bias := 1, ieee := false }

def FloatFmt.width (f : FloatFmt) : Nat := 1 + f.eb + f.mb

/-- The place, in units of 2^-149, of the smallest step of the format. -/
def FloatFmt.kmin (f : FloatFmt) : Nat := 150 - f.bias - f.mb

/-- The largest finite code without its sign. -/
def FloatFmt.maxCode (f : FloatFmt) : Nat :=
  if f.ieee then (2 ^ f.eb - 1) * 2 ^ f.mb - 1
  else if f.lastNan then 2 ^ (f.eb + f.mb) - 2 else 2 ^ (f.eb + f.mb) - 1

/-- The exact value of a code. -/
def FloatFmt.value (f : FloatFmt) (c : Nat) : XVal :=
  let neg := c.testBit (f.eb + f.mb)
  let e := bits c (f.eb + f.mb - 1) f.mb
  let m := c % 2 ^ f.mb
  if f.ieee && e == 2 ^ f.eb - 1 then (if m = 0 then .inf neg else .nan)
  else if f.lastNan && c % 2 ^ (f.eb + f.mb) == 2 ^ (f.eb + f.mb) - 1 then .nan
  else
    let mag : Nat := if e = 0 then m * 2 ^ f.kmin else (2 ^ f.mb + m) * 2 ^ (f.kmin + e - 1)
    .fin neg (if neg then -(mag : Int) else mag)

/-- The element formats of the format table (R162). -/
inductive EFmt where
  | fl (f : FloatFmt)
  | int (bits : Nat)
  /-- An MX format: its element is a float, or MXINT8 when none; elements per brick; the largest normal exponent. -/
  | mx (f : Option FloatFmt) (epb emax : Nat)
  deriving DecidableEq, Repr

/-- The format that a code names (R162); none where the code is invalid. -/
def efmt : Nat → Option EFmt
  | 0x0 => some (.fl fp32Fmt)
  | 0x1 => some (.fl bf16Fmt)
  | 0x2 => some (.fl fp16Fmt)
  | 0x3 => some (.fl e4m3Fmt)
  | 0x4 => some (.fl e5m2Fmt)
  | 0x5 => some (.int 8)
  | 0x6 => some (.int 32)
  | 0x8 => some (.mx (some e4m3Fmt) 224 8)
  | 0x9 => some (.mx (some e5m2Fmt) 224 15)
  | 0xA => some (.mx (some e3m2Fmt) 320 4)
  | 0xB => some (.mx (some e2m3Fmt) 320 2)
  | 0xC => some (.mx (some e2m1Fmt) 480 2)
  | 0xD => some (.mx none 224 0)
  | _ => none

def EFmt.isInt : EFmt → Bool
  | .int _ => true
  | _ => false

def EFmt.isMx : EFmt → Bool
  | .mx .. => true
  | _ => false

/-- The bits of one element, without a block's scale. -/
def EFmt.elemBits : EFmt → Nat
  | .fl f => f.width
  | .int b => b
  | .mx (some f) _ _ => f.width
  | .mx none _ _ => 8

/-- Elements per brick (R162). -/
def EFmt.epb : EFmt → Nat
  | .fl f => 2048 / f.width
  | .int b => 2048 / b
  | .mx _ n _ => n

/-- The data bytes of a brick with `n` elements (R162, R163). -/
def EFmt.dataLen (f : EFmt) (n : Nat) : Nat :=
  match f with
  | .mx .. => 16 + divUp n 32 * (4 * f.elemBits)
  | _ => n * f.elemBits / 8

/-- The code of element `j` of `bs`, elements of `w` bits packed little-endian. -/
def elemAt (w : Nat) (bs : List Byte) (j : Nat) : Nat :=
  bits (leNat ((bs.drop (w * j / 8)).take 5)) (w * j % 8 + w - 1) (w * j % 8)

/-- Codes of `w` bits packed little-endian. -/
def packElems (w : Nat) (cs : List Nat) : List Byte :=
  leBytes (divUp (w * cs.length) 8) (cs.foldr (fun c a => a * 2 ^ w + c) 0)

/-- A value times 2^x, where the result is a whole number of units. -/
def XVal.scale (v : XVal) (x : Int) : XVal :=
  match v with
  | .fin s m => .fin s (if 0 ≤ x then m * 2 ^ x.toNat else m / 2 ^ (-x).toNat)
  | v => v

/-- The value of element `j` of a brick's data (R162, R163). -/
def EFmt.valueAt (f : EFmt) (bs : List Byte) (j : Nat) : XVal :=
  match f with
  | .fl g => g.value (elemAt g.width bs j)
  | .int b => .fin false (signed b (elemAt b bs j))
  | .mx g _ _ =>
    let k := j / 32
    let s := (bs.getD k 0).toNat
    let blk := bs.drop (16 + k * (4 * f.elemBits))
    if s = 0xFF then .nan
    else match g with
      | some g => (g.value (elemAt g.width blk (j % 32))).scale ((s : Int) - 127)
      | none => (XVal.fin false (signed 8 (elemAt 8 blk (j % 32)) * 2 ^ 143)).scale ((s : Int) - 127)

/-- The first `n` elements of a brick. -/
def EFmt.unpack (f : EFmt) (bs : List Byte) (n : Nat) : List XVal := (List.range n).map (f.valueAt bs)

/-! ### Combining -/

/-- A result before rounding: `m / den` units, or a special value. -/
structure Exact where
  v : XVal
  den : Nat := 1
  deriving DecidableEq, Repr

def XVal.isNan : XVal → Bool
  | .nan => true
  | _ => false

/-- The zero with a negative sign. -/
def XVal.negZero : XVal → Bool
  | .fin s m => s && m == 0
  | _ => false

/-- The exact sum of contributions (R165). -/
def sumVals (vs : List XVal) : XVal :=
  if vs.any XVal.isNan || (vs.contains (.inf true) && vs.contains (.inf false)) then .nan
  else if vs.contains (.inf true) then .inf true
  else if vs.contains (.inf false) then .inf false
  else
    let m := vs.foldl (fun a v => match v with | .fin _ m => a + m | _ => a) 0
    .fin (vs.all XVal.negZero || decide (m < 0)) m

/-- The order of max: NaN apart, +0 above −0 (R165). -/
def XVal.less : XVal → XVal → Bool
  | .inf n, .inf n' => n && !n'
  | .inf n, _ => n
  | _, .inf n' => !n'
  | .fin s m, .fin s' m' => decide (m < m') || (m == m' && m == 0 && s && !s')
  | _, _ => false

/-- The largest value and the lowest place that holds it; for a NaN, the lowest place holding one (R165). -/
def maxVal (vs : List XVal) : XVal × Nat :=
  match vs.findIdx? XVal.isNan with
  | some i => (.nan, i)
  | none =>
    match vs with
    | [] => (.fin false 0, 0)
    | v :: rest =>
      let r := rest.foldl (fun (b : XVal × Nat × Nat) c =>
        if b.1.less c then (c, b.2.2, b.2.2 + 1) else (b.1, b.2.1, b.2.2 + 1)) (v, 0, 1)
      (r.1, r.2.1)

/-- The smallest value. -/
def minVal (vs : List XVal) : XVal :=
  if vs.any XVal.isNan then .nan
  else match vs with
    | [] => .fin false 0
    | v :: rest => rest.foldl (fun b c => if c.less b then c else b) v

/-- The combination of an element's contributions in rank order (R155, R165): 0 sum, 1 max, 2 min, 3 max with its
rank, 4 mean. -/
def combine (op : Nat) (vs : List XVal) : Exact × Nat :=
  if op = 1 ∨ op = 3 then let r := maxVal vs; ({ v := r.1 }, r.2)
  else if op = 2 then ({ v := minVal vs }, 0)
  else ({ v := sumVals vs, den := if op = 4 then max 1 vs.length else 1 }, 0)

/-! ### Rounding (R164, R165) -/

/-- The rounding mode of an element: to nearest even, or stochastic with its draw. -/
inductive Round where
  | nearest
  | stochastic (u : Nat)
  deriving DecidableEq, Repr

/-- The magnitude `num / den` in steps of `2^k` units, rounded to a whole number of steps; `neg` is the value's sign,
which decides which neighbour is the lower one (R165). -/
def roundSteps (r : Round) (neg : Bool) (num den k : Nat) : Nat :=
  let d := den * 2 ^ k
  let a := num / d
  let rem := num % d
  if rem = 0 then a
  else match r with
    | .nearest => if d < 2 * rem ∨ (2 * rem = d ∧ a % 2 = 1) then a + 1 else a
    | .stochastic u =>
      if neg then (if u < (d - rem) * 2 ^ 32 / d then a else a + 1)
      else (if u < rem * 2 ^ 32 / d then a + 1 else a)

/-- The code, without its sign, that a positive magnitude rounds to in a float format, not yet bounded. -/
def FloatFmt.roundCode (f : FloatFmt) (r : Round) (neg : Bool) (num den : Nat) : Nat :=
  let k := max f.kmin (Nat.log2 (num / den) - f.mb)
  (k - f.kmin) * 2 ^ f.mb + roundSteps r neg num den k

/-- The canonical NaN of a float format (R165). -/
def FloatFmt.nanCode (f : FloatFmt) : Nat :=
  if f.lastNan then 2 ^ (f.eb + f.mb) - 1
  else if f.mb = 2 then 0x7E
  else (2 ^ f.eb - 1) * 2 ^ f.mb + 2 ^ (f.mb - 1)

/-- A float result element: its code and whether it saturated or overflowed (R165). E4M3 has no Inf: an Inf result is an
overflow. -/
def FloatFmt.encode (f : FloatFmt) (r : Round) (sat : Bool) (x : Exact) : Nat × Bool :=
  let sgn (n : Bool) : Nat := if n then 2 ^ (f.eb + f.mb) else 0
  let tooBig (n : Bool) : Nat × Bool :=
    (sgn n + (if sat then f.maxCode else f.maxCode + 1), true)
  match x.v with
  | .nan => (f.nanCode, false)
  | .inf n => if f.ieee then (sgn n + f.maxCode + 1, false) else tooBig n
  | .fin s m =>
    if m = 0 then (sgn s, false)
    else
      let neg := decide (m < 0)
      let c := f.roundCode r neg m.natAbs x.den
      if f.maxCode < c then tooBig neg else (sgn neg + c, false)

/-- An integer result element (R165): exact, or a mean rounded, saturating at the range. -/
def encodeInt (b : Nat) (r : Round) (x : Exact) : Nat × Bool :=
  match x.v with
  | .fin _ m =>
    let neg := decide (m < 0)
    let q : Int := roundSteps r neg m.natAbs x.den 0
    let v := if neg then -q else q
    let lo : Int := -(2 ^ (b - 1))
    let hi : Int := 2 ^ (b - 1) - 1
    if v < lo then (unsigned b lo, true) else if hi < v then (unsigned b hi, true) else (unsigned b v, false)
  | _ => (0, false)

/-- The exponent X of a block of 32 (R164), from its finite values, clamped to −127 to 127. -/
def blockExp (emax : Nat) (xs : List Exact) : Int :=
  let top := xs.foldl (fun (a : Int) x => match x.v with
    | .fin _ m =>
      if m = 0 then a
      else
        let q := m.natAbs / x.den
        let e : Int := (if q = 0 then (-1) else (Nat.log2 q : Int)) - 149 - emax
        if a < e then e else a
    | _ => a) (-127)
  if 127 < top then 127 else top

/-- One MX block: its scale, and each element's code with whether it saturated (R164). -/
def encodeBlock (g : Option FloatFmt) (emax : Nat) (xs : List (Exact × Round)) : Nat × List (Nat × Bool) :=
  let hasInf := match g with | some f => f.ieee | none => false
  if xs.any (fun x => x.1.v.isNan || (!hasInf && (x.1.v == .inf true || x.1.v == .inf false))) then
    (0xFF, xs.map (fun _ => (0, false)))
  else
    let e := blockExp emax (xs.map (·.1))
    let scaled (x : Exact) : Exact :=
      match x.v with
      | .fin s m => if 0 ≤ e then { v := .fin s m, den := x.den * 2 ^ e.toNat }
        else { v := .fin s (m * 2 ^ (-e).toNat), den := x.den }
      | v => { v, den := x.den }
    let cs := xs.map fun x => match g with
      | some f => f.encode x.2 true (scaled x.1)
      | none =>
        match (scaled x.1).v with
        | .fin _ m =>
          let q := roundSteps x.2 (decide (m < 0)) m.natAbs (scaled x.1).den 143
          let c := min q 127
          (unsigned 8 (if m < 0 then -(c : Int) else c), decide (127 < q))
        | _ => (0, false)
    ((e + 127).toNat, cs)

/-- Blocks of 32. -/
def blocksOf (n : Nat) (xs : List (Exact × Round)) : List (List (Exact × Round)) :=
  (List.range n).map fun k => (xs.drop (32 * k)).take 32

/-- The data bytes of a brick of results, and for each element whether it saturated or overflowed (R162 to R165). -/
def EFmt.pack (f : EFmt) (sat : Bool) (xs : List (Exact × Round)) : List Byte × List Bool :=
  match f with
  | .fl g =>
    let cs := xs.map (fun x => g.encode x.2 sat x.1)
    (packElems g.width (cs.map (·.1)), cs.map (·.2))
  | .int b =>
    let cs := xs.map (fun x => encodeInt b x.2 x.1)
    (packElems b (cs.map (·.1)), cs.map (·.2))
  | .mx g _ emax =>
    let bl := (blocksOf (divUp xs.length 32) xs).map (encodeBlock g emax)
    (padTo 16 (bl.map (fun b => BitVec.ofNat 8 b.1)) ++ bl.flatMap (fun b => packElems f.elemBits (b.2.map (·.1))),
      bl.flatMap (fun b => b.2.map (·.2)))

/-- The draw of an element (R166): word `e mod 4` of AES-128 over SR_SEQ, the element index and the kind of rounding. -/
def srDraw (key seq e : Nat) (hubFmt : Bool) : Nat :=
  let w := aes128 key (seq * 2 ^ 80 + e / 4 * 2 ^ 48 + b2n hubFmt * 2 ^ 40)
  bits w (127 - 32 * (e % 4)) (96 - 32 * (e % 4))

end Sys2Proof.Machine
end

