-- ==== Sys2Proof/Machine/Fp32.lean ====
section
/-!
DEFINITION. Machine/Fp32.lean: the binary32 arithmetic of the samplers, with round to nearest even, and the correctly
rounded weights of R183 and R184. A number is its 32-bit code.
-/
namespace Sys2Proof.Machine.Fp

/-- The value of a code. -/
def val (c : Nat) : XVal := fp32Fmt.value c

/-- The code of an exact result, rounded to nearest even. -/
def enc (x : Exact) : Nat := (fp32Fmt.encode .nearest false x).1

def isNan (c : Nat) : Bool := (val c).isNan

/-- The sign bit. -/
def neg (c : Nat) : Bool := c.testBit 31

/-- Finite. -/
def finite (c : Nat) : Bool := match val c with | .fin _ _ => true | _ => false

/-- A code is greater than zero, or less than zero. -/
def pos (c : Nat) : Bool := match val c with | .fin _ m => decide (0 < m) | .inf n => !n | .nan => false
def below0 (c : Nat) : Bool := match val c with | .fin _ m => decide (m < 0) | .inf n => n | .nan => false

/-- Sum and difference. -/
def add (a b : Nat) : Nat := enc { v := sumVals [val a, val b] }
def sub (a b : Nat) : Nat := if isNan b then enc { v := .nan } else add a (if neg b then b - 2 ^ 31 else b + 2 ^ 31)

/-- Product. -/
def mul (a b : Nat) : Nat :=
  let s := neg a != neg b
  match val a, val b with
  | .nan, _ | _, .nan => enc { v := .nan }
  | .inf _, .inf _ => enc { v := .inf s }
  | .inf _, .fin _ m | .fin _ m, .inf _ => enc { v := if m = 0 then .nan else .inf s }
  | .fin _ m, .fin _ n => enc { v := .fin s (m * n), den := 2 ^ 149 }

/-- Quotient. -/
def div (a b : Nat) : Nat :=
  let s := neg a != neg b
  match val a, val b with
  | .nan, _ | _, .nan => enc { v := .nan }
  | .inf _, .inf _ => enc { v := .nan }
  | .inf _, .fin _ _ => enc { v := .inf s }
  | .fin _ _, .inf _ => enc { v := .fin s 0 }
  | .fin _ m, .fin _ n =>
    if n = 0 then enc { v := if m = 0 then .nan else .inf s }
    else
      let q : Int := (m.natAbs * 2 ^ 149 : Nat)
      enc { v := .fin s (if s then -q else q), den := n.natAbs }

/-- A small whole number as binary32. -/
def ofNat (n : Nat) : Nat := enc { v := .fin false ((n * 2 ^ 149 : Nat) : Int) }

/-- `a > b` as numbers; false with a NaN. -/
def gt (a b : Nat) : Bool :=
  match val a, val b with
  | .nan, _ | _, .nan => false
  | .fin _ m, .fin _ n => decide (n < m)
  | x, y => y.less x

/-- BF16 to binary32, exactly. -/
def ofBf16 (c : Nat) : Nat := c * 2 ^ 16

/-- The first `k` partial sums of e^a for a = n / 2^149, nested: a numerator and a denominator of
1 + a (1 + a / 2 (1 + …)), from the innermost term outward. -/
def expSum (n : Nat) : Nat → Nat × Nat → Nat × Nat
  | 0, acc => acc
  | i + 1, (p, q) => expSum n i (2 ^ 149 * (i + 1) * q + n * p, 2 ^ 149 * (i + 1) * q)

/-- Round half to even of p / q. -/
def roundEven (p q : Nat) : Nat :=
  let a := p / q
  let r := p % q
  if q < 2 * r ∨ (2 * r = q ∧ a % 2 = 1) then a + 1 else a

/-- 2^32 × e^−a rounded, from a lower and an upper bound on e^a: the sum of `k` terms, and that sum with its last
factor widened. More terms are taken until both bounds round alike. -/
def expTry (n : Nat) : Nat → Nat → Nat
  | 0, k => let s := expSum n k (1, 1); roundEven (2 ^ 32 * s.2) s.1
  | fuel + 1, k =>
    let lo := expSum n k (1, 1)
    let hi := expSum n k (2, 1)
    let a := roundEven (2 ^ 32 * lo.2) lo.1
    let b := roundEven (2 ^ 32 * hi.2) hi.1
    if a = b then a else expTry n fuel (2 * k)

/-- The weight w = round-half-even(2^32 × e^y) of a difference y ≤ 0 (R183 step 8, R184). Below −30 it is 0. -/
def weight (y : Nat) : Nat :=
  match val y with
  | .nan => 0
  | .inf _ => 0
  | .fin _ m =>
    if 0 ≤ m then 2 ^ 32
    else if 30 * 2 ^ 149 < m.natAbs then 0
    else expTry m.natAbs 6 64

end Sys2Proof.Machine.Fp
end

