-- ==== Sys2Proof/Machine/Tiles.lean ====
section
/-!
DEFINITION. Machine/Tiles.lean: tiles, the page table, leases, spill, migration, ECC and tile-group power (R118 to R151).
-/
namespace Sys2Proof.Machine

/-- A change of the hub alone. -/
def Dev.hubMap (d : Dev) (f : Hub → Hub) : Dev := { d with hub := f d.hub }

/-! ### Numbering (R118 to R120) -/

/-- The tile of a physical address (R118, R119). -/
def tileOf (a : Nat) : Nat := 16 * (12 * bits a 17 16 + bits a 30 27) + bits a 15 12

/-- The global tile group of a physical address. -/
def groupOf (a : Nat) : Nat := 16 * bits a 17 16 + bits a 15 12

/-- The global tile group of a tile: 16 × t + g, where the row is 12 × t + i (R118). -/
def tileGroup (n : Nat) : Nat := 16 * (n / 16 / 12) + n % 16

/-- The row of a frame's tiles (R120). -/
def frameRow (f : Nat) : Nat := 12 * (f % 4) + f / 2048

/-- The frame of a tier, tile index and page (R119, R120). -/
def frameAt (t i p : Nat) : Nat := i * 2048 + p * 4 + t

/-- The 64 bits of an entry (R126). -/
def Pte.bits (e : Pte) : Nat :=
  b2n e.valid * 2 ^ 63 + e.part % 8 * 2 ^ 60 + b2n e.res * 2 ^ 59 + b2n e.pin * 2 ^ 58 + b2n e.moving * 2 ^ 57 +
  b2n e.poison * 2 ^ 56 + e.acc % 64 * 2 ^ 50 + e.gen % 2 ^ 16 * 2 ^ 34 + e.lessees % 256 * 2 ^ 26 +
  (match e.writer with | none => 0 | some w => (8 + w % 8) * 2 ^ 22) + e.frame % 2 ^ 21

def Hub.tileAt (h : Hub) (n : Nat) : Tile := Tbl.get {} h.tile.tile n

def Hub.updTile (h : Hub) (n : Nat) (f : Tile → Tile) : Hub :=
  { h with tile := { h.tile with tile := h.tile.tile.upd {} n f } }

def Hub.pte (h : Hub) (p : Nat) : Pte := Tbl.get {} h.tile.pte p

def Hub.updPte (h : Hub) (p : Nat) (f : Pte → Pte) : Hub :=
  { h with tile := { h.tile with pte := h.tile.pte.upd {} p f } }

/-- TILE.OWNER.PART of a tile: the owner, or the owner that waits on a test; 0xF for none (R122). -/
def Hub.ownerReg (h : Hub) (n : Nat) : Nat := h.fld (0x400200 + 4 * n) 3 0

/-- The partition owns the tile (R121). -/
def Hub.owns (h : Hub) (part n : Nat) : Bool := (h.tileAt n).st == .owned && h.ownerReg n == part

/-- The number of page table entries (R125). -/
def Hub.tableSize (h : Hub) : Nat := 262144 * h.fld 0x400004 3 0

/-- The 16 tiles of a row are OWNED by the partition (R124). -/
def Hub.fullRow (h : Hub) (part r : Nat) : Bool := (List.range 16).all (fun g => h.owns part (16 * r + g))

/-- The tile frames in use: by pages, and as destinations of promotions. -/
def Hub.usedFrames (h : Hub) : List Nat :=
  (h.tile.pte.filter (fun e => e.2.valid && !e.2.res)).map (·.2.frame) ++
  (h.tile.moves.filter (fun m => !m.toSpill)).map (·.dst)

/-- The spill frames in use: by pages, and as destinations of demotions. -/
def Hub.usedSpill (h : Hub) : List Nat :=
  (h.tile.pte.filter (fun e => e.2.valid && e.2.res)).map (·.2.frame) ++
  (h.tile.moves.filter (·.toSpill)).map (·.dst)

/-- Frames in the partition's full rows, and how many of them are free (R148). -/
def Hub.frameCounts (h : Hub) (part : Nat) : Nat × Nat :=
  let rows := (List.range 48).filter (h.fullRow part)
  let used := h.usedFrames.filter (fun f => rows.contains (frameRow f))
  (512 * rows.length, 512 * rows.length - used.length)

/-- The lowest free frame of a tier among the partition's full rows (R131). -/
def Hub.freeInTier (h : Hub) (part t : Nat) : Option Nat :=
  let used := h.usedFrames
  (List.range 12).findSome? fun i =>
    if h.fullRow part (12 * t + i) then
      ((List.range 512).map (frameAt t i)).find? (fun f => !used.contains f)
    else none

/-- Placement in a tile frame (R131): the tiers in turn after the last one, skipping those without a free frame. -/
def Hub.placeTile (h : Hub) (part : Nat) : Option (Nat × Hub) :=
  let last := Tbl.get 3 h.tile.lastTier part
  (((List.range 4).map (fun k => (last + 1 + k) % 4)).findSome? fun t =>
    (h.freeInTier part t).map (fun f => (t, f))).map fun (t, f) =>
      (f, { h with tile := { h.tile with lastTier := h.tile.lastTier.set 3 part t } })

/-- The lowest free spill frame. -/
def Hub.placeSpill (h : Hub) : Option Nat :=
  let used := h.usedSpill
  (List.range (used.length + 1)).find? (fun f => decide (f < h.tile.spillFrames) && !used.contains f)

/-- Spill is on for the partition (R138), its memory works and it has a key set (R491). -/
def Hub.spillOn (h : Hub) (part : Nat) : Bool :=
  h.bitAt 0x500000 8 && h.bitAt 0x500000 part && !h.tile.memFail && !h.sec.keyLack.testBit part && decide (0 < h.tile.spillFrames)

/-! ### Memory of frames -/

/-- The bytes of a tile frame or a spill frame zeroed. The zeros cover every word of a tile frame whole, so each reads
as correct again (R130, R139). -/
def Dev.zeroFrame (d : Dev) (res : Bool) (f : Nat) : Dev :=
  if res then { d with mem := { d.mem with spill := d.mem.spill.zero (f * 65536) ((f + 1) * 65536) } }
  else
    { d with
      mem := { d.mem with tile := d.mem.tile.zero (f * 65536) ((f + 1) * 65536) }
      hub := { d.hub with tile := { d.hub.tile with
        ue := d.hub.tile.ue.filter (fun w => !(decide (f * 65536 ≤ 8 * w) && decide (8 * w < (f + 1) * 65536))) } } }

/-- The bytes of a tile zeroed (R123). -/
def Dev.zeroTile (d : Dev) (n : Nat) : Dev :=
  { d with
    mem := { d.mem with tile := d.mem.tile.filter (fun e => tileOf e.1 != n) }
    hub := { d.hub with tile := { d.hub.tile with ue := d.hub.tile.ue.filter (fun w => tileOf (8 * w) != n) } } }

/-- `n` bytes of a page from an offset. -/
def Dev.readPage (d : Dev) (e : Pte) (o n : Nat) : List Byte :=
  if e.res then d.mem.spill.readN (e.frame * 65536 + o) n else d.mem.tile.readN (e.frame * 65536 + o) n

/-- Bytes written to tile memory from a physical address. Bytes that cover part of an uncorrectable word are discarded,
and a word covered in full is correctable again (R139). -/
def Dev.putTile (d : Dev) (a : Nat) (bs : List Byte) : Dev :=
  let whole (w : Nat) : Bool := decide (a ≤ 8 * w) && decide (8 * w + 8 ≤ a + bs.length)
  let hit := d.hub.tile.ue.filter (fun w => decide (a < 8 * w + 8) && decide (8 * w < a + bs.length))
  if hit.isEmpty then { d with mem := { d.mem with tile := d.mem.tile.writeN a bs } }
  else
    let mem := ((List.range bs.length).zip bs).foldl (fun m kb =>
      let w := (a + kb.1) / 8
      if hit.contains w && !whole w then m else m.write (a + kb.1) kb.2) d.mem.tile
    { d with
      mem := { d.mem with tile := mem }
      hub := { d.hub with tile := { d.hub.tile with ue := d.hub.tile.ue.filter (fun w => !whole w) } } }

/-- Bytes written to a page from an offset. -/
def Dev.writePage (d : Dev) (e : Pte) (o : Nat) (bs : List Byte) : Dev :=
  if e.res then { d with mem := { d.mem with spill := d.mem.spill.writeN (e.frame * 65536 + o) bs } }
  else d.putTile (e.frame * 65536 + o) bs

/-! ### Errors and repair (R139, R141) -/

/-- The group's spare is still unused. -/
def Hub.spareFree (h : Hub) (n : Nat) : Bool := (Tbl.get none h.tile.spareFor (tileGroup n)).isNone

/-- A tile goes on the field list of boot repair; one that the spare already serves marks the spare itself as failed (R141,
log entry 92). -/
def Hub.listFailed (h : Hub) (n : Nat) : Hub :=
  if Tbl.get none h.tile.spareFor (tileGroup n) = some n then
    { h with tile := { h.tile with spareBad := setBit h.tile.spareBad (tileGroup n) true } }
  else { h with tile := { h.tile with failList := if h.tile.failList.contains n then h.tile.failList else h.tile.failList ++ [n] } }

/-- A tile becomes FAILED and joins the field list of boot repair; event 0x0403 (R122, R141, R151). -/
def Hub.failTile (h : Hub) (n : Nat) : Hub :=
  ((h.updTile n (fun t => { t with st := .failed, tested := false, retest := false, await := true })).listFailed n).event 0x0403
    [.u16 n, .u8 (b2n (h.spareFree n))]

/-- A tile is flagged for repair: an AVAILABLE tile, or one under re-test, fails at once; any other stays in service
(R123, R141). Event 0x0403. -/
def Hub.flagTile (h : Hub) (n : Nat) : Hub :=
  let t := h.tileAt n
  if t.repair then h
  else
    let free := t.st == .available || (t.st == .testing && t.retest)
    let h := h.updTile n (fun t => { t with repair := true })
    if free then h.failTile n
    else
      (h.listFailed n).event 0x0403 [.u16 n, .u8 (b2n (h.spareFree n))]

/-- Words found uncorrectable, by physical address, are noted and their tiles flagged (R139, R141). -/
def Hub.noteBad (h : Hub) (bad : List Nat) : Hub :=
  bad.foldl (fun h a =>
    let w := a / 8
    let h := if h.tile.ue.contains w then h else { h with tile := { h.tile with ue := w :: h.tile.ue } }
    h.flagTile (tileOf a)) h

/-- `k` words of a tile corrected (R139): counted, and against the tile's limit of the scrub pass (R141). -/
def Hub.countCe (h : Hub) (n k : Nat) : Hub :=
  if k = 0 then h
  else
    let h := (h.bump 0x400010 k).updTile n (fun t => { t with ce := t.ce + k })
    if h.fld 0x400008 23 8 < (h.tileAt n).ce then h.flagTile n else h

/-- A read meets an uncorrectable word (R139): counted and recorded with its tile, address and requester, 0xFF for one that is
no accelerator (log entry 91). -/
def Hub.ueRead (h : Hub) (a req : Nat) : Hub :=
  (((h.bump 0x400018).flag 0x400000 1).event 0x0402 [.u16 (tileOf a), .u32 a, .u8 req]).faultMet 10

/-- The first uncorrectable word that a tile access of `n` bytes at `a` meets. -/
def Hub.ueIn (h : Hub) (a n : Nat) : Option Nat :=
  (h.tile.ue.find? (fun w => decide (a < 8 * w + 8) && decide (8 * w < a + n))).map (8 * ·)

/-- A spill unit's tag does not match (R135): the page is poisoned, recorded and counted. -/
def Hub.tagFail (h : Hub) (page unit : Nat) : Hub :=
  ((h.updPte page (fun e => { e with poison := true })).bump 0x500028).event 0x0503
    [.u32 page, .u8 unit, .u8 (h.pte page).part] (h.pte page).part

/-! ### Tile-space accesses (R127, R132, R143) -/

/-- The checks 2 to 6 of R127, in order. -/
def Hub.tileCheck (h : Hub) (x : Nat) (b : Brick) : Bool :=
  let page := bits b.addr.toNat 36 16
  let o := b.addr.toNat % 65536
  let e := h.pte page
  decide (b.addr.toNat / 2 ^ 37 = 0) && decide (page < h.tableSize) && e.valid && e.part == b.part.toNat &&
  e.lessees.testBit x &&
  (if b.is .write then e.writer == some x && decide (o % 4096 + (256 - b.grout.toNat) ≤ 4096)
   else
    let len := leNat (b.payload.take 2)
    b.grout == 254 && decide (1 ≤ len) && decide (len ≤ 4096) && decide (o % 4096 + len ≤ 4096))

/-- The access count of a page goes up by one, saturating at 63 (R126, R136). -/
def Hub.touch (h : Hub) (page : Nat) : Hub := h.updPte page (fun e => { e with acc := sat 63 (e.acc + 1) })

/-- What ECC, or the tag of a spilled unit, finds in an access to offset `o` of a page (R135, R139). -/
def Hub.pageEcc (h : Hub) (page o : Nat) (ecc : EccReport) : Hub :=
  let e := h.pte page
  if e.res then (if ecc.tagFail then h.tagFail page (o / 4096) else h)
  else (h.countCe (tileOf (e.frame * 65536 + o)) ecc.corrected).noteBad ecc.bad

/-- `n` bytes of a page as a read returns them, and whether they are known to be bad: the page is poisoned, or a word of a tile
is uncorrectable, which is counted once for the read (R127, R135, R139). What bad data holds is a free value. -/
def Dev.pageData (d : Dev) (page o n req : Nat) : Dev × List Byte × Bool :=
  let e := d.hub.pte page
  let bad := if e.res then none else d.hub.ueIn (e.frame * 65536 + o) n
  if e.poison || bad.isSome then
    (d.hubMap fun h => (match bad with | some w => h.ueRead w req | none => h).tick,
      (List.range n).map (Config.badData d.hub.free), true)
  else (d, d.readPage e o n, false)

/-- The unit of the hub from which the answers of tile space leave. It is one queue, so that the answers to one accelerator keep
the order of its requests (R109); their SRC names the group, or spill (R69). -/
def tileUnit : Nat := 0x30

/-- The SRC code of a page's answers (R69). -/
def Pte.src (e : Pte) (o : Nat) : Nat := if e.res then 0x31 else 0x40 + groupOf (e.frame * 65536 + o)

/-- A READ_REQ is answered by READ_RESP bricks (R127): poisoned where the page is, or where a word is uncorrectable. The spec
says that such a read returns POISON, not that one brick of it does: the model poisons every brick (log entry 95). -/
def Dev.serveRead (d : Dev) (x : Nat) (b : Brick) (ecc : EccReport) : Dev :=
  let page := bits b.addr.toNat 36 16
  let o := b.addr.toNat % 65536
  let d := d.hubMap (·.pageEcc page o ecc)
  let e := d.hub.pte page
  let (d, data, bad) := d.pageData page o (leNat (b.payload.take 2)) x
  let bs := mkBricks .readResp (pairVc b.vc.toNat) b.part.toNat b.stream.toNat x (e.src o) 0 data
  let bs := ((List.range bs.length).zip bs).map fun (k, r) =>
    { r with addr := BitVec.ofNat 48 (b.addr.toNat + 256 * k), poison := bad }
  d.hubMap fun h => (h.touch page).sendAll x tileUnit bs

/-- The first uncorrectable word that `n` bytes at `a` cover in part: a write reads it to complete it (R139). -/
def Hub.uePartial (h : Hub) (a n : Nat) : Option Nat :=
  (h.tile.ue.find? fun w =>
    decide (a < 8 * w + 8) && decide (8 * w < a + n) && !(decide (a ≤ 8 * w) && decide (8 * w + 8 ≤ a + n))).map (8 * ·)

/-- Bytes written to a page: one that covers an uncorrectable word in part is counted and recorded as a read of it (R139, file
95). Answers whether it did. -/
def Dev.pageWrite (d : Dev) (page o : Nat) (bs : List Byte) (req : Nat) : Dev × Bool :=
  let e := d.hub.pte page
  let bad := if e.res then none else d.hub.uePartial (e.frame * 65536 + o) bs.length
  ((d.hubMap fun h => match bad with | some w => h.ueRead w req | none => h).writePage e o bs, bad.isSome)

/-- A WRITE brick is written, and after the LAST brick of its message a WRITE_CPL follows, poisoned if any brick of the
message was refused, poisoned or met an uncorrectable word in part (R66, R127, R139). -/
def Dev.serveWrite (d : Dev) (x : Nat) (b : Brick) (ecc : EccReport) : Dev :=
  let page := bits b.addr.toNat 36 16
  let o := b.addr.toNat % 65536
  let key := (x, b.vc.toNat, b.stream.toNat)
  let d := d.hubMap fun h => (if b.first then h.touch page else h).pageEcc page o ecc
  let src := (d.hub.pte page).src o
  let (d, part) := if b.poison then (d, false) else d.pageWrite page o b.data x
  let bad := d.hub.tile.badWrite.contains key || b.poison || part
  d.hubMap fun h =>
    if b.last then
      (h.markWrite key false).send x tileUnit {
        mkBrick .writeCpl (pairVc b.vc.toNat) b.part.toNat b.stream.toNat x src [] with addr := b.addr, poison := bad }
    else if bad then h.markWrite key true else h

/-- The group that a tile-space brick's page lies in, where it lies in a tile. -/
def Hub.accessGroup (h : Hub) (b : Brick) : Option Nat :=
  let e := h.pte (bits b.addr.toNat 36 16)
  if e.res then none else some (groupOf (e.frame * 65536 + b.addr.toNat % 65536))

def Hub.groupPower (h : Hub) (g : Nat) : GroupPower := Tbl.get .on h.tile.group g

def Hub.setGroup (h : Hub) (g : Nat) (p : GroupPower) : Hub :=
  { h with tile := { h.tile with group := h.tile.group.set .on g p } }

/-- The group is in RETAIN, or not yet awake. -/
def Hub.groupAsleep (h : Hub) (g : Nat) : Bool := h.groupPower g == .retained || h.groupPower g == .waking

/-- An access that waits for its group to wake (R143): it wakes the group, and is counted when it begins to wait. -/
def Hub.waitWake (h : Hub) (g x vc : Nat) : Hub :=
  let h := if h.groupPower g = .retained then h.setGroup g .waking else h
  if h.tile.wakeWait.contains (x, vc) then h
  else ({ h with tile := { h.tile with wakeWait := h.tile.wakeWait ++ [(x, vc)] } } : Hub).bump 0x400020

/-- An access of the hub itself, of the host or of scrub to a group: one in RETAIN wakes, and the access, which waits at most
2 µs, is counted (R140, R143). Time within the wait is not modelled, so it completes at once. -/
def Hub.wakeNow (h : Hub) (g : Nat) : Hub := if h.groupAsleep g then (h.setGroup g .on).bump 0x400020 else h

/-- The oldest tile-space brick from a port on a VC: its check decides between service and refusal (R127). An access to
a group in RETAIN wakes the group and waits (R143); with `force` its wait is over. -/
def Dev.serveTile (d : Dev) (x vc : Nat) (ecc : EccReport) (want : Option BT) (force : Bool) : Dev :=
  match takeFirst (fun i => i.unit == 0x30 && i.port == x && i.brick.vc.toNat == vc) d.hub.fab.inbox with
  | none => d
  | some (i, rest) =>
    let b := i.brick
    if (match want with | some t => !b.is t | none => false) then d
    else
      let taken := { d.hub with fab := { d.hub.fab with inbox := rest } }
      if !d.hub.tileCheck x b then { d with hub := taken.refuseBrick x b }
      else
        let asleep := (d.hub.accessGroup b).filter d.hub.groupAsleep
        if asleep.isSome && !force then d.hubMap (·.waitWake (asleep.getD 0) x vc)
        else
          let h := match asleep with | some g => (taken.waitWake g x vc).setGroup g .on | none => taken
          let h := { h with tile := { h.tile with wakeWait := h.tile.wakeWait.erase (x, vc) } }
          let d := { d with hub := h.owe x vc }
          if b.is .readReq then d.serveRead x b ecc else d.serveWrite x b ecc

/-- The group that the oldest tile-space brick from a port on a VC accesses. -/
def Hub.waitsFor (h : Hub) (w : Nat × Nat) : Option Nat :=
  (h.fab.inbox.find? (fun i => i.unit == 0x30 && i.port == w.1 && i.brick.vc.toNat == w.2)).bind fun i => h.accessGroup i.brick

/-- A group has woken, and the accesses that waited for it complete (R143). -/
def Dev.groupWoken (d : Dev) (g : Nat) : Dev :=
  if d.hub.groupPower g = .waking then
    (d.hub.tile.wakeWait.filter (fun w => d.hub.waitsFor w == some g)).foldl (fun d w => d.serveTile w.1 w.2 {} none false)
      (d.hubMap (·.setGroup g .on))
  else d

/-- A group set to RETAIN has had no access for 10 µs (R142). -/
def Hub.groupRetain (h : Hub) (g : Nat) : Hub :=
  if h.fld (0x400040 + 4 * g) 1 0 = 1 ∧ h.groupPower g = .on then h.setGroup g .retained else h

/-- Every tile-space brick that has entered is executed: a boundary's changes apply to bricks whose header enters at or
after it (R43, R130). -/
def Dev.drainTiles (d : Dev) : Dev :=
  (d.hub.fab.inbox.filter (·.unit == 0x30)).foldl
    (fun d i => d.serveTile i.port i.brick.vc.toNat {} none true) d

/-- A host access through BAR4 (R132): reads of a page that is not VALID or of another partition return zero, writes
are ignored, and both are counted. It wakes a group, and meets ECC and tags, as every access does (R135, R139, R143). -/
def Dev.bar4 (d : Dev) (who : Master) (at_ : HostAccess) (wr : Option (List Byte)) (n : Nat) : Dev :=
  let page := at_.addr / 65536
  let o := at_.addr % 65536
  let e := d.hub.pte page
  let own := match who with | .vf v => e.part == v.val | _ => true
  if e.valid && own && decide (page < d.hub.tableSize) then
    let d := d.hubMap fun h => (if e.res then h else h.wakeNow (groupOf (e.frame * 65536 + o))).pageEcc page o at_.ecc
    match wr with
    | some bs => (d.pageWrite page o bs 0xFF).1
    | none =>
      let (d, data, bad) := d.pageData page o n 0xFF
      d.hubMap fun h => { h with rb := { h.rb with rdata := BitVec.ofNat 64 (leNat data), barPoison := bad } }
  else
    d.hubMap fun h =>
      let h := h.bump 0x400028
      if wr.isNone then { h with rb := { h.rb with rdata := 0, barPoison := false } } else h

/-! ### Tests, ownership and power -/

/-- A tile's test ends (R122, R123): zero-filled, it becomes AVAILABLE, waits for the boundary that gives it to the
partition in PART, or has failed. -/
def Dev.testComplete (d : Dev) (n : Nat) (ok : Bool) : Dev :=
  let t := d.hub.tileAt n
  if t.st = .testing ∧ t.tested = false then
    let waiting := d.hub.ownerReg n ≠ 0xF
    let d := d.zeroTile n
    d.hubMap fun h =>
      if ok then
        h.updTile n (fun t => { t with
          st := if waiting then .testing else .available, tested := decide waiting, retest := false })
      else
        let h := if waiting then (h.setFld (0x400200 + 4 * n) 3 0 0xF).flag 0x400000 0 else h
        if t.retest && !t.repair then h.flagTile n else h.failTile n
  else d

/-- The AVAILABLE tile whose turn it is in the rotation of re-tests (R123): the next in ascending number (log entry 88). -/
def Hub.retestNext (h : Hub) : Option Nat :=
  ((List.range 768).map (fun k => (h.tile.retestAt + k) % 768)).find? (fun n => (h.tileAt n).st == .available)

/-- The hub starts a re-test of an AVAILABLE tile, in rotation and one at a time (R123), unless self-throttle pauses it (R544). -/
def Hub.retestStart (h : Hub) (n : Nat) : Hub :=
  if h.retestNext = some n ∧ (h.tile.tile.all fun e => !e.2.retest) ∧ h.therm.throt = false then
    let h := (h.wakeNow (tileGroup n)).updTile n (fun t => { t with st := .testing, retest := true })
    { h with tile := { h.tile with retestAt := (n + 1) % 768 } }
  else h

/-- A tile enters TESTING. -/
def Hub.startTest (h : Hub) (n : Nat) : Hub :=
  h.updTile n (fun t => { t with st := .testing, tested := false, retest := false })

/-- A tile leaves service: one flagged for repair becomes FAILED, any other goes through TESTING (R122, R125, R141). For a HUB
tile the spec does not say the first (log entry 94). -/
def Hub.releaseTile (h : Hub) (n : Nat) : Hub := if (h.tileAt n).repair then h.failTile n else h.startTest n

/-- A partition has an allocated page in a frame of the tile's row (R122). -/
def Hub.rowInUse (h : Hub) (n : Nat) : Bool := h.usedFrames.any (fun f => frameRow f == n / 16)

/-- A write of TILE.OWNER.PART may be applied (R122); `held` says that a hub structure of the partition lies in the
tile. -/
def Hub.ownerOk (h : Hub) (held : Bool) (n v : Nat) : Bool :=
  let t := h.tileAt n
  if v < 8 then t.st == .available || t.st == .testing
  else v == 0xF && t.st == .owned && !h.rowInUse n && !held

/-- A write of TILE.OWNER.PART takes effect (R122). -/
def Hub.applyOwner (h : Hub) (held : Bool) (n v : Nat) : Hub :=
  if !h.ownerOk held n v then h.flag 0x400000 0
  else
    let old := h.ownerReg n
    let st := (h.tileAt n).st
    let h := h.setFld (0x400200 + 4 * n) 3 0 v
    if v = 0xF then
      let h := h.event 0x0401 [.u16 n, .u8 old, .u8 0xF]
      h.releaseTile n
    else if st = .available then (h.updTile n (fun t => { t with st := .owned })).event 0x0401 [.u16 n, .u8 0xF, .u8 v]
    else h

/-- Tiles whose test has ended become OWNED at the boundary (R122). -/
def Hub.ownTested (h : Hub) : Hub :=
  (h.tile.tile.filter (·.2.tested)).foldl (fun h e =>
    (h.updTile e.1 (fun t => { t with st := .owned, tested := false })).event 0x0401
      [.u16 e.1, .u8 0xF, .u8 (h.ownerReg e.1)]) h

/-- The tiles of a group. -/
def groupTiles (g : Nat) : List Nat := (List.range 12).map (fun i => 16 * (12 * (g / 16) + i) + g % 16)

/-- A write of TILE.GRP_PWR.STATE takes effect (R142): 3 is ignored; OFF is refused while a tile of the group is in use
or awaited; ON from OFF starts the domain. -/
def Hub.applyGroup (h : Hub) (g v : Nat) : Hub :=
  let ts := groupTiles g
  if v = 3 then h.flag 0x400000 0
  else if v = 2 then
    if h.groupPower g = .off then h
    else if ts.all (fun n => ((h.tileAt n).st == .available || (h.tileAt n).st == .failed) && h.ownerReg n == 0xF) then
      let h := (h.setFld (0x400040 + 4 * g) 1 0 2).setGroup g .off
      ts.foldl (fun h n => if (h.tileAt n).st = .available then h.updTile n (fun t => { t with st := .unpowered }) else h) h
    else h.flag 0x400000 3
  else
    let h := h.setFld (0x400040 + 4 * g) 1 0 v
    if h.groupPower g = .off then h.setGroup g .starting
    else if v = 0 then h.setGroup g .on else h

/-- A tile group's domain becomes usable, and its tiles enter TESTING (R142, R309). -/
def Hub.groupStarted (h : Hub) (g : Nat) : Hub :=
  if h.groupPower g = .starting then
    (groupTiles g).foldl (fun h n => if (h.tileAt n).st = .unpowered then h.startTest n else h) (h.setGroup g .on)
  else h

/-- A write of TILE.PT_CFG.TILES may be applied (R125). -/
def Hub.ptCfgOk (h : Hub) (k : Nat) : Bool :=
  decide (1 ≤ k) && decide (k ≤ 8) && !(h.tile.pte.any (·.2.valid)) &&
  (List.range 8).all (fun j => decide (k ≤ j) || decide (j < h.fld 0x400004 3 0) || (h.tileAt (752 + j)).st == .available)

/-- A write of TILE.PT_CFG.TILES takes effect (R125). -/
def Hub.applyPtCfg (h : Hub) (k : Nat) : Hub :=
  if !h.ptCfgOk k then h.flag 0x400000 0
  else
    let old := h.fld 0x400004 3 0
    let h := h.setFld 0x400004 3 0 k
    (List.range 8).foldl (fun h j =>
      if j < k ∧ old ≤ j then h.updTile (752 + j) (fun t => { t with st := .hub })
      else if k ≤ j ∧ j < old then h.releaseTile (752 + j) else h) h

/-- Scrub visits the words of OWNED and HUB tiles (R140), and wakes their groups: errors are counted by tile, a tile past
CE_LIMIT is flagged (R141), and each uncorrectable word is counted and recorded (R139). The pass ends with the counts at
zero. -/
def Hub.scrub (h : Hub) (ces : List (Nat × Nat)) (bad : List Nat) : Hub :=
  if h.therm.throt then h
  else
    let live (n : Nat) : Bool := (h.tileAt n).st == .owned || (h.tileAt n).st == .hub
    let h := (h.tile.tile.filter (fun e => live e.1)).foldl (fun h e => h.wakeNow (tileGroup e.1)) h
    let h := (ces.filter (fun c => live c.1)).foldl (fun h c => h.countCe c.1 c.2) h
    let h := (bad.filter (fun a => live (tileOf a))).foldl (fun h a => (h.noteBad [a]).ueRead a 0xFF) h
    { h with tile := { h.tile with tile := h.tile.tile.foldl (fun t e => t.set {} e.1 { e.2 with ce := 0 }) [] } }

/-! ### Pages -/

/-- One page allocated (R131): the lowest free index, in a tile frame or, unpinned, in a spill frame. -/
def Hub.allocPage (h : Hub) (part : Nat) (pin : Bool) : Option (Nat × Hub) :=
  let n := h.tile.pte.length
  match (List.range (n + 1)).find? (fun p => decide (p < h.tableSize) && !(h.pte p).valid) with
  | none => none
  | some p =>
    match h.placeTile part with
    | some (f, h) => some (p, h.updPte p (fun _ => { valid := true, part, pin, frame := f }))
    | none =>
      if pin || !h.spillOn part then none
      else h.placeSpill.map fun f => (p, h.updPte p (fun _ => { valid := true, part, res := true, frame := f }))

/-- `n` pages allocated, or none of them (R131). -/
def Hub.allocPages (h : Hub) (part : Nat) (pin : Bool) : Nat → Option (List Nat × Hub)
  | 0 => some ([], h)
  | n + 1 =>
    match h.allocPage part pin with
    | none => none
    | some (p, h) => (Hub.allocPages h part pin n).map fun (ps, h) => (p :: ps, h)

/-- A page freed (R130, R137): its frame is zero-filled; one that is moving loses its leases and goes when its
migration has completed. A page that is no longer VALID, named twice for one, is left alone. -/
def Dev.freePage (d : Dev) (p : Nat) : Dev :=
  let e := d.hub.pte p
  if !e.valid then d
  else if e.moving then
    d.hubMap fun h =>
      let h := h.updPte p (fun e => { e with lessees := 0, writer := none })
      { h with tile := { h.tile with moves := h.tile.moves.map (fun m => if m.page = p then { m with freed := true } else m) } }
  else (d.zeroFrame e.res e.frame).hubMap (fun h => { h with tile := { h.tile with pte := h.tile.pte.erase p, moveAsk := h.tile.moveAsk.filter (·.1 != p) } })

/-- Pages in the lease store (R128). -/
def Hub.leaseUsed (h : Hub) : Nat := (h.tile.pte.filter (fun e => e.2.lessees ≠ 0)).length

/-- Renewal at a boundary (R129): a lessee whose port is not up, or that has left the page's partition, loses its leases;
event 0x0404 counts them. -/
def Hub.renewLeases (h : Hub) : Hub :=
  (List.range 8).foldl (fun h x =>
    let lost := h.tile.pte.filter (fun e => e.2.lessees.testBit x && (!(h.port x).up || !h.member x e.2.part))
    if lost.isEmpty then h
    else
      let h := lost.foldl (fun h e => h.updPte e.1 (fun e => { e with
        lessees := setBit e.lessees x false, writer := if e.writer = some x then none else e.writer })) h
      h.event 0x0404 [.u8 x, .u16 lost.length]) h

/-- Every page's access count halves, once DECAY courses have passed (R136). -/
def Hub.accDecay (h : Hub) : Hub :=
  if h.fld 0x500008 23 8 ≤ h.tile.decay then
    { h with tile := { h.tile with
      decay := 0, pte := h.tile.pte.foldl (fun t e => t.set {} e.1 { e.2 with acc := e.2.acc / 2 }) [] } }
  else h

/-! ### Migration (R136 to R138) -/

/-- A migration starts: MOVING is set and its destination taken. -/
def Hub.startMove (h : Hub) (page dst : Nat) (toSpill : Bool) : Hub :=
  let h := h.updPte page (fun e => { e with moving := true })
  { h with tile := { h.tile with
    moves := h.tile.moves ++ [{ page, dst, toSpill }], moveAsk := h.tile.moveAsk.erase (page, toSpill) } }

/-- A page that is never demoted: pinned, or treated as pinned since its generation is used up (R126, R134). -/
def Pte.pinned (e : Pte) : Bool := e.pin || decide (65535 ≤ e.gen)

/-- A page can be demoted: in a tile, not pinned and not moving (R134, R136). -/
def Pte.demotable (e : Pte) : Bool := e.valid && !e.res && !e.pinned && !e.moving

/-- The entry that `better` puts before every other. -/
def bestPage (better : Pte → Pte → Bool) : List (Nat × Pte) → Option Nat
  | [] => none
  | e :: es => some (es.foldl (fun b c => if better c.2 b.2 then c else b) e).1

/-- One demotion or promotion of a page, where a destination is free. -/
def Hub.tryMove (h : Hub) (page : Nat) (toSpill : Bool) : Option Hub :=
  let e := h.pte page
  if toSpill then
    if e.demotable && h.spillOn e.part then h.placeSpill.map (fun f => h.startMove page f true) else none
  else if e.valid && e.res && !e.moving then
    (h.placeTile e.part).map (fun (f, h) => h.startMove page f false)
  else none

/-- Up to `n` demotions of a partition: the lowest access count first, then the lowest page index (R136). -/
def Hub.demote (h : Hub) (part : Nat) : Nat → Hub
  | 0 => h
  | n + 1 =>
    match bestPage (fun a b => decide (a.acc < b.acc)) (h.tile.pte.filter (fun e => e.2.part == part && e.2.demotable)) with
    | none => h
    | some p => match h.tryMove p true with
      | some h => Hub.demote h part n
      | none => h

/-- Up to `n` promotions of a partition: the highest access count first (R136), on equal counts the lowest page index, which the
spec does not say (log entry 90); below PROMOTE only where spill is off for it (R138). -/
def Hub.promote (h : Hub) (part : Nat) : Nat → Hub
  | 0 => h
  | n + 1 =>
    let on := h.spillOn part
    match bestPage (fun a b => decide (b.acc < a.acc)) (h.tile.pte.filter (fun e =>
        e.2.valid && e.2.part == part && e.2.res && !e.2.moving && (!on || decide (h.fld 0x500008 5 0 ≤ e.2.acc)))) with
    | none => h
    | some p => match h.tryMove p false with
      | some h => Hub.promote h part n
      | none => h

/-- The migrations that may still start in this course. -/
def Hub.budgetLeft (h : Hub) (before : Nat) : Nat := h.fld 0x500008 31 24 - (h.tile.moves.length - before)

/-- A partition's demotions in progress. -/
def Hub.demotingNow (h : Hub) (part : Nat) : Nat :=
  (h.tile.moves.filter (fun m => m.toSpill && (h.pte m.page).part == part)).length

/-- Moves that PAGE_MOVE or PAGE_PIN asked for start, in one direction, while the budget lasts. -/
def Hub.askedMoves (h : Hub) (before : Nat) (toSpill : Bool) : Hub :=
  (h.tile.moveAsk.filter (·.2 == toSpill)).foldl (fun h a =>
    if 0 < h.budgetLeft before then (h.tryMove a.1 a.2).getD h else h) h

/-- The migrations of a new course (R136, R138, R146), demotions before promotions: pages asked to move, demotions of partitions
below LOW until their free frames reach HIGH, and promotions of those above HIGH; none while the hub throttles itself (R544).
Asked moves come first in each direction, and PT0 to PT7 draw on the budget in that order: the spec gives neither order (log
entry 90). -/
def Hub.startMigrations (h : Hub) : Hub :=
  if h.therm.throt then h
  else
    let before := h.tile.moves.length
    let low := h.fld 0x500004 15 0
    let high := h.fld 0x500004 31 16
    let h := h.askedMoves before true
    let h := (List.range 8).foldl (fun h p =>
      let free := (h.frameCounts p).2 + h.demotingNow p
      let run := h.spillOn p && (decide (free < low) || (h.tile.demoting.contains p && decide (free < high)))
      let h := { h with tile := { h.tile with demoting := if run then p :: h.tile.demoting.erase p else h.tile.demoting.erase p } }
      if run then h.demote p (min (h.budgetLeft before) (high - free)) else h) h
    let h := h.askedMoves before false
    (List.range 8).foldl (fun h p =>
      let free := (h.frameCounts p).2
      let room := if h.spillOn p then free - high else free
      h.promote p (min (h.budgetLeft before) room)) h

/-- The sixteen groups of a frame's tier are accessed (R120, R143). -/
def Hub.wakeTier (h : Hub) (f : Nat) : Hub := (List.range 16).foldl (fun h g => h.wakeNow (16 * (f % 4) + g)) h

/-- What the copy of a page found (R135, R139): in a tile frame, one error for each unit with an uncorrectable word; in a spill
frame, the units whose tag does not match. -/
def Hub.copyFinds (h : Hub) (m : MoveEnd) : Hub :=
  let e := h.pte m.page
  if e.res then m.tags.foldl (fun h u => h.tagFail m.page u) h
  else
    let h := (m.ces.foldl (fun h c => h.countCe c.1 c.2) h).noteBad m.bad
    (List.range 16).foldl (fun h u =>
      match h.ueIn (e.frame * 65536 + 4096 * u) 4096 with | some w => h.ueRead w 0xFF | none => h) h

/-- The content of a page, copied: the bytes of the destination frame, and the source frame zeroed (R130, R137). -/
def Dev.copyPage (d : Dev) (e : Pte) (toSpill : Bool) (dst : Nat) : Dev :=
  let src := e.frame * 65536
  let bytes := (if e.res then d.mem.spill else d.mem.tile).filter (fun c => decide (src ≤ c.1 ∧ c.1 < src + 65536))
  let d := bytes.foldl (fun d c =>
    let a := c.1 - src + dst * 65536
    if toSpill then { d with mem := { d.mem with spill := d.mem.spill.write a c.2 } }
    else { d with mem := { d.mem with tile := d.mem.tile.write a c.2 } }) (d.zeroFrame toSpill dst)
  d.zeroFrame e.res e.frame

/-- A migration's copy ends (R137): RES and FRAME switch, and the source frame is zeroed. A page demoted with an
uncorrectable word arrives poisoned (R139), one promoted with a tag that does not match is poisoned (R135). -/
def Dev.moveDone (d : Dev) (m : MoveEnd) : Dev :=
  match d.hub.tile.moves.find? (·.page == m.page) with
  | none => d
  | some mv =>
    let d := d.hubMap fun h => (h.wakeTier (if mv.toSpill then (h.pte m.page).frame else mv.dst)).copyFinds m
    let e := d.hub.pte m.page
    let bad := !e.res && (d.hub.ueIn (e.frame * 65536) 65536).isSome
    (d.copyPage e mv.toSpill mv.dst).hubMap fun h =>
      let h := h.updPte m.page (fun e => { e with
        moving := false, res := mv.toSpill, frame := mv.dst, poison := e.poison || bad,
        gen := if mv.toSpill then e.gen + 1 else e.gen })
      let h := { h with tile := { h.tile with
        moves := h.tile.moves.filter (·.page != m.page)
        freeNext := if mv.freed then h.tile.freeNext ++ [m.page] else h.tile.freeNext
        demoted := if mv.toSpill then h.tile.demoted.upd 0 e.part (· + 1) else h.tile.demoted } }
      h.bump (if mv.toSpill then 0x500018 else 0x500020)

/-- The tile block at a boundary, after the changes of its steps: pages freed during a migration go, leases are renewed,
demotion runs are recorded, and new migrations start. -/
def Dev.tileBoundary (d : Dev) : Dev :=
  let d := d.hub.tile.freeNext.foldl (fun d p => d.freePage p) d
  d.hubMap fun h =>
    let h := (List.range 8).foldl (fun h p =>
      let n := Tbl.get 0 h.tile.demoted p
      if n = 0 then h else h.event 0x0502 [.u8 p, .u16 n] p) h
    let h := { h with tile := { h.tile with freeNext := [], demoted := [], decay := h.tile.decay + 1 } }
    h.renewLeases.startMigrations

/-! ### Hods (R146) -/

/-- A VF may name the page: VALID, and of its own partition. -/
def Hub.ownPage (h : Hub) (q : HodReq) (p : Nat) : Bool :=
  match q.who with
  | .vf n => decide (p < h.tableSize) && (h.pte p).valid && (h.pte p).part == n.val
  | _ => true

/-- The page is VALID. -/
def Hub.validPage (h : Hub) (p : Nat) : Bool := decide (p < h.tableSize) && (h.pte p).valid

/-- PAGE_ALLOC: every new page reads as zero (R131). -/
def pageAllocHod (q : HodReq) (part n : Nat) (pin : Bool) (d : Dev) : Dev × HodOut :=
  match d.hub.allocPages (q.part part) pin n with
  | some (ps, h) => (ps.foldl (fun d p => d.zeroFrame (h.pte p).res (h.pte p).frame) { d with hub := h }, .ok [.list 4 ps])
  | none =>
    (d.hubMap (fun h => h.event 0x0405 [.u8 (q.part part), .u16 n, .u16 (h.frameCounts (q.part part)).2] (q.part part)),
      .fail .noResource)

def pageFreeHod (q : HodReq) (ps : List Nat) (d : Dev) : Dev × HodOut :=
  if !(ps.all (d.hub.ownPage q)) then (d, .refused)
  else if !(ps.all d.hub.validPage) then (d, .badArg 1)
  else (ps.foldl (fun d p => d.freePage p) d, .ok [])

/-- LEASE_SET: WRITER is encoded as in R126: bit 3 valid, bits 2 to 0 the lessee. -/
def leaseSetHod (q : HodReq) (p lessees writer : Nat) (d : Dev) : Dev × HodOut :=
  if !d.hub.ownPage q p then (d, .refused)
  else if !d.hub.validPage p then (d, .badArg 1)
  else if writer.testBit 3 && !lessees.testBit (writer % 8) then (d, .badArg 3)
  else if (d.hub.pte p).lessees = 0 ∧ lessees ≠ 0 ∧ 65536 ≤ d.hub.leaseUsed then (d, .fail .noResource)
  else
    (d.hubMap (fun h => h.updPte p (fun e => { e with
      lessees, writer := if writer.testBit 3 then some (writer % 8) else none })), .ok [])

/-- A move of a page is asked for. -/
def Hub.askMove (h : Hub) (p : Nat) (toSpill : Bool) : Hub :=
  if h.tile.moveAsk.contains (p, toSpill) then h else { h with tile := { h.tile with moveAsk := h.tile.moveAsk ++ [(p, toSpill)] } }

/-- PAGE_PIN: pinning a spilled page needs a free tile frame, and its promotion is asked for, within the budget of R136 (R146).
A page whose demotion is in progress is pinned, its demotion ends (R137), and it is promoted again: the spec does not say (log
entry 89). -/
def pagePinHod (q : HodReq) (p : Nat) (unpin : Bool) (d : Dev) : Dev × HodOut :=
  let e := d.hub.pte p
  let pinned (h : Hub) (b : Bool) : Hub := h.updPte p (fun e => { e with pin := b })
  if !d.hub.ownPage q p then (d, .refused)
  else if !d.hub.validPage p then (d, .badArg 1)
  else if unpin then (d.hubMap (fun h => pinned h false), .ok [])
  else if e.res && !e.moving then
    if (d.hub.placeTile e.part).isNone then (d, .fail .noResource) else (d.hubMap (fun h => (pinned h true).askMove p false), .ok [])
  else if !e.res && e.moving then (d.hubMap (fun h => (pinned h true).askMove p false), .ok [])
  else (d.hubMap (fun h => pinned h true), .ok [])

def pteReadHod (q : HodReq) (p : Nat) (d : Dev) : Dev × HodOut :=
  if !d.hub.ownPage q p then (d, .refused)
  else if d.hub.tableSize ≤ p then (d, .badArg 1)
  else (d, .ok [.u64 (if (d.hub.pte p).valid then (d.hub.pte p).bits else 0)])

def pageMoveHod (q : HodReq) (p : Nat) (demote : Bool) (d : Dev) : Dev × HodOut :=
  if !d.hub.ownPage q p then (d, .refused)
  else if !d.hub.validPage p then (d, .badArg 1)
  else if demote && (d.hub.pte p).pinned then (d, .badArg 1)
  else (d.hubMap (·.askMove p demote), .done .accepted 0 [])

end Sys2Proof.Machine
end

