-- ==== Sys2Proof/Machine/Mortar.lean ====
section
/-!
DEFINITION. Machine/Mortar.lean: collectives, chunks, result bricks, endings, the hub operand hods and the self-test
rotation (R152 to R176).
-/
namespace Sys2Proof.Machine

/-! ### The descriptor (R161) -/

/-- A little-endian field of a descriptor. -/
def dfield (d : List Byte) (o n : Nat) : Nat := leNat ((d.drop o).take n)

/-- The fields of a descriptor. -/
structure Desc where
  coll : Nat
  op : Nat
  inF : Nat
  outF : Nat
  hubF : Nat
  flags : Nat
  root : Nat
  pmask : Nat
  count : Nat
  timeout : Nat
  tile : Nat
  ofs : Nat
  seq : Nat
  deriving DecidableEq, Repr

def Desc.of (d : List Byte) : Desc :=
  { coll := dfield d 1 1, op := dfield d 2 1, inF := dfield d 3 1, outF := dfield d 4 1, hubF := dfield d 5 1,
    flags := dfield d 6 1, root := dfield d 7 1, pmask := dfield d 10 1, count := dfield d 12 4,
    timeout := dfield d 16 4, tile := dfield d 20 2, ofs := dfield d 24 4, seq := dfield d 32 6 }

def Desc.hubOpnd (d : Desc) : Bool := d.flags.testBit 0
def Desc.toHub (d : Desc) : Bool := d.flags.testBit 1
def Desc.stochastic (d : Desc) : Bool := d.flags.testBit 2
def Desc.sat (d : Desc) : Bool := d.flags.testBit 3

/-- P: the number of accelerators in PMASK (R155). -/
def Desc.p (d : Desc) : Nat := popcount 8 d.pmask

/-- The rank of an accelerator (R155). -/
def Desc.rank (d : Desc) (x : Nat) : Nat := popcount x d.pmask

/-- The accelerators in PMASK, by rank. -/
def Desc.members (d : Desc) : List Nat := onesBelow 8 d.pmask

/-- The accelerators that contribute operands (R155). -/
def Desc.contributors (d : Desc) : List Nat :=
  if d.coll = 4 then (if d.root < 8 then [d.root] else []) else d.members

/-- The operand format, the format of results, and the format of the hub region: OUT_FMT where there is no hub
operand, HUB_FMT then being 0 (R161). -/
def Desc.inFmt (d : Desc) : EFmt := (efmt d.inF).getD (.fl fp32Fmt)
def Desc.outFmt (d : Desc) : EFmt := (efmt d.outF).getD (.fl fp32Fmt)
def Desc.hubFmt (d : Desc) : EFmt := if d.hubOpnd then (efmt d.hubF).getD (.fl fp32Fmt) else d.outFmt

/-- The number of chunks. -/
def Desc.chunks (d : Desc) : Nat := divUp d.count d.inFmt.epb

/-- The elements of the chunk at an offset. -/
def Desc.chunkLen (d : Desc) (off : Nat) : Nat := min d.inFmt.epb (d.count - off)

/-- The bytes of the hub region: COUNT elements in HUB_FMT, for an all-gather too (R161; log entry 98). -/
def Desc.regionLen (d : Desc) : Nat :=
  match d.hubFmt with
  | .mx _ epb _ => divUp d.count epb * 256
  | f => d.count * f.elemBits / 8

/-- The bytes of a tile. -/
def tileBytes : Nat := 2097152

/-- The same class: integer with integer, floating point or MX with floating point or MX (R161). -/
def sameClass (a b : Nat) : Bool :=
  match efmt a, efmt b with
  | some x, some y => x.isInt == y.isInt
  | _, _ => false

/-- The tile checks of HUB_TILE: OWNED by the partition and not in a full row (R124, R161). -/
def Hub.hubTileOk (h : Hub) (part n : Nat) : Bool := decide (n < 768) && h.owns part n && !h.fullRow part (n / 16)

/-- Two ranges of a tile overlap. -/
def overlaps (t o n t' o' n' : Nat) : Bool := t == t' && decide (o < o' + n') && decide (o' < o + n)

/-- A collective uses a hub region. -/
def Desc.usesHub (d : Desc) : Bool := d.hubOpnd || d.toHub

/-- The first check of R161 that a descriptor fails, as REASON; the checks in the order of the table. -/
def Hub.descCheck (h : Hub) (x : Nat) (b : Brick) : Option Nat :=
  let raw := b.payload.take 64
  let d := Desc.of raw
  let mxIn := (efmt d.inF).any EFmt.isMx
  let mxOut := (efmt d.outF).any EFmt.isMx
  let z (o n : Nat) : Bool := dfield raw o n == 0
  let checks : List (Bool × Nat) := [
    (dfield raw 0 1 == 1 && b.grout == 192 && !b.poison, 0x01),
    (decide (d.coll ≤ 4), 0x02),
    (decide (d.op ≤ 4) && (decide (d.coll < 3) || d.op == 0), 0x03),
    ((efmt d.inF).isSome && sameClass d.inF d.outF && (if d.hubOpnd then sameClass d.inF d.hubF else d.hubF == 0), 0x04),
    (decide (d.flags < 32), 0x05),
    ((d.coll ≠ 0 && d.coll ≠ 4) || (decide (d.root < 8) && d.pmask.testBit d.root) || (d.root == 8 && d.hubOpnd), 0x06),
    (decide (dfield raw 8 2 < 4096) && dfield raw 8 2 == bits b.addr.toNat 43 32, 0x07),
    (d.pmask ≠ 0 && d.pmask.testBit x, 0x08),
    (z 11 1, 0x01),
    (decide (1 ≤ d.count) && decide (d.count ≤ 67108864) && (!(mxIn || mxOut) || d.count % 32 == 0) &&
      (d.coll ≠ 2 || d.count % (max 1 d.p * d.inFmt.epb) == 0), 0x09),
    (decide (1 ≤ d.timeout) && decide (d.timeout ≤ 60000000), 0x0A),
    (!d.usesHub || h.hubTileOk b.part.toNat d.tile, 0x0B),
    (z 22 2, 0x01),
    (!d.usesHub || (d.ofs % 256 == 0 && decide (d.ofs + d.regionLen ≤ tileBytes)), 0x0B),
    (z 28 4, 0x01),
    (z 38 2, 0x0C),
    (z 40 24, 0x01),
    (d.members.all (fun y => h.member y b.part.toNat), 0x0D),
    (!d.flags.testBit 4 || d.members.all (fun y => (h.port y).sealed), 0x0E),
    (!d.stochastic || h.jobRunning b.part.toNat, 0x0F),
    (!d.usesHub || !(h.mortar.colls.any fun c =>
      let e := Desc.of c.desc
      c.part == b.part.toNat && e.usesHub && (d.toHub || e.toHub) &&
        overlaps d.tile d.ofs d.regionLen e.tile e.ofs e.regionLen), 0x10)]
  (checks.find? (fun c => !c.1)).map (·.2)

/-- A stochastic sequence is outside its window or already marked (R166). -/
def Hub.srReuse (h : Hub) (part seq : Nat) : Bool :=
  match h.mortar.srUsed.get [] part with
  | [] => false
  | used => used.contains seq || decide (seq + 4095 < h.mortar.srTop.get 0 part)

/-- A sequence is marked, and those that leave the window are forgotten (R166). -/
def Mortar.mark (m : Mortar) (part seq : Nat) : Mortar :=
  let top := max seq (m.srTop.get 0 part)
  { m with
    srTop := m.srTop.set 0 part top
    srUsed := m.srUsed.upd [] part (fun l => (seq :: l).filter (fun s => decide (top ≤ s + 4095))) }

/-- The window of a partition cleared, at a job start or a context switch (R166, R171). -/
def Mortar.clearWindow (m : Mortar) (part : Nat) : Mortar :=
  { m with srTop := m.srTop.erase part, srUsed := m.srUsed.erase part }

/-! ### Collectives -/

/-- The place of an open collective. -/
def Hub.coll? (h : Hub) (part id : Nat) : Option Coll := h.mortar.colls.find? (fun c => c.part == part && c.id == id)

def Hub.updColl (h : Hub) (part id : Nat) (f : Coll → Coll) : Hub :=
  { h with mortar := { h.mortar with
    colls := h.mortar.colls.map (fun c => if c.part == part && c.id == id then f c else c) } }

/-- A status brick (R157, R159). -/
def statusBrick (part stream id x src st who flags reason done : Nat) : Brick :=
  { mkBrick .mortarRslt 2 part stream x src
      (leBytes 1 st ++ leBytes 1 who ++ leBytes 1 flags ++ leBytes 1 reason ++ leBytes 4 done) with
    addr := BitVec.ofNat 48 (id * 2 ^ 32 + 0xFFFFFFFF) }

/-- A collective's ending is counted, and an error recorded once per partition per course (R174, R176). -/
def Hub.countEnd (h : Hub) (part id st who reason : Nat) : Hub :=
  if st = 0 then h.bump 0x600040
  else (h.bump 0x600048).eventOnce 0x0601 part [.u8 part, .u16 id, .u8 st, .u8 who, .u8 reason] part

/-- The one source of mortar results at an egress port: a collective's status brick leaves behind its results, whichever
engine issued them (R159). -/
def mortarUnit : Nat := 0x98

/-- A collective ends (R159, R160): its status brick goes to every accelerator of PMASK but those in `skip`, its chunks
are freed and it is closed. -/
def Hub.endColl (h : Hub) (c : Coll) (st who reason : Nat) (skip : List Nat := []) : Hub :=
  let d := Desc.of c.desc
  let src := if c.delivered = 0 then 0x80 else 0x80 + c.engine
  let h := { h with mortar := { h.mortar with
    colls := h.mortar.colls.filter (fun c' => !(c'.part == c.part && c'.id == c.id)) } }
  let h := (d.members.filter (fun x => !skip.contains x)).foldl (fun h x =>
    h.send x mortarUnit (statusBrick c.part c.stream c.id x src st who (b2n c.sat + 2 * b2n c.poisoned) reason c.delivered)) h
  h.countEnd c.part c.id st who reason

/-- A descriptor that opens nothing is answered (R156, R160, R161): its status goes to the accelerators of its PMASK,
and to its sender. -/
def Hub.rejectDesc (h : Hub) (x : Nat) (b : Brick) (st who reason : Nat) (senderOnly : Bool) : Hub :=
  let d := Desc.of (b.payload.take 64)
  let id := bits b.addr.toNat 43 32
  let ys := if senderOnly then [x] else if d.pmask.testBit x then d.members else x :: d.members
  let h := ys.foldl (fun h y =>
    h.send y mortarUnit (statusBrick b.part.toNat b.stream.toNat id y 0x80 st who 0 reason 0)) h
  h.countEnd b.part.toNat id st who reason

/-- A descriptor that would open a collective (R156, R160, R161, R166). -/
def Hub.openColl (h : Hub) (x : Nat) (b : Brick) : Hub :=
  let d := Desc.of (b.payload.take 64)
  let part := b.part.toNat
  if 1024 ≤ h.mortar.colls.length then h.rejectDesc x b 0x05 0xFF 0 true
  else match h.descCheck x b with
    | some r => h.rejectDesc x b 0x03 0xFF r false
    | none =>
      match d.members.find? (fun y => !(h.port y).up) with
      | some y => h.rejectDesc x b 0x02 (d.rank y) 0 false
      | none =>
        if d.stochastic && h.srReuse part d.seq then h.rejectDesc x b 0x07 0xFF 0 false
        else
          let m := if d.stochastic then h.mortar.mark part d.seq else h.mortar
          { h with mortar := { m with colls := m.colls ++ [{
            part, id := bits b.addr.toNat 43 32, stream := b.stream.toNat, desc := b.payload.take 64, arrived := 2 ^ x }] } }

/-- Every chunk is delivered and every descriptor has arrived: the collective ends with OK (R156, R160). -/
def Hub.finishColl (h : Hub) (part id : Nat) : Hub :=
  match h.coll? part id with
  | none => h
  | some c =>
    let d := Desc.of c.desc
    if c.delivered = d.chunks ∧ c.arrived = d.pmask then h.endColl c 0 0xFF 0 else h

/-- A descriptor arrives for an open collective, or opens one (R156). -/
def Hub.takeDesc (h : Hub) (x : Nat) (b : Brick) : Hub :=
  let part := b.part.toNat
  let id := bits b.addr.toNat 43 32
  match h.coll? part id with
  | none => h.openColl x b
  | some c =>
    let d := Desc.of c.desc
    if c.arrived.testBit x then h.endColl c 0x03 0xFF 0
    else if b.payload.take 64 ≠ c.desc ∨ b.poison then h.endColl c 0x04 (d.rank x) 0
    else if !d.pmask.testBit x then h.endColl c 0x03 0xFF 0x08
    else
      (h.updColl part id (fun c => { c with arrived := c.arrived + 2 ^ x })).finishColl part id

/-! ### Operands -/

/-- The open chunks of an engine, and of a partition (R153). -/
def Mortar.engineLoad (m : Mortar) (n : Nat) : Nat :=
  m.colls.foldl (fun a c => a + c.chunks.countP (·.engine == n)) 0
def Mortar.partLoad (m : Mortar) (p : Nat) : Nat :=
  m.colls.foldl (fun a c => if c.part == p then a + c.chunks.length else a) 0
def Mortar.load (m : Mortar) : Nat := m.colls.foldl (fun a c => a + c.chunks.length) 0

/-- An engine is ON and not failed. -/
def Hub.engineSound (h : Hub) (n : Nat) : Bool :=
  h.mortar.on.testBit n && h.bitAt 0x600004 n && !h.mortar.failed.testBit n

/-- The engine may take a new chunk (R152). -/
def Hub.engineFit (h : Hub) (n : Nat) : Bool :=
  h.engineSound n && !(h.mortar.st.phase != .none && h.mortar.st.unit == n) && decide (h.mortar.engineLoad n < 128)

/-- The engine for a new chunk: the fewest open chunks, the lowest number on a tie (R152). -/
def Hub.pickEngine (h : Hub) : Option Nat :=
  match (List.range 24).filter h.engineFit with
  | [] => none
  | n :: rest => some (rest.foldl (fun b c => if h.mortar.engineLoad c < h.mortar.engineLoad b then c else b) n)

/-- An operand brick belongs to no collective (R158): the listed cases, and a brick of the wrong length or address. -/
def Hub.isOrphan (h : Hub) (x : Nat) (b : Brick) : Bool :=
  match h.coll? b.part.toNat (bits b.addr.toNat 43 32) with
  | none => true
  | some c =>
    let d := Desc.of c.desc
    let off := bits b.addr.toNat 30 0
    !d.contributors.contains x || off % d.inFmt.epb ≠ 0 || decide (d.count ≤ off) || c.got.contains (x, off) ||
    b.addr.toNat.testBit 31 || 256 - b.grout.toNat ≠ d.inFmt.dataLen (d.chunkLen off)

/-- An orphan is discarded, counted, and recorded once per port per course (R158). -/
def Hub.orphan (h : Hub) (x : Nat) (b : Brick) : Hub :=
  ((h.bump 0x600058).flag 0x600010 1).eventOnce 0x0603 x
    [.u8 x, .u16 (bits b.addr.toNat 43 32), .u32 (bits b.addr.toNat 30 0)]

/-- The operand must wait for chunk room (R153). -/
def Hub.mustWait (h : Hub) (x : Nat) (b : Brick) : Bool :=
  if h.isOrphan x b then false
  else match h.coll? b.part.toNat (bits b.addr.toNat 43 32) with
    | none => false
    | some c =>
      !(c.chunks.any (·.off == bits b.addr.toNat 30 0)) &&
        (decide (h.fld (0x600020 + 4 * b.part.toNat) 11 0 ≤ h.mortar.partLoad b.part.toNat) || h.pickEngine.isNone)

/-- An operand enters its chunk, opening it at need (R152, R158, R170). -/
def Hub.takeOpnd (h : Hub) (x : Nat) (b : Brick) : Hub :=
  if h.isOrphan x b then h.orphan x b
  else
    let off := bits b.addr.toNat 30 0
    let eng := h.pickEngine.getD 0
    h.updColl b.part.toNat (bits b.addr.toNat 43 32) fun c =>
      let c := if c.chunks.any (·.off == off) then c else { c with chunks := c.chunks ++ [{ off, engine := eng }] }
      { c with
        got := (x, off) :: c.got
        chunks := c.chunks.map fun k => if k.off == off then
          { k with ops := k.ops ++ [(x, b.data)], poison := k.poison || b.poison } else k }

/-- The brick of a port's mortar traffic that is served next: a descriptor once no operand before it can go on, an
operand that need not wait and has no descriptor before it (R153, R156). -/
def Hub.nextMortar (h : Hub) (x : Nat) : List InItem → Option Brick
  | [] => none
  | i :: is =>
    if i.unit == 0x98 && i.port == x then
      if i.brick.is .mortarOpnd && h.mustWait x i.brick then h.nextMortar x is else some i.brick
    else h.nextMortar x is

/-- The served brick taken from the inbox, its credit falling due. -/
def Hub.dropItem (h : Hub) (x : Nat) (b : Brick) : Hub :=
  ({ h with fab := { h.fab with inbox := h.fab.inbox.erase ⟨b.dst.toNat, x, b⟩ } }).owe x b.vc.toNat

/-- A descriptor from accelerator x is served. -/
def Hub.mortarDesc (h : Hub) (x : Nat) : Hub :=
  match h.nextMortar x h.fab.inbox with
  | some b => if b.is .mortarDesc then (h.dropItem x b).takeDesc x b else h
  | none => h

/-- An operand from accelerator x is served; a result brick sent by an accelerator is an orphan. -/
def Hub.mortarOpnd (h : Hub) (x : Nat) : Hub :=
  match h.nextMortar x h.fab.inbox with
  | some b => if b.is .mortarDesc then h else if b.is .mortarOpnd then (h.dropItem x b).takeOpnd x b else (h.dropItem x b).orphan x b
  | none => h

/-! ### Chunks and results -/

/-- The physical address of byte `o` of a tile (R118, R119). -/
def tileByte (n o : Nat) : Nat :=
  (n / 16 % 12) * 2 ^ 27 + o / 4096 * 2 ^ 18 + n / 16 / 12 * 2 ^ 16 + n % 16 * 2 ^ 12 + o % 4096

/-- `n` bytes of a tile from an offset. -/
def Dev.tileRead (d : Dev) (t o n : Nat) : List Byte := (List.range n).map fun k => d.mem.tile.read (tileByte t (o + k))

/-- Bytes written to a tile from an offset, 4 KiB line by 4 KiB line; a group in RETAIN wakes (R118, R139, R143). -/
def Dev.tileWrite (d : Dev) (t o : Nat) (bs : List Byte) : Dev :=
  (List.range (divUp (o % 4096 + bs.length) 4096)).foldl (fun d k =>
    let lo := max o ((o / 4096 + k) * 4096)
    let hi := min (o + bs.length) ((o / 4096 + k + 1) * 4096)
    d.putTile (tileByte t lo) ((bs.drop (lo - o)).take (hi - lo))) (d.hubMap (·.wakeNow (tileGroup t)))

/-- The uncorrectable word that a range of a tile meets (R139): its physical address. -/
def Hub.tileUe (h : Hub) (t o n : Nat) : Option Nat :=
  (h.tile.ue.find? fun w => tileOf (8 * w) == t &&
    (let k := bits (8 * w) 26 18 * 4096 + (8 * w) % 4096; decide (o < k + 8) && decide (k < o + n))).map (8 * ·)

/-- A range of a tile meets an uncorrectable word (R139, R170). -/
def Hub.tileBad (h : Hub) (t o n : Nat) : Bool := (h.tileUe t o n).isSome

/-- An engine of the hub reads ranges of a tile: a group in RETAIN wakes (R143), and an uncorrectable word is counted and
recorded, with no requester (R139). -/
def Hub.readRanges (h : Hub) (rs : List (Nat × Nat × Nat)) : Hub :=
  let h := rs.foldl (fun h r => h.wakeNow (tileGroup r.1)) h
  match rs.findSome? (fun r => h.tileUe r.1 r.2.1 r.2.2) with
  | some a => h.ueRead a 0xFF
  | none => h

/-- Elements `off` to `off + n − 1` of the hub operand (R162, R163). -/
def Dev.hubElems (d : Dev) (e : Desc) (off n : Nat) : List XVal :=
  let f := e.hubFmt
  (List.range n).map fun k =>
    let i := off + k
    f.valueAt (d.tileRead e.tile (e.ofs + i / f.epb * 256) 256) (i % f.epb)

/-- The rounding of result element `i` (R165, R166). -/
def Desc.round (e : Desc) (key i : Nat) (hub : Bool) : Round :=
  if e.stochastic then .stochastic (srDraw key e.seq i hub) else .nearest

/-- A list in pieces of `n`. -/
def piecesOf {α : Type} (n : Nat) (xs : List α) : List (List α) :=
  (List.range (divUp xs.length n)).map fun k => (xs.drop (k * n)).take n

/-- The results of a chunk before rounding (R155): segments of the result vector, each a first index with exact values and
the rank of a maximum. An all-gather gives one segment for each contribution. -/
def chunkResults (e : Desc) (off : Nat) (contrib : List (Nat × List XVal)) : List (Nat × List (Exact × Nat)) :=
  let n := e.chunkLen off
  if e.coll = 3 then contrib.map fun rv => (rv.1 * e.count + off, (rv.2.take n).map fun v => ({ v }, 0))
  else
    [(off, (List.range n).map fun k =>
      let r := combine (if e.coll = 4 then 0 else e.op) (contrib.map (fun rv => rv.2.getD k (.fin false 0)))
      (r.1, (contrib.getD r.2 (0, [])).1))]

/-- The values of a segment with their roundings, from an index on. -/
def Desc.rounded (e : Desc) (key first : Nat) (hub : Bool) (vs : List (Exact × Nat)) : List (Exact × Round) :=
  ((List.range vs.length).zip vs).map fun kv => (kv.2.1, e.round key (first + kv.1) hub)

/-- The accelerators that receive the result element at an index (R155). -/
def Desc.recipients (e : Desc) (i : Nat) : List Nat :=
  match e.coll with
  | 0 => if e.root < 8 then [e.root] else []
  | 1 => e.members
  | 2 => (e.members[i / max 1 (e.count / max 1 e.p)]?).toList
  | 3 => e.members
  | _ => e.members.filter (· != e.root)

/-- The value bricks and index bricks of a chunk (R155, R157, R165), and for each element of the segments whether it
saturated in a brick that is issued: a reduce to the hub region alone issues none. An index brick carries the ranks of its
chunk's elements, 256 at most (log entry 99). -/
def resultBricks (e : Desc) (c : Coll) (k : Chunk) (poison : Bool) (key : Nat) (segs : List (Nat × List (Exact × Nat))) :
    List Brick × List Bool :=
  let f := e.outFmt
  let mk (a : Nat) (bs : List Byte) : Brick :=
    { mkBrick .mortarRslt 2 c.part c.stream 0 (0x80 + k.engine) bs with
      addr := BitVec.ofNat 48 (c.id * 2 ^ 32 + a), poison }
  let pieces (n : Nat) : List (Nat × List (Exact × Nat)) := segs.flatMap fun s =>
    let ps := piecesOf n s.2
    ((List.range ps.length).zip ps).map fun q => (s.1 + q.1 * n, q.2)
  let packed := (pieces f.epb).map fun q => (q.1, f.pack e.sat (e.rounded key q.1 false q.2))
  let idx := if e.op = 3 ∧ e.coll ≤ 2 then
      (pieces 256).map fun q => mk (2 ^ 31 + q.1) (q.2.map fun r => BitVec.ofNat 8 r.2)
    else []
  (packed.map (fun p => mk p.1 p.2.1) ++ idx,
    packed.flatMap fun p => p.2.2.map (· && !(e.recipients p.1).isEmpty))

/-- The bytes of the hub region that hold elements `off` to `off + n − 1` (R161 to R163): offsets in the tile with lengths. -/
def Desc.hubSpans (e : Desc) (off n : Nat) : List (Nat × Nat) :=
  match e.hubFmt with
  | .mx g epb x =>
    (List.range (divUp (off + n) epb - off / epb)).map fun k =>
      (e.ofs + (off / epb + k) * 256, (EFmt.mx g epb x).dataLen epb)
  | f => [(e.ofs + off * f.elemBits / 8, n * f.elemBits / 8)]

/-- The place of a result element in an MX hub region: each contribution of an all-gather begins a block of 32 (log
entry 98). -/
def Desc.mxPos (e : Desc) (i : Nat) : Nat := i / e.count * alignUp e.count 32 + i % e.count

/-- A segment of results written to the hub region in HUB_FMT (R163, R165): offsets in the tile with bytes, and for each
element whether it saturated. -/
def Desc.hubWrites (e : Desc) (key first : Nat) (vs : List (Exact × Nat)) : List (Nat × List Byte) × List Bool :=
  match e.hubFmt with
  | .mx g epb x =>
    let f := EFmt.mx g epb x
    let ps := piecesOf 32 vs
    ((List.range ps.length).zip ps).foldl (fun acc q =>
      let i := e.mxPos first + 32 * q.1
      let p := f.pack e.sat (e.rounded key (first + 32 * q.1) true q.2)
      let u := e.ofs + i / epb * 256
      let k := i % epb / 32
      (acc.1 ++ [(u + k, p.1.take 1), (u + 16 + k * (4 * f.elemBits), p.1.drop 16)], acc.2 ++ p.2)) ([], [])
  | f =>
    let p := f.pack e.sat (e.rounded key first true vs)
    ([(e.ofs + first * f.elemBits / 8, p.1)], p.2)

/-- The part of a write that falls in the tile: an all-gather's result vector may be longer than the room that R161 checks
(log entry 98). -/
def inTile (w : Nat × List Byte) : List Byte := w.2.take (tileBytes - w.1)

/-- How many elements saturated, in the results issued, in the hub region, or in both: each counts once (R165). -/
def satElems (out hub : List Bool) : Nat :=
  if hub.isEmpty then out.countP id else (List.zipWith (· || ·) out hub).countP id

/-- A complete chunk issues its results (R154, R155, R165, R170): bricks to the recipients, the hub region written where
RESULT_TO_HUB is set, and the chunk freed. -/
def Dev.deliver (d : Dev) (c : Coll) (k : Chunk) : Dev :=
  let e := Desc.of c.desc
  let n := e.chunkLen k.off
  let own := (e.contributors.filterMap fun x =>
    (k.ops.find? (·.1 == x)).map fun o => (e.rank x, e.inFmt.unpack o.2 n))
  let contrib := own ++ (if e.hubOpnd && (e.coll ≠ 4 || e.root == 8) then [(e.p, d.hubElems e k.off n)] else [])
  let poison := k.poison || (e.hubOpnd && (e.hubSpans k.off n).any fun sp => d.hub.tileBad e.tile sp.1 sp.2)
  let rs := chunkResults e k.off contrib
  let key := d.hub.roundKey c.part
  let out := resultBricks e c k poison key rs
  let toHub := if e.toHub then rs.map (fun sg => e.hubWrites key sg.1 sg.2) else []
  let sats := satElems out.2 (toHub.flatMap (·.2))
  let d := toHub.foldl (fun d p => p.1.foldl (fun d w => d.tileWrite e.tile w.1 (inTile w)) d) d
  d.hubMap fun h =>
    let h := if e.hubOpnd then h.readRanges ((e.hubSpans k.off n).map fun sp => (e.tile, sp.1, sp.2)) else h
    let h := out.1.foldl (fun h b => (e.recipients (bits b.addr.toNat 30 0)).foldl (fun h x =>
      h.send x mortarUnit { b with dst := BitVec.ofNat 8 x }) h) h
    let h := if sats = 0 then h else h.bump 0x600050 sats
    (h.updColl c.part c.id fun c => { c with
      chunks := c.chunks.filter (·.off != k.off), delivered := c.delivered + 1, engine := k.engine,
      sat := c.sat || decide (0 < sats), poisoned := c.poisoned || poison }).finishColl c.part c.id

/-- A chunk that holds every operand completes (R154). -/
def Dev.chunkComplete (d : Dev) (part id off : Nat) : Dev :=
  match d.hub.coll? part id with
  | none => d
  | some c =>
    let e := Desc.of c.desc
    match c.chunks.find? (·.off == off) with
    | some k => if e.contributors.all (fun x => k.ops.any (·.1 == x)) then d.deliver c k else d
    | none =>
      -- A broadcast of the hub operand has no operand brick: its chunks are opened by the hub itself.
      if e.coll = 4 ∧ e.root = 8 ∧ off % e.inFmt.epb = 0 ∧ off < e.count ∧ off / e.inFmt.epb = c.delivered then
        match d.hub.pickEngine with
        | some n => if d.hub.mortar.partLoad part < d.hub.fld (0x600020 + 4 * part) 11 0 then d.deliver c { off, engine := n } else d
        | none => d
      else d

/-- The brick that port x's mortar traffic offers next is served. -/
def Hub.serveMortar (h : Hub) (x : Nat) : Hub := (h.mortarDesc x).mortarOpnd x

/-- A chunk that holds every operand, with its collective. -/
def Hub.fullChunk (h : Hub) : Option (Coll × Chunk) :=
  h.mortar.colls.findSome? fun c =>
    (c.chunks.find? fun k => (Desc.of c.desc).contributors.all fun x => k.ops.any (·.1 == x)).map (c, ·)

/-- Every brick at the mortar pool that need not wait is served, and every complete chunk issues its results; `n` bounds the
work. -/
def Dev.mortarRun (d : Dev) : Nat → Dev
  | 0 => d
  | n + 1 =>
    match (List.range 8).find? fun x => (d.hub.nextMortar x d.hub.fab.inbox).isSome with
    | some x => (d.hubMap (·.serveMortar x)).mortarRun n
    | none =>
      match d.hub.fullChunk with
      | some ck => (d.deliver ck.1 ck.2).mortarRun n
      | none => d

/-- The bricks that entered before a boundary meet the settings of the ending course (R43). -/
def Dev.drainMortar (d : Dev) : Dev := d.mortarRun (2 * d.hub.fab.inbox.length + d.hub.mortar.load)

/-- The lowest rank that has not delivered every operand brick (R160): those accepted, and those that wait at the intake
for chunk room. -/
def Hub.stalledRank (h : Hub) (c : Coll) : Nat :=
  let e := Desc.of c.desc
  let waiting (x : Nat) : Nat := h.fab.inbox.countP fun i => i.unit == 0x98 && i.port == x && i.brick.is .mortarOpnd &&
    i.brick.part.toNat == c.part && bits i.brick.addr.toNat 43 32 == c.id && !h.isOrphan x i.brick
  match e.contributors.find? (fun x => c.got.countP (·.1 == x) + waiting x < e.chunks) with
  | some x => e.rank x
  | none => 0xFF

/-- TIMEOUT_US has passed since the collective opened (R160). -/
def Hub.collTimeout (h : Hub) (part id : Nat) : Hub :=
  match h.coll? part id with
  | some c => h.endColl c 0x01 (h.stalledRank c) 0
  | none => h

/-- Every open collective that has accelerator x in PMASK ends with FENCED (R169). -/
def Hub.fenceColls (h : Hub) (x : Nat) : Hub :=
  (h.mortar.colls.filter (fun c => (Desc.of c.desc).pmask.testBit x)).foldl
    (fun h c => h.endColl c 0x02 ((Desc.of c.desc).rank x) 0 [x]) h

/-- Every open collective of a partition ends with ABORTED, and its window is cleared (R171). -/
def Hub.abortColls (h : Hub) (part : Nat) : Hub :=
  let h := (h.mortar.colls.filter (·.part == part)).foldl (fun h c => h.endColl c 0x06 0xFF 0) h
  { h with mortar := h.mortar.clearWindow part }

/-! ### Self-test rotation (R172) and engine power (R175) -/

/-- Every engine but the one whose turn it is is ON and not failed (R172). -/
def Hub.enginesWhole (h : Hub) : Bool :=
  (List.range 24).all fun n => n == h.mortar.st.unit || h.engineSound n

/-- The pause state, recorded when it changes (R172, R176). -/
def Hub.setStPaused (h : Hub) (p : Bool) : Hub :=
  if h.mortar.st.paused = p then h
  else ({ h with mortar := { h.mortar with st := { h.mortar.st with paused := p } } }).event 0x0604
    [.u8 (b2n p), .u32 (0xFFFFFF - (h.mortar.on &&& h.fld 0x600004 23 0 &&& (0xFFFFFF - h.mortar.failed)))]

/-- The rotation is paused while it is enabled and some engine other than the next one is off or failed (R172). -/
def Hub.mortarPause (h : Hub) : Hub := h.setStPaused (h.bitAt 0x600000 0 && !h.enginesWhole)

/-- A test falls due after ST_INTERVAL courses: the next engine drains, unless the rotation pauses (R172, R544). An engine
that is itself off or failed has nothing to test: its turn passes to the next one (log entry 100). -/
def Hub.mortarStStart (h : Hub) : Hub :=
  let m := h.mortar.st
  if h.bitAt 0x600000 0 ∧ m.phase = .none ∧ h.fld 0x600000 31 16 ≤ m.count ∧ h.therm.throt = false ∧ h.enginesWhole = true then
    if h.engineSound m.unit then
      { h with mortar := { h.mortar with st := { m with phase := .draining, count := 0 } } }
    else
      ({ h with mortar := { h.mortar with st := { m with unit := (m.unit + 1) % 24, count := 0 } } } : Hub).mortarPause
  else h

/-- The engine under test is empty (R172). -/
def Hub.mortarDrained (h : Hub) : Hub :=
  if h.mortar.st.phase = .draining ∧ h.mortar.engineLoad h.mortar.st.unit = 0 then
    { h with mortar := { h.mortar with st := { h.mortar.st with phase := .testing } } }
  else h

/-- The engine is not empty within 1 ms: its test is skipped for this turn (R172). -/
def Hub.mortarDrainTimeout (h : Hub) : Hub :=
  let m := h.mortar.st
  if m.phase = .draining ∧ h.mortar.engineLoad m.unit ≠ 0 then
    { h with mortar := { h.mortar with st := { m with phase := .none, skips := sat 255 (m.skips + 1), unit := (m.unit + 1) % 24 } } }
  else h

/-- The self-test ends (R172). -/
def Hub.mortarStDone (h : Hub) (ok : Bool) : Hub :=
  let m := h.mortar.st
  if m.phase = .testing then
    let h := { h with mortar := { h.mortar with st := { m with phase := .none, unit := (m.unit + 1) % 24 } } }
    if ok then h
    else ((({ (h.flag 0x600010 2) with mortar := { h.mortar with
        failed := setBit h.mortar.failed m.unit true, on := setBit h.mortar.on m.unit false } }).event 0x0602 [.u8 m.unit]).faultMet 9).mortarPause
  else h

/-- At a boundary an engine cleared in ENG_PWR goes off once its chunks have completed (R175). -/
def Hub.mortarBoundary (h : Hub) : Hub :=
  let off := (List.range 24).filter (fun n => !h.bitAt 0x600004 n && h.mortar.engineLoad n == 0)
  ({ h with mortar := { h.mortar with
    on := off.foldl (fun m n => setBit m n false) h.mortar.on
    st := { h.mortar.st with count := h.mortar.st.count + 1 } } } : Hub).mortarPause

/-! ### Hods (R173) -/

/-- The tile, offset and length of a hub-operand hod. -/
def hubRange (o n : Nat) : Bool := o % 256 == 0 && n % 256 == 0 && decide (256 ≤ n) && decide (n ≤ 3840) && decide (o + n ≤ tileBytes)

/-- A VF names a tile that its partition owns; another requester any owned tile. -/
def Hub.tileRight (h : Hub) (q : HodReq) (t : Nat) : Bool :=
  match q.who with
  | .vf n => decide (t < 768) && h.owns n.val t
  | _ => true

/-- The tile passes the HUB_TILE check for its owner. -/
def Hub.tileFits (h : Hub) (t : Nat) : Bool := h.hubTileOk (h.ownerReg t) t

def hubOpndWriteHod (q : HodReq) (t o n : Nat) (bs : List Byte) (d : Dev) : Dev × HodOut :=
  if !d.hub.tileRight q t then (d, .refused)
  else if !d.hub.tileFits t then (d, .badArg 1)
  else if !hubRange o n then (d, .badArg (if o % 256 ≠ 0 then 2 else 3))
  else if bs.length ≠ n then (d, .badArg 4)
  else if d.hub.mortar.colls.any (fun c =>
      let e := Desc.of c.desc; e.usesHub && overlaps t o n e.tile e.ofs e.regionLen) then (d, .fail .busy)
  else (d.tileWrite t o bs, .ok [])

def hubOpndReadHod (q : HodReq) (t o n : Nat) (d : Dev) : Dev × HodOut :=
  if !d.hub.tileRight q t then (d, .refused)
  else if !d.hub.tileFits t then (d, .badArg 1)
  else if !hubRange o n then (d, .badArg (if o % 256 ≠ 0 then 2 else 3))
  else if d.hub.mortar.colls.any (fun c =>
      let e := Desc.of c.desc; e.toHub && overlaps t o n e.tile e.ofs e.regionLen) then (d, .fail .busy)
  else (d.hubMap (fun h => h.readRanges [(t, o, n)]), .ok [.block (d.tileRead t o n)])

def collAbortHod (q : HodReq) (part id : Nat) (d : Dev) : Dev × HodOut :=
  match d.hub.coll? (q.part part) id with
  | none => (d, .badArg 2)
  | some c => (d.hubMap (fun h => h.endColl c 0x06 0xFF 0), .ok [])

end Sys2Proof.Machine
end

