-- ==== Sys2Proof/Machine/Sampler.lean ====
section
/-!
DEFINITION. Machine/Sampler.lean: steps, programs, tables, the operators, draft trees, TOKEN bricks, self-test and hods of
the token loop (R177 to R207).
-/
namespace Sys2Proof.Machine

/-! ### The program (R182) -/

/-- The fields of a sampler program. -/
structure Prog where
  version : Nat
  mode : Nat
  dest : Nat
  en : Nat
  vocab : Nat
  invTemp : Nat
  topK : Nat
  topP : Nat
  minP : Nat
  biasCnt : Nat
  repPen : Nat
  presPen : Nat
  freqPen : Nat
  timeout : Nat
  cntTile : Nat
  cntOfs : Nat
  biasTile : Nat
  biasOfs : Nat
  autTile : Nat
  autOfs : Nat
  cntSize : Nat
  deriving DecidableEq, Repr

def Prog.of (b : List Byte) : Prog :=
  { version := dfield b 0 1, mode := dfield b 1 1, dest := dfield b 2 1, en := dfield b 3 1, vocab := dfield b 4 4,
    invTemp := dfield b 8 4, topK := dfield b 12 2, topP := dfield b 14 2, minP := dfield b 16 2,
    biasCnt := dfield b 18 2, repPen := dfield b 20 4, presPen := dfield b 24 4, freqPen := dfield b 28 4,
    timeout := dfield b 32 4, cntTile := dfield b 36 2, cntOfs := dfield b 44 4, biasTile := dfield b 38 2,
    biasOfs := dfield b 48 4, autTile := dfield b 40 2, autOfs := dfield b 52 4, cntSize := dfield b 42 1 }

def Prog.greedy (p : Prog) : Bool := p.mode.testBit 0
def Prog.spec (p : Prog) : Nat := bits p.mode 2 1
def Prog.bf16 (p : Prog) : Bool := p.mode.testBit 3
def Prog.penalty (p : Prog) : Bool := p.en.testBit 0
def Prog.biased (p : Prog) : Bool := p.en.testBit 1
def Prog.masked (p : Prog) : Bool := p.en.testBit 2
/-- Logits in a brick (R177), bytes of a logit, and bricks of a full set. -/
def Prog.per (p : Prog) : Nat := if p.bf16 then 128 else 64
def Prog.width (p : Prog) : Nat := if p.bf16 then 2 else 4
def Prog.bricks (p : Prog) : Nat := divUp p.vocab p.per
/-- Entries of the count table (R187), bytes of a mask (R189). -/
def Prog.cntLen (p : Prog) : Nat := 1024 * 2 ^ p.cntSize
def Prog.maskLen (p : Prog) : Nat := divUp p.vocab 8
def Prog.k (p : Prog) : Nat := if p.topK = 0 then 1024 else p.topK

/-- A table may lie at an offset of a tile (R182). -/
def Hub.tableOk (h : Hub) (part t o n : Nat) : Bool :=
  h.hubTileOk part t && o % 256 == 0 && decide (o + n ≤ 2097152)

/-- The field checks of R182 in table order: the DETAIL of the first failure. -/
def Hub.progCheck (h : Hub) (part : Nat) (b : List Byte) : Option Nat :=
  let p := Prog.of b
  let pen (c : Nat) : Bool := Fp.finite c
  let checks : List (Bool × Nat) := [
    (p.version == 1, 0x01),
    (decide (p.mode < 16) && p.spec ≠ 3 && !(p.greedy && p.spec == 2), 0x02),
    (decide (p.dest < 8) && h.member p.dest part, 0x03),
    (decide (p.en < 8), 0x02),
    (decide (1 ≤ p.vocab) && decide (p.vocab ≤ 1048576), 0x04),
    (p.greedy || (Fp.pos p.invTemp && Fp.finite p.invTemp), 0x05),
    (decide (p.topK ≤ 1024), 0x06),
    (!p.biased || (decide (1 ≤ p.biasCnt) && decide (p.biasCnt ≤ 1024)), 0x0A),
    (pen p.repPen && !Fp.gt 0x3F800000 p.repPen, 0x07),
    (pen p.presPen, 0x07),
    (pen p.freqPen, 0x07),
    (decide (1 ≤ p.timeout) && decide (p.timeout ≤ 60000000), 0x08),
    (!p.penalty || (decide (p.cntSize ≤ 2) && h.tableOk part p.cntTile p.cntOfs (4 * p.cntLen)), 0x09),
    (!p.biased || h.tableOk part p.biasTile p.biasOfs (8 * p.biasCnt), 0x09),
    (!p.masked || h.tableOk part p.autTile p.autOfs 16, 0x09),
    (dfield b 43 1 == 0, 0x01),
    (dfield b 56 8 == 0, 0x01)]
  (checks.find? (fun c => !c.1)).map (·.2)

/-! ### Tables (R187 to R189) -/

/-- `n` little-endian words of `w` bytes. -/
def wordsOf (w : Nat) (bs : List Byte) (n : Nat) : List Nat := (List.range n).map fun i => dfield bs (w * i) w

/-- The bias list: token and bias. -/
def biasList (bs : List Byte) (n : Nat) : List (Nat × Nat) :=
  (List.range n).map fun i => (dfield bs (8 * i) 4, dfield bs (8 * i + 4) 4)

/-- The list is in ascending token order, without duplicates, each token below `v` (R182). -/
def biasSorted (v : Nat) : List (Nat × Nat) → Bool
  | [] => true
  | [a] => decide (a.1 < v)
  | a :: b :: r => decide (a.1 < b.1) && decide (a.1 < v) && biasSorted v (b :: r)

/-- The place of a token in the count table: its entry, or the first empty one, by linear probing (R187). -/
def cntPlace (tbl : List Nat) (tok : Nat) : Option Nat :=
  let n := tbl.length
  ((List.range n).map (fun i => (tok + i) % n)).find? fun i =>
    let e := tbl.getD i 0
    e % 4096 = 0 || e / 4096 == tok

/-- The count of a token (R187). -/
def cntOf (tbl : List Nat) (tok : Nat) : Nat :=
  match cntPlace tbl tok with
  | some i => tbl.getD i 0 % 4096
  | none => 0

/-- One more of a token, saturating at 4,095; the table unchanged where no entry is free (R187). -/
def cntAdd (tbl : List Nat) (tok : Nat) : List Nat :=
  match cntPlace tbl tok with
  | some i => tbl.set i (tok * 4096 + sat 4095 (tbl.getD i 0 % 4096 + 1))
  | none => tbl

/-- The entries of a count table that an update changed, written to the tile. -/
def Dev.countWrite (d : Dev) (t o : Nat) (old new : List Nat) : Dev :=
  ((List.range new.length).zip (old.zip new)).foldl (fun d e =>
    if e.2.1 = e.2.2 then d else d.tileWrite t (o + 4 * e.1) (leBytes 4 e.2.2)) d

/-- A state entry of the automaton (R189). -/
structure AutState where
  maskTile : Nat
  maskOfs : Nat
  trOfs : Nat
  trCnt : Nat
  dflt : Nat
  deriving DecidableEq, Repr

/-- State `s` is a state of the table, and lies in the tile (R189). -/
def Prog.stateIn (p : Prog) (s : Nat) : Bool := decide (s ≤ 65534) && decide (p.autOfs + 16 * s + 16 ≤ tileBytes)

def Dev.autState (d : Dev) (p : Prog) (s : Nat) : AutState :=
  let b := d.tileRead p.autTile (p.autOfs + 16 * s) 16
  { maskTile := dfield b 0 2, maskOfs := dfield b 4 4, trOfs := dfield b 8 4, trCnt := dfield b 12 2, dflt := dfield b 14 2 }

/-- The ranges that a state's entry, mask and transitions take. -/
def Dev.stateRanges (d : Dev) (p : Prog) (s : Nat) : List (Nat × Nat × Nat) :=
  if s = 0xFFFF then [] else
  let e := d.autState p s
  [(p.autTile, p.autOfs + 16 * s, 16), (e.maskTile, e.maskOfs, p.maskLen), (p.autTile, e.trOfs, 8 * e.trCnt)]

/-- What is wrong with a state in use: its mask fails the table check, or its transitions leave the tile (0x09), or a
word of its tables is uncorrectable (R139, R189). -/
def Dev.stateBad (d : Dev) (part : Nat) (p : Prog) (s : Nat) : Bool × Bool :=
  if s = 0xFFFF then (false, false)
  else
    let e := d.autState p s
    (!p.stateIn s || !d.hub.tableOk part e.maskTile e.maskOfs p.maskLen || decide (2097152 < e.trOfs + 8 * e.trCnt),
      (d.stateRanges p s).any fun r => d.hub.tileBad r.1 r.2.1 r.2.2)

/-- The next state after a token (R189). -/
def Dev.autNext (d : Dev) (p : Prog) (s tok : Nat) : Nat :=
  if s = 0xFFFF then 0xFFFF
  else
    let e := d.autState p s
    match (List.range e.trCnt).find? fun i => dfield (d.tileRead p.autTile (e.trOfs + 8 * i) 4) 0 4 % 2 ^ 20 == tok with
    | some i => dfield (d.tileRead p.autTile (e.trOfs + 8 * i + 4) 2) 0 2
    | none => e.dflt

/-- The mask bit of a token in a state (R189). -/
def Dev.maskBit (d : Dev) (p : Prog) (s tok : Nat) : Bool :=
  if s = 0xFFFF then false
  else
    let e := d.autState p s
    (d.mem.tile.read (tileByte e.maskTile (e.maskOfs + tok / 8))).toNat.testBit (tok % 8)

/-! ### One set (R183 to R186) -/

/-- A candidate: its token, its x and its weight. -/
structure Cand where
  tok : Nat
  x : Nat
  w : Nat := 0
  deriving DecidableEq, Repr

/-- The logits of a set, in vocabulary order, as binary32. -/
def setLogits (p : Prog) (key : Nat) (got : List (Nat × Nat × List Byte)) : List Nat :=
  (List.range p.bricks).flatMap fun i =>
    match got.find? (fun g => g.1 == key && g.2.1 == i * p.per) with
    | some g => (List.range (min p.per (p.vocab - i * p.per))).map fun j =>
        let c := dfield g.2.2 (p.width * j) p.width
        if p.bf16 then Fp.ofBf16 c else c
    | none => []

/-- Rank: x descending, equal x in ascending token order (R183 step 7). Candidates enter in token order. -/
def rankIn (c : Cand) : List Cand → List Cand
  | [] => [c]
  | a :: r => if Fp.gt c.x a.x then c :: a :: r else a :: rankIn c r

/-- The first `k` ranked tokens of those eligible. -/
def rankTop (k : Nat) (cs : List Cand) : List Cand := cs.foldl (fun r c => (rankIn c r).take k) []

/-- Eligible: x neither NaN nor −Inf (R183 step 7). -/
def eligible (x : Nat) : Bool := !Fp.isNan x && Fp.val x != .inf true

/-- The weights of the ranked candidates (R183 step 8, R184). -/
def weigh (cs : List Cand) : List Cand :=
  match cs with
  | [] => []
  | m :: _ => cs.map fun c =>
    let w := if Fp.val m.x = .inf false then (if Fp.val c.x = .inf false then 2 ^ 32 else 0) else Fp.weight (Fp.sub c.x m.x)
    { c with w }

def totalW (cs : List Cand) : Nat := cs.foldl (fun a c => a + c.w) 0

/-- The shortest ranked prefix whose cumulative weight, times 65,536, reaches the target (R183 step 9). -/
def topPrefix (goal : Nat) : Nat → List Cand → List Cand
  | _, [] => []
  | c, a :: r => if goal ≤ (c + a.w) * 65536 then [a] else a :: topPrefix goal (c + a.w) r

/-- The kept set K of a ranked and weighted set (R183 steps 9 and 10). -/
def keep (p : Prog) (cs : List Cand) : List Cand :=
  let c := if p.topP = 0 then cs else topPrefix (p.topP * totalW cs) 0 cs
  if p.minP = 0 then c else c.filter (fun a => decide (p.minP * 65536 ≤ a.w))

/-- The first token whose cumulative weight exceeds `t` (R186). -/
def pickAt (t : Nat) : Nat → List (Nat × Nat) → Nat
  | _, [] => 0
  | c, (tok, w) :: r => if t < c + w then tok else pickAt t (c + w) r

/-- A draw's selection from a ranked set of tokens and weights (R186). -/
def select (u : Nat) (ws : List (Nat × Nat)) : Nat :=
  pickAt (u * ws.foldl (fun a c => a + c.2) 0 / 2 ^ 64) 0 (ws.filter (fun c => decide (0 < c.2)))

/-- Draw d of a step (R194). -/
def Step.draw (s : Step) (i : Nat) : Nat := aes128 s.key (s.ctr.toNat * 2 ^ 64 + i * 2 ^ 48) / 2 ^ 64

/-- Steps 1 to 6 of R183 on one token: none where it is excluded. A NaN stays, on a masked token too: it is not eligible, and
the set reports it (R184). -/
def transform (p : Prog) (bias : List (Nat × Nat)) (counts : List Nat) (allowed : Nat → Bool) (tok z : Nat) : Option Nat :=
  let z := if p.biased then (match bias.find? (·.1 == tok) with
    | some b => if Fp.val b.2 = .inf true then 0xFF800000 else Fp.add z b.2
    | none => z) else z
  let n := if p.penalty then cntOf counts tok else 0
  let z := if p.penalty && decide (0 < n) then
      let z := if Fp.pos z then Fp.div z p.repPen else if Fp.below0 z then Fp.mul z p.repPen else z
      Fp.sub (Fp.sub z p.presPen) (Fp.mul p.freqPen (Fp.ofNat n))
    else z
  if p.masked && !allowed tok && !Fp.isNan z then none
  else some (if p.greedy then z else Fp.mul z p.invTemp)

/-- What a set yields: its candidates, its kept set, and whether a NaN made a token ineligible. -/
structure SetOut where
  cand : List Cand
  kept : List Cand
  nan : Bool
  deriving DecidableEq, Repr

def setOut (p : Prog) (xs : List (Nat × Option Nat)) : SetOut :=
  let ok := xs.filterMap fun e => match e.2 with
    | some x => if eligible x then some { tok := e.1, x : Cand } else none
    | none => none
  let c := rankTop (if p.greedy then 1 else p.k) ok
  let c := if p.greedy then c else weigh c
  { cand := c, kept := if p.greedy then c else keep p c, nan := xs.any fun e => e.2.any Fp.isNan }

/-- A target set, with the counts and the automaton state of its path (R183, R192). -/
def Dev.targetSet (d : Dev) (s : Step) (p : Prog) (key : Nat) (counts : List Nat) (aut : Nat) : SetOut :=
  let zs := setLogits p key s.got
  setOut p (((List.range zs.length).zip zs).map fun e =>
    (e.1, if Fp.isNan e.2 then some e.2 else transform p s.bias counts (fun t => d.maskBit p aut t) e.1 e.2))

/-- A draft set: steps 1, 7 and 8 with INV_TEMP taken as 1 (R193). -/
def draftSet (s : Step) (p : Prog) (n : Nat) : SetOut :=
  let zs := setLogits p (128 + n) s.got
  setOut p (((List.range zs.length).zip zs).map fun e => (e.1, some e.2))

/-! ### Trees and verification (R190 to R193) -/

/-- The node entries of a tree brick: parent and token, and whether every reserved bit is zero. -/
def treeNodes (n : Nat) (bs : List Byte) : List (Nat × Nat) × Bool :=
  let ws := wordsOf 4 bs n
  (ws.map fun w => (bits w 26 20, w % 2 ^ 20), ws.all fun w => decide (w < 2 ^ 27))

/-- The parent and the token of node n, counting from 1. -/
def nodeAt (ns : List (Nat × Nat)) (n : Nat) : Nat × Nat := ns.getD (n - 1) (0, 0)

/-- The tokens on the path from the root to a node, which it includes (R192). -/
def pathTo (ns : List (Nat × Nat)) : Nat → Nat → List Nat
  | 0, _ => []
  | fuel + 1, n => if n = 0 then [] else pathTo ns fuel (nodeAt ns n).1 ++ [(nodeAt ns n).2]

/-- The checks of R191 in table order: the DETAIL of the first failure. -/
def treeCheck (p : Prog) (n : Nat) (b : Brick) : Option Nat :=
  let t := treeNodes n b.payload
  let ns := t.1
  let ids := (List.range n).map (· + 1)
  let checks : List (Bool × Nat) := [
    (decide (n ≤ 64) && b.grout.toNat == 256 - 4 * max n 1 && (t.2 || n == 0), 0x01),
    (ids.all fun i => decide ((nodeAt ns i).1 < i), 0x02),
    (ids.all fun i => decide ((pathTo ns n i).length ≤ 16), 0x03),
    (ids.all fun i => ids.all fun j => decide (j ≤ i) || nodeAt ns i != nodeAt ns j, 0x04),
    (ns.all fun e => decide (e.2 < p.vocab), 0x05),
    (p.spec ≠ 2 || (decide (n ≤ 16) && ids.all fun i => (nodeAt ns i).1 == i - 1), 0x06)]
  (checks.find? (fun c => !c.1)).map (·.2)

/-- A child of a node that carries a token; 0 when none does (R192). -/
def childWith (ns : List (Nat × Nat)) (node tok : Nat) : Nat :=
  (((List.range ns.length).map (· + 1)).find? fun i => nodeAt ns i == (node, tok)).getD 0

/-- The walk of R192: emitted tokens, each with the node accepted or 0. -/
def walk (p : Prog) (s : Step) (sets : List SetOut) : Nat → Nat → Nat → List (Nat × Nat)
  | 0, _, _ => []
  | fuel + 1, node, i =>
    let k := (sets.getD node { cand := [], kept := [], nan := false }).kept
    let t := if p.greedy then (k.head?.map (·.tok)).getD 0 else select (s.draw i) (k.map fun c => (c.tok, c.w))
    let c := childWith s.nodes node t
    if c = 0 then [(t, 0)] else (t, c) :: walk p s sets fuel c (i + 1)

/-- A token's weight in a set; 0 outside it. -/
def weightIn (cs : List Cand) (tok : Nat) : Nat := ((cs.find? (·.tok == tok)).map (·.w)).getD 0

/-- The verification of R193 from node n on, with i draws used. -/
def verify (s : Step) (sets drafts : List SetOut) : Nat → Nat → Nat → List (Nat × Nat)
  | 0, n, i =>
    let k := (sets.getD (n - 1) { cand := [], kept := [], nan := false }).kept
    [(select (s.draw i) (k.map fun c => (c.tok, c.w)), 0)]
  | fuel + 1, n, i =>
    let pk := (sets.getD (n - 1) { cand := [], kept := [], nan := false }).kept
    let q := (drafts.getD (n - 1) { cand := [], kept := [], nan := false }).cand
    let tok := (nodeAt s.nodes n).2
    let a := weightIn pk tok * totalW q
    let b := weightIn q tok * totalW pk
    if (b = 0 ∧ 0 < a) ∨ (0 < b ∧ s.draw i * b < a * 2 ^ 64) then (tok, n) :: verify s sets drafts fuel (n + 1) (i + 1)
    else
      let r := pk.map fun c => (c.tok, c.w * totalW q - weightIn q c.tok * totalW pk)
      let r := if (r.any fun e => decide (0 < e.2)) then r else pk.map fun c => (c.tok, c.w)
      [(select (s.draw (i + 1)) r, 0)]

/-! ### Endings (R195, R197 to R199) -/

/-- A TOKEN payload (R197). -/
def tokenBytes (st count acc flags aut detail step : Nat) (toks : List (Nat × Nat)) : List Byte :=
  leBytes 1 st ++ leBytes 1 count ++ leBytes 1 acc ++ leBytes 1 flags ++ leBytes 2 aut ++ leBytes 1 detail ++
  leBytes 1 0 ++ leBytes 8 step ++ toks.flatMap fun t => leBytes 4 (t.1 + t.2 * 2 ^ 20)

/-- A step ends (R195, R197, R199): its TOKEN brick, the stream's counter, the counts and the event. -/
def Hub.endStep (h : Hub) (s : Step) (dest st detail flags aut : Nat) (toks : List (Nat × Nat)) : Hub :=
  let acc := toks.countP (fun t => t.2 ≠ 0)
  let pl := tokenBytes st toks.length acc (flags + 4 * b2n s.deferred) aut detail s.ctr.toNat toks
  let h := { h with smp := { h.smp with steps := h.smp.steps.filter (·.stream != s.stream) } }
  let h := h.send dest (0xA1 + s.smp)
    { mkBrick .token 1 s.part s.stream dest (0xA1 + s.smp) pl with poison := st == 7 }
  let c := h.stream s.stream
  let full := c.step == 0xFFFFFFFFFFFFFFFF
  let h := h.updStrm s.stream (fun c => { c with
    last := pl, step := if full then c.step else c.step + 1, count := if c.st = .running then c.count + 1 else c.count })
  let h := if full then h.faultStream s.stream 0x10 0xFF else h
  if st = 0 then (h.bump 0x700010).bump 0x700030 acc
  else (h.bump 0x700018).eventOnce 0x0701 s.part [.u8 s.part, .u16 s.stream, .u8 st, .u8 detail] s.part

/-- The STATE that a TOKEN brick without tokens reports (R197). -/
def Hub.tokenState (h : Hub) (s : Step) : Nat :=
  if (Prog.of s.prog).masked then (h.stream s.stream).aut else 0xFFFF

/-- A NaN among the logits received. -/
def Step.nanIn (s : Step) : Bool :=
  let p := Prog.of s.prog
  s.got.any fun g => (List.range (g.2.2.length / p.width)).any fun j =>
    let c := dfield g.2.2 (p.width * j) p.width
    Fp.isNan (if p.bf16 then Fp.ofBf16 c else c)

/-- A step ends with an error: no tokens, counts and automaton unchanged (R198). -/
def Hub.failStep (h : Hub) (s : Step) (st detail : Nat) : Hub :=
  h.endStep s (Prog.of s.prog).dest st detail (b2n s.nanIn) (h.tokenState s) []

/-- The open step of a stream. -/
def Hub.stepOf (h : Hub) (stream : Nat) : Option Step := h.smp.steps.find? (·.stream == stream)

/-- The stream's open step ends with ABORTED (R198). -/
def Hub.abortStep (h : Hub) (stream : Nat) : Hub :=
  match h.stepOf stream with
  | some s => h.failStep s 0x06 0
  | none => h

/-- Every open step of a partition ends with ABORTED (R225, R227). -/
def Hub.abortSteps (h : Hub) (part : Nat) : Hub :=
  (h.smp.steps.filter (·.part == part)).foldl (fun h s => h.failStep s 0x06 0) h

/-- Every open step to which a fenced port has sent a brick ends with FENCED (R198). -/
def Hub.fenceSteps (h : Hub) (x : Nat) : Hub :=
  (h.smp.steps.filter (·.senders.testBit x)).foldl (fun h s => h.failStep s 0x02 x) h

/-! ### Choosing a sampler (R178, R201, R202) -/

/-- Sampler s is enabled and unfailed. -/
def Hub.smpUp (h : Hub) (s : Nat) : Bool := h.bitAt 0x700000 s && !h.smp.failed.testBit s

/-- The samplers that are enabled and unfailed. -/
def Hub.smpsUp (h : Hub) : List Nat := [0, 1].filter h.smpUp

/-- R202 is in effect. -/
def Hub.slicing (h : Hub) : Bool := h.smpsUp.length == 1

/-- Set slots reserved and steps open on a sampler. -/
def Samplers.sets (m : Samplers) (s : Nat) : Nat := (m.steps.filter (·.smp == s)).foldl (fun a t => a + t.sets) 0
def Samplers.open_ (m : Samplers) (s : Nat) : Nat := m.steps.countP (·.smp == s)

/-- A sampler that can take a new step needing `n` set slots. -/
def Hub.smpFit (h : Hub) (n s : Nat) : Bool :=
  h.smpUp s && h.smp.on.testBit s && !(h.smp.st.phase != .none && h.smp.st.unit == s) && !h.smp.inSlice &&
  decide (h.smp.open_ s < 16) && decide (h.smp.sets s + n ≤ 160)

/-- The sampler for a new step: the fewer open steps, sampler 0 on a tie. -/
def Hub.pickSmp (h : Hub) (n : Nat) : Option Nat :=
  match [0, 1].filter (h.smpFit n) with
  | [] => none
  | [s] => some s
  | _ => some (if h.smp.open_ 1 < h.smp.open_ 0 then 1 else 0)

/-- A rotation test needs both samplers (R201): without them it ends with no result, and its turn stands (log entry 102). -/
def Hub.stopRotation (h : Hub) : Hub :=
  if h.smpsUp.length = 2 then h else { h with smp := { h.smp with st := { h.smp.st with phase := .none } } }

/-- Events 0x0704 and 0x0705 follow a change of the samplers that are up (R207). Slicing begins with no slice done (R202). -/
def Hub.noteSamplers (h : Hub) : Hub :=
  let h := h.stopRotation
  let sl := h.slicing
  let na := h.smpsUp.isEmpty
  let h := if h.smp.slicing = sl then h
    else ({ h with smp := { h.smp with slicing := sl, slices := 0 } }).event 0x0704 [.u8 (b2n sl)]
  if h.smp.noneAvail = na then h
  else ({ h with smp := { h.smp with noneAvail := na } }).event 0x0705 [.u8 (b2n na)]

/-! ### Logits (R177 to R181) -/

/-- SET, Q, N and OFFSET of a LOGITS brick, and its reserved bits. -/
def lgSet (b : Brick) : Nat := bits b.addr.toNat 38 32
def lgQ (b : Brick) : Bool := b.addr.toNat.testBit 39
def lgN (b : Brick) : Nat := bits b.addr.toNat 26 20
def lgOfs (b : Brick) : Nat := b.addr.toNat % 2 ^ 20
def lgTree (b : Brick) : Bool := lgSet b == 0x7F && !lgQ b
def lgReserved (b : Brick) : Bool :=
  bits b.addr.toNat 47 40 ≠ 0 || bits b.addr.toNat 31 27 ≠ 0 || (lgTree b && lgOfs b ≠ 0) || (!lgTree b && lgN b ≠ 0)

/-- An orphan is discarded, counted, and recorded once per port per course (R180). -/
def Hub.orphanLogits (h : Hub) (x : Nat) (b : Brick) : Hub :=
  let h := { h with smp := { h.smp with waiting := h.smp.waiting.filter (· != b.stream.toNat) } }
  ((h.bump 0x700020).flag 0x700004 1).eventOnce 0x0703 x [.u8 x, .u16 b.stream.toNat, .u8 (lgSet b), .u32 (lgOfs b)]

/-- The stream admits new steps, or bricks of an open one, and belongs to the brick's partition (R180, R212). -/
def Hub.admits (h : Hub) (b : Brick) (fresh : Bool) : Bool :=
  let s := b.stream.toNat
  h.streamPart s == some b.part.toNat &&
    (if fresh then (h.stream s).st == .running else (h.stream s).st != .idle)

/-- A logit brick does not fit a step of program p with n nodes (R180). -/
def badLogits (p : Prog) (n : Nat) (got : List (Nat × Nat × List Byte)) (b : Brick) : Bool :=
  let off := lgOfs b
  let key := lgSet b + 128 * b2n (lgQ b)
  decide (n < lgSet b) || (lgQ b && (p.spec ≠ 2 || lgSet b == 0)) || off % p.per ≠ 0 || decide (p.vocab ≤ off) ||
  256 - b.grout.toNat ≠ p.width * min p.per (p.vocab - off) || (got.any fun g => g.1 == key && g.2.1 == off)

/-- The stream's program record: its tile and offset, its bytes, and whether it can be read. -/
def Dev.boundProg (d : Dev) (part stream : Nat) : Option (Nat × Nat × List Byte) :=
  match (d.hub.stream stream).prog with
  | some (t, o) => if d.hub.hubTileOk part t && decide (o + 64 ≤ 2097152) then some (t, o, d.tileRead t o 64) else none
  | none => none

/-- The brick from port x would open a step (R179): its stream is RUNNING, has no open step, and for a SPEC 1 or 2
stream it is a tree brick; for SPEC 0 it fits the program. -/
def Dev.opens (d : Dev) (b : Brick) : Bool :=
  let h := d.hub
  !lgReserved b && h.admits b true && (h.stepOf b.stream.toNat).isNone &&
    (match d.boundProg b.part.toNat b.stream.toNat with
     | none => true
     | some (_, _, bs) =>
       let p := Prog.of bs
       if p.spec = 1 ∨ p.spec = 2 then lgTree b
       else (h.progCheck b.part.toNat bs).isSome || !badLogits p 0 [] b)

/-- The set slots a step reserves (R178). -/
def setsFor (spec n : Nat) : Nat := if 64 < n then 1 else if spec = 1 then 1 + n else if spec = 2 then 1 + 2 * n else 1

/-- The slots that a brick which opens a step needs. -/
def Dev.slotsFor (d : Dev) (b : Brick) : Nat :=
  match d.boundProg b.part.toNat b.stream.toNat with
  | none => 1
  | some (_, _, bs) => setsFor (Prog.of bs).spec (lgN b)

/-- A logit brick enters its step. -/
def Hub.addLogits (h : Hub) (x : Nat) (b : Brick) : Hub :=
  { h with smp := { h.smp with steps := h.smp.steps.map fun s =>
      if s.stream == b.stream.toNat then { s with
        got := (lgSet b + 128 * b2n (lgQ b), lgOfs b, b.data) :: s.got
        senders := if s.senders.testBit x then s.senders else s.senders + 2 ^ x, poison := s.poison || b.poison }
      else s } }

/-- A step opens (R178, R179): the program and the tables are read and checked, then the tree. -/
def Dev.openStep (d : Dev) (x smp : Nat) (b : Brick) : Dev :=
  let part := b.part.toNat
  let stream := b.stream.toNat
  let c := d.hub.stream stream
  let was := d.hub.smp.waiting.contains stream
  let base : Step := {
    smp, part, stream, ctr := c.step, key := seedKey smpLabel c.seed.toNat, prog := [], tile := 0, ofs := 0
    aut := c.aut, senders := 2 ^ x, first := x, sets := d.slotsFor b, deferred := was, poison := b.poison }
  let h := if was then ({ d.hub with smp := { d.hub.smp with waiting := d.hub.smp.waiting.filter (· != stream) } }).bump 0x700038
    else d.hub
  let stop (h : Hub) (s : Step) (dest st detail : Nat) : Dev :=
    { d with hub := h.endStep s dest st detail 0 (h.tokenState s) [] }
  match d.boundProg part stream with
  | none => stop h base x 0x03 (if c.prog.isNone then 0x01 else 0x09)
  | some (t, o, bs) =>
    let p := Prog.of bs
    let s := { base with prog := bs, tile := t, ofs := o }
    let h := h.readRanges [(t, o, 64)]
    if h.tileBad t o 64 then stop h s x 0x07 0
    else match h.progCheck part bs with
      | some e => stop h s (if (p.version == 1 && decide (p.mode < 16) && p.spec ≠ 3 && !(p.greedy && p.spec == 2)) && e ≠ 0x03 then p.dest else x) 0x03 e
      | none =>
        let bias := if p.biased then biasList (d.tileRead p.biasTile p.biasOfs (8 * p.biasCnt)) p.biasCnt else []
        let aBad := if p.masked then d.stateBad part p c.aut else (false, false)
        if !biasSorted p.vocab bias then stop h s p.dest 0x03 0x0A
        else if p.masked && c.aut ≠ 0xFFFF && !p.stateIn c.aut then stop h s p.dest 0x03 0x0B
        else if aBad.1 then stop h s p.dest 0x03 0x09
        else
          let n := if lgTree b then lgN b else 0
          let bad := (p.penalty && h.tileBad p.cntTile p.cntOfs (4 * p.cntLen)) ||
            (p.biased && h.tileBad p.biasTile p.biasOfs (8 * p.biasCnt)) || aBad.2
          let s := { s with
            nodes := (treeNodes n b.payload).1, bias
            counts := if p.penalty then wordsOf 4 (d.tileRead p.cntTile p.cntOfs (4 * p.cntLen)) p.cntLen else []
            poison := s.poison || bad }
          let h := h.readRanges ((if p.penalty then [(p.cntTile, p.cntOfs, 4 * p.cntLen)] else []) ++
            (if p.biased then [(p.biasTile, p.biasOfs, 8 * p.biasCnt)] else []))
          let h := if aBad.2 then h.readRanges (d.stateRanges p c.aut) else h
          let h := if p.spec = 0 then h else h.bump 0x700028 n
          match (if p.spec = 0 then none else treeCheck p n b) with
          | some e => stop h s p.dest 0x04 e
          | none =>
            let h := { h with smp := { h.smp with steps := h.smp.steps ++ [s] } }
            { d with hub := if p.spec = 0 then h.addLogits x b else h }

/-- The bricks of the sampler intake that can go on, given those before them that wait. A brick that would open a step waits
for a sampler; a brick of an open step passes it, and another brick of its port or its stream waits behind it (R178, R181; log
entry 101). -/
def Dev.lgGo (d : Dev) (held : List InItem) : List InItem → List InItem
  | [] => []
  | i :: is =>
    let behind := held.any fun e => e.port == i.port || e.brick.stream == i.brick.stream
    if d.hub.smpsUp.isEmpty || (d.hub.stepOf i.brick.stream.toNat).isSome ||
        (!behind && (!d.opens i.brick || (d.hub.pickSmp (d.slotsFor i.brick)).isSome)) then i :: d.lgGo held is
    else d.lgGo (held ++ [i]) is

/-- The bricks at the sampler intake, in the order of their arrival. -/
def Hub.atSampler (h : Hub) : List InItem := h.fab.inbox.filter (·.unit == 0xA0)

/-- A brick taken from the sampler intake. -/
def Dev.takeLogits (d : Dev) (x : Nat) (i : InItem) : Dev :=
  let b := i.brick
  let h := { d.hub with fab := { d.hub.fab with inbox := d.hub.fab.inbox.erase i } }
  if h.smpsUp.isEmpty then { d with hub := h.refuseBrick x b }
  else
    let h := h.owe x b.vc.toNat
    if d.opens b then
      match h.pickSmp (d.slotsFor b) with
      | some s => ({ d with hub := h } : Dev).openStep x s b
      | none => d
    else
      match h.stepOf b.stream.toNat with
      | some s =>
        if lgReserved b || !h.admits b false || badLogits (Prog.of s.prog) s.nodes.length s.got b then
          { d with hub := h.orphanLogits x b }
        else { d with hub := h.addLogits x b }
      | none => { d with hub := h.orphanLogits x b }

/-- The oldest LOGITS brick from accelerator x that can go on is served (R178, R179). -/
def Dev.logits (d : Dev) (x : Nat) : Dev :=
  match (d.lgGo [] d.hub.atSampler).find? (·.port == x) with
  | some i => d.takeLogits x i
  | none => d

/-- Every brick at the sampler intake that can go on is served; `n` bounds the work. -/
def Dev.logitsRun (d : Dev) : Nat → Dev
  | 0 => d
  | n + 1 =>
    match (d.lgGo [] d.hub.atSampler).head? with
    | some i => (d.takeLogits i.port i).logitsRun n
    | none => d

/-- The bricks that entered before a boundary, or waited on a slice, are served (R43, R202). -/
def Dev.drainLogits (d : Dev) : Dev := d.logitsRun d.hub.atSampler.length

/-- The streams whose next step waits at the intake (R202). -/
def Dev.openersHeld (d : Dev) : List Nat :=
  (d.hub.atSampler.filter fun i => d.opens i.brick).map (·.brick.stream.toNat)

/-! ### Completion -/

/-- The keys of the sets a step must hold, in the order in which R198 names a missing one. -/
def Step.need (s : Step) : List Nat :=
  let n := s.nodes.length
  (List.range (n + 1)) ++ (if (Prog.of s.prog).spec = 2 then (List.range n).map (fun i => 129 + i) else [])

/-- The first set that is not complete (R179). -/
def Step.missing (s : Step) : Option Nat :=
  s.need.find? fun k => s.got.countP (·.1 == k) ≠ (Prog.of s.prog).bricks

/-- A count table's words as bytes. -/
def wordsBytes (ws : List Nat) : List Byte := ws.flatMap (leBytes 4)

/-- The tokens on the path to each node of a step, the root first. -/
def Step.paths (s : Step) : List (List Nat) :=
  (List.range (s.nodes.length + 1)).map fun i => pathTo s.nodes s.nodes.length i

/-- The automaton state at each node of a step (R192). -/
def Dev.nodeStates (d : Dev) (s : Step) : List Nat :=
  let p := Prog.of s.prog
  s.paths.map fun ts => if p.masked then ts.foldl (fun a t => d.autNext p a t) s.aut else 0xFFFF

/-- A complete step ends (R192, R193, R197, R199): every set is processed, the tokens are chosen, and the TOKEN brick is
issued with the counts, the automaton state and the step counter updated. -/
def Dev.tokenIssue (d : Dev) (stream : Nat) : Dev :=
  match d.hub.stepOf stream with
  | none => d
  | some s =>
    if s.missing.isSome then d
    else
      let p := Prog.of s.prog
      if s.poison then { d with hub := d.hub.failStep s 0x07 0 }
      else
        let n := s.nodes.length
        let paths := s.paths
        let auts := d.nodeStates s
        let bads := if p.masked then auts.map (d.stateBad s.part p) else []
        if bads.any (·.1) then { d with hub := d.hub.failStep s 0x03 0x09 }
        else if bads.any (·.2) then
          { d with hub := (d.hub.readRanges (auts.flatMap (d.stateRanges p))).failStep s 0x07 0 }
        else
          let sets := (List.range (n + 1)).map fun i =>
            d.targetSet s p i ((paths.getD i []).foldl cntAdd s.counts) (auts.getD i 0xFFFF)
          let drafts := if p.spec = 2 then (List.range n).map (fun i => draftSet s p (i + 1)) else []
          let nan := (sets ++ drafts).any (·.nan)
          match (sets ++ drafts).findIdx? (fun o => o.cand.isEmpty) with
          | some i =>
            let detail := if i ≤ n then i else 0x80 + (i - n)
            { d with hub := d.hub.endStep s p.dest 0x05 detail (b2n nan) (d.hub.tokenState s) [] }
          | none =>
            let toks := if p.spec = 2 then verify s sets drafts n 1 0 else walk p s sets 17 0 0
            let out := toks.map (·.1)
            let aut := if p.masked then out.foldl (fun a t => d.autNext p a t) s.aut else 0xFFFF
            let tbl := if p.penalty then wordsOf 4 (d.tileRead p.cntTile p.cntOfs (4 * p.cntLen)) p.cntLen else []
            let tbl' := out.foldl (fun (a : List Nat × Bool) t =>
              (cntAdd a.1 t, a.2 || (cntPlace a.1 t).isNone)) (tbl, false)
            let full := p.penalty && tbl'.2
            let d := if p.penalty then d.countWrite p.cntTile p.cntOfs tbl tbl'.1 else d
            d.hubMap fun h =>
              let first := full && !(h.stream stream).cntFull
              let h := h.updStrm stream (fun c => { c with
                aut := if p.masked then aut else c.aut, cntFull := c.cntFull || full })
              let h := h.endStep s p.dest 0 0
                (b2n nan + 2 * b2n full + 8 * b2n (p.masked && aut == 0xFFFF && s.aut ≠ 0xFFFF)) aut toks
              if first then h.event 0x0706 [.u16 stream] s.part else h

/-- TIMEOUT_US has passed since an incomplete step opened (R179, R198). -/
def Hub.stepTimeout (h : Hub) (stream : Nat) : Hub :=
  match h.stepOf stream with
  | none => h
  | some s => match s.missing with
    | some k => h.failStep s 0x01 k
    | none => h

/-! ### Self-test (R201 to R203) -/

/-- A sampler has failed its self-test (R203). -/
def Hub.smpFail (h : Hub) (s : Nat) : Hub :=
  let h := { (h.flag 0x700004 2) with smp := { h.smp with failed := setBit h.smp.failed s true, on := setBit h.smp.on s false } }
  let h := (h.event 0x0702 [.u8 s]).faultMet 9
  ((h.smp.steps.filter (·.smp == s)).foldl (fun h t => h.failStep t 0x06 0) h).noteSamplers

/-- A test falls due with both samplers up (R201). -/
def Hub.smpStStart (h : Hub) : Hub :=
  let m := h.smp.st
  if h.bitAt 0x700000 2 ∧ m.phase = .none ∧ h.fld 0x700000 31 16 ≤ m.count ∧ h.smpsUp.length = 2 ∧ h.therm.throt = false then
    { h with smp := { h.smp with st := { m with phase := .draining, count := 0 } } }
  else h

/-- The sampler under test is empty (R201). -/
def Hub.smpDrained (h : Hub) : Hub :=
  if h.smp.st.phase = .draining ∧ h.smp.open_ h.smp.st.unit = 0 then
    { h with smp := { h.smp with st := { h.smp.st with phase := .testing } } }
  else h

/-- The sampler is not empty within 1 ms: its turn is skipped (R201). -/
def Hub.smpDrainTimeout (h : Hub) : Hub :=
  let m := h.smp.st
  if m.phase = .draining ∧ h.smp.open_ m.unit ≠ 0 then
    { h with smp := { h.smp with st := { m with phase := .none, skips := sat 255 (m.skips + 1), unit := (m.unit + 1) % 2 } } }
  else h

/-- A self-test ends: the test of a drained sampler, or the fiftieth slice of R202. -/
def Hub.smpStDone (h : Hub) (ok : Bool) : Hub :=
  let m := h.smp.st
  if m.phase = .testing then
    let h := { h with smp := { h.smp with st := { m with phase := .none, unit := (m.unit + 1) % 2 } } }
    if ok then h else h.smpFail m.unit
  else if 50 ≤ h.smp.slices then
    let h := { h with smp := { h.smp with slices := 0 } }
    if ok then h else match h.smpsUp with
      | s :: _ => h.smpFail s
      | [] => h
  else h

/-- A slice starts (R202). -/
def Hub.sliceStart (h : Hub) : Hub :=
  match h.smpsUp with
  | [s] =>
    if h.bitAt 0x700000 2 ∧ h.smp.inSlice = false ∧ h.smp.sliced = false ∧ h.smp.open_ s = 0 ∧ h.smp.slices < 50 ∧
        h.therm.throt = false then
      { h with smp := { h.smp with inSlice := true, sliced := true, hodsHeld := 0 } }
    else h
  | _ => h

/-- A slice ends: the steps that waited on it are deferred ones, and the bricks go on (R202). -/
def Dev.sliceEnd (d : Dev) : Dev :=
  if d.hub.smp.inSlice then
    let w := d.openersHeld
    (d.hubMap fun h => { h with smp := { h.smp with
      inSlice := false, slices := h.smp.slices + 1, hodsHeld := 0, waiting := h.smp.waiting ++ w } }).drainLogits
  else d

/-- At a boundary a sampler cleared in CFG.EN goes off once its steps have ended, and the slice of the course is open
again (R202, R206). -/
def Hub.smpBoundary (h : Hub) : Hub :=
  let off := [0, 1].filter (fun s => !h.bitAt 0x700000 s && h.smp.open_ s == 0)
  ({ h with smp := { h.smp with
    on := off.foldl (fun m s => setBit m s false) h.smp.on, sliced := false
    st := { h.smp.st with count := h.smp.st.count + 1 } } }).noteSamplers

/-! ### Hods (R204) -/

/-- A VF names a stream of its own partition; any requester a stream of some partition. -/
def Hub.streamRight (h : Hub) (q : HodReq) (s : Nat) : Option HodOut :=
  match q.who, h.streamPart s with
  | .vf n, some p => if p = n.val then none else some .refused
  | .vf _, none => some .refused
  | _, some _ => none
  | _, none => some (.badArg 1)

def smpProgWriteHod (q : HodReq) (t o : Nat) (bs : List Byte) (d : Dev) : Dev × HodOut :=
  if !d.hub.tileRight q t then (d, .refused)
  else if !d.hub.tileFits t then (d, .badArg 1)
  else if o % 256 ≠ 0 ∨ 2097152 < o + 64 then (d, .badArg 2)
  else if bs.length ≠ 64 ∨ (d.hub.progCheck (d.hub.ownerReg t) bs).isSome then (d, .badArg 3)
  else if d.hub.smp.steps.any (fun s => overlaps t o 64 s.tile s.ofs 64) then (d, .fail .busy)
  else (d.tileWrite t o bs, .ok [])

def smpBindHod (q : HodReq) (s t o : Nat) (seed : Option Nat) (d : Dev) : Dev × HodOut :=
  match d.hub.streamRight q s with
  | some e => (d, e)
  | none =>
    if !d.hub.tileRight q t then (d, .refused)
    else if !d.hub.hubTileOk ((d.hub.streamPart s).getD 0) t then (d, .badArg 2)
    else if o % 256 ≠ 0 ∨ 2097152 < o + 64 then (d, .badArg 3)
    else (d.hubMap fun h => h.updStrm s fun c => { c with
        prog := some (t, o)
        seed := match seed with | some v => BitVec.ofNat 64 v | none => c.seed
        step := if seed.isSome then 0 else c.step }, .ok [])

def smpStateSetHod (q : HodReq) (s : Nat) (aut : Option Nat) (clear : Bool) (toks : List Nat) (d : Dev) : Dev × HodOut :=
  match d.hub.streamRight q s with
  | some e => (d, e)
  | none =>
    let part := (d.hub.streamPart s).getD 0
    let p := (d.boundProg part s).map fun b => Prog.of b.2.2
    if (match aut, p with | some a, some p => a ≠ 0xFFFF && !p.stateIn a | some a, none => a ≠ 0xFFFF | none, _ => false) then
      (d, .badArg 2)
    else
      let d := d.hubMap fun h => match aut with | some a => h.updStrm s (fun c => { c with aut := a }) | none => h
      match p with
      | some p =>
        if p.penalty && decide (p.cntSize ≤ 2) && d.hub.tableOk part p.cntTile p.cntOfs (4 * p.cntLen) then
          let old := if clear then List.replicate p.cntLen 0
            else wordsOf 4 (d.tileRead p.cntTile p.cntOfs (4 * p.cntLen)) p.cntLen
          let new := toks.foldl cntAdd old
          (if clear then d.tileWrite p.cntTile p.cntOfs (wordsBytes new) else d.countWrite p.cntTile p.cntOfs old new, .ok [])
        else (d, .ok [])
      | none => (d, .ok [])

def smpLastHod (q : HodReq) (s : Nat) (d : Dev) : Dev × HodOut :=
  match d.hub.streamRight q s with
  | some e => (d, e)
  | none => (d, .ok [.block (d.hub.stream s).last, .u64 (d.hub.stream s).step.toNat])

/-- The byte ranges an open step reads: its program, its enabled tables, and of the automaton the entries, masks and
transitions of the states its nodes stand in, wherever these lie (R189, R204). -/
def Dev.stepRanges (d : Dev) (s : Step) : List (Nat × Nat × Nat) :=
  let p := Prog.of s.prog
  [(s.tile, s.ofs, 64)] ++ (if p.penalty then [(p.cntTile, p.cntOfs, 4 * p.cntLen)] else []) ++
  (if p.biased then [(p.biasTile, p.biasOfs, 8 * p.biasCnt)] else []) ++
  (if p.masked then (d.nodeStates s).flatMap (d.stateRanges p) else [])

def smpTableWriteHod (q : HodReq) (t o : Nat) (bs : List Byte) (d : Dev) : Dev × HodOut :=
  if !d.hub.tileRight q t then (d, .refused)
  else if !d.hub.tileFits t then (d, .badArg 1)
  else if o % 256 ≠ 0 ∨ 2097152 < o + bs.length then (d, .badArg 2)
  else if bs.length < 256 ∨ 3840 < bs.length then (d, .badArg 3)
  else if d.hub.smp.steps.any (fun s => s.part == d.hub.ownerReg t &&
      (d.stepRanges s).any fun r => overlaps t o bs.length r.1 r.2.1 r.2.2) then (d, .fail .busy)
  else (d.tileWrite t o bs, .ok [])

end Sys2Proof.Machine
end

