-- ==== Sys2Proof/Machine/Streams.lean ====
section
/-!
DEFINITION. Machine/Streams.lean: contexts, queues, dispatch, the messages of accelerators, jobs, and the stream hods (R208
to R231).
-/
namespace Sys2Proof.Machine

/-! ### The hot store (R210, R211) -/

def Hub.hotMin (h : Hub) (p : Nat) : Nat := if h.partEn p then h.fld (partCtx p) 25 16 else 0

/-- The hot contexts of a partition. -/
def Hub.hotIn (h : Hub) (p : Nat) : List (Nat × Strm) :=
  h.str.strm.filter (fun e => e.2.hot && h.streamPart e.1 == some p)

/-- A context that must stay hot (R210). -/
def Strm.pinned (c : Strm) : Bool := c.st == .running || c.st == .draining

/-- Shared slots in use, and how many there are. -/
def Hub.sharedUsed (h : Hub) : Nat := (List.range 8).foldl (fun a p => a + ((h.hotIn p).length - h.hotMin p)) 0
def Hub.sharedSlots (h : Hub) : Nat := 512 - (List.range 8).foldl (fun a p => a + h.hotMin p) 0

/-- A slot is free for a context of the partition: one of its own, or a shared one, of the 512 that there are. -/
def Hub.slotFree (h : Hub) (p : Nat) : Bool :=
  decide ((h.str.strm.filter (·.2.hot)).length < 512) &&
    (decide ((h.hotIn p).length < h.hotMin p) || decide (h.sharedUsed < h.sharedSlots))

/-- The least recently dispatched of unpinned contexts. -/
def leastRecent (l : List (Nat × Strm)) : Option Nat :=
  match l.filter (fun e => !e.2.pinned) with
  | [] => none
  | e :: es => some (es.foldl (fun b c => if c.2.dseq < b.2.dseq then c else b) e).1

/-- The context that makes room for one of the partition: its own least recent, else the least recent in the shared
slots. -/
def Hub.victim (h : Hub) (p : Nat) : Option Nat :=
  match leastRecent (h.hotIn p) with
  | some s => some s
  | none => leastRecent (((List.range 8).filter (fun r => decide (h.hotMin r < (h.hotIn r).length))).flatMap h.hotIn)

/-- The tile of a partition's cold contexts; 768 and above for none. -/
def Hub.ctxTile (h : Hub) (p : Nat) : Nat := h.fld (partCtx p) 9 0

/-- The stream's context is to be read from a tile: without CTX_TILE every context has its slot (R209, R210). -/
def Hub.coldIn (h : Hub) (p s : Nat) : Bool := !(h.stream s).hot && decide (h.ctxTile p < 768)

/-- A cold context cannot be read (R139, R211). -/
def Hub.ctxBad (h : Hub) (p s : Nat) : Bool :=
  h.tileBad (h.ctxTile p) (256 * (s - h.partBase p)) 256

/-- A stream faults because its context is unreadable; the bad word is counted and recorded (R139, R211). -/
def Hub.ctxFault (h : Hub) (p s : Nat) : Hub :=
  (h.readRanges [(h.ctxTile p, 256 * (s - h.partBase p), 256)]).faultStream s 0x11 0xFF

/-- A context leaves the hot store; where its partition has a tile it is written back there (R210). -/
def Hub.evict (h : Hub) (v : Nat) : Hub :=
  let h := if (h.streamPart v).any (fun p => decide (h.ctxTile p < 768)) && !h.str.evicted.contains v then
      { h with str := { h.str with evicted := h.str.evicted ++ [v] } }
    else h
  h.updStrm v (fun c => { c with hot := false })

/-- A stream's context made hot: none where no slot can be freed (R210). The read of a cold one wakes its group (R143). -/
def Hub.makeHot (h : Hub) (s : Nat) : Option Hub :=
  if (h.stream s).hot then some h
  else match h.streamPart s with
    | none => none
    | some p =>
      let room := if h.slotFree p then some h else (h.victim p).map h.evict
      room.map fun h =>
        (if h.coldIn p s then h.wakeNow (tileGroup (h.ctxTile p)) else h).updStrm s (fun c => { c with hot := true })

def Hub.queue (h : Hub) (q : Nat) : List Nat := Tbl.get [] h.str.ready q

/-- A context that is the head of an enabled queue: it is not given up for another head (log entry 104). -/
def Hub.isHead (h : Hub) (s : Nat) : Bool := h.str.ready.any fun e => h.queueEn e.1 && e.2.head? == some s

/-- The head of a queue is made hot where R210 allows; one whose context cannot be read faults, and the next is the head
(R211). -/
def Hub.keepHead (h : Hub) (q : Nat) : Nat → Hub
  | 0 => h
  | n + 1 =>
    match (h.queue q).head? with
    | none => h
    | some s =>
      let p := (h.streamPart s).getD 0
      if (h.stream s).hot then h
      else if h.coldIn p s && h.ctxBad p s then (h.ctxFault p s).keepHead q n
      else if !h.slotFree p && (h.victim p).any h.isHead then h
      else (h.makeHot s).getD h

/-- The head of every enabled queue is kept hot where R210 allows (R211). -/
def Hub.prefetch (h : Hub) : Hub :=
  if h.bitAt 0x800004 0 then
    (h.str.ready.filter (fun e => h.queueEn e.1)).foldl (fun h e => h.keepHead e.1 e.2.length) h
  else h

/-- At a boundary the contexts evicted since the last one lie in their tiles, in a layout that the spec does not give: its
bytes are free values (R210). -/
def Dev.writeContexts (d : Dev) : Dev :=
  let d' := d.hub.str.evicted.foldl (fun (d : Dev) s =>
    match d.hub.streamPart s with
    | some p =>
      (d.tileWrite (d.hub.ctxTile p) (256 * (s - d.hub.partBase p))
        ((List.range 256).map (Config.ctxByte d.hub.free))).hubMap (·.tick)
    | none => d) d
  d'.hubMap fun h => { h with str := { h.str with evicted := [] } }

/-! ### Queues (R216 to R219) -/

/-- A stream joins the tail of its queue (R213, R216). -/
def Hub.enterReady (h : Hub) (s : Nat) : Hub :=
  match (h.stream s).queue with
  | some q =>
    ({ (h.updStrm s (fun c => { c with st := .ready, reason := 0 })) with str :=
      { (h.updStrm s (fun c => { c with st := .ready, reason := 0 })).str with
        ready := h.str.ready.upd [] q (fun l => if l.contains s then l else l ++ [s]) } } : Hub).prefetch
  | none => h

/-- A stream leaves its queue for another state. -/
def Hub.leaveReady (h : Hub) (s : Nat) (st : StreamState) (reason : Nat) : Hub :=
  let h := match (h.stream s).queue with
    | some q => { h with str := { h.str with ready := h.str.ready.upd [] q (fun l => l.erase s) } }
    | none => h
  (h.updStrm s (fun c => { c with st, reason })).prefetch

/-- The streams running on a queue's dispatches. -/
def Hub.runningOn (h : Hub) (q : Nat) : List (Nat × Strm) := h.str.strm.filter (fun e => e.2.st == .running && e.2.onQueue == q)

/-- Accelerators on which a latency-class stream is RUNNING, one bit each. -/
def Hub.latBusy (h : Hub) : Nat :=
  h.str.strm.foldl (fun m e => if e.2.st == .running && h.queueLat e.2.onQueue then m ||| h.queueStages e.2.onQueue else m) 0

/-- Every accelerator of a queue's STAGES is up (R218). -/
def Hub.stagesUp (h : Hub) (q : Nat) : Bool := (onesBelow 8 (h.queueStages q)).all (fun x => (h.port x).up)

/-- A queue could dispatch its head but for the turns of R219. -/
def Hub.dispatchable (h : Hub) (q : Nat) : Bool :=
  h.queueEn q && h.jobRunning (h.queuePart q) && h.stagesUp q &&
  (match (h.queue q).head? with | some s => (h.makeHot s).isSome | none => false) &&
  (if h.queueLat q then (h.runningOn q).isEmpty && (h.latBusy &&& h.queueStages q) == 0
   else decide ((h.runningOn q).length < h.fld (queueCfg q) 15 8 + 1))

/-- A latency queue that shares an accelerator with q, or q itself. -/
def Hub.contends (h : Hub) (q k : Nat) : Bool :=
  k == q || (h.queueLat k && (h.queueStages k &&& h.queueStages q) != 0)

/-- The latency queue whose turn it is on an accelerator, among those that could dispatch on it, with its turn's count
(R219). -/
def Hub.latPick (h : Hub) (x : Nat) : Option (Nat × Nat) :=
  let t := Tbl.get (0, 0) h.str.turns x
  wrr 64 t.1 t.2 (fun k => h.fld (queueCfg k) 7 4)
    (fun k => h.queueLat k && (h.queueStages k).testBit x && h.dispatchable k)

/-- It is the queue's turn on an accelerator. -/
def Hub.turnOn (h : Hub) (q x : Nat) : Bool := (h.latPick x).any (·.1 == q)

/-- It is a latency queue's turn on every accelerator of its STAGES. -/
def Hub.turnAll (h : Hub) (q : Nat) : Bool :=
  h.queueLat q && h.dispatchable q && (onesBelow 8 (h.queueStages q)).all (h.turnOn q)

/-- A latency queue may dispatch: its turn has come on every accelerator it shares, or, where the turns of several
accelerators hold one another up, on one of them (R219; log entry 105). -/
def Hub.latMay (h : Hub) (q : Nat) : Bool :=
  h.turnAll q || (h.queueLat q && h.dispatchable q && !(List.range 64).any h.turnAll &&
    (onesBelow 8 (h.queueStages q)).any (h.turnOn q))

/-- The queue may dispatch now (R218, R219). -/
def Hub.mayDispatch (h : Hub) (q : Nat) : Bool :=
  if h.queueLat q then h.latMay q
  else h.dispatchable q && !((List.range 64).any fun k => h.queueLat k && h.dispatchable k)

/-- The queue that dispatches where a dispatch of queue q ends: a latency queue of one of its accelerators, or q. -/
def Hub.nextAfter (h : Hub) (q : Nat) : Option Nat :=
  if h.queueLat q then (((onesBelow 8 (h.queueStages q)).filterMap h.latPick).map (·.1)).find? h.latMay
  else if h.mayDispatch q then some q else none

/-- A stream waits in queue q, or in a latency queue that contends with it (R219). -/
def Hub.streamWaits (h : Hub) (q : Nat) : Bool :=
  (List.range 64).any fun k => (k == q || (h.queueLat q && h.contends q k)) && h.queueEn k && !(h.queue k).isEmpty

/-- The turns after a dispatch of latency queue q (R219). -/
def Hub.takeTurns (h : Hub) (q : Nat) : Hub :=
  { h with str := { h.str with turns := (onesBelow 8 (h.queueStages q)).foldl (fun t x =>
      t.set (0, 0) x (match h.latPick x with | some (k, u) => if k = q then (q, u) else (q, 1) | none => (q, 1))) h.str.turns } }

/-- The ended dispatch that a dispatch of queue q makes good: one of q, or of a latency queue that contends with it. -/
def Hub.owing (h : Hub) (q : Nat) : Option Nat :=
  (h.str.owed.find? fun e => e.1 == q || (h.queueLat q && h.queueLat e.1 && h.contends q e.1)).map (·.1)

/-- A dispatch of queue q ends a stream switch (R224): one that follows the end at once, or that an earlier end awaits. -/
def Hub.countSwitch (h : Hub) (q : Nat) (now cold : Bool) : Hub :=
  match (if now then none else h.owing q) with
  | some k => (({ h with str := { h.str with owed := h.str.owed.upd 0 k (· - 1) } } : Hub).bump 0x800010).bump 0x800018 (b2n cold)
  | none => if now then (h.bump 0x800010).bump 0x800018 (b2n cold) else h

/-- A queue's head is dispatched (R221, R223): RUNNING, with one DISPATCH to each stage; `ended` names the stream whose
dispatch this one ends, and the stages it had. A cold context that cannot be read faults instead (R211). -/
def Hub.dispatchHead (h : Hub) (q : Nat) (ended : Option (Nat × Nat)) : Hub :=
  match (h.queue q).head? with
  | none => h
  | some s =>
    let cold := h.coldIn (h.queuePart q) s
    if cold && h.ctxBad (h.queuePart q) s then h.ctxFault (h.queuePart q) s
    else
      let lat := h.queueLat q
      let h := if lat then h.takeTurns q else h
      let h : Hub := (h.makeHot s).getD h
      let old : Nat := match ended with | some e => e.1 | none => 0
      let n := h.str.dseq + 1
      let h := { h with str := { h.str with dseq := n, ready := h.str.ready.upd [] q (fun l => l.erase s) } }
      let h := h.updStrm s (fun c => { c with st := .running, reason := 0, onQueue := q, dseq := n, count := 0, acks := 0 })
      let h := h.countSwitch q ended.isSome cold
      let user := (h.stream s).user
      let h := (onesBelow 8 (h.queueStages q)).foldl (fun h x =>
        let r := match ended with | some (e, st) => lat && st.testBit x && e != s | none => false
        h.streamMsg x s (h.queuePart q) 0x01 (b2n lat + 2 * b2n r) q 0 (if r then old else 0)
          (h.quantum q) n user) h
      h.prefetch

/-- The queue engine dispatches queue q (R218, R219). -/
def Hub.dispatch (h : Hub) (q : Nat) : Hub := if h.mayDispatch q then h.dispatchHead q none else h

/-- The heads that the next dispatches after queue q would read, and cannot, fault (R211); `n` bounds them. -/
def Hub.settleHeads (h : Hub) (q : Nat) : Nat → Hub
  | 0 => h
  | n + 1 =>
    match h.nextAfter q with
    | none => h
    | some k =>
      match (h.queue k).head? with
      | none => h
      | some s =>
        if h.coldIn (h.queuePart k) s && h.ctxBad (h.queuePart k) s then (h.ctxFault (h.queuePart k) s).settleHeads q n
        else h

/-- REVOKE to the accelerators of a mask; `reason` none stands for a cause without a listed code. -/
def Hub.revokeFor (h : Hub) (s stages : Nat) : Option Nat → Hub
  | some r => h.revoke s stages r
  | none => if stages = 0 then h else h.revokeOpen s stages

/-- The end of a dispatch of stream s on queue q, whose state has already changed (R223, R224): the next stream is
dispatched at once where one may be, and the accelerators that no DISPATCH tells of it receive REVOKE. -/
def Hub.switchFrom (h : Hub) (s q : Nat) (reason : Option Nat) : Hub :=
  let stages := h.queueStages q
  let h := h.settleHeads q (h.str.ready.foldl (fun a e => a + e.2.length) 0)
  match h.nextAfter q with
  | some k =>
    let told := if h.queueLat k && (h.queue k).head? != some s then stages &&& h.queueStages k else 0
    (h.revokeFor s (stages - told) reason).dispatchHead k (some (s, stages))
  | none =>
    let h := (h.revokeFor s stages reason).prefetch
    if h.streamWaits q then { h with str := { h.str with owed := h.str.owed.upd 0 q (· + 1) } } else h

/-- A stream whose step count has reached QUANTUM yields to a waiting stream, or its count restarts (R219). -/
def Hub.quantumEnd (h : Hub) (s : Nat) : Hub :=
  let c := h.stream s
  let q := c.onQueue
  if c.st = .running ∧ h.quantum q ≠ 0 ∧ h.quantum q ≤ c.count then
    if h.streamWaits q then (h.enterReady s).switchFrom s q (some 0x04)
    else h.updStrm s (fun c => { c with count := 0 })
  else h

/-! ### Messages from accelerators (R221, R222) -/

/-- A refused message is answered with a NAK to its sender (R222). -/
def Hub.streamNak (h : Hub) (x : Nat) (b : Brick) (reason : Nat) : Hub :=
  let s := b.stream.toNat
  let h := h.streamMsg x s b.part.toNat 0x03 0 0 reason 0 0 0 []
  ((h.bump 0x800028).flag 0x800000 1).eventOnce 0x0807 x [.u8 x, .u16 s, .u8 (dfield b.payload 0 1), .u8 reason]

/-- The first cause for which a message from accelerator x is refused: a malformed message, a stream of another
partition, a stream without a queue, a sender outside its stages, and the wrong state. -/
def Hub.msgCheck (h : Hub) (x : Nat) (b : Brick) : Option Nat :=
  let s := b.stream.toNat
  let c := h.stream s
  let m := dfield b.payload 0 1
  if !b.is .mgmt || b.grout != 200 || m < 0x10 || 0x15 < m || 4 ≤ dfield b.payload 1 1 || dfield b.payload 6 2 ≠ 0 ||
      dfield b.payload 12 4 ≠ 0 then some 0x05
  else if h.streamPart s ≠ some b.part.toNat then some 0x03
  else match c.queue with
    | none => some 0x04
    | some q =>
      let st := if c.st == .running || c.st == .draining then c.onQueue else q
      if !(h.queueStages st).testBit x then some 0x02
      else
        let ok :=
          if m = 0x10 then c.st == .idle || c.st == .parked
          else if m = 0x15 then c.st == .draining || dfield b.payload 16 8 == c.dseq
          else c.st == .running
        if ok then none else some 0x01

/-- Every stage of a DRAINING stream has acknowledged, or counts as having done so: it is IDLE (R213, R523). -/
def Hub.drainCheck (h : Hub) (s : Nat) : Hub :=
  let c := h.stream s
  if c.st = .draining ∧ (onesBelow 8 (h.queueStages c.onQueue)).all c.acks.testBit then
    (h.updStrm s (fun c => { c with st := .idle, reason := 0 })).prefetch
  else h

/-- An accepted message acts (R213, R222). -/
def Hub.actMsg (h : Hub) (x : Nat) (b : Brick) : Hub :=
  let s := b.stream.toNat
  let c := h.stream s
  let m := dfield b.payload 0 1
  if m = 0x10 then (h.updStrm s (fun c => { c with user := slice b.payload 24 32 })).enterReady s
  else if m = 0x11 then (h.enterReady s).switchFrom s c.onQueue none
  else if m = 0x12 then (h.updStrm s (fun c => { c with st := .parked, reason := 0x01 })).switchFrom s c.onQueue none
  else if m = 0x13 then (h.updStrm s (fun c => { c with st := .idle, reason := 0 })).switchFrom s c.onQueue none
  else if m = 0x14 then (h.faultStream s 0x13 x).prefetch
  else if c.st = .draining then (h.updStrm s (fun c => { c with acks := c.acks ||| 2 ^ x })).drainCheck s
  else h

/-- The message from accelerator x at the head of the stream engine's intake: the one of the kind `m`, or one that no
kind covers. -/
def Hub.streamMessage (h : Hub) (x m : Nat) : Hub :=
  match takeFirst (fun i => i.unit == 0xC3 && i.port == x) h.fab.inbox with
  | none => h
  | some (i, rest) =>
    let b := i.brick
    let k := dfield b.payload 0 1
    if b.is .mgmt && decide (0x10 ≤ k) && decide (k ≤ 0x15) && k ≠ m then h
    else
      let h := ({ h with fab := { h.fab with inbox := rest } } : Hub).owe x b.vc.toNat
      match h.msgCheck x b with
      | some r => h.streamNak x b r
      | none => h.actMsg x b

/-- The fenced ports, one bit each. -/
def Hub.fencedPorts (h : Hub) : Nat := maskOf 8 (fun x => (h.port x).fenced)

/-- DRAIN_US has passed without every acknowledgement (R213): the stage named is one that is not fenced. Where only fenced
stages are missing the drain ends at the next boundary (R523). -/
def Hub.drainTimeout (h : Hub) (s : Nat) : Hub :=
  let c := h.stream s
  if c.st = .draining then
    match (onesBelow 8 (h.queueStages c.onQueue)).find? (fun x => !c.acks.testBit x && !(h.port x).fenced) with
    | some x => (h.faultStream s 0x12 x).prefetch
    | none => h
  else h

/-- A stage is fenced: its streams park, and drains that wait on it go on, at the next boundary (R213, R523). -/
def Hub.fenceStreams (h : Hub) (x : Nat) : Hub := { h with str := { h.str with fenced := h.str.fenced ||| 2 ^ x } }

/-- At a boundary, running streams with a stage fenced since the last one are parked with reason 0x03, and draining ones
count it as having acknowledged (R213, R231, R523). -/
def Hub.parkFenced (h : Hub) : Hub :=
  let m := h.str.fenced
  let h := { h with str := { h.str with fenced := 0 } }
  (onesBelow 8 m).foldl (fun h x =>
    let on (st : StreamState) := h.str.strm.filter (fun e => e.2.st == st && (h.queueStages e.2.onQueue).testBit x)
    let h := (on .draining).foldl (fun h e => (h.updStrm e.1 (fun c => { c with acks := c.acks ||| 2 ^ x })).drainCheck e.1) h
    let l := on .running
    let h := l.foldl (fun h e =>
      (h.updStrm e.1 (fun c => { c with st := .parked, reason := 0x03 })).revokeOpen e.1 (h.queueStages e.2.onQueue)) h
    if l.isEmpty then h else h.event 0x0805 [.u8 x, .u16 l.length]) h

/-- Event 0x0806 follows a queue's change between blocked and not (R218, R231). -/
def Hub.noteBlocked (h : Hub) : Hub :=
  (List.range 64).foldl (fun h q =>
    let b := h.queueEn q && !h.stagesUp q
    if h.str.blocked.testBit q = b then h
    else ({ h with str := { h.str with blocked := setBit h.str.blocked q b } }).event 0x0806 [.u8 q, .u8 (b2n b)]) h

/-! ### Stops, resets and context switches (R213, R215, R227) -/

/-- The state on which a hod's transition acts: the one in effect when the ending course closed (R214). -/
def Hub.stateAtClose (h : Hub) (s : Nat) : StreamState :=
  match h.str.atClose with
  | some t => Tbl.get .idle t s
  | none => (h.stream s).st

/-- The hods of a boundary begin to act. -/
def Hub.closeStreams (h : Hub) : Hub :=
  { h with str := { h.str with
    atClose := some ((h.str.strm.filter (·.2.st != .idle)).map fun e => (e.1, e.2.st)) } }

/-- The hods of a boundary have acted. -/
def Hub.openStreams (h : Hub) : Hub := { h with str := { h.str with atClose := none } }

/-- A stream stops (R213): RUNNING drains with REVOKE, READY and PARKED go IDLE. A stage that is fenced counts as having
acknowledged. -/
def Hub.stopStream (h : Hub) (s reason : Nat) : Hub :=
  match h.stateAtClose s with
  | .running =>
    let h := h.updStrm s (fun c => { c with st := .draining, reason := 0, acks := h.fencedPorts })
    (h.revoke s (h.queueStages (h.stream s).onQueue) reason).drainCheck s
  | .ready | .parked => h.leaveReady s .idle 0
  | _ => h

/-- STREAM_RESET (R215). -/
def Hub.resetStream (h : Hub) (s : Nat) : Hub :=
  let c := h.stream s
  let h := h.abortStep s
  let h := if c.pinned then h.revoke s (h.queueStages c.onQueue) 0x03 else h
  (h.leaveReady s .idle 0).updStrm s (fun c => { c with step := 0 })

/-- The stream side of a partition context switch (R227): every stream of the range is cleared, the partition's queues
are emptied and disabled, and its job is NONE. A context cleared is not written back. -/
def Hub.clearStreams (h : Hub) (p base count : Nat) : Hub :=
  let mine := h.str.strm.filter (fun e => decide (base ≤ e.1) && decide (e.1 < base + count))
  let h := h.abortSteps p
  let h := mine.foldl (fun h e => if e.2.pinned then h.revoke e.1 (h.queueStages e.2.onQueue) 0x05 else h) h
  let h := { h with str := { h.str with
    strm := h.str.strm.clear base (base + count)
    evicted := h.str.evicted.filter (fun s => decide (¬ (base ≤ s ∧ s < base + count)))
    ready := h.str.ready.filter (fun e => h.queuePart e.1 != p)
    job := h.str.job.set .none p .none, srKey := h.str.srKey.set 0 p 0, drainFaults := h.str.drainFaults.set 0 p 0 } }
  let h := (List.range 64).foldl (fun h q => if h.queuePart q = p then h.setFld (queueCfg q) 31 31 0 else h) h
  h.event 0x0804 [.u8 p, .u16 (mine.countP (·.2.st != .idle))] p

/-! ### Configuration checks (R209, R217) -/

/-- The partition configuration that `cfg` would put in effect is consistent (R209). -/
def Hub.partSetOk (h : Hub) (cfg : Nat → Nat) : Bool :=
  let en (p : Nat) : Bool := (cfg (partCfg p)).testBit 31
  let base (p : Nat) := bits (cfg (partCfg p)) 12 0
  let cnt (p : Nat) := bits (cfg (partCfg p)) 29 16
  let hot (p : Nat) := bits (cfg (partCtx p)) 25 16
  let ps := (List.range 8).filter en
  ps.all (fun p => ps.all fun r => p == r || decide (base p + cnt p ≤ base r) || decide (base r + cnt r ≤ base p)) &&
  (List.range 8).all (fun p => decide (base p + cnt p ≤ 8192)) &&
  h.str.strm.all (fun e => e.2.st == .idle ||
    (match h.streamPart e.1 with
     | some p => !en p || (decide (base p ≤ e.1) && decide (e.1 < base p + cnt p))
     | none => true)) &&
  decide (ps.foldl (fun a p => a + hot p) 0 ≤ 512) &&
  ps.all (fun p => decide (cnt p ≤ hot p) || h.hubTileOk p (bits (cfg (partCtx p)) 9 0))

/-- A QUEUE_CFG value may take effect (R217). -/
def Hub.queueCfgOk (h : Hub) (cfg : Nat → Nat) (q : Nat) : Bool :=
  let v := cfg (queueCfg q)
  (!v.testBit 31 || (bits v 23 16 ≠ 0 && bits v 7 4 ≠ 0 && (cfg (partCfg (bits v 29 27))).testBit 31)) &&
  (bits v 29 27 == h.queuePart q || ((h.queue q).isEmpty && (h.runningOn q).isEmpty))

/-! ### Jobs (R225, R226) -/

/-- A partition's job state becomes NONE; event 0x0803. -/
def Hub.jobNone (h : Hub) (p : Nat) : Hub :=
  ({ h with str := { h.str with job := h.str.job.set .none p .none } } : Hub).event 0x0803
    [.u8 p, .u32 (Tbl.get 0 h.str.jobNum p), .u16 (Tbl.get 0 h.str.drainFaults p)] p

/-- ENDING becomes NONE where no stream of the partition drains (R225). -/
def Hub.settleJobs (h : Hub) : Hub :=
  (List.range 8).foldl (fun h p =>
    if h.jobState p = .ending ∧ !(h.str.strm.any fun e => e.2.st == .draining && h.streamPart e.1 == some p) then
      h.jobNone p
    else h) h

/-- Every partition's job state is NONE (R226). -/
def Hub.jobsNone (h : Hub) : Bool := (List.range 8).all (fun p => h.jobState p == .none)

/-- JOB_START takes effect (R225). -/
def Hub.jobStart (h : Hub) (p seed : Nat) : Hub × HodOut :=
  if h.jobState p ≠ .none then (h, .fail .busy)
  else if Tbl.get 0 h.str.jobNum p = 0xFFFFFFFF then (h, .fail .noResource)
  else
    let n := Tbl.get 0 h.str.jobNum p + 1
    let h := { h with
      str := { h.str with
        job := h.str.job.set .none p .running, jobNum := h.str.jobNum.set 0 p n
        srKey := h.str.srKey.set 0 p (seedKey srkLabel seed), drainFaults := h.str.drainFaults.set 0 p 0 }
      mortar := h.mortar.clearWindow p }
    (h.event 0x0802 [.u8 p, .u32 n] p, .ok [])

/-- JOB_END takes effect (R225, R171): streams drain or go IDLE, steps and collectives end with ABORTED. -/
def Hub.jobEnd (h : Hub) (p : Nat) : Hub :=
  let h := { h with str := { h.str with job := h.str.job.set .none p .ending } }
  let h := h.abortSteps p
  let h := (h.str.strm.filter (fun e => h.streamPart e.1 == some p)).foldl (fun h e => h.stopStream e.1 0x02) h
  h.abortColls p

/-! ### Hods (R228) -/

/-- A hod on one stream: the partition rule of R228, then its own effect. -/
def Hub.onStream (h : Hub) (q : HodReq) (s : Nat) (f : Hub → Hub × HodOut) : Hub × HodOut :=
  match h.streamRight q s with
  | some e => (h, e)
  | none => f h

def streamReadyHod (q : HodReq) (s : Nat) (user : List Byte) (h : Hub) : Hub × HodOut :=
  h.onStream q s fun h =>
    let st := h.stateAtClose s
    if (st ≠ .idle ∧ st ≠ .parked) ∨ (h.stream s).queue = none then (h, .badArg 1)
    else ((h.updStrm s (fun c => { c with user := padTo 32 user })).enterReady s, .ok [])

def streamParkHod (q : HodReq) (s : Nat) (h : Hub) : Hub × HodOut :=
  h.onStream q s fun h =>
    let st := h.stateAtClose s
    if st = .ready then (h.leaveReady s .parked 0x02, .ok [])
    else if st = .running then
      (((h.updStrm s (fun c => { c with st := .parked, reason := 0x02 })).revoke s (h.queueStages (h.stream s).onQueue)
        0x01).prefetch, .ok [])
    else (h, .badArg 1)

def streamStopHod (q : HodReq) (s : Nat) (h : Hub) : Hub × HodOut :=
  h.onStream q s fun h =>
    let st := h.stateAtClose s
    if st = .idle ∨ st = .faulted then (h, .badArg 1) else (h.stopStream s 0x01, .ok [])

def streamResetHod (q : HodReq) (s : Nat) (h : Hub) : Hub × HodOut := h.onStream q s fun h => (h.resetStream s, .ok [])

/-- A VF names a queue of its own partition (R228). -/
def Hub.queueRight (h : Hub) (q : HodReq) (k : Nat) : Bool :=
  match q.who with
  | .vf n => decide (k < 64) && h.queuePart k == n.val
  | _ => true

def streamSetQueueHod (q : HodReq) (s k : Nat) (h : Hub) : Hub × HodOut :=
  h.onStream q s fun h =>
    if !h.queueRight q k then (h, .refused)
    else if 64 ≤ k ∨ !h.queueEn k ∨ h.streamPart s ≠ some (h.queuePart k) then (h, .badArg 2)
    else
      let was := (h.stream s).st
      if was = .ready then
        let h := h.leaveReady s .idle 0
        ((h.updStrm s (fun c => { c with queue := some k })).enterReady s, .ok [])
      else (h.updStrm s (fun c => { c with queue := some k }), .ok [])

def streamQueryHod (q : HodReq) (s : Nat) (h : Hub) : Hub × HodOut :=
  h.onStream q s fun h =>
    let c := h.stream s
    (h, .ok [.u8 c.st.code, .u8 c.reason, .u8 (c.queue.getD 0), .u8 (b2n (h.latency s)), .u8 (b2n c.hot),
      .u64 c.step.toNat, .u64 c.dseq])

/-- JOB_START (R225); a VF starts the job of its own partition. -/
def jobStartHod (q : HodReq) (p seed : Nat) (plane : Bool) (h : Hub) : Hub × HodOut :=
  let p := q.part p
  if 8 ≤ p ∨ !h.partEn p then (h, .badArg 1)
  else if !plane then (h, .fail .version)
  else h.jobStart p seed

/-- JOB_END (R225): it completes after the boundary at which the job reaches NONE. -/
def jobEndHod (q : HodReq) (p : Nat) (h : Hub) : Hub × HodOut :=
  let p := q.part p
  if 8 ≤ p then (h, .badArg 1)
  else match h.jobState p with
    | .none => (h, .badArg 1)
    | .running => (h.jobEnd p, .wait)
    | .ending => (h, .wait)

end Sys2Proof.Machine
end

