-- ==== Sys2Proof/Machine/PubKey.lean ====
section
/-!
DEFINITION. Machine/PubKey.lean: AES-256-GCM for sealed slots (R84, R85), HMAC and HKDF with SHA-384 (R486), and ECDSA
and ECDH on P-384 (R427, R460, R480, R486, R493). The spec names the standards; the algorithms are PRESUMED from them
(log entry 12).
-/
namespace Sys2Proof.Machine

/-! ### AES-256 -/

/-- The next eight key words, as 32 bytes. -/
def aes256Next (rc : Nat) (k : List Nat) : List Nat :=
  let w (i : Nat) := (k.drop (4 * i)).take 4
  let w0 := xorBytes (w 0) [aesSub (k.getD 29 0) ^^^ rc, aesSub (k.getD 30 0), aesSub (k.getD 31 0), aesSub (k.getD 28 0)]
  let w1 := xorBytes (w 1) w0
  let w2 := xorBytes (w 2) w1
  let w3 := xorBytes (w 3) w2
  let w4 := xorBytes (w 4) (w3.map aesSub)
  let w5 := xorBytes (w 5) w4
  let w6 := xorBytes (w 6) w5
  w0 ++ w1 ++ w2 ++ w3 ++ w4 ++ w5 ++ w6 ++ xorBytes (w 7) w6

/-- The key bytes after `n` more steps of the schedule. -/
def aes256Keys : Nat → Nat → List Nat → List Nat
  | 0, _, k => k
  | n + 1, rc, k => k ++ aes256Keys n (aesDouble rc) (aes256Next rc k)

/-- The rounds that remain after the first key addition, with the round keys that remain. -/
def aesRun : Nat → List Nat → List Nat → List Nat
  | 0, _, s => s
  | n + 1, ks, s =>
    let s := aesShift (s.map aesSub)
    aesRun n (ks.drop 16) (xorBytes (if n = 0 then s else aesMixAll s) (ks.take 16))

/-- AES-256 of a block under a key schedule. -/
def aes256With (ks : List Nat) (block : Nat) : Nat :=
  (aesRun 14 (ks.drop 16) (xorBytes (block16 block) (ks.take 16))).foldl (fun a b => a * 256 + b) 0

/-- The key schedule of a 32-byte key. -/
def aes256Sched (key : List Byte) : List Nat := aes256Keys 7 1 ((padTo 32 key).map (·.toNat))

/-! ### GCM -/

/-- Multiplication in the field of GCM: `n` bits of `x` remain, the most significant first. -/
def gcmMulRun : Nat → Nat → Nat → Nat → Nat
  | 0, _, _, z => z
  | n + 1, x, v, z =>
    gcmMulRun n x (if v.testBit 0 then (v / 2) ^^^ (0xE1 * 2 ^ 120) else v / 2) (if x.testBit n then z ^^^ v else z)

/-- The hash of GCM over 16-byte blocks. -/
def ghash (hk : Nat) (blocks : List Nat) : Nat := blocks.foldl (fun y b => gcmMulRun 128 (y ^^^ b) hk 0) 0

/-- Bytes as 16-byte blocks, the last filled with zeros. -/
def blocks16 (bs : List Byte) : List Nat :=
  (List.range (divUp bs.length 16)).map fun i => beNat (slice bs (16 * i) 16)

/-- The counter mode of GCM: the same for encryption and decryption. -/
def gcmCrypt (key iv text : List Byte) : List Byte :=
  let ks := aes256Sched key
  let j := beNat (padTo 12 iv) * 2 ^ 32
  let pad := (List.range (divUp text.length 16)).flatMap fun i => beBytes 16 (aes256With ks (j + i + 2))
  List.zipWith (· ^^^ ·) text pad

/-- The 128-bit tag of GCM over additional data and ciphertext. -/
def gcmTag (key iv aad cipher : List Byte) : Nat :=
  let ks := aes256Sched key
  let j := beNat (padTo 12 iv) * 2 ^ 32
  ghash (aes256With ks 0) (blocks16 aad ++ blocks16 cipher ++ [8 * aad.length * 2 ^ 64 + 8 * cipher.length]) ^^^
    aes256With ks (j + 1)

/-! ### HMAC and HKDF -/

/-- HMAC with SHA-384. -/
def hmac384 (key msg : List Byte) : List Byte :=
  let k := padTo 128 (if 128 < key.length then sha384 key else key)
  sha384 (k.map (· ^^^ 0x5C) ++ sha384 (k.map (· ^^^ 0x36) ++ msg))

/-- The first `n` bytes of HKDF-Expand: two output blocks, which hold every length that the spec asks for. -/
def hkdfExpand (prk label : List Byte) (n : Nat) : List Byte :=
  let t1 := hmac384 prk (label ++ [0x01])
  (t1 ++ hmac384 prk (t1 ++ label ++ [0x02])).take n

/-! ### P-384 -/

/-- The field prime. -/
def p384 : Nat := 2 ^ 384 - 2 ^ 128 - 2 ^ 96 + 2 ^ 32 - 1
/-- The order of the base point. -/
def n384 : Nat := 0xFFFFFFFFFFFFFFFFFFFFFFFFFFFFFFFFFFFFFFFFFFFFFFFFC7634D81F4372DDF581A0DB248B0A77AECEC196ACCC52973
/-- The constant term of the curve. -/
def b384 : Nat := 0xB3312FA7E23EE7E4988E056BE3F82D19181D9C6EFE8141120314088F5013875AC656398D8A2ED19D2A85C8EDD3EC2AEF
/-- The base point. -/
def g384 : Nat × Nat :=
  (0xAA87CA22BE8B05378EB1C71EF320AD746E1D3B628BA79B9859F741E082542A385502F25DBF55296C3A545E3872760AB7,
   0x3617DE4A96262C6F5D9E98BF9292DC29F8F41DBD289A147CE9DA3113B5F0B8C00A60B1CE1D7E819D7A431D7C90EA0E5F)

/-- A power modulo `m`, over the low `k` bits of the exponent. -/
def powMod (m : Nat) : Nat → Nat → Nat → Nat
  | 0, _, _ => 1 % m
  | k + 1, a, e =>
    let r := powMod m k (a * a % m) (e / 2)
    if e % 2 = 1 then a * r % m else r

/-- The inverse modulo a prime. -/
def invMod (m a : Nat) : Nat := powMod m 384 (a % m) (m - 2)

/-- The point lies on the curve. -/
def onCurve (q : Nat × Nat) : Bool :=
  decide (q.1 < p384) && decide (q.2 < p384) &&
    decide (q.2 * q.2 % p384 = (q.1 * q.1 * q.1 + (p384 - 3) * q.1 + b384) % p384)

/-- A point in projective coordinates: x over z squared, y over z cubed; z zero is the point at infinity. -/
abbrev Jac := Nat × Nat × Nat

/-- Twice a point. -/
def jacDouble (q : Jac) : Jac :=
  let p := p384
  let (x, y, z) := q
  if z = 0 ∨ y = 0 then (1, 1, 0)
  else
    let yy := y * y % p
    let s := 4 * x * yy % p
    let zz := z * z % p
    let m := 3 * (x + zz) * (x + p - zz) % p
    let x' := (m * m + 2 * (p - s)) % p
    (x', (m * (s + p - x') + 8 * (p - yy * yy % p)) % p, 2 * y * z % p)

/-- The sum of two points. -/
def jacAdd (a b : Jac) : Jac :=
  let p := p384
  let (x1, y1, z1) := a
  let (x2, y2, z2) := b
  if z1 = 0 then b else if z2 = 0 then a
  else
    let u1 := x1 * (z2 * z2 % p) % p
    let u2 := x2 * (z1 * z1 % p) % p
    let s1 := y1 * (z2 * z2 % p * z2 % p) % p
    let s2 := y2 * (z1 * z1 % p * z1 % p) % p
    if u1 = u2 then (if s1 = s2 then jacDouble a else (1, 1, 0))
    else
      let h := (u2 + p - u1) % p
      let r := (s2 + p - s1) % p
      let hh := h * h % p
      let hhh := h * hh % p
      let v := u1 * hh % p
      let x3 := (r * r + (p - hhh) + 2 * (p - v)) % p
      (x3, (r * (v + p - x3) + s1 * (p - hhh)) % p, h * z1 % p * z2 % p)

/-- A multiple of a point, over the low `k` bits of the scalar. -/
def jacMul : Nat → Nat → Jac → Jac
  | 0, _, _ => (1, 1, 0)
  | k + 1, e, q =>
    let r := jacMul k (e / 2) (jacDouble q)
    if e % 2 = 1 then jacAdd q r else r

/-- The affine point; none at infinity. -/
def Jac.affine (q : Jac) : Option (Nat × Nat) :=
  if q.2.2 = 0 then none
  else
    let i := invMod p384 q.2.2
    some (q.1 * (i * i % p384) % p384, q.2.1 * (i * i % p384 * i % p384) % p384)

/-- A point multiplied by a scalar. -/
def pointMul (e : Nat) (q : Nat × Nat) : Option (Nat × Nat) := (jacMul 384 e (q.1, q.2, 1)).affine

/-- A public key or an ephemeral point: x then y, 48 bytes each, the most significant byte first. -/
def pointOf (bs : List Byte) : Nat × Nat := (beNat (slice bs 0 48), beNat (slice bs 48 48))

/-- The 96 bytes of a point. -/
def pointBytes (q : Nat × Nat) : List Byte := beBytes 48 q.1 ++ beBytes 48 q.2

/-- An ECDSA P-384 signature with SHA-384 verifies under a public key: r then s, 48 bytes each. -/
def ecdsa (key msg sig : List Byte) : Bool :=
  let q := pointOf key
  let r := beNat (slice sig 0 48)
  let s := beNat (slice sig 48 48)
  if key.length ≠ 96 ∨ sig.length ≠ 96 ∨ onCurve q = false ∨ r = 0 ∨ n384 ≤ r ∨ s = 0 ∨ n384 ≤ s then false
  else
    let w := invMod n384 s
    let e := beNat (sha384 msg)
    let sum := jacAdd (jacMul 384 (e * w % n384) (g384.1, g384.2, 1)) (jacMul 384 (r * w % n384) (q.1, q.2, 1))
    match Jac.affine sum with
    | none => false
    | some pt => pt.1 % n384 == r

/-- The ECDSA P-384 signature with SHA-384 of a message under a private scalar, with the per-message secret `k`. -/
def ecdsaSign (d k : Nat) (msg : List Byte) : List Byte :=
  let r := ((pointMul k g384).map (·.1)).getD 0 % n384
  beBytes 48 r ++ beBytes 48 (invMod n384 k * ((beNat (sha384 msg) + r * d) % n384) % n384)

end Sys2Proof.Machine
end

