-- ==== Sys2Proof/Machine/Ident.lean ====
section
/-!
DEFINITION. Machine/Ident.lean: the identity buses, sled and cable records, and what the governor takes from them (R260,
R261, R425 to R430, R480).
-/
namespace Sys2Proof.Machine

/-- The image keys that are eligible, and with `owner` the owner keys too (R480). -/
def Otp.keys (o : Otp) (owner : Bool) : List (List Byte) :=
  ((List.range 4).filter (fun k => !o.revoked.testBit k)).map Config.imageKey ++
  (if owner then o.ok0.toList ++ o.ok1.toList else [])

/-- A signature verifies under one of the keys (R480). -/
def anyKey (ks : List (List Byte)) (msg sig : List Byte) : Bool := ks.any (fun k => ecdsa k msg sig)

def idKey (bus addr : Nat) : Nat := 128 * bus + addr
def Hub.idMem (h : Hub) (bus addr : Nat) : IdMem := Tbl.get {} h.bus.mem (idKey bus addr)
def Hub.updId (h : Hub) (bus addr : Nat) (f : IdMem → IdMem) : Hub :=
  { h with bus := { h.bus with mem := h.bus.mem.upd {} (idKey bus addr) f } }

/-- A field of an identity record. -/
def recNum (r : List Byte) (o n : Nat) : Nat := leNat (slice r o n)

/-- The identity fields of a record (R427). -/
def identOf (r : List Byte) : Ident :=
  { verified := true, ncores := recNum r 4 2, fStep := recNum r 6 2
    ceil := (List.range 256).map (fun c => recNum r (96 + c) 1)
    fMin := recNum r 8 1, fGuar := recNum r 9 1, tThrottle := recNum r 10 1, tOff := recNum r 11 1
    vMin := recNum r 12 2, vMax := recNum r 14 2, pMax := recNum r 16 2, pBase := recNum r 18 2, iMax := recNum r 20 2
    vf := (List.range 16).map (fun k => (recNum r (32 + 4 * k) 1, recNum r (34 + 4 * k) 2)) }

/-- The fields of an identity record are as R427 and R260 require. -/
def recordOk (r : List Byte) : Bool :=
  let i := identOf r
  let zero (o n : Nat) : Bool := (slice r o n).all (· == 0)
  recNum r 0 2 == 1 && recNum r 2 2 == 512 && zero 22 10 && zero 368 48 &&
  (List.range 16).all (fun k => recNum r (33 + 4 * k) 1 == 0) &&
  decide (1 ≤ i.ncores) && decide (i.ncores ≤ 256) && decide (1000 ≤ i.fStep) && decide (i.fStep ≤ 50000) &&
  (i.ceil.take i.ncores).all (fun c => decide (1 ≤ c)) && decide (1 ≤ i.fMin) && decide (i.fMin ≤ i.fGuar) &&
  decide (300 ≤ i.vMin) && decide (i.vMin ≤ 1275) && decide (300 ≤ i.vMax) && decide (i.vMax ≤ 1275) &&
  decide (1 ≤ i.pMax) && decide (i.pMax ≤ 1500) && decide (i.pBase ≤ i.pMax) && decide (1 ≤ i.iMax) &&
  decide (50 ≤ i.tThrottle) && decide (i.tThrottle < i.tOff) && decide (i.tOff ≤ 125) &&
  (List.range 15).all (fun k => decide ((i.vf.getD k (0, 0)).1 < (i.vf.getD (k + 1) (0, 0)).1))

/-- The governor's identity of an accelerator, with its ceilings back at their identity values (R263). -/
def Hub.setIdent (h : Hub) (x : Nat) (i : Ident) : Hub := h.updAcc x (fun g => { g with ident := i, ceil := i.ceil })

/-- A sled read ends without usable data (R261, R426): results 1 unreadable, 2 invalid field, 3 signature failed. An
unreadable memory leaves nothing in the cache (R430). -/
def Hub.identFail (h : Hub) (x result : Nat) : Hub :=
  ((((h.updId x 0x50 (fun m => { m with st := 3, bytes := if result = 1 then [] else m.bytes })).setIdent x {}).flag 0xA0001C 2).event 0x0A06 [.u8 x, .u8 result]).event
    0x1001 [.u8 x, .u8 result]

/-- PRSNTx_L has been low for 50 ms (R426): the read starts, and the governor works with the values of R261. -/
def Hub.sledPresent (h : Hub) (x : Nat) : Hub :=
  if x < 8 then
    let h := { h with bus := { h.bus with sled := setBit h.bus.sled x true } }
    if h.bus.idFault.testBit x then h.identFail x 1
    else (h.updId x 0x50 (fun _ => { st := 1 })).setIdent x {}
  else h

/-- The sled's memory has been read: its bytes from offset 0, or none where it could not be read (R426, R427). -/
def Hub.sledIdRead (h : Hub) (keys : List (List Byte)) (x : Nat) (image : Option (List Byte)) : Hub :=
  if x < 8 ∧ (h.idMem x 0x50).st = 1 then
    match image with
    | none => h.identFail x 1
    | some bs =>
      let r := slice bs 0x800 512
      let h := h.updId x 0x50 (fun m => { m with bytes := bs })
      if !recordOk r then h.identFail x 2
      else if !anyKey keys (r.take 416) (r.drop 416) then (h.flag 0x1300000 2).identFail x 3
      else ((h.updId x 0x50 (fun m => { m with st := 2 })).setIdent x (identOf r)).event 0x1001 [.u8 x, .u8 0]
  else h

/-- PRSNTx_L goes high (R426). -/
def Hub.sledAbsent (h : Hub) (x : Nat) : Hub :=
  if x < 8 then
    (({ h with bus := { h.bus with sled := setBit h.bus.sled x false } } : Hub).updId x 0x50 (fun _ => {})).setIdent x {} |>.event
      0x1001 [.u8 x, .u8 4]
  else h

/-- A cable record passes the checks of R428. -/
def cableOk (r : List Byte) : Bool :=
  recNum r 0 2 == 1 && decide (recNum r 2 1 < 6) && recNum r 3 1 == 32 && (slice r 20 11).all (· == 0) &&
  ((r.take 32).map (·.toNat)).sum % 256 == 0 && decide (32 ≤ r.length)

/-- A cable's memory counts as unreadable (R59, R429): nothing of it is cached, and event 0x020B says so. -/
def Hub.cableUnread (h : Hub) (x : Nat) (b : Bool) : Hub :=
  (h.updId x (0x54 + b2n b) (fun _ => { st := 3 })).event 0x020B [.u8 x, .u8 (2 * x + b2n b), .u8 2]

/-- The record of a port's cable has been read, or its read has failed (R59, R428). -/
def Hub.cableRecord (h : Hub) (x : Nat) (b : Bool) (image : Option (List Byte)) : Hub :=
  match image with
  | some bs =>
    if cableOk bs && !h.bus.idFault.testBit x then h.updId x (0x54 + b2n b) (fun _ => { st := 2, bytes := bs })
    else h.cableUnread x b
  | none => h.cableUnread x b

/-- A cable is inserted and read (R59, R99, R426). -/
def Hub.cableRead (h : Hub) (x : Nat) (b : Bool) (image : Option (List Byte)) : Hub :=
  let h := { h with bus := { h.bus with cable := setBit h.bus.cable (2 * x + b2n b) true } }
  (h.event 0x020B [.u8 x, .u8 (2 * x + b2n b), .u8 0]).cableRecord x b image

def Hub.cableAbsent (h : Hub) (x : Nat) (b : Bool) : Hub :=
  (({ h with bus := { h.bus with cable := setBit h.bus.cable (2 * x + b2n b) false } } : Hub).updId x (0x54 + b2n b) (fun _ => {})).event
    0x020B [.u8 x, .u8 (2 * x + b2n b), .u8 1]

/-- 10 ms after a NACK a transfer is retried; after the third retry the memory is unreadable (R429). -/
def Hub.idRetry (h : Hub) (bus addr : Nat) : Hub :=
  let m := h.idMem bus addr
  if bus < 9 ∧ m.st = 1 then
    if m.retries < 3 then h.updId bus addr (fun m => { m with retries := m.retries + 1 })
    else if addr = 0x50 ∧ bus < 8 then h.identFail bus 1
    else if bus < 8 then h.cableUnread bus (addr == 0x55)
    else h.updId bus addr (fun _ => { st := 3 })
  else h

/-- SDA stays low after bus recovery (R429): every memory on the bus counts as unreadable. -/
def Hub.idStuck (h : Hub) (b : Nat) : Hub :=
  if 10 ≤ b ∨ h.bus.idFault.testBit b then h
  else
    let h := (({ h with bus := { h.bus with idFault := setBit h.bus.idFault b true } } : Hub).event 0x1003 [.u8 b]).faultMet 15
    if b < 8 then
      let h := [false, true].foldl (fun h c => if (h.idMem b (0x54 + b2n c)).st = 0 then h else h.cableUnread b c) h
      if (h.idMem b 0x50).st ≠ 0 then h.identFail b 1 else h
    else if b = 8 then h.updId 8 0x50 (fun _ => { st := 3 })
    else h

/-- A faulted bus has recovered (R429): the memories whose presence pin is low are read, the cables' reads ending as
given. -/
def Hub.idRecover (h : Hub) (b : Nat) (cblA cblB : Option (List Byte)) : Hub :=
  if b < 10 ∧ h.bus.idFault.testBit b then
    let h := ({ h with bus := { h.bus with idFault := setBit h.bus.idFault b false } } : Hub).event 0x1003 [.u8 b]
    if b < 8 then
      let h := if h.bus.cable.testBit (2 * b) then h.cableRecord b false cblA else h
      let h := if h.bus.cable.testBit (2 * b + 1) then h.cableRecord b true cblB else h
      if h.bus.sled.testBit b then h.sledPresent b else h
    else h
  else h

/-- An address holds a memory of R425. -/
def idPlace (bus addr : Nat) : Bool :=
  if bus < 8 then addr == 0x50 || addr == 0x54 || addr == 0x55
  else if bus = 8 then addr == 0x50
  else decide (0x50 ≤ addr) && decide (addr ≤ 0x57)

/-- The tray board's memory on ID8 is read at power-on reset (R426): what it holds is free. -/
def Hub.id8Read (h : Hub) : Hub := (h.updId 8 0x50 (fun _ => { st := if Config.fruOk 8 0x50 h.free then 2 else 3 })).tick

/-- ID_READ (R430): the cached bytes of buses 0 to 7 and of ID8; the boards' own memories on ID9 are read live. -/
def idReadHod (q : HodReq) (bus addr ofs len : Nat) (h : Hub) : Hub × HodOut :=
  if q.who.isVf then (h, .refused)
  else if 10 ≤ bus then (h, .badArg 1)
  else if !idPlace bus addr then (h, .badArg 2)
  else if len = 0 ∨ 4064 < len then (h, .badArg 4)
  else if bus = 8 then
    if (h.idMem 8 0x50).st ≠ 2 then (h, .fail .media)
    else (h, .ok [.block ((List.range len).map (fun k => Config.fruByte 8 0x50 (ofs + k)))])
  else if bus = 9 then
    if h.bus.idFault.testBit 9 || !Config.fruOk 9 addr h.free then (h.tick, .fail .media)
    else (h.tick, .ok [.block ((List.range len).map (fun k => Config.fruByte 9 addr (ofs + k)))])
  else
    let m := h.idMem bus addr
    if m.st ≠ 2 ∧ m.bytes = [] then (h, .fail .media)
    else if m.bytes.length < ofs + len then (h, .badArg 3)
    else (h, .ok [.block (slice m.bytes ofs len)])

/-- SMBUS.ID_STATUS of a bus (R432). -/
def Hub.idStatus (h : Hub) (b : Nat) : Nat :=
  b2n (h.bus.idFault.testBit b) * 2 ^ 31 +
  (if b < 8 then (h.idMem b 0x50).st * 16 + (h.idMem b 0x55).st * 4 + (h.idMem b 0x54).st else 0)

end Sys2Proof.Machine
end

