-- ==== Sys2Proof/Machine/Sync.lean ====
section
/-!
DEFINITION. Machine/Sync.lean: barriers, tallies, their errors, fencing and hods (R232 to R254, R555, R557).
-/
namespace Sys2Proof.Machine

/-- BARRIER.PART_BAR[p] and PART_TALLY[p]. -/
def barCfg (p : Nat) : Nat := 0x900040 + 4 * p
def talCfg (p : Nat) : Nat := 0x900060 + 4 * p

/-- The partition whose enabled range contains a barrier, or a tally (R232). -/
def Hub.barPart (h : Hub) (i : Nat) : Option Nat :=
  (List.range 8).find? fun p => let v := h.reg (barCfg p)
    h.partEn p && decide (bits v 11 0 ≤ i) && decide (i < bits v 11 0 + bits v 28 16)
def Hub.talPart (h : Hub) (i : Nat) : Option Nat :=
  (List.range 8).find? fun p => let v := h.reg (talCfg p)
    h.partEn p && decide (bits v 13 0 ≤ i) && decide (i < bits v 13 0 + bits v 30 16)

def Hub.bar (h : Hub) (i : Nat) : Option Barrier := Tbl.get none h.sync.bar i
def Hub.tal (h : Hub) (i : Nat) : Option Tally := Tbl.get none h.sync.tal i
def Hub.setBar (h : Hub) (i : Nat) (b : Option Barrier) : Hub := { h with sync := { h.sync with bar := h.sync.bar.set none i b } }
def Hub.setTal (h : Hub) (i : Nat) (t : Option Tally) : Hub := { h with sync := { h.sync with tal := h.sync.tal.set none i t } }

/-- An accelerator is unavailable to a partition's objects (R249). -/
def Hub.unavail (h : Hub) (x p : Nat) : Bool := !(h.port x).up || !h.member x p

def Barrier.e (b : Barrier) (k : Nat) : Nat := b.expect.getD k 0
def Barrier.n (b : Barrier) (k : Nat) : Nat := b.counts.getD k 0
def Barrier.total (b : Barrier) : Nat := b.expect.foldl (· + ·) 0
def Barrier.arrived (b : Barrier) : Nat := b.counts.foldl (· + ·) 0
def Barrier.waiting (b : Barrier) : Bool := b.first.isSome
/-- The next phase: counts zeroed, IDLE (R235, R237). -/
def Barrier.next (b : Barrier) : Barrier := { b with phase := b.phase + 1, counts := List.replicate 9 0, first := none }
/-- The endpoint code of place k of the counts. -/
def partyCode (k : Nat) : Nat := if k < 8 then k else 0xC0
/-- The first participant short of its arrivals (R246). -/
def Barrier.short (b : Barrier) : Option Nat := (List.range 9).find? fun k => decide (b.n k < b.e k)
/-- The first unavailable participant (R246). -/
def Hub.barGone (h : Hub) (p : Nat) (b : Barrier) : Option Nat :=
  (List.range 8).find? fun x => decide (0 < b.e x) && h.unavail x p

/-! ### Errors (R246, R247) -/

/-- The fields of a SYNC_ERROR. -/
structure SyncErr where
  kind : Nat
  obj : Nat
  id : Nat
  phase : Nat := 0
  waiter : Nat := 0xFF
  core : Nat := 0
  short : Nat := 0xFF
  arr : Nat := 0
  exp : Nat := 0
  value : Nat := 0
  deriving DecidableEq, Repr

def SyncErr.bytes (e : SyncErr) : List Byte :=
  leBytes 1 e.kind ++ leBytes 1 e.obj ++ leBytes 2 e.id ++ leBytes 1 e.phase ++ leBytes 1 e.waiter ++ leBytes 1 e.core ++
  leBytes 1 e.short ++ leBytes 2 e.arr ++ leBytes 2 e.exp ++ leBytes 4 e.value

/-- A SYNC_ERROR to each of some accelerators, each counted (R247, R252). -/
def Hub.syncError (h : Hub) (p : Nat) (ys : List Nat) (e : SyncErr) : Hub :=
  ys.foldl (fun h x => ((h.send x 0xC1 (mkBrick .syncError 3 p 0 x 0xC1 e.bytes)).bump 0x900020).flag 0x900000 1) h

/-- An error that ends a barrier's phase: its waiter, and the party short, or the one that `gone` names (R246). -/
def Barrier.err (b : Barrier) (kind id : Nat) (gone : Option Nat) : SyncErr :=
  let s := match gone with | some k => some k | none => b.short
  { kind, obj := 0, id, phase := b.phase.toNat % 256, waiter := (b.first.map (·.1)).getD 0xFF,
    core := (b.first.map (·.2)).getD 0, short := (s.map partyCode).getD 0xFF, arr := (s.map b.n).getD 0,
    exp := (s.map b.e).getD 0 }

/-- An error that ends a tally's wait: WAIT_GE when `ge` (R246). -/
def Tally.err (t : Tally) (kind id : Nat) (ge : Bool) (core : Nat) : SyncErr :=
  { kind, obj := 1, id, waiter := if ge then t.cons else t.prod, core, short := if ge then t.prod else t.cons,
    value := t.p - t.c }

/-- The accelerators of PMASK. -/
def Barrier.members (b : Barrier) : List Nat := onesBelow 8 b.pmask

/-- Accelerators with counted arrivals. -/
def Barrier.arrivers (b : Barrier) : List Nat := (List.range 8).filter (fun x => decide (0 < b.n x))

/-- A refusal answered to the sender alone, recorded once per port per course (R246, R254). -/
def Hub.refuseSync (h : Hub) (x p : Nat) (e : SyncErr) : Hub :=
  (h.syncError p [x] e).eventOnce 0x0904 x [.u8 x, .u8 e.kind, .u16 e.id]

/-! ### Tally operations (R242 to R245) -/

/-- A reply to an accelerator: SATISFIED or VALUE with the counts of the moment. -/
def Hub.tallyReply (h : Hub) (p x id op core arg : Nat) (t : Tally) : Hub :=
  h.send x 0xC1 (mkBrick .tally 3 p 0 x 0xC1
    (leBytes 2 id ++ leBytes 1 op ++ leBytes 1 core ++ leBytes 4 arg ++ leBytes 4 t.p ++ leBytes 4 t.c))

/-- Pending waits whose condition holds are answered (R244). -/
def Hub.settleTally (h : Hub) (p id : Nat) (t : Tally) : Hub :=
  let d := t.p - t.c
  let (h, t) := match t.ge with
    | some (a, core) => if a ≤ d then (h.tallyReply p t.cons id 0x81 core a t, { t with ge := none }) else (h, t)
    | none => (h, t)
  let (h, t) := match t.le with
    | some (a, core) => if d ≤ a then (h.tallyReply p t.prod id 0x81 core a t, { t with le := none }) else (h, t)
    | none => (h, t)
  h.setTal id (some t)

/-- The pending waits of a tally end with an error. -/
def Hub.endWaits (h : Hub) (p id kind : Nat) (t : Tally) : Hub :=
  let h := match t.ge with | some w => h.syncError p [t.cons] (t.err kind id true w.2) | none => h
  match t.le with | some w => h.syncError p [t.prod] (t.err kind id false w.2) | none => h

/-- The tallies bound to a barrier are rebased at an aligning release (R245). -/
def Hub.rebase (h : Hub) (p bar phase : Nat) : Hub :=
  h.sync.tal.foldl (fun h e =>
    match e.2 with
    | none => h
    | some t =>
      if t.alignBar = bar ∧ t.error = false ∧ h.talPart e.1 = some p then
        if t.p - t.c ≤ t.window then (h.bump 0x900028).settleTally p e.1 { t with p := t.p - t.c, c := 0 }
        else
          let h := h.setTal e.1 (some { t with error := true, ge := none, le := none })
          let h := h.syncError p (if t.prod = t.cons then [t.prod] else [t.prod, t.cons])
            { kind := 0x07, obj := 1, id := e.1, phase, value := t.p - t.c }
          h.eventOnce 0x0903 p [.u8 p, .u16 e.1, .u16 bar, .u32 (t.p - t.c)] p
      else h) h

/-! ### Barriers (R236 to R238) -/

/-- A phase completes (R237, R238, R245): the next phase opens, bound tallies are rebased where the release aligns, and
every member of PMASK is released. -/
def Hub.release (h : Hub) (p id : Nat) (b : Barrier) : Hub :=
  let k := b.phase.toNat
  let aligned := decide (0 < b.align) && (k + 1) % b.align == 0
  let h := h.setBar id (some b.next)
  let ts := h.stamp
  let h := h.tick
  let h := b.members.foldl (fun h x => h.send x 0xC1 (mkBrick .barrierRelease 3 p 0 x 0xC1
    (leBytes 2 id ++ leBytes 1 k ++ leBytes 1 (b2n aligned) ++ zeros 4 ++ leBytes 8 ts))) h
  let h := if aligned then h.rebase p id (k % 256) else h
  h.bump 0x900010

/-- The first cause, as KIND, for which an arrival at place k of the counts is refused (R237, R249, R557). -/
def Hub.arriveCheck (h : Hub) (p id phase k : Nat) : Option Nat :=
  if h.barPart id ≠ some p then some 0x06
  else match h.bar id with
    | none => some 0x06
    | some b =>
      if b.e k = 0 then some 0x05
      else if (h.barGone p b).isSome then some 0x02
      else if phase ≠ b.phase.toNat % 256 then some 0x03
      else if b.e k ≤ b.n k then some 0x04
      else none

/-- A counted arrival (R237). -/
def Hub.countArrival (h : Hub) (p id k core : Nat) : Hub :=
  match h.bar id with
  | none => h
  | some b =>
    let b := { b with
      counts := b.counts.set k (b.n k + 1), first := some (b.first.getD (partyCode k, core)) }
    if b.total ≤ b.arrived then h.release p id b else h.setBar id (some b)

/-- The refusal of an arrival, with the party that is unavailable for FENCED (R246). -/
def Hub.arriveErr (h : Hub) (p id phase kind : Nat) : SyncErr :=
  match kind, h.bar id with
  | 0x02, some b =>
    let g := h.barGone p b
    { kind, obj := 0, id, phase, short := g.getD 0xFF, arr := (g.map b.n).getD 0, exp := (g.map b.e).getD 0 }
  | _, _ => { kind, obj := 0, id, phase }

/-! ### Bricks at the sync engine -/

/-- The kind of a brick at 0xC1: 0 an arrival, 1 to 5 a TALLY operation, none anything else. -/
def syncKind (b : Brick) : Option Nat :=
  if b.is .barrierArrive then some 0
  else if b.is .tally then
    let op := dfield b.payload 2 1
    if 1 ≤ op ∧ op ≤ 5 then some op else none
  else none

/-- The brick is MALFORMED (R247). -/
def malformed (b : Brick) : Bool :=
  b.grout != 240 || b.addr != 0 ||
  (if b.is .barrierArrive then decide (4096 ≤ dfield b.payload 0 2) || dfield b.payload 4 12 ≠ 0
   else if b.is .tally then
     decide (16384 ≤ dfield b.payload 0 2) || dfield b.payload 8 8 ≠ 0 || dfield b.payload 2 1 = 0 || 5 < dfield b.payload 2 1
   else true)

/-- The answer to a malformed brick (R246, R247). -/
def malformedErr (b : Brick) : SyncErr :=
  if b.is .barrierArrive then { kind := 0x0D, obj := 0, id := dfield b.payload 0 2 % 4096, phase := dfield b.payload 2 1 }
  else if b.is .tally then { kind := 0x0D, obj := 1, id := dfield b.payload 0 2 % 16384 }
  else { kind := 0x0D, obj := 0xFF, id := 0xFFFF }

/-- An arrival from accelerator x (R237, R247). -/
def Hub.arrive (h : Hub) (x : Nat) (b : Brick) : Hub :=
  let p := b.part.toNat
  let id := dfield b.payload 0 2 % 4096
  let phase := dfield b.payload 2 1
  match h.arriveCheck p id phase x with
  | some k => h.refuseSync x p (h.arriveErr p id phase k)
  | none => h.countArrival p id x (dfield b.payload 3 1)

/-- The first cause for which a tally operation is refused, as KIND and SHORT (R243, R244, R249, R557). -/
def Hub.tallyCheck (h : Hub) (x p id op arg : Nat) : Option (Nat × Nat) :=
  if h.talPart id ≠ some p then some (0x06, 0xFF)
  else match h.tal id with
    | none => some (0x06, 0xFF)
    | some t =>
      let prod := x == t.prod
      let cons := x == t.cons
      if !(if op = 1 ∨ op = 4 then prod else if op = 2 ∨ op = 3 then cons else prod || cons) then some (0x05, 0xFF)
      else if t.error then some (0x0B, 0xFF)
      else if h.unavail t.prod p ∨ h.unavail t.cons p then
        some (0x02, if h.unavail t.prod p then t.prod else t.cons)
      else if op = 1 ∧ 0xFFFFFFFF < t.p + arg then some (0x08, 0xFF)
      else if op = 2 ∧ t.p < t.c + arg then some (0x09, 0xFF)
      else if (op = 3 ∧ t.ge.isSome) ∨ (op = 4 ∧ t.le.isSome) then some (0x0A, 0xFF)
      else none

/-- A TALLY brick from accelerator x (R242 to R244, R247). -/
def Hub.tallyOp (h : Hub) (x : Nat) (b : Brick) : Hub :=
  let p := b.part.toNat
  let id := dfield b.payload 0 2 % 16384
  let op := dfield b.payload 2 1
  let core := dfield b.payload 3 1
  let arg := dfield b.payload 4 4
  match h.tallyCheck x p id op arg with
  | some (k, short) =>
    let v := match h.tal id with | some t => if k = 0x06 ∨ k = 0x05 then 0 else t.p - t.c | none => 0
    h.refuseSync x p { kind := k, obj := 1, id, short, value := v }
  | none =>
    match h.tal id with
    | none => h
    | some t =>
      if op = 1 then h.settleTally p id { t with p := t.p + arg }
      else if op = 2 then h.settleTally p id { t with c := t.c + arg }
      else if op = 3 then h.settleTally p id { t with ge := some (arg, core) }
      else if op = 4 then h.settleTally p id { t with le := some (arg, core) }
      else h.tallyReply p x id 0x85 core arg t

/-- The brick from accelerator x at the head of the sync engine's intake: one of kind `k`, or one that no kind covers. -/
def Hub.syncBrick (h : Hub) (x k : Nat) : Hub :=
  match takeFirst (fun i => i.unit == 0xC1 && i.port == x) h.fab.inbox with
  | none => h
  | some (i, rest) =>
    let b := i.brick
    match syncKind b with
    | some k' =>
      if k' ≠ k then h
      else
        let h := ({ h with fab := { h.fab with inbox := rest } } : Hub).owe x b.vc.toNat
        if malformed b then h.refuseSync x b.part.toNat (malformedErr b)
        else if k' = 0 then h.arrive x b else h.tallyOp x b
    | none =>
      let h := ({ h with fab := { h.fab with inbox := rest } } : Hub).owe x b.vc.toNat
      h.refuseSync x b.part.toNat (malformedErr b)

/-- Every brick that has reached the sync engine is executed: before a boundary's changes, a timer's expiry and a fence
(R43, R248). -/
def Hub.drainSync (h : Hub) : Hub :=
  (h.fab.inbox.filter (·.unit == 0xC1)).foldl (fun h i => h.syncBrick i.port ((syncKind i.brick).getD 0)) h

/-! ### Timeouts and fencing (R247, R249) -/

/-- The timer of a barrier's phase ends it (R247). -/
def Hub.barExpire (h : Hub) (id : Nat) : Hub :=
  match h.bar id, h.barPart id with
  | some b, some p =>
    if b.waiting then
      let e := b.err 0x01 id none
      let h := (((h.setBar id (some b.next)).syncError p b.members e).bump 0x900018).flag 0x900000 2
      h.eventOnce 0x0901 p [.u8 p, .u8 0, .u16 id, .u8 e.phase, .u8 e.waiter, .u8 e.short] p
    else h
  | _, _ => h

/-- TIMEOUT_US after the first arrival of a barrier's phase (R247): an arrival already at the engine goes first (R248). -/
def Hub.barTimeout (h : Hub) (id : Nat) : Hub := h.drainSync.barExpire id

/-- The timer of a tally's wait ends it: WAIT_GE when `ge` (R244, R247). -/
def Hub.talExpire (h : Hub) (id : Nat) (ge : Bool) : Hub :=
  match h.tal id, h.talPart id with
  | some t, some p =>
    match (if ge then t.ge else t.le) with
    | some w =>
      let e := t.err 0x01 id ge w.2
      let h := h.setTal id (some (if ge then { t with ge := none } else { t with le := none }))
      let h := ((h.syncError p [e.waiter] e).bump 0x900018).flag 0x900000 2
      h.eventOnce 0x0901 p [.u8 p, .u8 1, .u16 id, .u8 0, .u8 e.waiter, .u8 e.short] p
    | none => h
  | _, _ => h

/-- TIMEOUT_US after a tally's wait began (R247): an ADD already at the engine goes first (R248). -/
def Hub.talTimeout (h : Hub) (id : Nat) (ge : Bool) : Hub := h.drainSync.talExpire id ge

/-- An accelerator has become unavailable to some partitions' objects (R249): phases that wait on it end with FENCED,
the other party's tally waits end with FENCED, and its own are removed. -/
def Hub.loseSync (h : Hub) (x : Nat) : Hub :=
  let bars := h.sync.bar.filter fun e => match e.2, h.barPart e.1 with
    | some b, some p => b.waiting && decide (0 < b.e x) && h.unavail x p
    | _, _ => false
  let tals := h.sync.tal.filter fun e => match e.2, h.talPart e.1 with
    | some t, some p => (t.prod == x || t.cons == x) && (t.ge.isSome || t.le.isSome) && h.unavail x p
    | _, _ => false
  let h := bars.foldl (fun h e => match e.2, h.barPart e.1 with
    | some b, some p => (h.setBar e.1 (some b.next)).syncError p b.members (b.err 0x02 e.1 (some x))
    | _, _ => h) h
  let h := tals.foldl (fun h e => match e.2, h.talPart e.1 with
    | some t, some p =>
      let h := h.setTal e.1 (some { t with ge := none, le := none })
      let h := match t.ge with
        | some w => if t.cons = x then h else h.syncError p [t.cons] { t.err 0x02 e.1 true w.2 with short := x }
        | none => h
      match t.le with
      | some w => if t.prod = x then h else h.syncError p [t.prod] { t.err 0x02 e.1 false w.2 with short := x }
      | none => h
    | _, _ => h) h
  if bars.isEmpty && tals.isEmpty then h else h.event 0x0902 [.u8 x, .u16 bars.length, .u16 tals.length]

/-- At a partition context switch every barrier and tally of the partition returns to FREE (R250). -/
def Hub.clearSync (h : Hub) (p : Nat) (barRange talRange : Nat × Nat) : Hub :=
  let bars := h.sync.bar.filter (fun e => decide (barRange.1 ≤ e.1) && decide (e.1 < barRange.1 + barRange.2))
  let tals := h.sync.tal.filter (fun e => decide (talRange.1 ≤ e.1) && decide (e.1 < talRange.1 + talRange.2))
  let h := bars.foldl (fun h e => match e.2 with
    | some b => h.syncError p b.arrivers (b.err 0x0C e.1 none)
    | none => h) h
  let h := tals.foldl (fun h e => match e.2 with | some t => h.endWaits p e.1 0x0C t | none => h) h
  let h := { h with sync := { h.sync with
    bar := h.sync.bar.clear barRange.1 (barRange.1 + barRange.2), tal := h.sync.tal.clear talRange.1 (talRange.1 + talRange.2) } }
  h.event 0x0905 [.u8 p, .u16 bars.length, .u16 tals.length] p

/-! ### Configuration (R233) -/

/-- The barrier and tally ranges that `cfg` would put in effect are consistent (R233). -/
def Hub.syncSetOk (h : Hub) (cfg : Nat → Nat) : Bool :=
  let ps := (List.range 8).filter (fun p => (cfg (partCfg p)).testBit 31)
  let rng (a hb lb hc : Nat) : Nat × Nat := (bits (cfg a) hb lb, bits (cfg a) hc 16)
  let bar (p : Nat) := rng (barCfg p) 11 0 28
  let tal (p : Nat) := rng (talCfg p) 13 0 30
  let apart (r : Nat → Nat × Nat) : Bool := ps.all fun p => ps.all fun k => p == k ||
    decide ((r p).1 + (r p).2 ≤ (r k).1) || decide ((r k).1 + (r k).2 ≤ (r p).1)
  let inside (r : Nat × Nat) (i : Nat) : Bool := decide (r.1 ≤ i) && decide (i < r.1 + r.2)
  apart bar && apart tal &&
  (List.range 8).all (fun p => decide ((bar p).1 + (bar p).2 ≤ 4096) && decide ((tal p).1 + (tal p).2 ≤ 16384)) &&
  h.sync.bar.all (fun e => match h.barPart e.1 with | some p => !ps.contains p || inside (bar p) e.1 | none => true) &&
  h.sync.tal.all (fun e => match h.talPart e.1 with | some p => !ps.contains p || inside (tal p) e.1 | none => true)

/-! ### Hods (R251, R555) -/

/-- A VF names objects of its own partition only (R251). An id in no enabled range is UNKNOWN to another requester, as an object
that is FREE (R232). -/
def objRight (q : HodReq) (p : Option Nat) : Option HodOut :=
  match q.who with
  | .vf n => if p = some n.val then none else some .refused
  | _ => none

/-- The first field of BAR_SET that fails R234, counting from 1 in the order of R555. -/
def Hub.barFields (h : Hub) (p pmask : Nat) (e : List Nat) (timeout align : Nat) : Option Nat :=
  if pmask = 0 ∨ 256 ≤ pmask ∨ !((onesBelow 8 pmask).all (fun x => h.member x p)) then some 2
  else match (List.range 9).find? (fun k => decide (4095 < e.getD k 0) || (decide (k < 8) && !pmask.testBit k && e.getD k 0 ≠ 0)) with
    | some k => some (k + 3)
    | none =>
      let total := e.foldl (· + ·) 0
      if total = 0 ∨ 4095 < total then some 11
      else if timeout = 0 ∨ 60000000 < timeout then some 12
      else if 65535 < align then some 13
      else none

def barSetHod (q : HodReq) (id pmask : Nat) (e : List Nat) (timeout align : Nat) (h : Hub) : Hub × HodOut :=
  match objRight q (h.barPart id), h.barPart id with
  | some r, _ => (h, r)
  | none, none => (h, .badArg 1)
  | none, some p =>
    match h.barFields p pmask e timeout align with
    | some k => (h, .badArg k)
    | none =>
      if (h.bar id).any (·.waiting) then (h, .fail .busy)
      else (h.setBar id (some { pmask, expect := e, timeout, align }), .ok [])

def barFreeHod (q : HodReq) (id : Nat) (h : Hub) : Hub × HodOut :=
  match objRight q (h.barPart id) with
  | some r => (h, r)
  | none =>
    if 4096 ≤ id then (h, .badArg 1)
    else if (h.bar id).any (·.waiting) then (h, .fail .busy) else (h.setBar id none, .ok [])

def barResetHod (q : HodReq) (id : Nat) (h : Hub) : Hub × HodOut :=
  match objRight q (h.barPart id), h.barPart id with
  | some r, _ => (h, r)
  | none, p =>
    match h.bar id with
    | none => (h, .badArg 1)
    | some b => ((h.setBar id (some b.next)).syncError (p.getD 0) b.arrivers (b.err 0x0C id none), .ok [])

/-- BAR_ARRIVE: BAD_ARG carries the KIND of the refusal (R251). -/
def barArriveHod (q : HodReq) (id phase : Nat) (h : Hub) : Hub × HodOut :=
  match objRight q (h.barPart id), h.barPart id with
  | some r, _ => (h, r)
  | none, none => (h, .badArg 0x06)
  | none, some p =>
    match h.arriveCheck p id phase 8 with
    | some k => (h, .badArg k)
    | none => (h.countArrival p id 8 q.who.id, .ok [])

/-- BAR_QUERY: the time remaining of a WAITING barrier is a free value below its TIMEOUT. -/
def barQueryHod (q : HodReq) (id : Nat) (h : Hub) : Hub × HodOut :=
  match objRight q (h.barPart id) with
  | some r => (h, r)
  | none =>
    if 4096 ≤ id then (h, .badArg 1)
    else match h.bar id with
    | none => (h, .ok [.u8 0, .u32 0, .list 2 (List.replicate 9 0), .u8 0, .u32 0])
    | some b =>
      let p := (h.barPart id).getD 0
      let gone := (List.range 8).foldl (fun m x => if 0 < b.e x ∧ h.unavail x p then m + 2 ^ x else m) 0
      (h.tick, .ok [.u8 (if b.waiting then 2 else 1), .u32 b.phase.toNat, .list 2 b.counts, .u8 gone,
        .u32 (if b.waiting then (Config.elapsed h.free).toNat % (b.timeout + 1) else 0)])

def tallySetHod (q : HodReq) (id prod cons window alignBar timeout : Nat) (h : Hub) : Hub × HodOut :=
  match objRight q (h.talPart id), h.talPart id with
  | some r, _ => (h, r)
  | none, none => (h, .badArg 1)
  | none, some p =>
    if 8 ≤ prod then (h, .badArg 2)
    else if 8 ≤ cons then (h, .badArg 3)
    else if alignBar ≠ 0xFFFF ∧ h.barPart alignBar ≠ some p then (h, .badArg 5)
    else if timeout = 0 ∨ 60000000 < timeout then (h, .badArg 6)
    else
      let h := match h.tal id with | some t => h.endWaits p id 0x0C t | none => h
      (h.setTal id (some { prod, cons, window, alignBar, timeout }), .ok [])

def tallyQueryHod (q : HodReq) (id : Nat) (h : Hub) : Hub × HodOut :=
  match objRight q (h.talPart id) with
  | some r => (h, r)
  | none =>
    if 16384 ≤ id then (h, .badArg 1)
    else match h.tal id with
    | none => (h, .ok [.u8 0, .u32 0, .u32 0, .u8 0])
    | some t => (h, .ok [.u8 (if t.error then 2 else 1), .u32 t.p, .u32 t.c, .u8 (b2n t.ge.isSome + 2 * b2n t.le.isSome)])

def tallyFreeHod (q : HodReq) (id : Nat) (h : Hub) : Hub × HodOut :=
  match objRight q (h.talPart id), h.talPart id with
  | some r, _ => (h, r)
  | none, p =>
    match h.tal id with
    | some t => ((h.endWaits (p.getD 0) id 0x0C t).setTal id none, .ok [])
    | none => (h, if 16384 ≤ id then .badArg 1 else .ok [])

end Sys2Proof.Machine
end

