-- ==== Sys2Proof/Machine/Recovery.lean ====
section
/-!
DEFINITION. Machine/Recovery.lean: what a fence does and what the hub reclaims (R90, R105, R522, R523, R532), entry to
RETRAIN, octet retirement, and the retries of an accelerator push (R472).
-/
namespace Sys2Proof.Machine

/-! ### Faults in progress (R522, R532) -/

/-- A fault begins that has a recovery of its own, of port 0 to 7 or of the management core, 8 (R521, R522). -/
def Hub.faultBegin (h : Hub) (code : Nat) : Hub :=
  let h' := h.faultMet code
  { h' with safety := { h'.safety with faults := h'.safety.faults ++ [(code, !h.safety.faults.isEmpty)] } }

/-- The fault is in progress, and another began meanwhile. -/
def Hub.faultShared (h : Hub) (code : Nat) : Bool := h.safety.faults.any (fun e => e.1 == code && e.2)

/-- A fault has been recovered. -/
def Hub.faultEnd (h : Hub) (code : Nat) : Hub :=
  { h with safety := { h.safety with faults := h.safety.faults.filter (fun e => e.1 != code) } }

/-- A data interruption of `us` is measured: DATA_INT, BOUND_EXCEEDED above `bound`, and a single fault that is recovered is
counted (R520, R530, R532). -/
def Hub.dataInterrupt (h : Hub) (code us bound cause : Nat) : Hub :=
  let shared := h.faultShared code
  let us' := sat 65535 us
  let h := { h with safety := { h.safety with dataLast := us', dataMax := max h.safety.dataMax us' } }
  let h := h.faultEnd code
  let h := if shared then h else h.bump 0x1500018
  if bound < us && !shared then (h.flag 0x1500000 7).event 0x1502 [.u8 0, .u32 us, .u8 cause] else h

/-! ### Pushes that fail (R472) -/

/-- The class of Ax, and its copy in force (R470, R473). -/
def Hub.accClass (h : Hub) (x : Nat) : Nat := b2n (h.bitAt 0x120001C x)

/-- A push is retried or, its retries spent, has failed: `reset` asserts ACCx_RST_L for 1 ms first (R472). Event 0x1207
carries the cause: 1 IMAGE_DONE does not match, 2 it is late, 3 a fence. -/
def Hub.pushRetry (h : Hub) (x cause : Nat) (reset : Bool) : Hub :=
  let p := h.push x
  let pl := [.u8 x, .u8 (h.accClass x), .u8 (b2n p.copy), .u8 cause]
  if h.fld 0x1200010 2 0 ≤ p.retries then
    ((h.updPush x (fun p => { p with st := 5, pulse := false })).flag 0x1200000 6).event 0x1207 pl
  else (h.updPush x (fun p => { p with st := 1, retries := p.retries + 1, pulse := reset })).event 0x1207 pl

/-- The image bricks of a push that wait toward the accelerator are withdrawn. -/
def Hub.dropImage (h : Hub) (x : Nat) : Hub :=
  h.updPort x (fun p => { p with egress := p.egress.filter (fun it => !it.2.is .image) })

/-- A fence during a push (R472, R523). -/
def Hub.pushFenced (h : Hub) (x : Nat) : Hub :=
  if (h.push x).st = 2 ∨ (h.push x).st = 3 then h.pushRetry x 3 true else h

/-- A handshake brick from the hub: 16 bytes, then grout (R471). -/
def Hub.imageMsg (h : Hub) (x msg len crc : Nat) : Hub :=
  h.send x 0xC0 (mkBrick .mgmt 4 0 0 x 0xC0 (leBytes 1 msg ++ zeros 3 ++ leBytes 4 len ++ leBytes 4 crc ++ zeros 4))

/-- A copy is treated as corrupt: every position mapped to it becomes NO_IMAGE until a new FW_VERIFY (R470, R472). -/
def Hub.copyBad (h : Hub) (cls : Nat) (copy : Bool) : Hub :=
  let h : Hub := { h with fw := { h.fw with
    verdict := h.fw.verdict.upd 0 (4 + 2 * cls + b2n copy) (fun v => if v = 1 then 6 else v) } }
  ((List.range 8).filter (fun x => h.accClass x == cls)).foldl (fun h x => h.updPush x (fun p => { p with st := 6, pulse := false })) h

/-- The last IMAGE brick of a push has gone out (R471, R476): IMAGE_DONE is awaited, or, where the hash of the bytes read
differs from BODY_DIGEST, the push ends with IMAGE_ABORT and event 0x1208 (R472). -/
def Hub.imageRead (h : Hub) (x : Nat) : Hub :=
  let p := h.push x
  if p.good then h.updPush x (fun p => { p with st := 3 })
  else
    let cls := h.accClass x
    ((h.imageMsg x 0x33 p.len p.crc).copyBad cls p.copy).event 0x1208 [.u8 (4 + 2 * cls + b2n p.copy), .u32 4096]

/-! ### Ports -/

/-- PF0 vector 4: the port has left ACTIVE or come into it (R410). -/
def Hub.leaveActive (h : Hub) (old : Port) : Hub := if old.st = .active then h.irq 0 4 else h

/-- An exchange in progress is abandoned (R488). -/
def Hub.sealAbandon (h : Hub) (x : Nat) : Hub :=
  h.updPort x (fun p => if p.ex.xstate = 1 then { p with ex := { p.ex with xstate := 0, offer := [], body := [], fails := 0 } } else p)

/-- The keys in a slot, by direction. -/
def Port.txKey (p : Port) (slot : Bool) : List Byte := if slot then p.txKey1 else p.txKey0
def Port.rxKey (p : Port) (slot : Bool) : List Byte := if slot then p.rxKey1 else p.rxKey0

/-- Both directions' keys are installed in the slots in use (R86). -/
def Port.keyed (p : Port) : Bool :=
  p.txKey p.txSlot != [] && p.rxKey p.rxSlot != []

/-- The transmitter announces its slot counter and key slot, as in every RETRAIN and in SEAL_SYNC (R86). -/
def Port.announce (p : Port) : Port :=
  { p with announced := if p.keyed then some { slot := p.txSlot, counter := p.txCtr } else none }

/-- The keys of both slots are erased, and no rekey is wanted (R488). -/
def Port.eraseKeys (p : Port) : Port :=
  { p with txKey0 := [], txKey1 := [], rxKey0 := [], rxKey1 := [], ex := { p.ex with want := false } }

/-- LINK.PORT_CFG.MIN_OCTETS of Ux (R94). -/
def Hub.minOctets (h : Hub) (x : Nat) : Nat := h.fld (portReg x 0) 11 8

/-- The number of octets in a mask. -/
def octets (m : BitVec 8) : Nat := popcount 8 m.toNat

/-- The octets of the cables that are present (R56). -/
def Port.present (p : Port) : BitVec 8 := (if p.cblA then 0x0F else 0) ||| (if p.cblB then 0xF0 else 0)

/-- The octets of one cable of a port: B when `b` (R56). -/
def cableOctets (b : Bool) : BitVec 8 := if b then 0xF0 else 0x0F

/-- Bricks queued toward a port are discarded, with their poisoned replies and their credits returned (R105). A grant among
them has not been handed over (R46). -/
def Hub.purgeEgress (h : Hub) (x : Nat) : Hub :=
  let items := (h.port x).egress
  let h := if items.any (·.2.is .grant) then h.updAcc x (fun g => { g with sent := false }) else h
  items.foldl (fun h it =>
      let h := h.dropAt x
      if it.1 < 8 then (h.owe it.1 it.2.vc.toNat).replyPoison it.1 it.2 else h)
    (h.updPort x (fun p => { p with egress := [] }))

/-- Bricks from the endpoint that the hold of R89 kept back are disposed of as those of R105. -/
def Hub.dropHeld (h : Hub) (x : Nat) (bs : List Brick) : Hub := bs.foldl (fun h b => (h.dropAt x).replyPoison x b) h

/-- What a fence, or a full attempt on an ACTIVE port, does to the port's bricks (R90, R95): what has reached the sync engine is
executed (R248), the retry buffer empties,
the credits toward the endpoint are restored, and queued bricks, with those held back (R89), are discarded under R105. -/
def Hub.dispose (h : Hub) (x : Nat) (st : LinkState) : Hub :=
  let h := h.drainSync
  ((h.updPort x (fun p => { p with
    st, fromRetrain := false, active := 0, locked := 0, retry := [], resend := 0, sends := [], nakWait := false,
    nakOut := false, ackDue := 0, ackOut := false, credit := p.advert, owed := [], sealed := false,
    sealHold := false, toPlain := false, overdue := false, rxOverdue := false, heldIn := [], retryLimit := false, reinsert := false,
    training := false })).purgeEgress x).dropHeld x (h.port x).heldIn |>.leaveActive (h.port x)

/-- Recovery after a fence (R523, R532): phases, waits, collectives, steps and the push of the accelerator end at once;
leases and streams await the next boundary. Event 0x1501 carries what ended and the measured interruption, which for a
credit timeout is the timer's 10 µs. A port disabled by its register is no fault. -/
def Hub.recover (h : Hub) (x reason : Nat) : Hub :=
  let waiting (h : Hub) := h.sync.bar.countP (fun e => (e.2.map (·.waiting)).getD false)
  let b := waiting h
  let h := h.loseSync x
  let b := b - waiting h
  let c := h.mortar.colls.length
  let h := h.fenceColls x
  let c := c - h.mortar.colls.length
  let s := h.smp.steps.length
  let h := h.fenceSteps x
  let s := s - h.smp.steps.length
  let h := ((h.fenceStreams x).pushFenced x).sealAbandon x
  let h := { h with safety := { h.safety with leasePending := setBit h.safety.leasePending x true } }
  let us := if reason = 0x0B then 10 else (Config.elapsed h.free).toNat
  let h := h.tick.event 0x1501 [.u8 x, .u8 reason, .u16 b, .u16 c, .u16 s, .u32 us]
  if reason = 0x0F then h.faultEnd x else h.dataInterrupt x us 100 reason

/-- A port is fenced (R90): event 0x0205 names the reason, its keys are erased (R488), and the recovery of R523
follows. -/
def Hub.fence (h : Hub) (x reason : Nat) : Hub :=
  let h := if reason = 0x0F ∨ (h.safety.faults.any (·.1 == x)) then h else h.faultBegin x
  let h := h.updPort x (fun p => { p.eraseKeys with
    lastFail := reason, fenceReason := reason, fenceDrops := 0, fenceEvt := false })
  let h := h.dispose x .fenced
  (h.event 0x0205 [.u8 x, .u8 reason]).recover x reason

/-- The port enters RETRAIN (R60); event 0x0203 names the cause (R554). An exchange in progress is abandoned (R488).
A change of FEC or of sealing is no fault (R89). -/
def Hub.enterRetrain (h : Hub) (x cause : Nat) (locked : BitVec 8) : Hub :=
  let h := if cause = 4 then h else h.faultBegin x
  let h := ((h.sealAbandon x).updPort x (fun p => { p.announce with st := .retrain, locked, fecNext := p.fec })).irq 0 4
  h.event 0x0203 [.u8 x, .u8 cause]

/-- The octets of `gone` are retired together: their domains switch off, and event 0x0204 names each with the width
that is left (R81, R83). -/
def Hub.retire (h : Hub) (x : Nat) (gone : BitVec 8) : Hub :=
  let h := h.updPort x (fun p => { p with active := p.active &&& ~~~gone, retired := p.retired ||| gone })
  (onesBelow 8 gone.toNat).foldl (fun h o =>
    h.event 0x0204 [.u8 x, .u8 (8 * x + o), .u8 (octets (h.port x).active)]) h

end Sys2Proof.Machine
end

