-- ==== Sys2Proof/Machine/Seal.lean ====
section
/-!
DEFINITION. Machine/Seal.lean: the seal exchange of a port and its keys (R87 to R89, R484 to R489).
-/
namespace Sys2Proof.Machine

/-- A string's characters as bytes. -/
def ascii (s : String) : List Byte := s.toList.map (fun c => BitVec.ofNat 8 c.toNat)

/-- The random generator's next output: its index, and the hub past it (R489). -/
def Hub.draw (h : Hub) : Nat × Hub :=
  (h.free, { h.tick with sec := { h.sec with drawn := h.sec.drawn + 1 } })

/-! ### Device identity (R478, R479) -/

/-- A layer's private scalar, from its CDI and its label. -/
def layerScalar (cdi : List Byte) (label : String) : Nat := beNat (hkdfExpand cdi (ascii label) 56) % (n384 - 1) + 1

/-- CDI_ROM, and the DeviceID key's scalar. -/
def cdiRom : List Byte := hmac384 Config.uds (padTo 48 Config.romDigest)
def deviceScalar : Nat := layerScalar cdiRom "OA8 DeviceID"

/-- CDI_FW of the running image, at the debug level under which the core started, and the Alias key's scalar. -/
def Hub.cdiFw (h : Hub) : List Byte :=
  let i := h.fw.run.getD {}
  hmac384 cdiRom (i.digest ++ leBytes 1 i.svn ++ leBytes 2 i.epoch ++ leBytes 1 h.sec.alias_)
def Hub.aliasScalar (h : Hub) : Nat := layerScalar h.cdiFw "OA8 Alias"

/-- The public key of a scalar, x then y. -/
def publicKey (d : Nat) : List Byte := ((pointMul d g384).map pointBytes).getD []

/-- What the Alias certificate says: its key, and the running image's BODY_DIGEST, SVN, version and debug level, under the
DeviceID key that issues it. -/
def Hub.aliasContents (h : Hub) : List Byte :=
  let i := h.fw.run.getD {}
  publicKey h.aliasScalar ++ i.digest ++ leBytes 1 i.svn ++ leBytes 2 i.major ++ leBytes 2 i.minor ++ leBytes 1 h.sec.alias_ ++
  publicKey deviceScalar

/-- The Alias key's signature over a message (R479). -/
def Hub.aliasSig (h : Hub) (msg : List Byte) : List Byte :=
  ecdsaSign h.aliasScalar (Config.signSecret h.free % (n384 - 1) + 1) msg

/-- The hub's slot-0 certificate chain, of at most 4,096 bytes (R482, R485). -/
def Hub.chain (h : Hub) : List Byte := (Config.hubChain h.aliasContents).take 4096

/-- The ephemeral scalar of a draw (R486, R489). -/
def scalarOf (n : Nat) : Nat := beNat (slice (Config.drbg n) 0 48) % (n384 - 1) + 1

/-! ### Messages (R484, R485) -/

/-- A seal message from the hub to the endpoint of port x, in bricks of at most 248 body bytes (R484). -/
def Hub.sealMsg (h : Hub) (x msg xid : Nat) (slot : Bool) (body : List Byte) : Hub :=
  let n := max 1 (divUp body.length 248)
  (List.range n).foldl (fun h k =>
    h.send x 0xC0 { mkBrick .mgmt 4 0 0 x 0xC0 (leBytes 1 msg ++ leBytes 1 xid ++ leBytes 1 (b2n slot) ++ [0] ++
        leBytes 4 body.length ++ (body.drop (248 * k)).take 248) with
      first := k == 0, last := k + 1 == n, addr := BitVec.ofNat 48 (248 * k) }) h

/-- An OFFER body (R485). -/
def offerBody (rekey : Bool) (nonce eph chain : List Byte) : List Byte :=
  leBytes 1 (b2n rekey) ++ zeros 3 ++ padTo 32 nonce ++ padTo 96 eph ++ leBytes 2 chain.length ++ zeros 2 ++ chain

/-- The length of a DER element and of its header; none where it is not well formed. -/
def derLen (bs : List Byte) : Option (Nat × Nat) :=
  match bs with
  | _ :: l :: rest =>
    if l.toNat < 0x80 then some (2, l.toNat)
    else
      let n := l.toNat - 0x80
      if n = 0 ∨ 3 < n ∨ rest.length < n then none else some (2 + n, beNat (rest.take n))
  | _ => none

/-- The certificates of a chain, root first: DER sequences one after another; none where the chain is not well formed.
`n` bounds their number. -/
def certs : Nat → List Byte → Option (List (List Byte))
  | _, [] => some []
  | 0, _ => none
  | n + 1, bs =>
    match bs.head?, derLen bs with
    | some t, some (hd, len) =>
      if t = 0x30 ∧ hd + len ≤ bs.length then (certs n (bs.drop (hd + len))).map (fun cs => bs.take (hd + len) :: cs)
      else none
    | _, _ => none

/-- Every certificate after the first is signed by the one before it. -/
def chained : List (List Byte) → Bool
  | a :: b :: r => Config.certSigned a b && chained (b :: r)
  | _ => true

/-- SEC.ACC_ROOT[r]: a digest of 48 bytes, twelve words in little-endian order (R496). -/
def Hub.accRootDigest (h : Hub) (r : Nat) : List Byte :=
  (List.range 12).flatMap fun w => leBytes 4 (h.reg (0x1300100 + 0x40 * r + 4 * w))

/-- A root public key is trusted (R487). -/
def Hub.rootTrusted (h : Hub) (key : List Byte) : Bool :=
  key == Config.accRoot || (List.range 3).any fun r =>
    let d := h.accRootDigest r
    d.any (· != 0) && sha384 key == d

/-- An endpoint's chain verifies (R487). -/
def Hub.chainOk (h : Hub) (cs : List (List Byte)) : Bool :=
  match cs with
  | root :: _ => Config.certSigned root root && chained cs && h.rootTrusted (Config.certKey root)
  | [] => false

/-! ### Attempts (R486, R488) -/

/-- An attempt has been rejected or has failed: SEC.PORT_SEAL, SEAL_REJ and event 0x1303 (R497 to R499). -/
def Hub.noteSealFail (h : Hub) (x reason : Nat) : Hub :=
  let h := h.updPort x (fun p => { p with ex := { p.ex with
    xstate := 3, lastRej := reason, fails := p.ex.fails + 1, offer := [], body := [] } })
  ((h.bump 0x1300028).flag 0x1300000 3).eventOnce 0x1303 x [.u8 x, .u8 (h.port x).ex.xid, .u8 reason]

/-- The hub sends OFFER: a new XID, a nonce and an ephemeral key from the generator (R484 to R486, R489). -/
def Hub.offer (h : Hub) (x : Nat) : Hub :=
  let ex := (h.port x).ex
  let (n, h) := h.draw
  let (d, h) := h.draw
  let eph := publicKey (scalarOf d)
  let body := offerBody ex.rekey ((Config.drbg n).take 32) eph (if ex.rekey then [] else h.chain)
  let xid := (ex.xid + 1) % 256
  let h := h.updPort x (fun p => { p with ex := { p.ex with xstate := 1, xid, draw := d, offer := body, body := [] } })
  h.sealMsg x 0x40 xid ex.slot body

/-- The attempts that remain of an initial exchange: one fails at once while the generator is stopped (R489), and the last
failure fences the port (R488). -/
def Hub.attempt (h : Hub) (x : Nat) : Nat → Hub
  | 0 => h.fence x 0x08
  | n + 1 => if h.sec.rng then h.offer x else (h.noteSealFail x 0x06).attempt x n

/-- The initial exchange starts, filling slot 0 (R89, R488). -/
def Hub.sealStart (h : Hub) (x : Nat) : Hub :=
  (h.updPort x (fun p => { p with
    sealHold := true, ex := { p.ex with rekey := false, want := false, slot := false, fails := 0, auth := false } })).attempt x 3

/-- A rekey attempt: it fails while the generator is stopped, and is made again at the next boundary (R488). -/
def Hub.rekeyStart (h : Hub) (x : Nat) : Hub :=
  if h.sec.rng then h.offer x else h.noteSealFail x 0x06

/-- An attempt in progress fails; an initial exchange makes the next one (R488). -/
def Hub.sealFail (h : Hub) (x reason : Nat) : Hub :=
  let h := h.noteSealFail x reason
  let ex := (h.port x).ex
  if ex.rekey then h else h.attempt x (3 - ex.fails)

/-! ### ACCEPT -/

/-- What the hub reads of an ACCEPT body: the ephemeral point, the certificates, the signed part and SIG_A; none where it
is malformed (R485). -/
def acceptParts (rekey : Bool) (b : List Byte) : Option (List Byte × List Byte × List Byte × List Byte) :=
  let n := leNat ((b.drop 128).take 2)
  if b.length = 228 + n ∧ n ≤ 4096 ∧ (b.drop 130).take 2 = zeros 2 ∧ (rekey = false ∨ n = 0) then
    some ((b.drop 32).take 96, (b.drop 132).take n, b.take (132 + n), b.drop (132 + n))
  else none

/-- The key under which SIG_A must verify: on a rekey that of the port's initial exchange, else that of the chain's leaf;
none for an empty chain (R486, R487). -/
def Hub.leafKeyOf (h : Hub) (x : Nat) (rekey : Bool) (cs : Option (List (List Byte))) : Option (List Byte) :=
  if rekey then some (Tbl.get [] h.sec.leafKey x)
  else match cs with
    | none => some []
    | some cs => cs.getLast?.map Config.certKey

/-- The first check that an ACCEPT fails (R486, R489, R498). -/
def Hub.acceptCheck (h : Hub) (x : Nat) (ex : SealEx) (body : List Byte) : Option Nat :=
  match acceptParts ex.rekey body with
  | none => some 0x01
  | some (eph, chain, signed, sig) =>
    let cs := certs 16 chain
    let key := h.leafKeyOf x ex.rekey cs
    let auth := h.bitAt 0x1300004 1
    if h.sec.rng = false then some 0x06
    else if !onCurve (pointOf eph) then some 0x07
    else if !((key.map fun k => ecdsa k (ex.offer ++ signed) sig).getD (!auth)) then some 0x02
    else if auth && !ex.rekey && !((cs.map h.chainOk).getD false) then some 0x03
    else none

/-- The keys of a confirmed exchange: key and salt of the hub's transmit direction, then of its receive direction
(R486). -/
def sealKeys (draw : Nat) (eph offer accept : List Byte) : List Byte × List Byte :=
  let z := (pointMul (scalarOf draw) (pointOf eph)).map (·.1)
  let prk := hmac384 (sha384 (offer ++ accept)) (beBytes 48 (z.getD 0))
  (hkdfExpand prk (ascii "OA8 seal h2a key") 32 ++ hkdfExpand prk (ascii "OA8 seal h2a salt") 4,
   hkdfExpand prk (ascii "OA8 seal a2h key") 32 ++ hkdfExpand prk (ascii "OA8 seal a2h salt") 4)

/-- The keys are installed in a slot. On an initial exchange both directions use it from counter 0 (R85, R488). -/
def Port.install (p : Port) (slot rekey : Bool) (tx rx : List Byte) : Port :=
  let p := if slot then { p with txKey1 := tx, rxKey1 := rx } else { p with txKey0 := tx, rxKey0 := rx }
  if rekey then { p with ex := { p.ex with want := false } }
  else { p with txSlot := slot, rxSlot := slot, txCtr := 0, rxCtr := 0 }

/-- The endpoint's leaf of an initial exchange is kept for measurement 14 + x and for rekeys (R483, R486). -/
def Hub.keepLeaf (h : Hub) (x : Nat) (leaf : List Byte) : Hub :=
  { h with sec := { h.sec with
    leaf := h.sec.leaf.set [] x (if leaf.isEmpty then [] else sha384 leaf)
    leafKey := h.sec.leafKey.set [] x (if leaf.isEmpty then [] else Config.certKey leaf) } }

/-- The exchange of a port has been confirmed. -/
def Port.confirmed (p : Port) (auth : Bool) : Port :=
  { p with ex := { p.ex with xstate := 2, auth, offer := [], body := [], fails := 0 } }

/-- CONFIRM goes out: SIG_H by the Alias key (R485, R486). -/
def Hub.sendConfirm (h : Hub) (x : Nat) (ex : SealEx) (body : List Byte) : Hub :=
  h.tick.sealMsg x 0x42 ex.xid ex.slot (h.aliasSig (ex.offer ++ body))

/-- An ACCEPT that passes: CONFIRM goes out, the keys are installed, and after an initial exchange the port passes through
RETRAIN into SEAL_SYNC (R89, R486, R499). -/
def Hub.sealConfirm (h : Hub) (x : Nat) (body : List Byte) (eph chain : List Byte) : Hub :=
  let ex := (h.port x).ex
  let keys := sealKeys ex.draw eph ex.offer body
  let auth := if ex.rekey then ex.auth else h.bitAt 0x1300004 1
  let h := (h.sendConfirm x ex body).updPort x (fun p => (p.install ex.slot ex.rekey keys.1 keys.2).confirmed auth)
  let h := (h.bump 0x1300020).event 0x1302 [.u8 x, .u8 ex.xid, .u8 (b2n ex.rekey), .u8 (b2n ex.slot), .u8 (b2n auth)]
  if ex.rekey then h
  else
    let h := h.keepLeaf x ((((certs 16 chain).getD []).getLast?).getD [])
    if (h.port x).st = .active then h.enterRetrain x 4 (h.port x).active else h

/-- A whole ACCEPT is checked; CONFIRM or REJECT follows (R486). -/
def Hub.accept (h : Hub) (x : Nat) (body : List Byte) : Hub :=
  let ex := (h.port x).ex
  match h.acceptCheck x ex body with
  | none =>
    let parts := (acceptParts ex.rekey body).getD ([], [], [], [])
    h.sealConfirm x body parts.1 parts.2.1
  | some r => (h.sealMsg x 0x43 ex.xid ex.slot (leBytes 1 r ++ zeros 3)).sealFail x r

/-- The payload bytes of a seal message: MSG, XID, SLOT, a zero byte and BODY_LEN in order (R484). -/
def Brick.sealMsg (b : Brick) : Nat := leNat (b.data.take 1)
def Brick.sealXid (b : Brick) : Nat := leNat ((b.data.drop 1).take 1)

/-- A fragment of the present exchange's ACCEPT is laid out as R484 requires. -/
def fragmentOk (ex : SealEx) (b : Brick) : Bool :=
  let d := b.data
  let len := leNat ((d.drop 4).take 4)
  let after := ex.body.length + (d.length - 8)
  decide (8 < d.length) && leNat ((d.drop 2).take 1) == b2n ex.slot && leNat ((d.drop 3).take 1) == 0 &&
  b.addr.toNat == ex.body.length && b.first == ex.body.isEmpty && b.last == decide (after = len) && decide (after ≤ len) &&
  !b.poison && b.stream == 0 && b.part == 0

/-- The oldest MGMT brick at the management core from port x whose MSG satisfies `p`, taken from its buffer. While the core
does not run, such bricks are held on their credits (R113). -/
def Hub.takeMgmt (h : Hub) (x : Nat) (p : Nat → Bool) : Option (Brick × Hub) :=
  if h.fw.phase ≠ .up then none
  else match takeFirst (fun i => i.unit == 0xC0 && i.port == x && i.brick.is .mgmt && p i.brick.sealMsg) h.fab.inbox with
  | none => none
  | some (i, rest) => some (i.brick, ({ h with fab := { h.fab with inbox := rest } }).owe x i.brick.vc.toNat)

/-- The next management brick from port x that is neither IMAGE_DONE nor REJECT: a fragment of the ACCEPT awaited, or
discarded (R484, R486). -/
def Hub.sealBrick (h : Hub) (x : Nat) : Hub :=
  match h.takeMgmt x (fun m => m != 0x30 && m != 0x43) with
  | none => h
  | some (b, h) =>
    let ex := (h.port x).ex
    if ex.xstate ≠ 1 ∨ b.sealMsg ≠ 0x41 ∨ b.sealXid ≠ ex.xid then h
    else if !fragmentOk ex b then (h.sealMsg x 0x43 ex.xid ex.slot (leBytes 1 0x01 ++ zeros 3)).sealFail x 0x01
    else
      let body := ex.body ++ b.data.drop 8
      if b.last then h.accept x body
      else h.updPort x (fun p => { p with ex := { p.ex with body } })

/-- A REJECT from the endpoint fails the attempt it names (R486, R498). -/
def Hub.sealReject (h : Hub) (x : Nat) : Hub :=
  match h.takeMgmt x (fun m => m == 0x43) with
  | none => h
  | some (b, h) =>
    let ex := (h.port x).ex
    if ex.xstate = 1 ∧ b.sealXid = ex.xid then h.sealFail x 0x05 else h

/-- An attempt has had neither CONFIRM nor REJECT within 20 ms of its OFFER (R488). -/
def Hub.sealTimeout (h : Hub) (x : Nat) : Hub :=
  if (h.port x).ex.xstate = 1 then h.sealFail x 0x04 else h

/-! ### Rekeying (R87) -/

/-- The slot for which a direction's counter asks a rekey; none where its next key is installed or not yet due. -/
def Port.rekeySlot (p : Port) : Option Bool :=
  if 2 ^ 39 ≤ p.txCtr ∧ p.txKey (!p.txSlot) = [] then some (!p.txSlot)
  else if 2 ^ 39 ≤ p.rxCtr ∧ p.rxKey (!p.rxSlot) = [] then some (!p.rxSlot)
  else none

/-- A slot counter has reached 2^39 and the next key is requested for the inactive slot (R87, R488). -/
def Hub.rekeyRequest (h : Hub) (x : Nat) : Hub :=
  let p := h.port x
  match p.rekeySlot with
  | none => h
  | some s =>
    if p.st = .active ∧ p.sealed ∧ p.ex.xstate ≠ 1 then
      (h.updPort x (fun p => { p with ex := { p.ex with rekey := true, want := true, slot := s, fails := 0 } })).rekeyStart x
    else h

/-- The receive counter has reached 2^40 with no next key installed: the direction is overdue, recorded once (R87). The
switch itself is the endpoint's. -/
def Hub.rxLate (h : Hub) (x : Nat) : Hub :=
  let p := h.port x
  if p.sealed ∧ 2 ^ 40 ≤ p.rxCtr ∧ p.rxCtr < 2 ^ 44 ∧ p.rxKey (!p.rxSlot) = [] ∧ p.rxOverdue = false then
    (h.updPort x (fun p => { p with rxOverdue := true })).event 0x0209 [.u8 x, .u8 1]
  else h

/-- The transmit counter has reached 2^40: the port switches to the other key slot where its key is installed, and is
overdue otherwise (R87). Direction 0 is the hub's transmit direction. -/
def Hub.txSwitch (h : Hub) (x : Nat) : Hub :=
  let p := h.port x
  if p.sealed ∧ 2 ^ 40 ≤ p.txCtr ∧ p.txCtr < 2 ^ 44 then
    if p.txKey (!p.txSlot) ≠ [] then
      (h.updPort x (fun p => { p with
        txSlot := !p.txSlot, txCtr := 0, overdue := false
        txKey0 := if p.txSlot then p.txKey0 else [], txKey1 := if p.txSlot then [] else p.txKey1 })).event 0x0208
          [.u8 x, .u8 0, .u8 (b2n (!p.txSlot))]
    else if p.overdue then h
    else (h.updPort x (fun p => { p with overdue := true })).event 0x0209 [.u8 x, .u8 0]
  else h

/-- A slot counter has reached 2^40: each direction goes its own way (R87). -/
def Hub.rekeySwitch (h : Hub) (x : Nat) : Hub := (h.txSwitch x).rxLate x

/-- The receiver goes over to the other key slot, from a given counter: the key left behind is erased, and event 0x0208
names direction 1 (R85, R87, R490). -/
def Hub.rxSwitch (h : Hub) (x : Nat) (slot : Bool) (ctr : Nat) : Hub :=
  (h.updPort x (fun p => { p with
    rxSlot := slot, rxCtr := ctr, rxOverdue := false
    rxKey0 := if slot then [] else p.rxKey0, rxKey1 := if slot then p.rxKey1 else [] })).event 0x0208
      [.u8 x, .u8 1, .u8 (b2n slot)]

/-- A slot counter has reached 2^44 (R87). -/
def Hub.sealExhausted (h : Hub) (x : Nat) : Hub :=
  let p := h.port x
  if p.sealed ∧ 2 ^ 44 ≤ p.txCtr then (h.event 0x020A [.u8 x, .u8 0]).fence x 0x0C
  else if p.sealed ∧ 2 ^ 44 ≤ p.rxCtr then (h.event 0x020A [.u8 x, .u8 1]).fence x 0x0C
  else h

/-- A port's seal engine is switched on (R309). -/
def Hub.sealWanted (h : Hub) (x : Nat) : Bool := h.bitAt (portReg x 0x10) 0 && h.bitAt (portReg x 0) 0

/-- A seal engine that is switched off is no longer usable (R309). A rekey that is wanted and not in progress is attempted again
every course (R87, R488). -/
def Hub.sealBoundary (h : Hub) : Hub :=
  (List.range 8).foldl (fun h x =>
    let h := if h.sealWanted x then h else h.updPort x (fun p => { p with sealUp := false })
    let p := h.port x
    if p.ex.want && p.ex.rekey && p.ex.xstate != 1 && p.sealed && p.st == .active then h.rekeyStart x else h) h

/-! ### Sealed slots (R84, R85) -/

/-- The IV of a slot: the salt, then the slot counter (R85). -/
def sealIv (key : List Byte) (ctr : Nat) : List Byte := (key.drop 32).take 4 ++ beBytes 8 ctr

/-- The 96-bit tag of a slot over its header words W0 to W4 and its ciphertext. -/
def sealTag (key : List Byte) (ctr : Nat) (head cipher : List Byte) : BitVec 96 :=
  BitVec.ofNat 96 (gcmTag (key.take 32) (sealIv key ctr) head cipher / 2 ^ 32)

/-- A slot's payload under its key: encryption and decryption are one (R84). -/
def sealCrypt (key : List Byte) (ctr : Nat) (text : List Byte) : List Byte := gcmCrypt (key.take 32) (sealIv key ctr) text

end Sys2Proof.Machine
end

