-- ==== Sys2Proof/Machine/Link.lean ====
section
/-!
DEFINITION. Machine/Link.lean: training, fencing, sequence numbers, credits, seal slots, route decode and arbitration of
the eight ports (R56 to R117).
-/
namespace Sys2Proof.Machine

/-! ### Fences and training -/

/-- A full training attempt has failed to reach ACTIVE (R61). The third failure in a row takes the port to FAILED; any
earlier one takes it to `next`. -/
def Hub.failAttempt (h : Hub) (x reason : Nat) (next : LinkState) : Hub :=
  let n := sat 15 ((h.port x).attempts + 1)
  let h := h.updPort x (fun p => { p with
    lastFail := reason, attempts := n, training := false, locked := 0, active := 0,
    st := if 3 ≤ n then .failed else next })
  if 3 ≤ n then h.event 0x0201 [.u8 x, .u8 reason] else h

/-- The port has reached ACTIVE: the interruption of a fault is measured (R520, R532), a push falls due where ACCx_RST_L
has been asserted since the last time (R470), and the initial seal exchange starts where SEAL_EN is 1 and the port is
plain (R488). PF0 vector 4 is raised (R410). -/
def Hub.portReached (h : Hub) (x : Nat) : Hub :=
  let h := h.irq 0 4
  let h := if h.safety.faults.any (·.1 == x) then
      h.tick.dataInterrupt x (Config.elapsed h.free).toNat (if (h.port x).retired = 0 then 100 else 20) 0 else h
  let h := if (h.hsCh x).fresh then
      (h.updHs x (fun k => { k with fresh := false })).updPush x (fun p =>
        if p.st = 5 ∨ p.st = 6 then p else { p with st := 1, retries := 0 })
    else h
  if h.bitAt (portReg x 0x10) 0 && !(h.port x).sealed then h.sealStart x else h

/-- The port becomes ACTIVE. After a full attempt its sequence numbers restart and its credits are those advertised
(R77, R79); after RETRAIN it replays from its oldest unacknowledged brick (R83), and the counts of R76 begin again (the spec
does not say whether they do: log entry 79). Event 0x0202. A grant of this course that waits is handed over (R46, R255). -/
def Hub.enterActive (h : Hub) (x : Nat) : Hub :=
  let h := h.updPort x (fun p =>
    if p.training then { p with
      st := .active, training := false, attempts := 0, txNext := 0, rxNext := 0, retry := [], resend := 0, sends := [],
      credit := p.advert, owed := [], ackDue := 0, ackOut := false, nakWait := false, nakOut := false, retired := 0,
      fenceEvt := p.fenceEvt || p.fenceDrops == 0 }
    else { p with
      st := .active, fromRetrain := false, resend := p.retry.length, sends := p.sends.map (fun _ => 0), retryLimit := false })
  let p := h.port x
  let h := (h.event 0x0202 [.u8 x, .u8 (octets p.active), .u8 (b2n p.fec), .u8 (b2n p.sealed)]).portReached x
  if h.crs.granted && !h.crs.late then h.handGrant x else h

/-- The conditions of DETECT (R60): the port is enabled, its accelerator's reset is deasserted, a cable is present. -/
def Hub.canTrain (h : Hub) (x : Nat) : Bool :=
  h.bitAt (portReg x 0) 0 && h.rstReleased x && ((h.port x).cblA || (h.port x).cblB)

/-- A fence that may end a full training attempt, which then counts as failed (R61). -/
def Hub.fenceAttempt (h : Hub) (x reason : Nat) : Hub :=
  let n := sat 15 ((h.port x).attempts + 1)
  if (h.port x).training then
    let h := (h.fence x reason).updPort x (fun p => { p with attempts := n, st := if 3 ≤ n then .failed else .fenced })
    if 3 ≤ n then h.event 0x0201 [.u8 x, .u8 reason] else h
  else h.fence x reason

/-- The receiver adopts the slot counter that the far end announces; a lower one under the same key is a regression
and fences the port with reason 0x0D (R86). An announcement under the other key slot switches the receiver to it, and the key
left behind is gone, so that no counter passed under it can come back (R87, R490). A slot without a key is no agreement: the
port stays where it is until its timeout (log entry 47). -/
def Hub.adopt (h : Hub) (x : Nat) (a : SealAnnounce) (k : Hub → Hub) : Hub :=
  let p := h.port x
  if p.rxKey a.slot = [] then h
  else if a.slot ≠ p.rxSlot then k (h.rxSwitch x a.slot a.counter)
  else if a.counter < p.rxCtr then h.fenceAttempt x 0x0D
  else k (h.updPort x (fun p => { p with rxCtr := a.counter }))

/-- The checks of CONFIG in the order of R62: the reason of the first that fails. -/
def Hub.configCheck (h : Hub) (x : Nat) (c : Caps) : Option Nat :=
  if c.rate.toNat ≠ Config.orderCode.laneRate then some 0x04
  else if !c.fecModes.toNat.testBit (h.fld (portReg x 0) 4 4) then some 0x05
  else if !((List.range 6).all fun v =>
      decide (8 ≤ (c.credits.getD v 0).toNat) && decide ((c.credits.getD v 0).toNat ≤ 4095)) then some 0x06
  else if octets ((h.port x).locked &&& c.octets) < h.minOctets x then some 0x07
  else none

/-- Agreement in CONFIG (R60, R62): the endpoint's credits are recorded, the hub advertises its own (R78), and the port goes
to SEAL_SYNC if sealing is due, otherwise to ACTIVE. -/
def Hub.configDone (h : Hub) (x : Nat) (c : Caps) : Hub :=
  let due := h.bitAt (portReg x 0x10) 0 && (h.port x).keyed && c.canSeal
  let h := h.updPort x (fun p => { p with
    fec := h.bitAt (portReg x 0) 4, fecNext := h.bitAt (portReg x 0) 4, fecCap := c.fecModes, canSeal := c.canSeal,
    active := p.locked &&& c.octets, training := true,
    advert := (List.range 6).foldl (fun t v => t.set 0 v (c.credits.getD v 0).toNat) []
    rxCredit := (List.range 6).foldl (fun t v => t.set 0 v (hubCredits v)) [], owed := [] })
  if due then h.updPort x (fun p => { p.announce with st := .sealSync, fromRetrain := false }) else h.enterActive x

/-- The end of RETRAIN (R60, R81, R86): octets that either end reports unlocked retire; below MIN_OCTETS the port is
fenced with reason 0x07; else the counters are exchanged and the port goes to SEAL_SYNC or ACTIVE. -/
def Hub.retrainDone (h : Hub) (x : Nat) (far : BitVec 8) (ann : Option SealAnnounce) : Hub :=
  let p := h.port x
  let stay := p.active &&& p.locked &&& far
  let h := if octets stay < h.minOctets x then h else h.retire x (p.active &&& ~~~stay)
  if octets stay < h.minOctets x then h.fence x 0x07
  else
    let h := h.updPort x (fun p => { p with
      fec := p.fecNext, sealed := p.sealed && !p.toPlain, toPlain := false,
      overdue := p.overdue && !p.toPlain })
    let p := h.port x
    if p.sealHold && p.ex.xstate == 2 then h.updPort x (fun p => { p.announce with st := .sealSync, fromRetrain := true })
    else match p.sealed, ann with
      | true, some a => h.adopt x a (fun h => h.enterActive x)
      | _, _ => h.enterActive x

/-- A cable's presence pin goes high (R82). On a port in RETRAIN the octets of the cable are no longer locked, and too few
octets fence it with the same reason. An ACTIVE port enters RETRAIN even where no octet of the cable carried the link: the spec
does not say (log entry 80). -/
def Hub.cableOut (h : Hub) (x : Nat) (b : Bool) : Hub :=
  let h := h.updPort x (fun p => if b then { p with cblB := false } else { p with cblA := false })
  let h := h.cableAbsent x b
  let p := h.port x
  let gone := p.active &&& cableOctets b
  if p.st = .active then
    if octets (p.active &&& ~~~gone) < h.minOctets x then h.fence x 0x0E
    else (h.retire x gone).enterRetrain x 5 (p.active &&& ~~~gone)
  else if p.st = .retrain ∧ octets (p.active &&& ~~~gone) < h.minOctets x then h.fence x 0x0E
  else h.updPort x (fun p => { p with locked := p.locked &&& ~~~cableOctets b })

/-- A presence pin of the port has stayed low for 50 ms, and the cable's record is read (R59, R61, R83, R90). -/
def Hub.cableIn (h : Hub) (x : Nat) (b : Bool) (image : Option (List Byte)) : Hub :=
  let h := h.updPort x (fun p => if b then { p with cblB := true } else { p with cblA := true })
  let h := h.cableRead x b image
  h.updPort x (fun p => { p with
    attempts := 0
    st := if p.fenced then .detect else p.st
    reinsert := p.reinsert || (p.st == .active && p.active != 0xFF) })

/-! ### Training steps (R60 to R62) -/

/-- Cable A or B arrives with its lane order fully reversed: lane 0 with lane 31 and so on (R57). -/
def Wiring.reversed (w : Wiring) (b : Bool) : Bool :=
  (List.range 32).all fun i => w.order.getD (32 * b2n b + i) (32 * b2n b + i) == 32 * b2n b + 31 - i

/-- An octet whose lanes arrive in order, or in a cable that is fully reversed, can lock; polarity is corrected lane by lane
(R57). -/
def Wiring.octetOk (w : Wiring) (o : Nat) : Bool :=
  (List.range 8).all (fun i => w.order.getD (8 * o + i) (8 * o + i) == 8 * o + i) || w.reversed (decide (4 ≤ o))

/-- The octets whose lanes the hub can put in order. -/
def Wiring.locks (w : Wiring) : BitVec 8 :=
  (List.range 8).foldl (fun m o => if w.octetOk o then m ||| (1#8 <<< o) else m) 0

/-- The preset from which a cable's equalisation starts: that of its length class, or the default where its identity memory
cannot be read or is not valid (R58, R59, R428). -/
def Hub.presetOf (h : Hub) (x : Nat) (b : Bool) : Option Nat :=
  let m := h.idMem x (0x54 + b2n b)
  if m.st = 2 then some (recNum m.bytes 2 1) else none

/-- POLL ends with these octets locked: the corrections it found are in force, and EQUALIZE starts from the presets (R57 to
R60). -/
def Hub.toEqualize (h : Hub) (x : Nat) (locked : BitVec 8) (w : Wiring) : Hub :=
  let pa := h.presetOf x false
  let pb := h.presetOf x true
  h.updPort x (fun p => { p with
    st := .equalize, locked, inverted := w.inverted, revA := w.reversed false, revB := w.reversed true
    presetA := pa, presetB := pb })

/-- In DETECT, electrical idle ends on enough octets (R60). -/
def Hub.signalDetected (h : Hub) (x : Nat) (oct : BitVec 8) : Hub :=
  let p := h.port x
  if p.st = .detect ∧ h.canTrain x ∧ h.minOctets x ≤ octets (oct &&& p.present) then
    h.updPort x (fun p => { p with st := .poll, locked := 0 })
  else h

/-- All present octets have locked (R60), their lanes arriving as `w` says. -/
def Hub.pollLocked (h : Hub) (x : Nat) (w : Wiring) : Hub :=
  let p := h.port x
  if p.st = .poll ∧ p.present &&& w.locks = p.present ∧ h.minOctets x ≤ octets p.present then h.toEqualize x p.present w
  else h

/-- POLL has lasted 10 ms, with bit lock on these octets, their lanes arriving as `w` says (R57, R60). -/
def Hub.pollTimeout (h : Hub) (x : Nat) (oct : BitVec 8) (w : Wiring) : Hub :=
  let p := h.port x
  let lock := oct &&& w.locks &&& p.present
  if p.st ≠ .poll then h
  else if h.minOctets x ≤ octets lock then h.toEqualize x lock w
  else h.failAttempt x 0x01 .detect

/-- The target error rate is reached on these octets (R60). -/
def Hub.equalizeDone (h : Hub) (x : Nat) (oct : BitVec 8) : Hub :=
  let p := h.port x
  if p.st = .equalize ∧ h.minOctets x ≤ octets (oct &&& p.locked) then
    h.updPort x (fun p => { p with st := .config, locked := oct &&& p.locked })
  else h

/-- EQUALIZE has lasted 100 ms (R60). -/
def Hub.equalizeTimeout (h : Hub) (x : Nat) : Hub :=
  if (h.port x).st = .equalize then h.failAttempt x 0x02 .detect else h

/-- The endpoint's capabilities arrive in CONFIG (R62). -/
def Hub.configExchange (h : Hub) (x : Nat) (c : Caps) : Hub :=
  if (h.port x).st ≠ .config then h
  else match h.configCheck x c with
    | some r => h.failAttempt x r .detect
    | none => h.configDone x c

/-- CONFIG has lasted 1 ms (R60). -/
def Hub.configTimeout (h : Hub) (x : Nat) : Hub :=
  if (h.port x).st = .config then h.failAttempt x 0x03 .detect else h

/-- SEAL_SYNC has lasted 1 ms (R60). -/
def Hub.sealSyncTimeout (h : Hub) (x : Nat) : Hub :=
  if (h.port x).st = .sealSync then h.fenceAttempt x 0x08 else h

/-- A lane of an octet that carries the link loses lock: the port enters RETRAIN, in which the octet counts as unlocked
(R81). -/
def Hub.laneLost (h : Hub) (x lane : Nat) : Hub :=
  let p := h.port x
  let o : BitVec 8 := 1#8 <<< (lane / 8)
  if 64 ≤ lane ∨ p.active &&& o = 0 then h
  else if p.st = .active then h.enterRetrain x 1 (p.active &&& ~~~o)
  else if p.st = .retrain then h.updPort x (fun p => { p with locked := p.locked &&& ~~~o })
  else h

/-- Four uncorrectable codewords in a row, attributed to one octet or to none (R81). -/
def Hub.uncorrectable (h : Hub) (x : Nat) (oct : Option Nat) : Hub :=
  let p := h.port x
  if p.st ≠ .active then h
  else
    let gone : BitVec 8 := match oct with
      | some o => 1#8 <<< o
      | none => 0
    (h.bump (portReg x 0x40) 4).enterRetrain x 2 (p.active &&& ~~~gone)

/-- The announcement that RETRAIN needs has come: that of a sealed port which stays sealed (R86). -/
def Port.annOk (p : Port) (ann : Option SealAnnounce) : Bool := !p.sealed || p.toPlain || p.sealHold || ann.isSome

/-- The ends have exchanged their reports in RETRAIN; with no report from the far end on any octet (R81, R82), or without the
announcement of a sealed port's counter (R86), the port stays in RETRAIN. -/
def Hub.retrainReport (h : Hub) (x : Nat) (far : BitVec 8) (ann : Option SealAnnounce) : Hub :=
  if (h.port x).st = .retrain ∧ far ≠ 0 ∧ (h.port x).annOk ann then h.retrainDone x far ann else h

/-- RETRAIN has lasted 80 µs: reason 0x0A where the retry limit began it, else 0x09 (R60, R76). -/
def Hub.retrainTimeout (h : Hub) (x : Nat) : Hub :=
  if (h.port x).st = .retrain then h.fence x (if (h.port x).retryLimit then 0x0A else 0x09) else h

/-- 1 ms after a fence for reason 0x09 or 0x0A the port enters DETECT again (R90). -/
def Hub.fenceReentry (h : Hub) (x : Nat) : Hub :=
  let p := h.port x
  if p.st = .fenced ∧ (p.lastFail = 0x09 ∨ p.lastFail = 0x0A) then h.updPort x (fun p => { p with st := .detect }) else h

/-! ### Route decode (R101 to R105) -/

/-- The virtual channels an accelerator may use toward a destination, and whether the partition is checked; none for a
destination it may not name (R101). -/
def routeRow (x dst : Nat) : Option (List Nat × Bool) :=
  if dst < 8 then (if dst = x then none else some ([0, 1], true))
  else if dst = 0x30 then some ([0, 5], true)
  else if dst = 0x98 then some ([2], true)
  else if dst = 0xA0 then some ([0], true)
  else if dst = 0xC0 then some ([4], false)
  else if dst = 0xC1 then some ([3], true)
  else if dst = 0xC2 then some ([4], false)
  else if dst = 0xC3 then some ([4], true)
  else none

/-- The brick passes the route decode and the partition check (R101). -/
def Hub.routable (h : Hub) (x : Nat) (b : Brick) : Bool :=
  match routeRow x b.dst.toNat with
  | none => false
  | some (vcs, chk) =>
    vcs.contains b.vc.toNat && (!chk || (h.member x b.part.toNat &&
      (decide (8 ≤ b.dst.toNat) || h.member b.dst.toNat b.part.toNat)))

/-- Tile space takes READ_REQ and WRITE only (R127). -/
def tileType (b : Brick) : Bool := b.dst != 0x30 || b.is .readReq || b.is .write

/-- The unit that a brick is delivered to has a use for its type, or an answer to it: telemetry at the governor, MGMT at the
management core, LOGITS at the samplers. The spec names no action for another type that its VC admits there: the unit consumes
it without effect (R107, R112, log entry 87). -/
def Brick.used (b : Brick) : Bool :=
  match b.dst.toNat with
  | 0xA0 => b.is .logits
  | 0xC0 => b.is .mgmt
  | 0xC2 => b.is .telemetry
  | _ => true

/-- A brick that has passed its link checks is routed: to a port, to a unit of the hub, or refused. -/
def Hub.route (h : Hub) (x : Nat) (b : Brick) : Hub :=
  if !h.routable x b || !tileType b then h.refuseBrick x b
  else if b.dst.toNat < 8 then
    if (h.port b.dst.toNat).closed then ((h.dropAt b.dst.toNat).owe x b.vc.toNat).replyPoison x b
    else h.enqueue b.dst.toNat x b
  else if !b.used then h.owe x b.vc.toNat
  else { h with fab := { h.fab with inbox := h.fab.inbox ++ [⟨b.dst.toNat, x, b⟩] } }

/-- A brick that may pass a port on which sealing is being set up: VC4 to or from the management core and the governor
(R89). -/
def sealExempt (b : Brick) : Bool :=
  b.vc == 4 && (b.dst == 0xC0 || b.dst == 0xC2 || b.src == 0xC0 || b.src == 0xC2)

/-- SEAL_SYNC ends in agreement: the port is sealed and ACTIVE, and the bricks held back go on (R86, R89). -/
def Hub.sealSyncDone (h : Hub) (x : Nat) (a : SealAnnounce) : Hub :=
  if (h.port x).st ≠ .sealSync then h
  else h.adopt x a fun h =>
    let held := (h.port x).heldIn
    let h := h.updPort x (fun p => { p with sealed := true, sealHold := false, heldIn := [] })
    held.foldl (fun h b => h.route x b) (h.enterActive x)

/-! ### Receiving -/

/-- The grout of a brick breaks R67. -/
def Brick.badGrout (b : Brick) : Bool :=
  (b.grouted != (b.grout != 0)) ||
    !((b.payload.drop (256 - b.grout.toNat)).all (· == 0))

/-- The first protocol check that a brick from accelerator x fails, as the error kind of R554. -/
def Brick.protoError (b : Brick) (x : Nat) : Option Nat :=
  match b.bt with
  | none => some 3
  | some t =>
    let linkOwn := t == .idle || t == .nak || t == .credit
    if !t.vcs.contains b.vc.toNat then some 4
    else if !linkOwn && b.src.toNat ≠ x then some 1
    else if !linkOwn && !([0, 1, 2, 3, 4, 5, 6, 7, 0x30, 0x98, 0xA0, 0xC0, 0xC1, 0xC2, 0xC3].contains b.dst.toNat)
      then some 2
    else if t == .idle && b.crCnt ≠ 0 then some 5
    else if b.badGrout then some 6
    else none

/-- A protocol error (R70, R99, R100): counted, and recorded at most once per port per course. -/
def Hub.protoErr (h : Hub) (x kind : Nat) (b : Brick) : Hub :=
  (h.bump (portReg x 0x48)).eventOnce 0x020C x
    [.u8 x, .u8 kind, .u8 b.typ.toNat, .u8 b.vc.toNat, .u8 b.dst.toNat, .u8 b.src.toNat]

/-- ACK honoured (R75): the low 16 bits extend to a number in the unacknowledged window, and every brick up to it is
released. -/
def Port.takeAck (p : Port) (ack : BitVec 16) : Port :=
  match p.retry.findIdx? (fun b => b.seq.toNat % 2 ^ 16 == ack.toNat) with
  | none => p
  | some i =>
    let rest := p.retry.drop (i + 1)
    { p with retry := rest, resend := min p.resend rest.length, sends := rest.map (fun _ => 0) }

/-- A NAK received (R74): go back to the named number; outside the window it is a protocol error. -/
def Hub.takeNak (h : Hub) (x : Nat) (seq : BitVec 32) (b : Brick) : Hub :=
  match (h.port x).retry.findIdx? (fun r => r.seq == seq) with
  | none => h.protoErr x 8 b
  | some i =>
    (h.updPort x (fun p => { p with resend := p.retry.length - i })).bump (portReg x 0x20)

/-- A credit return would exceed the number that the endpoint advertised (R79). -/
def Port.creditOver (p : Port) (b : Brick) : Bool :=
  b.crCnt != 0 && decide (p.advert.get 0 b.crVc.toNat < p.credit.get 0 b.crVc.toNat + b.crCnt.toNat)

/-- A credit return honoured, at most up to the advertised number (R77, R79). -/
def Port.takeCredit (p : Port) (b : Brick) : Port :=
  let v := b.crVc.toNat
  if b.crCnt = 0 then p
  else { p with credit := p.credit.set 0 v (min (p.credit.get 0 v + b.crCnt.toNat) (p.advert.get 0 v)) }

/-- A NAK is to be sent, unless one is already waiting for its brick (R73, R74). -/
def Hub.wantNak (h : Hub) (x : Nat) : Hub :=
  if (h.port x).nakWait then h else h.updPort x (fun p => { p with nakWait := true, nakOut := true })

/-- The hub's receive credit consumed by a brick is due back: none for a CREDIT brick or an invalid VC (R70). -/
def Hub.oweFor (h : Hub) (x : Nat) (b : Brick) : Hub :=
  if b.is .credit || 6 ≤ b.vc.toNat then h else h.owe x b.vc.toNat

/-- A sequenced brick takes one of the hub's receive buffers of its VC; a CREDIT brick and an invalid VC take none (R71, R78).
An endpoint that sends beyond its credits breaks the link's contract, and the spec gives the hub no check of it: the count
stays at 0 (log entry 81). -/
def Port.takeBuffer (p : Port) (b : Brick) : Port :=
  if b.is .credit || 6 ≤ b.vc.toNat then p else { p with rxCredit := p.rxCredit.upd 0 b.vc.toNat (· - 1) }

/-- The protocol error of an accepted brick: the first check of R70 that it fails, else an excess credit return (R79). -/
def Port.errorOf (p : Port) (x : Nat) (b : Brick) : Option Nat :=
  (b.protoError x).orElse fun _ => if p.creditOver b then some 7 else none

/-- A sequenced brick accepted under R73: its acknowledgement falls due, its credit return is honoured, and it is
routed or discarded as a protocol error. -/
def Hub.acceptBrick (h : Hub) (x : Nat) (b : Brick) : Hub :=
  let err := (h.port x).errorOf x b
  let h := h.updPort x (fun p => { (p.takeBuffer b).takeCredit b with
    rxNext := p.rxNext + 1, nakWait := false, nakOut := false, ackDue := p.ackDue + 1,
    ackOut := p.ackOut || decide (64 ≤ p.ackDue + 1) })
  match err with
  | some k => (h.protoErr x k b).oweFor x b
  | none =>
    if b.is .credit then h
    else if (h.port x).sealHold && !sealExempt b then
      h.updPort x (fun p => { p with heldIn := p.heldIn ++ [b] })
    else h.route x b

/-- A brick whose check has passed (R73, R75). -/
def Hub.checkedBrick (h : Hub) (x : Nat) (b : Brick) : Hub :=
  let h := if b.ackValid then h.updPort x (·.takeAck b.ack) else h
  if b.is .idle then (match b.protoError x with | some k => h.protoErr x k b | none => h)
  else if b.is .nak then
    (match b.protoError x with | some k => h.protoErr x k b | none => h.takeNak x b.seq b)
  else
    let p := h.port x
    if b.seq = p.rxNext then h.acceptBrick x b
    else if 0 < (p.rxNext - b.seq).toNat ∧ (p.rxNext - b.seq).toNat ≤ 2 ^ 31 then h.bump (portReg x 0x30)
    else h.wantNak x

/-- The brick a sealed slot carries, when its tag passes under the key slot it names (R84, R85, R87). -/
def Port.openSlot (p : Port) (b : Brick) : Option Brick :=
  let key := p.rxKey b.keySlot
  let ctr := if b.keySlot = p.rxSlot then p.rxCtr else 0
  if key ≠ [] ∧ Machine.sealTag key ctr b.head20 b.payload = b.check ++ b.tagLo then
    some { b with payload := sealCrypt key ctr b.payload }
  else none

/-- The receiver's slot counter after a slot. Where the slot names the other key slot, the receiver goes over to it and its
counter starts again (R85, R87). -/
def Hub.rxSlotDone (h : Hub) (x : Nat) (ok : Bool) (slot : Bool) : Hub :=
  if ok ∧ slot ≠ (h.port x).rxSlot then h.rxSwitch x slot 1
  else h.updPort x (fun p => { p with rxCtr := p.rxCtr + 1 })

/-- A slot that fails its CRC or tag check (R73, R84, R99). Event 0x020D is recorded as the 1,025th tag failure of a course
comes, once a port and course, so that its Count is that number: the spec does not say when (log entry 82). -/
def Hub.badSlot (h : Hub) (x : Nat) : Hub :=
  let h := h.bump (portReg x 0x28)
  let h := if (h.port x).sealed then h.updPort x (fun p => { p with tagFails := p.tagFails + 1 }) else h
  let n := (h.port x).tagFails
  let h := if 1024 < n then h.eventOnce 0x020D x [.u8 x, .u16 n] else h
  h.wantNak x

/-- A slot arrives on a port (R73), with the codewords that FEC corrected in it and those it could not (R93). -/
def Hub.receive (h : Hub) (x : Nat) (b : Brick) (corrected uncorrectable : Nat) : Hub :=
  let p := h.port x
  if p.st ≠ .active then h
  else
    let h := if corrected = 0 then h else h.bump (portReg x 0x38) corrected
    let h := if uncorrectable = 0 then h else h.bump (portReg x 0x40) uncorrectable
    if p.sealed then
      match p.openSlot b with
      | some b' => (h.rxSlotDone x true b.keySlot).checkedBrick x b'
      | none => (h.rxSlotDone x false b.keySlot).badSlot x
    else if b.check = b.crc then h.checkedBrick x b
    else h.badSlot x

/-! ### Sending -/

/-- The credits of one VC that go back in a sequenced brick: at most 31 (R66, R77). -/
def Port.creditField (p : Port) : Nat × Nat :=
  match (List.range 6).find? (fun v => decide (0 < p.owed.get 0 v)) with
  | none => (0, 0)
  | some v => (v, min 31 (p.owed.get 0 v))

/-- Credits go back to the endpoint (R77, R78). -/
def Port.returnCredit (p : Port) (v n : Nat) : Port :=
  if n = 0 then p else { p with owed := p.owed.upd 0 v (· - n), rxCredit := p.rxCredit.upd 0 v (· + n) }

/-- A brick given the acknowledgement of the moment (R77). -/
def Port.withAck (p : Port) (b : Brick) : Brick :=
  { b with ackValid := decide (0 < p.ackDue) || p.ackOut, ack := BitVec.ofNat 16 (p.rxNext - 1).toNat }

/-- A slot sealed, or given its CRC (R68, R84). -/
def Port.finish (p : Port) (b : Brick) : Brick :=
  if p.sealed then
    let key := p.txKey p.txSlot
    let b := { b with keySlot := p.txSlot }
    let c := sealCrypt key p.txCtr (padTo 256 b.payload)
    let t := Machine.sealTag key p.txCtr b.head20 c
    { b with payload := c, tagLo := BitVec.ofNat 32 t.toNat, check := BitVec.ofNat 64 (t.toNat / 2 ^ 32) }
  else { b with tagLo := 0, check := { b with tagLo := 0 }.crc }

/-- A slot goes out: the port's acknowledgement is done, its slot counter advances (R75, R85), and the slot counts among the
last eight (R110). -/
def Hub.emitSlot (h : Hub) (x : Nat) (b : Brick) : Hub :=
  let p := h.port x
  let b := p.finish (p.withAck b)
  h.updPort x (fun p => { p with
    sent := some b, ackDue := 0, ackOut := false, txCtr := if p.sealed then p.txCtr + 1 else p.txCtr
    prio := ((b.vc == 3 || b.vc == 4) :: p.prio).take 7 })

/-- The heads of the queues of a port, one for each ingress source and VC, in arrival order (R109). -/
def heads : List (Nat × Nat) → List (Nat × Brick) → List (Nat × Brick)
  | _, [] => []
  | seen, (s, b) :: rest =>
    if seen.contains (s, b.vc.toNat) then heads seen rest
    else (s, b) :: heads ((s, b.vc.toNat) :: seen) rest

/-- A head that could use the slot: its VC holds a credit, and the port is not held for sealing (R89, R110). -/
def Port.usable (p : Port) (it : Nat × Brick) : Bool :=
  decide (0 < p.credit.get 0 it.2.vc.toNat) && (!p.sealHold || sealExempt it.2)

/-- The weight of a lower VC (R115). -/
def Hub.vcWeight (h : Hub) (vc : Nat) : Nat :=
  if vc = 0 then h.fld 0x300000 3 0 else if vc = 1 then h.fld 0x300000 7 4
  else if vc = 2 then h.fld 0x300000 11 8 else h.fld 0x300000 15 12

/-- The four lower VCs in the order of their turns. -/
def lowVcs : List Nat := [0, 1, 2, 5]

/-- Within one VC: an overdue head first, the oldest; else partitions by weight, latency class before throughput class,
and the sources in turn (R110). Answers the head, the partition's turn and whether ageing chose it. -/
def Hub.pickInVc (h : Hub) (p : Port) (vc : Nat) (overdue : List (Nat × Nat)) (hs : List (Nat × Brick)) :
    Option ((Nat × Brick) × (Nat × Nat) × Bool) :=
  let cur := p.partTurn.get (0, 0) vc
  match hs.find? (fun it => overdue.contains (it.1, vc)) with
  | some it => some (it, cur, true)
  | none =>
    match wrr 8 cur.1 cur.2 (fun q => h.fld (0x300140 + 4 * q) 3 0) (fun q => hs.any (·.2.part.toNat == q)) with
    | none => none
    | some (q, u) =>
      let own := hs.filter (·.2.part.toNat == q)
      let lat := own.filter (fun it => h.latency it.2.stream.toNat)
      let c := if lat.isEmpty then own else lat
      let after := p.srcTurn.get 0 (8 * vc + q)
      let pick := match (List.range 256).find? (fun k => c.any (fun it => it.1 == (after + k) % 256)) with
        | none => c.head?
        | some k => c.find? (fun it => it.1 == (after + k) % 256)
      pick.map (fun it => (it, (q, u), false))

/-- What arbitration chooses for a slot (R110): the head, and the port with its turns advanced. -/
def Hub.choose (h : Hub) (x : Nat) (overdue : List (Nat × Nat)) : Option ((Nat × Brick) × Port) :=
  let p := h.port x
  let hs := (heads [] p.egress).filter p.usable
  let low := hs.filter (fun it => lowVcs.contains it.2.vc.toNat)
  let hi := (hs.find? (·.2.vc == 4)).orElse (fun _ => hs.find? (·.2.vc == 3))
  let cap := h.fld 0x300004 2 0
  let capped := !low.isEmpty && decide (cap ≤ (p.prio.take 7).countP (· == true))
  let inVc (vc : Nat) (p : Port) : Option ((Nat × Brick) × Port) :=
    (h.pickInVc p vc overdue (hs.filter (·.2.vc.toNat == vc))).map fun (it, pt, aged) =>
      (it, { p with
        partTurn := p.partTurn.set (0, 0) vc pt
        srcTurn := p.srcTurn.set 0 (8 * vc + it.2.part.toNat) ((it.1 + 1) % 256)
        aged := if aged then p.aged.upd 0 vc (· + 1) else p.aged })
  match hi, capped with
  | some it, false =>
    inVc it.2.vc.toNat p
  | _, _ =>
    let has (k : Nat) := low.any (·.2.vc.toNat == lowVcs.getD k 0)
    match wrr 4 p.turn p.used (fun k => h.vcWeight (lowVcs.getD k 0)) has with
    | none => none
    | some (k, u) => inVc (lowVcs.getD k 0) { p with turn := k, used := u }

/-- Event 0x0303: bricks of one VC served by ageing more than 1,024 times in a course (R117). It is recorded as the 1,025th is
served, so that its count is that number: the spec does not say when (log entry 82). -/
def Hub.noteAged (h : Hub) (x vc : Nat) : Hub :=
  let n := (h.port x).aged.get 0 vc
  if 1024 < n then h.eventOnce 0x0303 (8 * x + vc) [.u8 x, .u8 vc, .u16 n] else h

/-- A sequenced brick takes the next number, carries a credit return, and is held until acknowledged (R72, R77). -/
def Hub.emitSequenced (h : Hub) (x : Nat) (b : Brick) : Hub :=
  let p := h.port x
  let c := p.creditField
  let b := { b with seq := p.txNext, crVc := BitVec.ofNat 3 c.1, crCnt := BitVec.ofNat 5 c.2, retry := false }
  let h := h.updPort x (fun p => { p.returnCredit c.1 c.2 with
    txNext := p.txNext + 1, retry := p.retry ++ [b], sends := p.sends ++ [1] })
  h.emitSlot x b

/-- What the last IMAGE brick of a push leads to as it goes out (R471, R472). -/
def Hub.imageSent (h : Hub) (x : Nat) (b : Brick) : Hub :=
  if b.is .image ∧ b.last ∧ (h.push x).st = 2 then h.imageRead x else h

/-- A brick that arbitration has chosen leaves its queue: its credit is spent, its ingress buffer is free, and it goes
out. -/
def Hub.sendChosen (h : Hub) (x : Nat) (it : Nat × Brick) (p' : Port) : Hub :=
  let vc := it.2.vc.toNat
  let h := h.updPort x (fun _ => { p' with egress := p'.egress.erase it, credit := p'.credit.upd 0 vc (· - 1) })
  let h := if it.1 < 8 then h.owe it.1 vc else h
  (((h.noteAged x vc).emitSequenced x it.2)).imageSent x it.2

/-- The check at the egress port (R70): the brick is allowed on its VC. -/
def Brick.vcOk (b : Brick) : Bool := (b.bt.map fun t => t.vcs.contains b.vc.toNat).getD false

/-- A brick that fails the check at the egress port does not leave it: it is discarded, counted and recorded as a protocol
error of that port (file 95, BRICK_TRANSMIT), its ingress buffer is free, and the slot carries IDLE (log entry 83). -/
def Hub.stopAtEgress (h : Hub) (x : Nat) (it : Nat × Brick) : Hub :=
  let h := (h.protoErr x (if it.2.bt.isSome then 4 else 3) it.2).updPort x (fun p => { p with egress := p.egress.erase it })
  let h := if it.1 < 8 then h.owe it.1 it.2.vc.toNat else h
  h.emitSlot x { typ := 0x00 }

/-- One slot in which bricks may go (R72, R74, R110): a NAK, a replayed brick, the brick arbitration chooses, a CREDIT
brick, or IDLE. -/
def Hub.sendSlot (h : Hub) (x : Nat) (overdue : List (Nat × Nat)) : Hub :=
  let p := h.port x
  if p.nakOut then
    (h.emitSlot x { typ := 0x01, seq := p.rxNext }).updPort x (fun p => { p with nakOut := false })
  else if 0 < p.resend then
    match p.retry[p.retry.length - p.resend]? with
    | none => h
    | some b =>
      (h.emitSlot x { b with retry := true }).updPort x (fun p => { p with
        resend := p.resend - 1, sends := p.sends.modify (p.retry.length - p.resend) (· + 1) })
  else if 2048 ≤ p.retry.length then h.emitSlot x { typ := 0x00 }
  else
    match h.choose x overdue with
    | some (it, p') => if it.2.vcOk then h.sendChosen x it p' else h.stopAtEgress x it
    | none =>
      if p.creditField.2 ≠ 0 then h.emitSequenced x { typ := 0x02 }
      else h.emitSlot x { typ := 0x00 }

/-- One egress slot of a port. A sealed port sends nothing once its counter has reached 2^44 (R87). Under self-throttle at
most TOP.HUB_THR_CFG.PORT_PCT of the slots carry bricks, and IDLE fills the rest (R544). -/
def Hub.transmit (h : Hub) (x : Nat) (overdue : List (Nat × Nat)) : Hub :=
  let p := h.port x
  if p.st ≠ .active ∨ (p.sealed ∧ 2 ^ 44 ≤ p.txCtr) then h
  else if h.therm.throt = false then h.sendSlot x overdue
  else
    let n := p.thr + h.fld 0x100034 6 0
    if n < 100 then (h.updPort x (fun p => { p with thr := n })).emitSlot x { typ := 0x00 }
    else (h.updPort x (fun p => { p with thr := n - 100 })).sendSlot x overdue

/-! ### Timers of the link layer -/

/-- The expected brick has not arrived within 1 µs of a NAK (R74). -/
def Hub.nakRepeat (h : Hub) (x : Nat) : Hub :=
  if (h.port x).st = .active ∧ (h.port x).nakWait then h.updPort x (fun p => { p with nakOut := true }) else h

/-- 100 ns have passed with accepted bricks unacknowledged, or 64 have been accepted (R75). -/
def Hub.ackTimer (h : Hub) (x : Nat) : Hub :=
  if (h.port x).st = .active ∧ 0 < (h.port x).ackDue then h.updPort x (fun p => { p with ackOut := true }) else h

/-- No acknowledgement progress for 2 µs (R76). -/
def Hub.replay (h : Hub) (x : Nat) : Hub :=
  if (h.port x).st = .active ∧ (h.port x).retry ≠ [] then
    (h.updPort x (fun p => { p with resend := p.retry.length })).bump (portReg x 0x20)
  else h

/-- The oldest brick that has been sent 8 times without acknowledgement progress (R76). -/
def Port.limitBrick (p : Port) : Option Brick := ((p.retry.zip p.sends).find? fun e => decide (8 ≤ e.2)).map (·.1)

/-- One sequence number has been sent 8 times without progress (R76). -/
def Hub.retryLimit (h : Hub) (x : Nat) : Hub :=
  let p := h.port x
  match p.limitBrick with
  | some b =>
    if p.st = .active then
      let h := (h.bump (portReg x 0x20)).event 0x0206 [.u8 x, .u32 b.seq.toNat]
      (h.enterRetrain x 3 p.active).updPort x (fun p => { p with retryLimit := true })
    else h
  | none => h

/-- A VC with a held brick and no credit has had no return for 10 µs (R80). -/
def Hub.creditTimeout (h : Hub) (x vc : Nat) : Hub :=
  let p := h.port x
  if p.st = .active ∧ p.credit.get 0 vc = 0 ∧ (p.egress.any fun it => it.2.vc.toNat == vc && (!p.sealHold || sealExempt it.2))
  then (h.event 0x0207 [.u8 x, .u8 vc]).fence x 0x0B
  else h

/-! ### Changes at a boundary -/

/-- A change of LINK.PORT_CFG takes effect (R60, R65, R91): the register already holds the new value. A port whose RETRAIN
is in progress, at this boundary's change of SEAL_EN for one, resumes from it in the new FEC mode (log entry 84). -/
def Hub.applyPortCfg (h : Hub) (x : Nat) (old : Nat) : Hub :=
  let new := h.reg (portReg x 0)
  let p := h.port x
  if new.testBit 0 = false then
    if old.testBit 0 then (h.fence x 0x0F).updPort x (fun p => { p with st := .disabled }) else h
  else if old.testBit 0 = false ∧ p.st = .disabled then h.updPort x (fun p => { p with st := .detect })
  else if p.up ∧ new.testBit 4 ≠ (if p.st = .active then p.fec else p.fecNext) then
    if p.fecCap.toNat.testBit (b2n (new.testBit 4)) then
      (if p.st = .active then h.enterRetrain x 4 p.active else h).updPort x (fun p => { p with fecNext := new.testBit 4 })
    else h.flag (portReg x 8) 3
  else h

/-- LINK.SEAL_CFG.SEAL_EN changes at a boundary (R89): set, the initial exchange starts on an ACTIVE port; cleared, the
exchange is abandoned, held bricks go on, and a sealed port, or one in SEAL_SYNC, becomes plain through RETRAIN. -/
def Hub.applySealCfg (h : Hub) (x old : Nat) : Hub :=
  let p := h.port x
  let new := h.bitAt (portReg x 0x10) 0
  if new == old.testBit 0 then h
  else if new then (if p.st = .active ∧ p.sealed = false then h.sealStart x else h)
  else
    let sync := p.st == .sealSync
    let h := (h.sealAbandon x).updPort x (fun p => { p with
      sealHold := false, heldIn := [], toPlain := p.sealed || sync, ex := { p.ex with want := false } })
    let h := p.heldIn.foldl (fun h b => h.route x b) h
    if (p.st = .active ∧ p.sealed) ∨ sync then h.enterRetrain x 4 p.active else h

/-- LINK.PORT_CTRL.RETRAIN, or a cable reinserted at reduced width, on an ACTIVE port (R83, R95). Its accelerator is
unavailable from then on (R249). -/
def Hub.fullAttempt (h : Hub) (x : Nat) : Hub :=
  if (h.port x).st = .active then ((h.sealAbandon x).dispose x .detect).loseSync x else h

/-- LINK.PORT_CTRL.FENCE_RELEASE (R61, R95). -/
def Hub.fenceRelease (h : Hub) (x : Nat) : Hub :=
  if (h.port x).fenced then h.updPort x (fun p => { p with st := .detect, attempts := 0 }) else h

/-- A cable reinserted on a port at reduced width starts a full attempt (R83). Where the boundary finds the port in RETRAIN,
the attempt waits for the first boundary at which the port is ACTIVE: the spec does not say (log entry 85). -/
def Hub.reinsertAt (h : Hub) (x : Nat) : Hub :=
  let p := h.port x
  if !p.reinsert || (p.up && p.st != .active) then h
  else (h.updPort x (fun p => { p with reinsert := false })).fullAttempt x

/-- The FEC mode that the register asks for is put in effect on a port that has come back without it, from a SEAL_SYNC during
which the register changed (R65, log entry 84). -/
def Hub.fecCatchUp (h : Hub) (x : Nat) : Hub :=
  let p := h.port x
  let m := h.bitAt (portReg x 0) 4
  if p.st = .active ∧ p.fec ≠ m ∧ p.fecCap.toNat.testBit (b2n m) then
    (h.enterRetrain x 4 p.active).updPort x (fun p => { p with fecNext := m })
  else h

/-- Event 0x0302 closes the first course of discards of a fence, with the reason of the fence (R105, R117). -/
def Hub.fenceReport (h : Hub) (x : Nat) : Hub :=
  let p := h.port x
  if p.fenceEvt = false ∧ 0 < p.fenceDrops then
    (h.event 0x0302 [.u8 x, .u8 p.fenceReason, .u16 p.fenceDrops]).updPort x (fun p => { p with fenceEvt := true })
  else h

/-- What the link does at each course boundary: the report of a fence's discards, the counts kept per course restart, and
full attempts and FEC changes that have waited start. -/
def Hub.linkBoundary (h : Hub) : Hub :=
  (List.range 8).foldl (fun h x =>
    (((h.fenceReport x).updPort x (fun p => { p with fenceDrops := 0, tagFails := 0, aged := [] })).reinsertAt x).fecCatchUp x) h

/-! ### Grants at the end of a course (R22, R46) -/

/-- The grant that still waits at a port when its course ends: on an ACTIVE port with a credit of VC4 it goes out now, since
nothing may delay it past the boundary; else it is withdrawn, and was not delivered (R22, R46). -/
def Hub.grantOut (h : Hub) (x : Nat) : Hub :=
  let p := h.port x
  match p.egress.find? (·.2.is .grant) with
  | none => h
  | some it =>
    if p.st = .active ∧ p.usable it ∧ p.retry.length < 2048 then h.sendChosen x it p
    else (h.updPort x (fun p => { p with egress := p.egress.filter (fun i => !i.2.is .grant) })).updAcc x
      (fun g => { g with sent := false })

/-- No grant outlives the course in which it was computed (R22). -/
def Hub.grantsOut (h : Hub) : Hub := (List.range 8).foldl Hub.grantOut h

end Sys2Proof.Machine
end

