-- ==== Sys2Proof/Machine/Firmware.lean ====
section
/-!
DEFINITION. Machine/Firmware.lean: images and their verification, the boot flash, boot and kiln mode, restarts,
activation, the job-plane module and accelerator pushes (R454 to R477).
-/
namespace Sys2Proof.Machine

/-- A device whose hub is changed. -/
def Dev.onHub (d : Dev) (f : Hub → Hub) : Dev := { d with hub := f d.hub }

def Hub.updFw (h : Hub) (f : Fw → Fw) : Hub := { h with fw := f h.fw }

/-! ### Boot flash (R457) -/

/-- `n` bytes of the boot flash from address `a`: an unwritten byte reads 0xFF. -/
def Dev.flashRead (d : Dev) (a n : Nat) : List Byte := (d.mem.flash.readN a n).map (~~~ ·)

/-- Bytes programmed in the boot flash. -/
def Dev.flashWrite (d : Dev) (a : Nat) (bs : List Byte) : Dev :=
  { d with mem := { d.mem with flash := d.mem.flash.writeN a (bs.map (~~~ ·)) } }

/-- Sectors erased. -/
def Dev.flashErase (d : Dev) (a n : Nat) : Dev := { d with mem := { d.mem with flash := d.mem.flash.zero a (a + n) } }

/-- Where a target lies and how long it is: 0 and 1 are the hub slots, 4 to 7 the accelerator copies (R457). -/
def targetBase (t : Nat) : Nat := if t < 4 then 0x100000 + 0x100000 * t else 0x1000000 + 0x2000000 * (t - 4)
def targetSize (t : Nat) : Nat := if t < 4 then 0x100000 else 0x2000000

/-! ### Headers and verification (R460, R462) -/

/-- A little-endian field of a header. -/
def hdr (b : List Byte) (o n : Nat) : Nat := leNat (slice b o n)

/-- The bytes from `o` up to but not including `e` are zero. -/
def zeroBytes (b : List Byte) (o e : Nat) : Bool := ((b.drop o).take (e - o)).all (· == 0)

/-- The longest body of a kind (R460). -/
def bodyLimit (kind : Nat) : Nat := if kind = 1 then 458752 else if kind = 2 then 33550336 else 196608

/-- Check 0x01: MAGIC, HDR_VER, the reserved bytes, SVN, and the fields that are zero for the image's kind. -/
def headerOk (b : List Byte) : Bool :=
  let kind := hdr b 5 1
  hdr b 0 4 == 0x42594C50 && hdr b 4 1 == 1 && zeroBytes b 6 8 && hdr b 12 1 ≤ 64 && zeroBytes b 13 14 &&
  zeroBytes b 30 32 && zeroBytes b 80 128 && zeroBytes b 224 4096 &&
  (kind != 2 || hdr b 22 4 == 0) && (kind == 1 || hdr b 26 4 == 0)

/-- Check 0x04: EPOCH and EPOCH_MIN. -/
def epochOk (kind : Nat) (b : List Byte) : Bool :=
  let e := hdr b 14 2
  let m := hdr b 16 2
  if kind = 1 then decide (1 ≤ e) && decide (1 ≤ m) && decide (m ≤ e) else e == 0 && m == 0

/-- The verdict on an image of an expected kind in `room` bytes: the checks of R462 in order. `b` is its header, `body`
what follows. -/
def Otp.verdict (o : Otp) (kind room : Nat) (b body : List Byte) (readable : Bool) : Nat :=
  let len := hdr b 8 4
  if !readable then 8
  else if !headerOk b then 1
  else if hdr b 5 1 ≠ kind then 2
  else if bodyLimit kind < len ∨ room < 4096 + len then 3
  else if !epochOk kind b then 4
  else if sha384 (body.take len) ≠ slice b 32 48 then 5
  else if !anyKey (o.keys (kind == 2)) (b.take 128) (slice b 128 96) then 6
  else if hdr b 12 1 < o.arb then 7
  else 0

/-- What the hub keeps of a verified header. -/
def imageOf (slot : Bool) (b : List Byte) : Image :=
  { slot, major := hdr b 18 2, minor := hdr b 20 2, svn := hdr b 12 1, epoch := hdr b 14 2, epochMin := hdr b 16 2,
    jpIf := hdr b 22 4, emuVer := hdr b 26 4, digest := slice b 32 48 }

/-- The header in a target, and its verdict; a signature that fails sets SEC.STATUS.SIG_FAIL (R497). The verdict is
kept. -/
def Dev.verify (d : Dev) (kind t : Nat) : Nat × List Byte × Dev :=
  let b := d.flashRead (targetBase t) 4096
  let v := d.otp.verdict kind (targetSize t) b (d.flashRead (targetBase t + 4096) (min (hdr b 8 4) (targetSize t)))
    (Config.flashOk d.hub.free)
  let d := d.onHub fun h =>
    let h := h.tick.updFw (fun f => { f with verdict := f.verdict.set 0 t (v + 1) })
    h.flagIf (v == 6) 0x1300000 2
  (v, b, d)

/-! ### Boot-control records (R458) -/

/-- The record in force: the valid copy with the higher SEQ; true for copy 1. -/
def Fw.record (f : Fw) : Option (Bool × Bcr) :=
  match f.bcr0, f.bcr1 with
  | none, none => none
  | some a, none => some (false, a)
  | none, some b => some (true, b)
  | some a, some b => if a.seq < b.seq then some (true, b) else some (false, a)

/-- The active hub slot and accelerator copies: A where no record is valid. -/
def Fw.active (f : Fw) : Bcr := (f.record.map (·.2)).getD { seq := 0, hub := false, ac0 := false, ac1 := false }

/-- A copy of a class is the active one. -/
def Fw.accActive (f : Fw) (cls : Nat) : Bool := if cls = 0 then f.active.ac0 else f.active.ac1

/-- A flash write or its read-back has failed: FW.STATUS.MEDIA and event 0x1208 (R465, R477). -/
def Hub.mediaFail (h : Hub) (region ofs : Nat) : Hub := (h.flag 0x1200000 2).event 0x1208 [.u8 region, .u32 ofs]

/-- A new record is written to the other copy, read back, and then in force (R458). Answers whether it was. -/
def Hub.writeRecord (h : Hub) (g : Bcr → Bcr) : Bool × Hub :=
  let cur := h.fw.record
  let copy := match cur with
    | none => false
    | some (c, _) => !c
  let seq := h.fw.active.seq + 1
  if 0xFFFFFFFF < seq then (false, h)
  else
    let ok := Config.flashOk h.free
    let h := h.tick
    if !ok then
      (false, (h.updFw (fun f => if copy then { f with bcr1 := none } else { f with bcr0 := none })).mediaFail 8 (b2n copy * 4096))
    else
      let r := { g h.fw.active with seq }
      let h := h.updFw (fun f => if copy then { f with bcr1 := some r } else { f with bcr0 := some r })
      (true, h.event 0x1209 [.u8 (b2n copy), .u32 seq])

/-! ### The core's phases -/

/-- The job-plane interface an image implements. -/
def Hub.jpHave (h : Hub) : Nat := (h.fw.run.map (·.jpIf)).getD 0

/-- JP_IF required by a module. -/
def jpNeed (m : List Byte) : Nat := hdr m 22 4

/-- Event 0x1206: required and implemented JP_IF. -/
def Hub.jpEvent (h : Hub) (m : List Byte) : Hub := h.event 0x1206 [.u32 (jpNeed m), .u32 h.jpHave]

/-- The job plane stops, with event 0x1206 where a module ran (R469, R477). -/
def Hub.jpStop (h : Hub) : Hub :=
  match h.fw.jp with
  | none => h
  | some m => (h.updFw (fun f => { f with jp := none })).jpEvent m

/-- SPDM sessions end, with event 0x1301 for each (R482, R499). -/
def Hub.endSessions (h : Hub) (cause : Nat) : Hub :=
  let ss := h.sec.sessions
  let h := { h with sec := { h.sec with sessions := [] } }
  ss.foldl (fun h s => h.event 0x1301 [.u8 (b2n (!s.pcie)), .u32 s.id, .u8 cause]) h

/-- Kiln mode is entered (R463): no image runs. -/
def Hub.enterKiln (h : Hub) (cause : Nat) : Hub :=
  let h := h.jpStop.updFw (fun f => { f with
    phase := .kiln, kilnCause := cause, run := none, stage := none, prev := none, trial := false
    jpPart := none, jpNext := none, checked := false })
  (h.endSessions 2).event 0x1203 [.u8 cause, .u8 0xFF]

/-- The core starts an image. -/
def Hub.runImage (h : Hub) (i : Image) (cause : Nat) : Hub :=
  h.updFw (fun f => { f with
    phase := .handover, run := some i, slot := i.slot, trial := false, prev := none, cause, kilnCause := 0 })

/-- Event 0x1201: slot, version, cause and boot time in ms, which is free (R477). -/
def Hub.runEvent (h : Hub) (i : Image) (cause : Nat) : Hub :=
  h.tick.event 0x1201 [.u8 (b2n i.slot), .u32 (i.major * 65536 + i.minor), .u8 cause, .u32 (Config.elapsed h.free).toNat]

/-- The ROM's steps at power-on and warm reset (R459): `kiln` is BOOT_KILN_L low. -/
def Dev.romBoot (d : Dev) (cause : Nat) (kiln : Bool) : Dev :=
  let d := d.onHub (·.updFw (fun f => { f with cause }))
  if kiln then d.onHub (·.enterKiln 1)
  else
    let d := d.onHub fun h => h.flagIf h.fw.record.isNone 0x1200000 4
    let a := d.hub.fw.active.hub
    let (v, b, d) := d.verify 1 (b2n a)
    if v = 0 then d.onHub fun h => (h.runImage (imageOf a b) cause).runEvent (imageOf a b) cause
    else
      let (v2, b2, d) := d.verify 1 (b2n !a)
      if v2 = 0 then d.onHub fun h =>
        let h := (h.runImage (imageOf (!a) b2) cause).updFw (fun f => { f with bootRec := true })
        (h.flag 0x1200000 4).event 0x1202 [.u8 (b2n a), .u8 v, .u8 (b2n !a)]
      else d.onHub (·.enterKiln 2)

/-- Restarts in the last 10 s: those that have left the window are `aged` (R476). -/
def Fw.countRestart (f : Fw) (aged : Nat) : Fw := { f with restarts := sat 255 (f.restarts - aged + 1) }

/-- The pushes in progress begin again from offset 0, counting no retry (R472). -/
def Hub.restartPushes (h : Hub) : Hub :=
  (List.range 8).foldl (fun h x =>
    if (h.push x).st = 2 ∨ (h.push x).st = 3 then (h.dropImage x).updPush x (fun p => { p with st := 1 }) else h) h

/-- The trial has failed: the core returns to the previous region (R466). -/
def Hub.revert (h : Hub) : Hub :=
  let h := h.updFw (fun f => { f with run := f.prev, prev := none, stage := none, trial := false, slot := (f.prev.map (·.slot)).getD f.slot })
  let h := (h.flag 0x1200000 5).event 0x1205 [.u8 1, .u8 (b2n !h.fw.slot), .u8 2]
  h.finishWaitIf 0x1203 (fun q => q.args.head? == some (.u8 1)) .timeout 0 []

/-- FW.CFG.CRASH_MAX (R476). -/
def Hub.crashMax (h : Hub) : Nat := h.fld 0x1200010 15 8

/-- The management core restarts (R455): the restart is counted and recorded with a free restart time, pushes begin
again, the core's own transaction is aborted (R377), and the ROM hands over to the running region, or to the previous one where a trial was in progress (R466). Once
RESTARTS has reached CRASH_MAX the image is started no more (R456). `fault` marks a single fault (R521). -/
def Hub.coreRestart (h : Hub) (cause aged : Nat) (fault : Bool) : Hub :=
  let rev := h.fw.trial && cause != 4
  let cause := if rev then 5 else cause
  let h := if fault && !(h.safety.faults.any (·.1 == 8)) then h.faultBegin 8 else h
  let h := if rev then h.revert else h
  let h := h.updFw (fun f => { (f.countRestart aged) with phase := .handover, cause, jpPart := none })
  let h := { h with sec := { h.sec with alias_ := h.sec.level } }
  let h := if h.crashMax ≤ h.fw.restarts then h.updFw (fun f => { f with phase := .off }) else h
  ((h.tick.bump 0x1200028).event 0x1204 [.u8 cause, .u32 (Config.elapsed h.free).toNat]).restartPushes.abortFor .core 2

/-- The watchdog expires (R455): the core is running. -/
def Hub.watchdog (h : Hub) (aged : Nat) : Hub := if h.fw.phase = .up then h.coreRestart 2 aged true else h

/-- The core takes a fatal trap (R455). -/
def Hub.coreTrap (h : Hub) (aged : Nat) : Hub :=
  if h.fw.phase = .up ∨ h.fw.phase = .handover then h.coreRestart 3 aged true else h

/-- The image has not kicked within 500 µs of handover (R455). -/
def Hub.firstKickTimeout (h : Hub) (aged : Nat) : Hub := if h.fw.phase = .handover then h.coreRestart 3 aged true else h

/-- RESTARTS has reached CRASH_MAX (R456): the ROM runs the other slot if it verifies and has not crashed too; else kiln
mode. -/
def Dev.crashLoop (d : Dev) : Dev :=
  let h := d.hub
  if h.fw.phase = .kiln ∨ h.fw.run = none ∨ h.fw.restarts < h.crashMax then d
  else if h.fw.fellBack then d.onHub (·.enterKiln 3)
  else
    let s := !h.fw.slot
    let (v, b, d) := d.verify 1 (b2n s)
    if v ≠ 0 then d.onHub (·.enterKiln 3)
    else d.onHub fun h =>
      let h := (h.runImage (imageOf s b) 6).updFw (fun f => { f with
        fellBack := true, restarts := 0, stage := none, prev := none, trial := false })
      (h.flag 0x1200000 4).event 0x1202 [.u8 (b2n !s), .u8 v, .u8 (b2n s)]

/-! ### Job plane (R468, R469) -/

/-- The job-plane interface an image implements, or a module requires: the same major, and a minor not above. -/
def jpFits (need have_ : Nat) : Bool := need / 65536 == have_ / 65536 && decide (need % 65536 ≤ have_ % 65536)

/-- FW.JP_IF: the running module's interface, 0 when none runs (R468). -/
def Fw.jpIf (f : Fw) : Nat := (f.jp.map jpNeed).getD 0

/-- After an activation the module keeps running where it meets the new image's interface (R469). -/
def Hub.jpCheck (h : Hub) : Hub :=
  match h.fw.jp with
  | none => h
  | some m => if jpFits (jpNeed m) h.jpHave then h else h.jpStop

/-- A module accepted since the last boundary starts (R468). -/
def Hub.jpStart (h : Hub) : Hub :=
  match h.fw.jpNext with
  | none => h
  | some m => (h.updFw (fun f => { f with jp := some m, jpNext := none })).jpEvent m

/-! ### KICK and CONFIRM -/

/-- Firmware verifies the active copy of each class that ACC_MAP uses; positions mapped to a copy that fails become
NO_IMAGE (R470). -/
def Dev.checkCopies (d : Dev) : Dev :=
  let d := [0, 1].foldl (fun (d : Dev) cls =>
    let xs := (List.range 8).filter (fun x => d.hub.accClass x == cls)
    if xs.isEmpty then d
    else
      let (v, _, d) := d.verify 2 (4 + 2 * cls + b2n (d.hub.fw.accActive cls))
      if v = 0 then d else d.onHub fun h => xs.foldl (fun h x => h.updPush x (fun p => { p with st := 6 })) h) d
  d.onHub (·.updFw (fun f => { f with checked := true }))

/-- The management interruption that ends is measured (R520, R532); a commanded restart has no bound. -/
def Hub.mgmtInterrupt (h : Hub) : Hub :=
  if h.fw.cause < 2 then h
  else
    let us := (Config.elapsed h.free).toNat
    let us' := sat 65535 us
    let fault := h.safety.faults.any (·.1 == 8)
    let shared := h.faultShared 8
    let h := { h.tick with safety := { h.safety with mgmtLast := us', mgmtMax := max h.safety.mgmtMax us' } }
    let h := h.faultEnd 8
    let h := if fault && !shared then h.bump 0x1500018 else h
    if fault && !shared && decide (600 < us) then (h.flag 0x1500000 7).event 0x1502 [.u8 1, .u32 us, .u8 h.fw.cause] else h

/-- The first KICK after handover (R397, R455, R459, R469): the image runs. One activated from kiln mode completes its
FW_ACTIVATE here (R463). -/
def Dev.firstKick (d : Dev) : Dev :=
  if d.hub.fw.phase ≠ .handover then d
  else
    let d := d.onHub fun h =>
      let h := (h.updFw (fun f => { f with phase := .up })).mgmtInterrupt
      let h := if h.fw.cause = 4 ∧ h.fw.trial = false ∧ h.fw.pend = none then
          h.finishWaitIf 0x1203 (fun q => q.args.head? == some (.u8 1)) .ok 0 []
        else h
      let h := if h.fw.bootRec then ((h.writeRecord (fun r => { r with hub := h.fw.slot })).2).updFw (fun f => { f with bootRec := false }) else h
      h.jpCheck
    if d.hub.fw.checked then d else d.checkCopies

/-- The anti-rollback counter advances to the confirmed image's SVN, a fuse at a time (R481): `n` fuses remain. -/
def Dev.blow (d : Dev) : Nat → Dev
  | 0 => d
  | n + 1 =>
    let ok := Config.fuseOk d.hub.free
    let d := d.onHub (·.tick)
    if ok then ({ d with otp := { d.otp with arb := d.otp.arb + 1 } } : Dev).blow n
    else d.onHub (·.flag 0x1300000 4)

/-- The counter is advanced where SEC.CFG.ARB_ADV allows it, and event 0x1304 records it (R481). -/
def Dev.advance (d : Dev) : Dev :=
  let svn := min 64 ((d.hub.fw.run.map (·.svn)).getD 0)
  if d.hub.bitAt 0x1300004 0 && decide (d.otp.arb < svn) then
    let old := d.otp.arb
    let d := d.blow (svn - old)
    d.onHub (·.event 0x1304 [.u8 old, .u8 d.otp.arb])
  else d

/-- The running image confirms its trial (R466): the record is written, the old region is free, the counter may advance,
and FW_ACTIVATE completes. -/
def Dev.confirm (d : Dev) : Dev :=
  if !d.hub.fw.trial || d.hub.fw.phase != .up then d
  else
    let isHub (q : HodReq) : Bool := q.args.head? == some (.u8 1)
    let (ok, h) := d.hub.writeRecord (fun r => { r with hub := d.hub.fw.slot })
    if !ok then { d with hub := h.finishWaitIf 0x1203 isHub .media 0 [] }
    else
      let h := h.updFw (fun f => { f with trial := false, prev := none, stage := none })
      let d := ({ d with hub := h.event 0x1205 [.u8 1, .u8 (b2n h.fw.slot), .u8 1] } : Dev).advance
      d.onHub (·.finishWaitIf 0x1203 isHub .ok 0 [])

/-- TRIAL_MS expires before CONFIRM (R466). -/
def Hub.trialTimeout (h : Hub) (aged : Nat) : Hub := if h.fw.trial then h.coreRestart 5 aged false else h

/-! ### Activation (R465 to R467, R473) -/

/-- A position named in RESET_MASK: ACCx_RST_L is asserted for 1 ms and a fresh push waits (R472, R473). -/
def Hub.resetPosition (h : Hub) (x : Nat) : Hub :=
  (h.dropImage x).updPush x (fun p => { p with st := 1, retries := 0, pulse := true })

/-- An accelerator activation applies: the record is written, then the positions are reset (R473). -/
def Hub.activateAcc (h : Hub) (a : Activation) : Hub :=
  let cls := a.target / 2
  let copy := a.target % 2 == 1
  let isAcc (q : HodReq) : Bool := q.args.head? == some (.u8 2)
  let (ok, h) := h.writeRecord (fun r => if cls = 0 then { r with ac0 := copy } else { r with ac1 := copy })
  if !ok then h.finishWaitIf 0x1203 isAcc .media 0 []
  else
    let h := (onesBelow 8 a.mask).foldl (fun h x => h.resetPosition x) h
    (h.event 0x1205 [.u8 2, .u8 a.target, .u8 0]).finishWaitIf 0x1203 isAcc .ok 0 []

/-- A hub activation applies: the core restarts into the staged region as a trial (R466). From kiln mode the record is
written first, the image runs as in step 3 of R459, and there is no trial (R464). -/
def Hub.activateHub (h : Hub) : Hub :=
  match h.fw.stage with
  | none => h
  | some i =>
    if h.fw.kiln then
      let (ok, h) := h.writeRecord (fun r => { r with hub := i.slot })
      if !ok then h.finishWait 0x1203 .media 0 []
      else
        let h := ((h.runImage i 4).updFw (fun f => { f with stage := none, restarts := 0, fellBack := false })).runEvent i 4
        (h.event 0x1203 [.u8 0, .u8 0xFF]).event 0x1205 [.u8 1, .u8 (b2n i.slot), .u8 0]
    else
      let h := h.updFw (fun f => { f with prev := f.run, run := some i, slot := i.slot, stage := none, trial := true })
      let h := h.event 0x1205 [.u8 1, .u8 (b2n i.slot), .u8 0]
      (h.coreRestart 4 0 false).endSessions 3

/-- The pending activation applies at a tray-wide job boundary, and in kiln mode at any (R463, R465, R473). -/
def Hub.applyActivation (h : Hub) : Hub :=
  match h.fw.pend with
  | none => h
  | some a =>
    if h.str.jobBoundary || h.fw.kiln then
      let h := h.updFw (fun f => { f with pend := none })
      if a.kind = 1 then h.activateHub else h.activateAcc a
    else h

/-! ### Pushes (R470 to R472) -/

/-- The position whose push comes next: none while one is in progress (R470). -/
def Hub.nextPush (h : Hub) : Option Nat :=
  if (List.range 8).any (fun x => (h.push x).st == 2 || (h.push x).st == 3) then none
  else (List.range 8).find? (fun x => (h.push x).st == 1 && !(h.push x).pulse && (h.port x).st == .active)

/-- The next push starts: the active copy's body goes out in IMAGE bricks, hashed as it is read (R470, R471). A copy without
a verdict since it was written is verified first, and a position whose copy does not verify becomes NO_IMAGE (R462, R470). -/
def Dev.pushStart (d : Dev) : Dev :=
  if d.hub.fw.phase ≠ .up ∨ d.hub.fw.checked = false then d
  else match d.hub.nextPush with
    | none => d
    | some x =>
      let cls := d.hub.accClass x
      let copy := d.hub.fw.accActive cls
      let t := 4 + 2 * cls + b2n copy
      let d := if d.hub.fw.verdict.get 0 t = 0 then (d.verify 2 t).2.2 else d
      if d.hub.fw.verdict.get 0 t ≠ 1 then d.onHub (·.updPush x (fun p => { p with st := 6 }))
      else
        let b := d.flashRead (targetBase t) 4096
        let body := d.flashRead (targetBase t + 4096) (hdr b 8 4)
        d.onHub fun h =>
          let good := Config.flashOk h.free && sha384 body == slice b 32 48
          let h := h.tick.updPush x (fun p => { p with
            st := 2, copy, len := body.length, crc := crc32c body, digest := slice b 32 48, good })
          h.sendAll x 0xC0 (mkBricks .image 4 0 0 x 0xC0 0 body |>.zipIdx.map (fun e => { e.1 with addr := BitVec.ofNat 48 (256 * e.2) }))

/-- IMAGE_DONE from the accelerator at port x (R472). -/
def Hub.imageDone (h : Hub) (x : Nat) (b : Brick) : Hub :=
  let p := h.push x
  let d := b.data
  let cls := h.accClass x
  if p.st ≠ 2 ∧ p.st ≠ 3 then h
  else if p.st = 3 ∧ !b.poison ∧ d.length = 16 ∧ leNat ((d.drop 4).take 4) = p.len ∧ leNat ((d.drop 8).take 4) = p.crc ∧
      zeroBytes d 1 4 ∧ zeroBytes d 12 16 then
    let h := (h.imageMsg x 0x31 p.len p.crc).updPush x (fun p => { p with st := 4, retries := 0 })
    let h := { h with sec := { h.sec with image := h.sec.image.set [] x p.digest } }
    (h.bump 0x1200030).event 0x1207 [.u8 x, .u8 cls, .u8 (b2n p.copy), .u8 0]
  else ((h.dropImage x).imageMsg x 0x32 p.len p.crc).pushRetry x 1 false

/-- The row IMAGE_DONE: the oldest IMAGE_DONE brick from port x at the management core. -/
def Hub.imageDoneBrick (h : Hub) (x : Nat) : Hub :=
  match h.takeMgmt x (fun m => m == 0x30) with
  | none => h
  | some (b, h) => h.imageDone x b

/-- No IMAGE_DONE within 1 ms of the LAST brick (R472). -/
def Hub.imageTimeout (h : Hub) (x : Nat) : Hub := if (h.push x).st = 3 then h.pushRetry x 2 true else h

/-- The 1 ms pulse of ACCx_RST_L ends (R472, R473). -/
def Hub.pulseEnd (h : Hub) (x : Nat) : Hub := h.updPush x (fun p => { p with pulse := false })

/-! ### Hods (R474) -/

/-- A chunk written to a target: at offset 0 the target is erased first; every later write starts where the last one
ended; a failed read-back completes with MEDIA_FAIL (R465). The target has no verdict until it is verified again. -/
def Dev.writeChunk (d : Dev) (t o : Nat) (bs : List Byte) : Dev × HodOut :=
  if o ≠ 0 ∧ d.hub.fw.cursor.get none t ≠ some o then (d, .badArg 2)
  else if targetSize t < o + bs.length then (d, .badArg 2)
  else
    let d := d.onHub (·.updFw (fun f => { f with
      stage := if f.stage.any (fun i => b2n i.slot == t) then none else f.stage
      verdict := f.verdict.set 0 t 0 }))
    let d := if o = 0 then d.flashErase (targetBase t) (targetSize t) else d
    let ok := Config.flashOk d.hub.free
    let d := d.onHub (·.tick)
    if ok then
      ((d.flashWrite (targetBase t + o) bs).onHub (·.updFw (fun f => { f with cursor := f.cursor.set none t (some (o + bs.length)) })),
        .ok [])
    else (d.onHub (fun h => (h.updFw (fun f => { f with cursor := f.cursor.set none t none })).mediaFail t o), .fail .media)

/-- FW_WRITE (R465); in kiln mode it may target either slot (R463). -/
def fwWriteHod (q : HodReq) (t o : Nat) (bs : List Byte) (d : Dev) : Dev × HodOut :=
  let f := d.hub.fw
  if q.who.isVf then (d, .refused)
  else if 1 < t then (d, .badArg 1)
  else if !f.kiln && (t == b2n f.active.hub || t == b2n f.slot) then (d, .badArg 1)
  else if f.pend.any (fun a => a.kind == 1 && a.target == t) then (d, .badArg 1)
  else d.writeChunk t o bs

/-- ACC_IMAGE_WRITE, for a copy that is not active. -/
def accImageWriteHod (q : HodReq) (t o : Nat) (bs : List Byte) (d : Dev) : Dev × HodOut :=
  let f := d.hub.fw
  if q.who.isVf then (d, .refused)
  else if 3 < t then (d, .badArg 1)
  else if f.accActive (t / 2) == (t % 2 == 1) then (d, .badArg 1)
  else if f.pend.any (fun a => a.kind == 2 && a.target == t) then (d, .badArg 1)
  else d.writeChunk (4 + t) o bs

/-- FW_VERIFY (R465): the inactive hub slot is also staged while a region is free. -/
def fwVerifyHod (q : HodReq) (kind t : Nat) (d : Dev) : Dev × HodOut :=
  if q.who.isVf then (d, .refused)
  else if kind ≠ 1 ∧ kind ≠ 2 then (d, .badArg 1)
  else if (kind = 1 ∧ 1 < t) ∨ (kind = 2 ∧ 3 < t) then (d, .badArg 2)
  else
    let key := if kind = 1 then t else 4 + t
    let (v, b, d) := d.verify kind key
    if v = 8 then (d, .fail .media)
    else if v ≠ 0 then (d, .done .badArg 2 (encodeArgs [.u8 v]))
    else
      let inactive := d.hub.fw.kiln || (t != b2n d.hub.fw.slot && t != b2n d.hub.fw.active.hub)
      let d := d.onHub fun h =>
        if kind = 1 then (if inactive && !h.fw.trial then h.updFw (fun f => { f with stage := some (imageOf (t == 1) b) }) else h)
        else if h.fw.accActive (t / 2) == (t % 2 == 1) then
          (List.range 8).foldl (fun h x =>
            if h.accClass x == t / 2 && (h.push x).st == 6 then h.updPush x (fun p => { p with st := 1, retries := 0 }) else h) h
        else h
      let i := imageOf false b
      (d, .ok [.u8 0, .u16 i.major, .u16 i.minor, .u8 i.svn, .u16 i.epoch, .u16 i.epochMin, .u32 i.jpIf])

/-- FW_ACTIVATE (R465 to R467, R473); TARGET 0xFF cancels. -/
def fwActivateHod (q : HodReq) (kind t mask : Nat) (h : Hub) : Hub × HodOut :=
  if q.who.isVf then (h, .refused)
  else if t = 0xFF then
    match h.fw.pend with
    | none => (h, .ok [])
    | some a =>
      let h := h.updFw (fun f => { f with pend := none })
      (h.finishWaitIf 0x1203 (fun r => r.args.head? == some (.u8 a.kind)) .busy 0 [], .ok [])
  else if kind ≠ 1 ∧ kind ≠ 2 then (h, .badArg 1)
  else if (kind = 1 ∧ 1 < t) ∨ (kind = 2 ∧ 3 < t) then (h, .badArg 2)
  else if h.fw.pend.isSome then (h, .fail .busy)
  else if kind = 1 ∧ (h.fw.stage.any (fun i => b2n i.slot == t)) = false then (h, .badArg 2)
  else (h.updFw (fun f => { f with pend := some { kind, target := t, mask } }), .wait)

/-- FW.BOOT (R476). -/
def Fw.bootWord (f : Fw) : Nat :=
  f.cause * 2 ^ 28 + b2n f.kiln * 2 ^ 27 + b2n f.trial * 2 ^ 26 + b2n f.slot * 2 ^ 25 + b2n f.stage.isSome * 2 ^ 24 +
  f.restarts * 2 ^ 16 + f.kilnCause * 2 ^ 8

def Fw.versionWord (f : Fw) : Nat := (f.run.map (fun i => i.major * 65536 + i.minor)).getD 0

/-- FW.ACC_STATUS (R475). -/
def Hub.accStatus (h : Hub) : Nat := (List.range 8).foldl (fun a x => a + (h.push x).st * 2 ^ (4 * x)) 0

/-- FW_QUERY: a verdict not yet taken reads 0xFF. -/
def fwQueryHod (q : HodReq) (h : Hub) : Hub × HodOut :=
  if q.who.isVf then (h, .refused)
  else
    let f := h.fw
    (h, .ok ([.u32 f.bootWord, .u32 f.versionWord, .u32 f.active.seq] ++
      [0, 1, 4, 5, 6, 7].map (fun t => let v := f.verdict.get 0 t; Arg.u8 (if v = 0 then 0xFF else v - 1)) ++
      [.u32 h.accStatus, .u32 f.jpIf]))

/-- The verdict on a module (R462, R468). -/
def Dev.moduleVerdict (d : Dev) (m : List Byte) : Nat := d.otp.verdict 3 m.length m (m.drop 4096) true

/-- The checks of the LAST chunk (R468): the outcome where one fails. -/
def Dev.moduleCheck (d : Dev) (m : List Byte) : Option HodOut :=
  let v := d.moduleVerdict m
  if m.length < 4096 ∨ v ≠ 0 ∨ m.length ≠ 4096 + hdr m 8 4 then some (.badArg 3)
  else if !jpFits (jpNeed m) d.hub.jpHave then some (.fail .version)
  else if d.hub.fw.jp ≠ some m ∧ d.hub.jobsNone = false then some (.fail .busy)
  else none

/-- JOBPLANE_LOAD (R468). -/
def jobplaneLoadHod (q : HodReq) (flags o : Nat) (bs : List Byte) (d : Dev) : Dev × HodOut :=
  let first := flags.testBit 0
  let part := if first then some [] else d.hub.fw.jpPart
  if q.who.isVf then (d, .refused)
  else if 3 < flags then (d, .badArg 1)
  else
    let d := if first then d.onHub (·.updFw (fun f => { f with jpPart := none })) else d
    match part with
    | none => (d, .badArg 2)
    | some p =>
      if o ≠ p.length ∨ 4096 + 196608 < o + bs.length then (d, .badArg 2)
      else if !flags.testBit 1 then (d.onHub (·.updFw (fun f => { f with jpPart := some (p ++ bs) })), .ok [])
      else
        let m := p ++ bs
        let d := d.onHub (·.flagIf (d.moduleVerdict m == 6) 0x1300000 2)
        match d.moduleCheck m with
        | some (.done .busy x y) => (d.onHub (·.updFw (fun f => { f with jpPart := some p })), .done .busy x y)
        | some (.done .version x y) =>
          (d.onHub (fun h => ((h.updFw (fun f => { f with jpPart := none })).flag 0x1200000 3).jpEvent m), .done .version x y)
        | some out => (d.onHub (fun h => (h.updFw (fun f => { f with jpPart := none })).jpEvent m), out)
        | none =>
          if d.hub.fw.jp = some m then (d.onHub (·.updFw (fun f => { f with jpPart := none })), .ok [])
          else (d.onHub (·.updFw (fun f => { f with jpPart := none, jpNext := some m })), .boundary)

end Sys2Proof.Machine
end

