-- ==== Sys2Proof/Machine/Therm.lean ====
section
/-!
DEFINITION. Machine/Therm.lean: hub self-throttle and lost clocks (R544, R546, R549, R552, R553).
-/
namespace Sys2Proof.Machine

/-- Event 0x0111: state, CAUSE_TJ, CAUSE_VR and HUB_TJ (R553). -/
def Hub.throtEvent (h : Hub) : Hub :=
  h.event 0x0111 [.u8 (b2n h.therm.throt), .u8 (b2n h.therm.causeTj), .u8 (b2n h.therm.causeVr), .u16 (unsigned 16 h.hubTj)]

/-- A cause of self-throttle appears; a first cause enters it (R544, R546). -/
def Hub.throtCause (h : Hub) (tj vr : Bool) : Hub :=
  let was := h.therm.throt
  let h := { h with therm := { h.therm with
    throt := true, causeTj := h.therm.causeTj || tj, causeVr := h.therm.causeVr || vr } }
  if was then h else h.throtEvent

/-- HUB_TJ has been updated: at or above 100 °C it starts self-throttle (R544). -/
def Hub.throtCheck (h : Hub) : Hub := if 800 ≤ h.hubTj then h.throtCause true false else h

/-- HUB_TJ has stayed below 95 °C for 10 ms and both alerts have been deasserted for 10 µs (R544). -/
def Hub.throtExit (h : Hub) : Hub :=
  if h.therm.throt ∧ h.hubTj < 760 then
    { h with therm := { h.therm with throt := false, causeTj := false, causeVr := false } }.throtEvent
  else h

/-- Event 0x0113: clock 0 is REFCLK_SD, 1 the crystal, 2 the 32.768 kHz clock; state 0 lost, 1 restored. -/
def Hub.clkEvent (h : Hub) (clock : Nat) (back : Bool) : Hub := h.event 0x0113 [.u8 clock, .u8 (b2n back)]

/-- REFCLK_SD is lost: every port loses lock (R549). -/
def Hub.refclkLoss (h : Hub) : Hub :=
  if h.therm.refclkLost then h
  else
    let h := { h with therm := { h.therm with refclkLost := true } }
    let h := (h.flag 0x100038 1).clkEvent 0 false
    (List.range 8).foldl (fun h x =>
      if (h.port x).st = .active then h.enterRetrain x 1 0
      else h.updPort x (fun p => { p with locked := 0 })) h

/-- REFCLK_SD returns (R549). -/
def Hub.refclkBack (h : Hub) : Hub :=
  if h.therm.refclkLost then { h with therm := { h.therm with refclkLost := false } }.clkEvent 0 true else h

/-- The 32.768 kHz clock has been absent for 1 ms: the internal oscillator takes its place (R549). -/
def Hub.clk32Loss (h : Hub) : Hub :=
  if h.therm.subst then h
  else ({ h with therm := { h.therm with subst := true } }.flag 0x100038 2).clkEvent 2 false

/-- The 32.768 kHz clock returns (R549). -/
def Hub.clk32Back (h : Hub) : Hub :=
  if h.therm.subst then { h with therm := { h.therm with subst := false } }.clkEvent 2 true else h

/-- TOP.HUB_THERM, CLK_STATUS and STRAPS as they read (R552): the stored bits are those written to 1 to clear. -/
def Hub.hubTherm (h : Hub) : Nat :=
  h.reg 0x100030 / 2 ^ 31 * 2 ^ 31 + b2n h.therm.throt * 2 ^ 30 + b2n h.therm.causeVr * 2 ^ 29 +
  b2n h.therm.causeTj * 2 ^ 28 + unsigned 16 h.hubTj
def Hub.clkStatus (h : Hub) : Nat := putBits (putBits (h.reg 0x100038) 3 3 (b2n h.therm.subst)) 0 0 (b2n !h.therm.refclkLost)
def Straps.word (s : Straps) : Nat :=
  b2n s.bootKiln * 256 + b2n s.mgrEn * 128 + s.smbAddr.toNat * 16 + s.critSel.toNat * 4 + b2n s.coolMode * 2

end Sys2Proof.Machine
end

