-- ==== Sys2Proof/Machine/SafetyBlock.lean ====
section
/-!
DEFINITION. Machine/SafetyBlock.lean: the words of the safety block and SAFETY_QUERY (R530 to R532).
-/
namespace Sys2Proof.Machine

/-- SAFETY.STATUS bits 6 to 0: the safety actions in force (R532). -/
def Hub.safetyActions (h : Hub) : Nat :=
  let any (p : Nat → Bool) : Bool := (List.range 8).any p
  b2n (any fun x => (h.hsCh x).st == .latched && (h.hsCh x).cause == 0xA) * 64 +
  b2n (any fun x => (h.acc x).diode || (h.acc x).diodesDead) * 32 + b2n (any fun x => (h.acc x).vrForced) * 16 +
  b2n h.therm.throt * 8 + b2n h.leaking * 4 + b2n h.shdn * 2 + b2n h.hs.stop

def Hub.safetyStatus (h : Hub) : Nat := h.reg 0x1500000 / 128 % 4 * 128 + h.safetyActions

/-- ACCx_THROT_L is asserted: by a cause of the governor's, or to every powered sled while the base die's safety logic does
not run (R24, R284 to R286). -/
def Hub.throtWire (h : Hub) (x : Nat) : Bool := (h.acc x).throt || (h.hs.baseThrot && h.powered x)

/-- SAFETY.WIRES and SAFETY.RECOVERY. -/
def Hub.safetyWires (h : Hub) : Nat :=
  b2n h.hs.stop * 0xFF00 + (List.range 8).foldl (fun a x => a + b2n (h.throtWire x) * 2 ^ x) 0
def Hub.safetyRecovery (h : Hub) : Nat :=
  h.safety.leasePending * 256 + (List.range 8).foldl (fun a x => a + b2n (h.port x).fenced * 2 ^ x) 0

def Safety.dataWord (s : Safety) : Nat := s.dataMax * 65536 + s.dataLast
def Safety.mgmtWord (s : Safety) : Nat := s.mgmtMax * 65536 + s.mgmtLast

/-- SAFETY_QUERY (R530): every register of the block in order. -/
def safetyQueryHod (q : HodReq) (h : Hub) : Hub × HodOut :=
  if q.who.isVf then (h, .refused)
  else (h, .ok [.u32 h.safetyStatus, .u32 h.safetyWires, .u32 h.safetyRecovery, .u32 h.safety.dataWord,
    .u32 h.safety.mgmtWord, .u64 (h.ctr 0x1500018).val.toNat])

end Sys2Proof.Machine
end

