-- ==== Sys2Proof/Machine/Rack.lean ====
section
/-!
DEFINITION. Machine/Rack.lean: the rack chain: enumeration, roles, budget rounds, alignment, takeover and rack sleep (R49,
R50, R268, R434 to R453).
-/
namespace Sys2Proof.Machine

def Hub.updRack (h : Hub) (f : Rack → Rack) : Hub := { h with rack := f h.rack }

/-- RACK.CFG.EN and RACK.CFG.STANDBY. -/
def Hub.rackEn (h : Hub) : Bool := h.bitAt 0x1100000 0
def Hub.rackStandby (h : Hub) : Bool := h.bitAt 0x1100000 1 || h.therm.straps.mgrEn

/-- EPOCH and EPOCH_MIN of the running image: 0 when none runs (R443, R461). -/
def Hub.epoch (h : Hub) : Nat × Nat := (h.fw.run.map (fun i => (i.epoch, i.epochMin))).getD (0, 0)

/-! ### Frames (R435) -/

/-- A frame forwarded unchanged the way it was going. -/
def Hub.pass (h : Hub) (typ dst : Nat) (up : Bool) (p : List Byte) : Hub :=
  if (if up then h.rack.dn else h.rack.up) then h.updRack (fun r => { r with sent := r.sent ++ [(up, typ, dst, p)] }) else h

/-- A frame arrives: one that fails its CRC is discarded and counted; one not addressed to this hub alone is forwarded; one
addressed to it, or to all, is taken (R435). A hub with RACK.CFG.EN = 0 only forwards (R436). -/
def Hub.onFrame (h : Hub) (typ : Nat) (f : Frame) (k : Hub → Hub) : Hub :=
  if !f.ok then (h.bump 0x1100038).flag 0x1100004 1
  else if !h.rackEn then h.pass typ f.dst f.up f.payload
  else
    let mine := f.dst = 0 ∨ (f.dst = h.rack.pos ∧ h.rack.pos ≠ 0)
    let h := if f.dst = h.rack.pos ∧ f.dst ≠ 0 then h else h.pass typ f.dst f.up f.payload
    if mine then k h else h

/-! ### Roles and enumeration (R436, R437, R447) -/

/-- A role that follows a manager's time (R49, R50). -/
def Role.follows (r : Role) : Bool := r == .worker || r == .standby

/-- What a hub knows of the manager's time when its role changes (R50, R437, R448): one that follows no manager has no offset to
it, and one that comes to follow from standing alone runs on its local counter until it rejoins under R444 (log entry 109). -/
def Rack.inRole (k : Rack) (r : Role) (now : Nat) : Rack :=
  if !r.follows then { k with role := r, local_ := false, aligned := false, ofs := 0 }
  else if k.role == .standalone then { k with role := r, local_ := true, aligned := false, heard := now }
  else { k with role := r, heard := if k.role.follows then k.heard else now }

/-- A role taken, with event 0x1102 on a change: causes 0 strap, 1 request, 2 takeover, 3 merge. -/
def Hub.setRole (h : Hub) (r : Role) (cause : Nat) : Hub :=
  if h.rack.role = r then h
  else
    let old := h.rack.role
    (h.updRack (·.inRole r h.crs.count.toNat)).event 0x1102 [.u8 old.code, .u8 r.code, .u8 cause]

/-- The role of a positioned hub that is not manager (R437). -/
def Hub.lesserRole (h : Hub) : Role := if h.rackStandby then .standby else .worker

/-- Enumeration has ended with a count: the role follows, and event 0x1101 records it. A manager stays manager; MGR_EN makes
a hub that had no role manager (R437). -/
def Hub.enumerated (h : Hub) (count : Nat) : Hub :=
  let h := (h.updRack (fun r => { r with count, enumerating := false })).event 0x1101 [.u8 h.rack.pos, .u8 count, .u8 0]
  if h.rack.pos = 0 ∨ (!h.rack.up ∧ !h.rack.dn) then h.setRole .standalone 0
  else if h.rack.role = .manager then h
  else if h.rack.role = .standalone ∧ h.therm.straps.mgrEn then h.setRole .manager 0
  else h.setRole h.lesserRole 0

/-- A position taken from the walk: beyond 32 there is none (R436). -/
def Hub.takePosition (h : Hub) (p : Nat) : Hub :=
  if p ≤ 32 then h.updRack (fun r => { r with pos := p })
  else ((h.updRack (fun r => { r with pos := 0, enumerating := false })).setRole .standalone 0).event 0x1101 [.u8 0, .u8 h.rack.count, .u8 1]

/-- The walk goes on downstream, or ends here with ENUM_DONE upstream (R436). -/
def Hub.walkOn (h : Hub) (p : Nat) : Hub :=
  if h.rack.dn then h.updRack (fun r => { r with sent := r.sent ++ [(true, 0x01, 0, leBytes 1 p)] })
  else
    let h := if h.rack.up then h.updRack (fun r => { r with sent := r.sent ++ [(false, 0x02, 0, leBytes 1 (min 32 p))] }) else h
    if p ≤ 32 then h.enumerated p else h

/-- Enumeration starts (R436): a hub with no upstream link takes position 1; any other awaits ENUM. With RACK.CFG.EN = 0 the
hub takes no position. -/
def Hub.enumStart (h : Hub) : Hub :=
  let h := h.updRack (fun r => { r with enumerating := true, pos := 0 })
  if !h.rackEn then (h.updRack (fun r => { r with enumerating := false })).setRole .standalone 0
  else if h.rack.up then h
  else (h.takePosition 1).walkOn 1

/-- ENUM from upstream: the hop's measured delay comes with it (R436). -/
def Hub.enumFrame (h : Hub) (f : Frame) (hop : Nat) : Hub :=
  if !f.ok then (h.bump 0x1100038).flag 0x1100004 1
  else if !h.rackEn then h.pass 0x01 f.dst f.up f.payload
  else if !f.up then h
  else
    let p := leNat (f.payload.take 1) + 1
    ((h.updRack (fun r => { r with hopUp := hop, enumerating := true })).takePosition p).walkOn p

/-- ENUM_DONE from downstream carries the count upstream (R436). -/
def Hub.enumDone (h : Hub) (f : Frame) (hop : Nat) : Hub :=
  if !f.ok then (h.bump 0x1100038).flag 0x1100004 1
  else
    let h := h.pass 0x02 f.dst f.up f.payload
    if !h.rackEn ∨ f.up then h
    else
      let h := h.updRack (fun r => { r with hopDn := hop })
      if h.rack.pos = 0 then h else h.enumerated (leNat (f.payload.take 1))

/-- A chain link gains symbol lock (R434, R447); `hop` is its delay. -/
def Hub.chainUp (h : Hub) (dn : Bool) (hop : Nat) : Hub :=
  if (if dn then h.rack.dn else h.rack.up) then h
  else
    let h := h.updRack (fun r => if dn then { r with dn := true, hopDn := hop } else { r with up := true, hopUp := hop })
    (h.event 0x1107 [.u8 (2 * b2n dn + 1)]).enumStart

/-- A chain link has been out of lock for 10 µs (R434, R447, R524). -/
def Hub.chainDown (h : Hub) (dn : Bool) : Hub :=
  if (if dn then h.rack.dn else h.rack.up) then
    let h := h.updRack (fun r => if dn then { r with dn := false, hopDn := 0 } else { r with up := false, hopUp := 0 })
    let h := h.updRack (fun r => if dn == decide (r.pos < r.mgrPos) then { r with aligned := false } else r)
    let h := (((h.flag 0x1100004 7).event 0x1107 [.u8 (2 * b2n dn)]).faultMet 17).finishWait 0x1101 .timeout 0 []
    h.enumStart
  else h

/-! ### Leases and the local counter (R50, R268, R441, R444) -/

/-- PWRGOV.RACK_FLOOR.WATTS. -/
def Hub.rackFloor (h : Hub) : Nat := h.fld 0xA0000C 15 0

/-- The lease is renewed (R441). -/
def Hub.renew (h : Hub) (watts : Nat) : Hub :=
  { h with gov := { h.gov with rounds := 16, lease := watts, rc := watts }, rack := { h.rack with fell := false } }

/-- A round that holds ROUNDS_LEFT gives back what it lost at the round's boundary (R443). -/
def Hub.holdLease (h : Hub) : Hub :=
  if h.rack.fell ∧ h.gov.lease ≠ 0 then
    { h with gov := { h.gov with rounds := h.gov.rounds + 1 }, rack := { h.rack with fell := false } }
  else h

/-- The hub leaves the manager's time for its local counter (R50). -/
def Hub.ownTime (h : Hub) : Hub := h.updRack (fun r => { r with local_ := true, aligned := false })

/-- The floor budget at once, and the local counter (R443). -/
def Hub.goLocal (h : Hub) : Hub :=
  ({ h with gov := { h.gov with rounds := 0, lease := 0, rc := h.rackFloor } } : Hub).ownTime

/-- 16 rounds have passed without a round from a manager (R437, R445). -/
def Hub.unheard (h : Hub) : Bool := decide (h.rack.heard + 320 ≤ h.crs.count.toNat)

/-- The rack at a hub's own boundary. A pulse that has not come ends the alignment (R49). At a number that is a multiple of 20
ROUNDS_LEFT falls (R441): a renewal that arrives at this boundary sets it again, and a round that holds it gives it back. A hub
that hears no manager runs on its local counter (R437). RACK_BUDGET shows the R_C of the course that begins (R268). -/
def Hub.leaseBoundary (h : Hub) : Hub :=
  let h := h.updRack (fun r => { r with aligned := r.aligned && r.pulsed, pulsed := false })
  let h := if h.crs.count.toNat % 20 ≠ 0 then h
    else { h with gov := { h.gov with rounds := h.gov.rounds - 1 }, rack := { h.rack with fell := decide (0 < h.gov.rounds) } }
  let h := if h.rack.role.follows && h.unheard then h.ownTime else h
  { h with gov := { h.gov with rc := h.rackCap } }

/-- The lease has expired: R_C is the floor, LEASE_LOST sets and event 0x0A08 is recorded, which names no one accelerator: 0xFF
(R268, R291, log entry 108). -/
def Hub.leaseExpiry (h : Hub) : Hub :=
  if h.gov.rounds = 0 ∧ h.gov.lease ≠ 0 then
    ({ h with gov := { h.gov with lease := 0 } }.flag 0xA0001C 1).event 0x0A08 [.u8 0xFF, .u32 h.rackFloor]
  else h

/-- At a tray-wide job boundary a local worker whose rejoin is allowed starts its adjusted course; a number that would run
backward is refused for good (R444). -/
def Hub.rejoinBoundary (h : Hub) : Hub :=
  match h.rack.rejoin with
  | none => h
  | some d =>
    if !h.rack.local_ || h.rack.rejoinFail || !h.str.jobBoundary then h
    else
      let own := h.crs.count.toNat + 1
      if d < 0 then
        (h.updRack (fun r => { r with rejoin := none, rejoinFail := true })).event 0x1105
          [.u32 (unsigned 32 h.rack.ofs), .u64 own, .u64 (unsigned 48 ((own : Int) + d))]
      else h.updRack (fun r => { r with rejoin := none, jump := some (own + d.toNat) })

/-- The adjusted course has ended: the hub has taken the manager's number and is aligned again (R444). -/
def Hub.rejoined (h : Hub) (old : Nat) : Hub :=
  (h.updRack (fun r => { r with jump := none, local_ := false, timeLost := false })).event 0x1105
    [.u32 (unsigned 32 h.rack.ofs), .u64 old, .u64 h.crs.count.toNat]

/-! ### Rounds (R438 to R443) -/

/-- DEMAND (R439): the P_MAX of the powered accelerators and the other power of the last 20 courses. -/
def Hub.demand (h : Hub) : Nat :=
  let t := (h.gov.other.map (·.2)).sum
  let e := (h.gov.other.map (·.1)).sum
  sat 65535 ((h.poweredAll.map (fun x => (h.acc x).ident.pMax)).sum + (if t = 0 then 0 else divUp e (t * 1000000)))

/-- Whether this hub votes READY: `l2` says that PF0 is in D3hot with its link in L2 (R448). -/
def Hub.ready (h : Hub) (l2 : Bool) : Bool := l2 && h.jobsNone && h.safetyActions == 0 && !h.rack.local_

/-- The budget of one hub under R440: `d` and `f` are its bounded demand and its floor, `rem` and `u` the watts above the
floors and the wishes above them. -/
def grantOf (d f rem u : Nat) : Nat := f + min (d - f) (if u = 0 then 0 else rem * (d - f) / u)

/-- The entries of a round: position, demand, budget (R440). `hubs` lists position, bounded demand and floor in ascending
position. -/
def budgets (b : Nat) (hubs : List (Nat × Nat × Nat)) : List (Nat × Nat) :=
  let floors := (hubs.map (·.2.2)).sum
  if floors > b then hubs.map (fun e => (e.1, e.2.2 * b / floors))
  else
    let rem := b - floors
    let u := (hubs.map (fun e => e.2.1 - e.2.2)).sum
    let g := hubs.map (fun e => (e.1, grantOf e.2.1 e.2.2 rem u))
    let left := b - (g.map (·.2)).sum
    (List.foldl (fun (acc : Nat × List (Nat × Nat)) (e : (Nat × Nat × Nat) × (Nat × Nat)) =>
      if 0 < acc.1 ∧ e.2.2 < e.1.2.1 then (acc.1 - 1, acc.2 ++ [(e.2.1, e.2.2 + 1)]) else (acc.1, acc.2 ++ [e.2]))
      (left, []) (hubs.zip g)).2

/-- The payload of a ROUND (R438). -/
def Hub.roundBytes (h : Hub) : List Byte :=
  let r := h.rack
  leBytes 6 r.course ++ leBytes 2 h.crs.period ++ leBytes 2 r.nextPeriod ++ leBytes 6 r.periodAt ++
  leBytes 4 (h.reg 0x110000C) ++ leBytes 2 h.epoch.1 ++ leBytes 1 r.state ++ leBytes 1 r.pos ++ leBytes 6 r.sleepK ++
  leBytes 1 r.handover ++ [0] ++ (List.range 32).flatMap (fun k => leBytes 2 (Tbl.get (0, 0) r.grant k).2)

/-- The sleep agreement moves on at a round of the manager (R448): a proposal, then its outcome once every hub has voted,
then the end of an abort. -/
def Hub.agree (h : Hub) (l2 : Bool) : Hub :=
  let r := h.rack
  let n := h.crs.count.toNat
  if r.state = 1 then
    let votes := (r.reports.filter (fun p => p.course + 20 == n && p.vote == 1)).length
    if n + 20 = r.sleepK ∧ votes + 1 = r.count ∧ h.ready l2 then h.updRack (fun r => { r with state := 2 })
    else ((h.updRack (fun r => { r with state := 3 })).event 0x1106 [.u8 3, .u64 r.sleepK, .u8 0xFF]).finishWait 0x1103 .busy 0 []
  else if r.state = 3 ∧ n < r.sleepK then h
  else if r.propose then h.updRack (fun r => { r with state := 1, sleepK := n + 40, propose := false })
  else if r.state = 3 ∨ (r.state = 2 ∧ r.sleepK < n) then h.updRack (fun r => { r with state := 0, sleepK := 0 })
  else h

/-- The entries are computed from the reports of the previous round and the manager's own (R440). -/
def Hub.computeBudgets (h : Hub) : Hub :=
  let b := h.fld 0x1100008 15 0
  let rs := h.rack.reports.filter (fun p => p.course == h.rack.course)
  let own := h.demand
  let at_ (k : Nat) : Option (Nat × Nat) :=
    if k + 1 = h.rack.pos then some (own, h.rackFloor)
    else (rs.find? (fun p => p.pos == k + 1)).map (fun p => (p.demand, p.floor))
  let hubs := (List.range 32).filterMap (fun k => (at_ k).map (fun e => (k, max e.1 e.2, e.2)))
  let floors := (hubs.map (·.2.2)).sum
  let none_ := b = 0 ∨ rs.isEmpty
  let g := if none_ then [] else budgets b hubs
  let h := h.updRack (fun r => { r with
    grant := hubs.foldl (fun t e => t.set (0, 0) e.1
      (((at_ e.1).map (·.1)).getD 0, sat 65535 (((g.find? (·.1 == e.1)).map (·.2)).getD 0))) [] })
  if ¬none_ ∧ b < floors then (h.flag 0x1100004 6).event 0x1108 [.u16 b, .u32 floors] else h

/-- The manager sends a round at a boundary whose number is a multiple of 20 (R438 to R441, R446, R448); rounds pause while
enumeration runs (R436). -/
def Hub.roundSend (h : Hub) (l2 : Bool) : Hub :=
  let n := h.crs.count.toNat
  if h.rack.role ≠ .manager ∨ h.rack.enumerating ∨ n % 20 ≠ 0 ∨ (h.rack.course = n ∧ h.rack.mgrPos = h.rack.pos) then h
  else
    let h := h.computeBudgets.agree l2
    let h := h.updRack (fun r => { r with
      course := n, mgrPos := r.pos, epoch := h.epoch.1
      nextPeriod := (r.pending.map (·.1)).getD 0, periodAt := (r.pending.map (·.2)).getD 0 })
    let h := (h.frame 0x03 0 h.roundBytes).bump 0x1100030
    let own := (Tbl.get (0, 0) h.rack.grant (h.rack.pos - 1)).2
    let h := if own = 0 then h else h.renew own
    if h.rack.handover ≠ 0 then (h.setRole h.lesserRole 1).updRack (fun r => { r with handover := 0 }) else h

/-- A flag of R443 takes a value; a change is recorded again. -/
def Hub.noteCompare (h : Hub) (get : Rack → Bool) (put : Rack → Bool → Rack) (bad : Bool) (code : Nat) (pl : List Arg) : Hub :=
  if get h.rack == bad then h else (h.updRack (fun r => put r bad)).event code pl

/-- The REPORT that answers a round (R439). -/
def Hub.report (h : Hub) : Hub :=
  let r := h.rack
  h.frame 0x04 r.mgrPos
    (leBytes 6 r.course ++ leBytes 2 h.demand ++ leBytes 2 h.rackFloor ++ leBytes 4 (h.reg 0x110000C) ++
     leBytes 2 h.epoch.1 ++ leBytes 1 r.vote ++
     leBytes 1 (b2n r.cfgMis + 2 * b2n r.epochMis + 4 * b2n r.local_ + 8 * b2n h.fw.kiln) ++ zeros 2)

/-- A field of a round's payload. -/
def rnd (p : List Byte) (o n : Nat) : Nat := leNat (slice p o n)

/-- The manager's values that a worker adopts (R443). -/
def Rack.differs (r : Rack) (p : List Byte) : Bool :=
  r.state != rnd p 22 1 || r.mgrPos != rnd p 23 1 || r.period != rnd p 6 2 || r.nextPeriod != rnd p 8 2 ||
  r.periodAt != rnd p 10 6 || r.sleepK != rnd p 24 6
def Rack.adopt (r : Rack) (p : List Byte) : Rack :=
  { r with state := rnd p 22 1, mgrPos := rnd p 23 1, period := rnd p 6 2, nextPeriod := rnd p 8 2, periodAt := rnd p 10 6,
           sleepK := rnd p 24 6 }

/-- The comparisons of R443 in table order; the first that fails decides. -/
def Hub.compare (h : Hub) (p : List Byte) : Hub :=
  let ep := h.epoch
  let e := rnd p 20 2
  let diff : Int := (rnd p 0 6 : Int) - h.crs.count.toNat
  let badEpoch := decide (e < ep.2) || decide (ep.1 < e)
  let badTime := decide (1000 < h.rack.ofs.natAbs) || decide (diff ≠ 0)
  let badDigest := rnd p 16 4 != h.reg 0x110000C
  let entry := rnd p (32 + 2 * (h.rack.pos - 1)) 2
  let h := if badEpoch then h else h.noteCompare (·.epochMis) (fun r v => { r with epochMis := v }) false 0x1104 [.u16 e, .u16 ep.2, .u16 ep.1]
  let h := if badTime then h else h.noteCompare (·.timeLost) (fun r v => { r with timeLost := v }) false 0x1105
    [.u32 (unsigned 32 h.rack.ofs), .u64 h.crs.count.toNat, .u64 h.crs.count.toNat]
  let h := if badDigest then h else h.noteCompare (·.cfgMis) (fun r v => { r with cfgMis := v }) false 0x1103
    [.u32 (rnd p 16 4), .u32 (h.reg 0x110000C)]
  let h := if h.rack.local_ && !badEpoch then h.updRack (fun r => { r with rejoin := some diff }) else h
  if badEpoch then
    (h.noteCompare (·.epochMis) (fun r v => { r with epochMis := v }) true 0x1104 [.u16 e, .u16 ep.2, .u16 ep.1]).goLocal
  else if badTime then
    (h.noteCompare (·.timeLost) (fun r v => { r with timeLost := v }) true 0x1105
      [.u32 (unsigned 32 h.rack.ofs), .u64 h.crs.count.toNat, .u64 h.crs.count.toNat]).goLocal
  else if badDigest then
    (h.noteCompare (·.cfgMis) (fun r v => { r with cfgMis := v }) true 0x1103 [.u32 (rnd p 16 4), .u32 (h.reg 0x110000C)]).holdLease
  else if h.rack.differs p then (h.updRack (·.adopt p)).event 0x1106 [.u8 (rnd p 22 1), .u64 (rnd p 24 6), .u8 0xFF]
  else if entry = 0 ∨ h.rack.local_ then h
  else h.renew entry

/-- A ROUND arrives (R437 to R446): a manager that meets one from a lower position becomes STANDBY; the hub named in
HANDOVER becomes manager. -/
def Hub.roundFrame (h : Hub) (f : Frame) (l2 : Bool) : Hub :=
  h.onFrame 0x03 f fun h =>
    let p := f.payload
    let mgr := rnd p 23 1
    if h.rack.pos = 0 ∨ h.rack.enumerating ∨ h.rack.role = .standalone ∨ (h.rack.role = .manager ∧ h.rack.pos < mgr) then h
    else
      let h := if h.rack.role = .manager then h.setRole .standby 3 else h
      let h := (h.updRack (fun r => { r with course := rnd p 0 6, epoch := rnd p 20 2, heard := h.crs.count.toNat })).bump 0x1100030
      let h := h.compare p
      let h := h.updRack (fun r => { r with
        mgrPos := mgr, vote := if rnd p 22 1 = 1 then (if h.ready l2 then 1 else 2) else 0 })
      let h := h.report
      if rnd p 30 1 = h.rack.pos then
        ((h.setRole .manager 1).updRack (fun r => { r with asking := false })).finishWait 0x1102 .ok 0 []
      else h

/-- A REPORT arrives at the manager (R439): the hub keeps it for the next round's entries. -/
def Hub.reportFrame (h : Hub) (f : Frame) : Hub :=
  h.onFrame 0x04 f fun h =>
    if h.rack.role ≠ .manager ∨ rnd f.payload 0 6 ≠ h.rack.course ∨ h.rack.course + 10 ≤ h.crs.count.toNat then h
    else
      let p := f.payload
      h.updRack (fun r => { r with
        reports := { pos := f.src, course := rnd p 0 6, demand := rnd p 6 2, floor := rnd p 8 2, vote := rnd p 16 1 } ::
          r.reports.filter (fun k => k.pos != f.src) })

/-- A pulse from the manager's side (R49, R50, R442), `ofs` ns from this hub's boundary after the hop's delay. -/
def Hub.syncPulse (h : Hub) (ofs : Int) : Hub :=
  if h.rack.role ≠ .worker ∧ h.rack.role ≠ .standby then h
  else
    let h := h.updRack (fun r => { r with ofs, pulsed := true, aligned := decide (ofs.natAbs ≤ 50) && !r.local_ })
    if ofs.natAbs ≤ 1000 ∨ h.rack.local_ then h
    else
      (h.noteCompare (·.timeLost) (fun r v => { r with timeLost := v }) true 0x1105
        [.u32 (unsigned 32 ofs), .u64 h.crs.count.toNat, .u64 h.crs.count.toNat]).goLocal

/-! ### Changing the manager (R445, R446) -/

/-- This hub asks for the role. -/
def Hub.askRole (h : Hub) : Hub := (h.updRack (fun r => { r with asking := true })).frame 0x05 0 (leBytes 1 h.rack.pos)

/-- A ROLE_REQ from another hub: a lower position beats a request of this hub's; a manager names the lowest that has asked
in its next round. -/
def Hub.roleReq (h : Hub) (f : Frame) : Hub :=
  h.onFrame 0x05 f fun h =>
    let p := leNat (f.payload.take 1)
    if p = 0 then h
    else if h.rack.role = .manager then
      h.updRack (fun r => { r with handover := if r.handover = 0 then p else min r.handover p })
    else if h.rack.asking ∧ p < h.rack.pos then
      (h.updRack (fun r => { r with asking := false })).finishWait 0x1102 .busy 0 []
    else h

/-- A standby's lease has expired (R445). -/
def Hub.managerLost (h : Hub) : Hub :=
  if h.rack.role = .standby ∧ h.gov.rounds = 0 ∧ h.unheard ∧ !h.rack.asking ∧ !h.rack.enumerating then h.askRole else h

/-- 20 courses have passed with no ROLE_REQ from a lower position: the hub becomes manager (R445). -/
def Hub.roleTimeout (h : Hub) : Hub :=
  if h.rack.asking then
    let cause := if h.hods.waiting.any (fun q => q.op == 0x1102) then 1 else 2
    ((h.updRack (fun r => { r with asking := false })).setRole .manager cause).finishWait 0x1102 .ok 0 []
  else h

/-! ### Rack sleep (R448, R449) -/

/-- A wake (R449): before the commit point an agreement is abandoned; during entry it is kept for the end of entry; asleep,
exit starts. `source` is 0 an SMBus match, 1 PCIe, 2 a WAKE frame; the hub sends WAKE for its own. -/
def Hub.wakeUp (h : Hub) (source : Nat) : Hub :=
  let tell (h : Hub) : Hub := if source = 2 ∨ h.rack.pos = 0 then h else h.frame 0x06 0 []
  match h.bus.sleep with
  | .awake =>
    if h.rack.state = 1 ∨ h.rack.state = 2 then
      let h := tell (h.updRack (fun r => { r with state := 3 }))
      (h.event 0x1106 [.u8 3, .u64 h.rack.sleepK, .u8 source]).finishWait 0x1103 .busy 0 []
    else h
  | .entering => { h with bus := { h.bus with wake := true } }
  | .asleep => tell ({ h with bus := { h.bus with sleep := .exiting, wake := false } }.event 0x1106 [.u8 h.rack.state, .u64 h.rack.sleepK, .u8 source])
  | .exiting => h

/-- A WAKE frame (R449). -/
def Hub.wakeFrame (h : Hub) (f : Frame) : Hub := h.onFrame 0x06 f (·.wakeUp 2)

/-- The commit point: the boundary of course K (R448). RACK_SLEEP completes with OK there. -/
def Hub.sleepCommit (h : Hub) : Hub :=
  if h.rack.state = 2 ∧ h.rack.sleepK = h.crs.count.toNat ∧ h.bus.sleep = .awake then
    let h := { h with bus := { h.bus with sleep := .entering, wake := false } }
    (h.event 0x1106 [.u8 2, .u64 h.rack.sleepK, .u8 0xFF]).finishWait 0x1103 .ok 0 []
  else h

/-! ### Registers and hods (R450 to R452) -/

def Hub.rackStatus (h : Hub) : Nat :=
  let r := h.rack
  r.role.code * 2 ^ 30 + r.pos * 2 ^ 24 + r.count * 2 ^ 18 + bits (h.reg 0x1100004) 7 6 * 64 + b2n r.rejoinFail * 32 +
  b2n r.timeLost * 16 + b2n r.epochMis * 8 + b2n r.cfgMis * 4 + bits (h.reg 0x1100004) 1 0
def Rack.mgrWord (r : Rack) : Nat := r.epoch * 65536 + r.mgrPos * 256 + r.state
def Rack.grantWord (r : Rack) (k : Nat) : Nat :=
  if r.role = .manager then (Tbl.get (0, 0) r.grant k).1 * 65536 + (Tbl.get (0, 0) r.grant k).2 else 0

/-- RACK_QUERY: of this hub, or, on a manager, of another position by a HOD frame (R450). -/
def rackQueryHod (q : HodReq) (pos : Nat) (h : Hub) : Hub × HodOut :=
  let r := h.rack
  if q.who.isVf then (h, .refused)
  else if 32 < pos then (h, .badArg 1)
  else if pos = 0 ∨ pos = r.pos then
    (h, .ok ([.u8 r.role.code, .u8 r.pos, .u16 r.count, .u64 r.course, .u32 h.rackStatus, .u32 r.mgrWord] ++
      (if r.role = .manager then [.list 4 ((List.range 32).map r.grantWord)] else [])))
  else if r.role ≠ .manager then (h, .badArg 1)
  else
    let args := encodeArgs [.u8 0]
    (h.frame 0x07 pos (hodHead 0x1101 q.tag args.length 1 0 0 0 ++ args), .wait)

/-- RACK_ROLE_REQUEST (R446). -/
def rackRoleHod (q : HodReq) (h : Hub) : Hub × HodOut :=
  if q.who.isVf then (h, .refused)
  else if h.rack.role = .manager then (h, .ok [])
  else if h.rack.role = .standalone ∨ !h.rackStandby then (h, .fail .badArg)
  else (h.askRole, .wait)

/-- RACK_SLEEP (R448, R449). -/
def rackSleepHod (q : HodReq) (h : Hub) : Hub × HodOut :=
  if q.who.isVf then (h, .refused)
  else if h.rack.role ≠ .manager then (h, .fail .badArg)
  else if h.rack.state = 1 ∨ h.rack.state = 2 ∨ h.rack.propose then (h, .fail .busy)
  else (h.updRack (fun r => { r with propose := true }), .wait)

/-- A HOD_RSP completes the RACK_QUERY forwarded to its position (R450). -/
def Hub.hodRspFrame (h : Hub) (f : Frame) : Hub :=
  h.onFrame 0x08 f fun h =>
    let mine (q : HodReq) : Bool := q.op == 0x1101 && q.args.head? == some (.u8 f.src)
    let qs := h.hods.waiting.filter mine
    let h := { h with hods := { h.hods with waiting := h.hods.waiting.filter (fun q => !mine q) } }
    let p := f.payload.drop 16
    qs.foldl (fun h q => h.finish
      { req := q, status := rnd f.payload 10 1, detail := rnd f.payload 11 1, len := p.length, payload := p, enter := !q.idem,
        due := false }) h

/-- No HOD_RSP within 10 ms (R450). -/
def Hub.rackQueryTimeout (h : Hub) (pos : Nat) : Hub :=
  h.finishWaitIf 0x1101 (fun q => q.args.head? == some (.u8 pos)) .timeout 0 []

end Sys2Proof.Machine
end

