-- ==== Sys2Proof/Machine/Spdm.lean ====
section
/-!
DEFINITION. Machine/Spdm.lean: the SPDM responder and its measurements (R482, R483). The codes and layouts are those of the
DMTF SPDM specification that R482 names (PRESUMED, log 12).
-/
namespace Sys2Proof.Machine

/-! ### Measurements (R483) -/

/-- SEC.KEYS (R497). -/
def Dev.keysWord (d : Dev) : Nat :=
  d.otp.revoked % 16 * 256 + b2n d.otp.ok1.isSome * 32 + b2n d.otp.ok0.isSome * 16 + b2n d.otp.dk.isSome * 8 +
  (List.range 3).foldl (fun a r => a + b2n ((d.hub.accRootDigest r).any (· != 0)) * 2 ^ r) 0

/-- A measurement block's digest; none for an index that has none. The lane-rate and lid fuses are ID.VARIANT above its
stepping (R7). -/
def Dev.measurement (d : Dev) (i : Nat) : Option (List Byte) :=
  let h := d.hub
  let run := h.fw.run.getD {}
  if i = 1 then some (padTo 48 Config.romDigest)
  else if i = 2 then some (sha384 (run.digest ++ leBytes 1 run.svn ++ leBytes 2 run.major ++ leBytes 2 run.minor))
  else if i = 3 then some ((h.fw.jp.map (fun m => slice m 32 48)).getD (zeros 48))
  else if i = 4 then some (sha384 (leBytes 4 d.otp.arb ++ leBytes 4 d.keysWord ++ leBytes 4 (h.reg 0x1300004) ++
    Config.accRoot ++ (List.range 3).flatMap h.accRootDigest ++ leBytes 4 (Config.variant.toNat / 16)))
  else if i = 5 then some (sha384 (leBytes 1 h.sec.level))
  else if 6 ≤ i ∧ i ≤ 13 then
    some (if (h.push (i - 6)).st = 4 then padTo 48 (Tbl.get [] h.sec.image (i - 6)) else zeros 48)
  else if 14 ≤ i ∧ i ≤ 21 then some (padTo 48 (Tbl.get [] h.sec.leaf (i - 14)))
  else none

/-- A block in the DMTF measurement format. -/
def Dev.measBlock (d : Dev) (i : Nat) : List Byte :=
  let v := (d.measurement i).getD []
  leBytes 1 i ++ leBytes 1 1 ++ leBytes 2 (v.length + 3) ++ leBytes 1 (if i = 1 then 0 else if i = 4 ∨ i = 5 then 3 else 1) ++
  leBytes 2 v.length ++ v

/-- The digest of all measurements, where a request asks for the summary. -/
def Dev.measSummary (d : Dev) (ask : Nat) : List Byte :=
  if ask = 0 then [] else sha384 ((List.range 21).flatMap (fun i => d.measBlock (i + 1)))

/-! ### Responses -/

/-- The slot-0 certificate chain as SPDM carries it: its length, the digest of the root, the certificates. -/
def Hub.spdmChain (h : Hub) : List Byte :=
  let root := (((certs 16 h.chain).getD []).head?).getD []
  leBytes 2 (52 + h.chain.length) ++ zeros 2 ++ sha384 root ++ h.chain

/-- A response of version 1.3. -/
def spdmRsp (code p1 p2 : Nat) (body : List Byte) : List Byte :=
  leBytes 1 0x13 ++ leBytes 1 code ++ leBytes 1 p1 ++ leBytes 1 p2 ++ body

/-- ERROR with its code. -/
def spdmError (code data : Nat) : List Byte := spdmRsp 0x7F code data []

/-- ERROR UnsupportedRequest, naming the request (R482). -/
def spdmUnsupported (code : Nat) : List Byte := spdmError 0x07 code

/-- Byte `i` of a request, and a number of `n` bytes at `i`. -/
def SpdmMsg.at_ (q : SpdmMsg) (i n : Nat) : Nat := leNat (slice q.bytes i n)

/-- `n` bytes that the spec leaves open in a response. -/
def Hub.spdmFree (h : Hub) (code n : Nat) : List Byte := padTo n (Config.spdmOpen code h.free)

/-- The connection of a binding (R482): 0 none, 1 version, 2 capabilities, 3 algorithms. -/
def Hub.conn (h : Hub) (pcie : Bool) : Nat := Tbl.get 0 h.sec.conn (b2n pcie)
def Hub.setConn (h : Hub) (pcie : Bool) (n : Nat) : Hub :=
  { h with sec := { h.sec with conn := h.sec.conn.set 0 (b2n pcie) n } }

/-- The capabilities of R482: CERT, CHAL, MEAS with signature, MEAS_FRESH, ENCRYPT, MAC, KEY_EX, HBEAT, KEY_UPD. -/
def spdmFlags : Nat := 0x62F6

/-- ALGORITHMS: of what the request offers, ECDSA P-384 and SHA-384; then the DHE group, the AEAD and the key schedule. -/
def SpdmMsg.algorithms (q : SpdmMsg) : List Byte :=
  spdmRsp 0x63 3 0 (leBytes 2 48 ++ [1, 0] ++ leBytes 4 4 ++ leBytes 4 (q.at_ 8 4 &&& 0x80) ++ leBytes 4 (q.at_ 12 4 &&& 2) ++
    zeros 16 ++ [2, 0x20] ++ leBytes 2 0x10 ++ [3, 0x20] ++ leBytes 2 2 ++ [5, 0x20] ++ leBytes 2 1)

/-- CERTIFICATE: the portion of the chain asked for. -/
def Hub.certificate (h : Hub) (q : SpdmMsg) : List Byte :=
  let c := h.spdmChain
  let o := q.at_ 4 2
  let part := (c.drop o).take (q.at_ 6 2)
  spdmRsp 0x02 0 0 (leBytes 2 part.length ++ leBytes 2 (c.length - o - part.length) ++ part)

/-- CHALLENGE_AUTH, signed by the Alias key. -/
def Dev.challengeAuth (d : Dev) (q : SpdmMsg) : List Byte :=
  let m := spdmRsp 0x03 0 1 (sha384 d.hub.spdmChain ++ d.hub.spdmFree 0x03 32 ++ d.measSummary (q.at_ 3 1) ++ zeros 2 ++
    slice q.bytes 36 8)
  m ++ d.hub.aliasSig (q.bytes ++ m)

/-- MEASUREMENTS: operation 0 gives their number, 0xFF all of them, else the block named (R483). The measurement manifest
(0xFD), the device mode (0xFE) and a signature by another slot's key are not supported (R482). -/
def Dev.measurements (d : Dev) (q : SpdmMsg) : List Byte :=
  let op := q.at_ 3 1
  let is := if op = 0 then [] else if op = 0xFF then (List.range 21).map (· + 1) else [op]
  let signed := (q.at_ 2 1).testBit 0
  if op = 0xFD ∨ op = 0xFE ∨ (signed ∧ q.at_ 36 1 % 16 ≠ 0) then spdmUnsupported 0xE0
  else if 21 < op ∧ op ≠ 0xFF then spdmError 0x01 0
  else
    let rec_ := is.flatMap d.measBlock
    let m := spdmRsp 0x60 (if op = 0 then 21 else 0) 0 (leBytes 1 is.length ++ leBytes 3 rec_.length ++ rec_ ++
      d.hub.spdmFree 0x60 32 ++ zeros 2 ++ slice q.bytes (if signed then 37 else 4) 8)
    if signed then m ++ d.hub.aliasSig (q.bytes ++ m) else m

/-! ### Sessions -/

/-- Event 0x1301: binding, session id, cause 0 for an established session (R499). -/
def Hub.sessionEvent (h : Hub) (s : Session) (cause : Nat) : Hub := h.event 0x1301 [.u8 (b2n (!s.pcie)), .u32 s.id, .u8 cause]

/-- The session of a request on its binding. -/
def Hub.session (h : Hub) (q : SpdmMsg) : Option Session := h.sec.sessions.find? (fun s => some s.id == q.sid && s.pcie == q.pcie)

def Hub.updSession (h : Hub) (s : Session) (f : Session → Session) : Hub :=
  { h with sec := { h.sec with sessions := h.sec.sessions.map (fun t => if t = s then f t else t) } }
def Hub.dropSession (h : Hub) (s : Session) : Hub :=
  { h with sec := { h.sec with sessions := h.sec.sessions.filter (fun t => decide (t ≠ s)) } }

/-- KEY_EXCHANGE (R482, R489): at most four sessions, and none while the generator is stopped. -/
def Dev.keyExchange (d : Dev) (q : SpdmMsg) : Dev × List Byte :=
  let h := d.hub
  if q.at_ 3 1 ≠ 0 then (d, spdmUnsupported 0xE4)
  else if h.sec.rng = false then (d, spdmError 0x05 0)
  else if 4 ≤ h.sec.sessions.length then (d, spdmError 0x0A 0)
  else if onCurve (pointOf (slice q.bytes 40 96)) = false then (d, spdmError 0x01 0)
  else
    let n := (h.sec.sessionId + 1) % 65536
    let s : Session := { id := n * 65536 + q.at_ 4 2, pcie := q.pcie }
    let (r, h) := h.draw
    let (e, h) := h.draw
    let m := spdmRsp 0x64 0 0 (leBytes 2 n ++ zeros 2 ++ padTo 32 (Config.drbg r) ++
      publicKey (scalarOf e) ++ d.measSummary (q.at_ 2 1) ++ zeros 2)
    let m := m ++ h.aliasSig (q.bytes ++ m)
    let h := h.tick
    ({ d with hub := { h with sec := { h.sec with sessionId := n, sessions := h.sec.sessions ++ [s] } } },
      m ++ h.spdmFree 0x64 48)

/-- FINISH, HEARTBEAT, KEY_UPDATE and END_SESSION act in a session (R482); `opening` for FINISH. -/
def Hub.inSession (h : Hub) (q : SpdmMsg) (opening : Bool) (f : Session → Hub → Hub × List Byte) : Hub × List Byte :=
  match h.session q with
  | some s => if s.open_ = opening then (h, spdmError 0x04 0) else f s h
  | none => (h, spdmError 0x04 0)

/-- FINISH: the handshake is complete where its verification data is right. -/
def Hub.finishSession (h : Hub) (q : SpdmMsg) : Hub × List Byte :=
  h.inSession q true fun s h =>
    if q.macOk then ((h.updSession s (fun s => { s with open_ := true })).sessionEvent s 0, spdmRsp 0x65 0 0 [])
    else (h.dropSession s, spdmError 0x06 0)

def Hub.heartbeatSession (h : Hub) (q : SpdmMsg) : Hub × List Byte :=
  h.inSession q false fun _ h => (h, spdmRsp 0x68 0 0 [])

def Hub.keyUpdate (h : Hub) (q : SpdmMsg) : Hub × List Byte :=
  h.inSession q false fun s h =>
    (h.updSession s (fun s => { s with keys := s.keys + 1, seq := 0 }), spdmRsp 0x69 (q.at_ 2 1) (q.at_ 3 1) [])

def Hub.endSession (h : Hub) (q : SpdmMsg) : Hub × List Byte :=
  h.inSession q false fun s h => ((h.dropSession s).sessionEvent s 1, spdmRsp 0x6C 0 0 [])

/-- A message of an open session takes the next sequence number of its keys, and the session ends with the last one, so that
none repeats (R482, R490). -/
def Hub.sessionUsed (h : Hub) (q : SpdmMsg) : Hub :=
  match h.session q with
  | some s => if s.seq + 1 < 2 ^ 64 then h.updSession s (fun s => { s with seq := s.seq + 1 }) else (h.dropSession s).sessionEvent s 1
  | none => h

/-! ### Requests -/

/-- A request that needs the connection at a stage. -/
def Dev.atStage (d : Dev) (q : SpdmMsg) (n : Nat) (r : Dev × List Byte) : Dev × List Byte :=
  if n ≤ d.hub.conn q.pcie then r else (d, spdmError 0x04 0)

/-- A request of slot 0; no other slot is supported (R482). -/
def SpdmMsg.slot0 (q : SpdmMsg) (r : List Byte) : List Byte := if q.at_ 2 1 % 16 = 0 then r else spdmUnsupported (q.at_ 1 1)

/-- The service of a request by its code (R482). GET_VERSION names version 1.0 and every other request 1.3; another version
receives ERROR VersionMismatch. -/
def Dev.spdm (d : Dev) (q : SpdmMsg) : Dev × List Byte :=
  let h := d.hub
  let lift (r : Hub × List Byte) : Dev × List Byte := ({ d with hub := r.1 }, r.2)
  let c := q.at_ 1 1
  if q.at_ 0 1 ≠ (if c = 0x84 then 0x10 else 0x13) then (d, spdmError 0x41 0)
  else if c = 0x84 then
    (d.onHub (·.setConn q.pcie 1), leBytes 1 0x10 ++ [0x04, 0, 0, 0, 1] ++ leBytes 2 0x1300)
  else if c = 0xE1 then
    d.atStage q 1 (d.onHub (·.setConn q.pcie 2),
      spdmRsp 0x61 0 0 ([0] ++ slice (Config.spdmOpen 0x61 0) 0 1 ++ zeros 2 ++ leBytes 4 spdmFlags ++ slice (Config.spdmOpen 0x61 0) 1 8))
  else if c = 0xE3 then d.atStage q 2 (d.onHub (·.setConn q.pcie 3), q.algorithms)
  else if c = 0x81 then d.atStage q 3 (d, spdmRsp 0x01 1 1 (sha384 h.spdmChain))
  else if c = 0x82 then d.atStage q 3 (d, q.slot0 (h.certificate q))
  else if c = 0x83 then d.atStage q 3 (d.onHub (·.tick), q.slot0 (d.challengeAuth q))
  else if c = 0xE0 then d.atStage q 3 (d.onHub (·.tick), d.measurements q)
  else if c = 0xE4 then d.atStage q 3 (d.keyExchange q)
  else if c = 0xE5 then lift (h.finishSession q)
  else if c = 0xE8 then lift (h.heartbeatSession q)
  else if c = 0xE9 then lift (h.keyUpdate q)
  else if c = 0xEC then lift (h.endSession q)
  else (d, spdmUnsupported c)

/-- The endpoint id of a binding; 0 before one is assigned (R403, R404). -/
def Hub.eid (h : Hub) (pcie : Bool) : Nat := if pcie then h.hods.eidPcie else h.hods.eidSmb

/-- An SPDM message arrives (R403, R404, R482): discarded until its binding has an endpoint id; answered with Busy in kiln
mode or while no firmware runs; else served. The response carries the same message tag. -/
def Dev.spdmMessage (d : Dev) (q : SpdmMsg) : Dev :=
  if d.hub.eid q.pcie = 0 then d.onHub (·.mctpDrop q.pcie q.eid 4)
  else
    let d := d.onHub (·.bump 0x1300030)
    let (d, r) := if d.hub.fw.phase = .up ∨ d.hub.fw.phase = .handover then d.spdm q else (d, spdmError 0x03 0)
    (d.onHub (·.sessionUsed q)).onHub (·.mctpSend q.pcie q.eid q.tag (leBytes 1 0x05 ++ r))

end Sys2Proof.Machine
end

