-- ==== Sys2Proof/Machine/Security.lean ====
section
/-!
DEFINITION. Machine/Security.lean: the debug port, the random generator, spill key sets, fuses and the words of the security
block (R480, R489, R491 to R499).
-/
namespace Sys2Proof.Machine

def Hub.updSec (h : Hub) (f : Sec → Sec) : Hub := { h with sec := f h.sec }

/-! ### Random numbers and spill keys -/

/-- A health test has failed: the generator stops, with event 0x1306 (R489). -/
def Hub.rngFail (h : Hub) (test : Nat) : Hub :=
  if h.sec.rng then (h.updSec (fun s => { s with rng := false })).event 0x1306 [.u8 test] else h

/-- The reseed after 2^20 requests (R489). -/
def Hub.rngReseed (h : Hub) : Hub :=
  if h.sec.rng && decide (2 ^ 20 ≤ h.sec.drawn) then h.updSec (fun s => { s with drawn := 0 }) else h

/-- A partition's spill key set is replaced (R491); without the generator it lacks one. -/
def Hub.newSpillKeys (h : Hub) (part : Nat) : Hub :=
  if h.sec.rng then
    let (n, h) := h.draw
    (h.updSec (fun s => { s with keySet := s.keySet.set 0 part (n + 1), keyLack := setBit s.keyLack part false })).event
      0x1307 [.u8 part] part
  else h.updSec (fun s => { s with keyLack := setBit s.keyLack part true })

/-! ### Debug levels (R492, R493) -/

/-- JTAG_UNLOCK MODE 0: a fresh challenge and the serial. Without the generator there is none. -/
def unlockChallenge (h : Hub) : Hub × HodOut :=
  if h.sec.rng then
    let (n, h) := h.draw
    (h.updSec (fun s => { s with challenge := some n, asked := 0 }),
      .ok [.record (padTo 48 (Config.drbg n)), .u64 Config.serial.toNat])
  else (h, .fail .busy)

/-- The bytes that a token signs. -/
def unlockBytes (challenge level dur : Nat) : List Byte :=
  padTo 48 (Config.drbg challenge) ++ leBytes 8 Config.serial.toNat ++ leBytes 1 level ++ leBytes 4 dur

/-- The key that verifies a token: 2 for DK, 0 or 1 for OK0 or OK1, which unlock level 1 only (R480, R493). -/
def Otp.tokenKey (o : Otp) (level : Nat) (msg sig : List Byte) : Option Nat :=
  let by_ (k : Option (List Byte)) : Bool := k.any (fun k => ecdsa k msg sig)
  if by_ o.dk then some 2
  else if level = 1 && by_ o.ok0 then some 0
  else if level = 1 && by_ o.ok1 then some 1
  else none

/-- A level is to take effect at the next boundary. -/
def Hub.setNextLevel (h : Hub) (level dur who key : Nat) : Hub := h.updSec (fun s => { s with next := some (level, dur, who, key) })

/-- JTAG_UNLOCK MODE 1. -/
def unlockLevel (who level dur : Nat) (sig : List Byte) (d : Dev) : Dev × HodOut :=
  match d.hub.sec.challenge with
  | none => (d, .badArg 4)
  | some n =>
    let d := d.onHub (·.updSec (fun s => { s with challenge := none }))
    if level = 0 ∨ 2 < level then (d, .badArg 2)
    else if dur = 0 ∨ 86400 < dur then (d, .badArg 3)
    else if 60000000 < d.hub.sec.asked then (d, .badArg 4)
    else
      match d.otp.tokenKey level (unlockBytes n level dur) sig with
      | none => (d.onHub (·.flag 0x1300000 2), .badArg 4)
      | some k => (d.onHub (·.setNextLevel level dur who k), .wait)

/-- JTAG_UNLOCK (R493, R495). Key 0xFF in event 0x1305 says that no key was used. -/
def jtagUnlockHod (q : HodReq) (mode level dur : Nat) (sig : List Byte) (d : Dev) : Dev × HodOut :=
  if q.who.isVf then (d, .refused)
  else if mode = 0 then
    let (h, o) := unlockChallenge d.hub
    ({ d with hub := h }, o)
  else if mode = 1 then unlockLevel q.who.id level dur sig d
  else if mode = 2 then (d.onHub (·.setNextLevel 0 0 q.who.id 0xFF), .wait)
  else (d, .badArg 1)

/-- DURATION_S has elapsed: the level returns to 0 at the next boundary (R493). -/
def Hub.levelExpiry (h : Hub) : Hub :=
  if h.sec.level ≠ 0 ∧ h.sec.next = none then h.setNextLevel 0 0 0xFF 0xFF else h

/-- A debug level takes effect at a boundary: event 0x1305, and entering or leaving level 2 restarts the core (R493). -/
def Hub.applyLevel (h : Hub) : Hub :=
  match h.sec.next with
  | none => h
  | some (level, dur, who, key) =>
    let old := h.sec.level
    let h := h.updSec (fun s => { s with next := none, level, dur, spent := 0 })
    let h := if old = level then h else h.event 0x1305 [.u8 old, .u8 level, .u8 who, .u8 key]
    let h := if (old == 2) == (level == 2) || h.fw.kiln then h else (h.coreRestart 4 0 false).endSessions 3
    h.finishWait 0x1302 .ok 0 []

/-- Time passes for the challenge and the level: `us` microseconds. -/
def Sec.age (s : Sec) (us : Nat) : Sec :=
  { s with asked := if s.challenge.isSome then s.asked + us else 0, spent := if s.level = 0 then 0 else s.spent + us }

/-- An instruction of the debug port (R492): one that the level does not permit, or that the port does not have, selects
BYPASS. -/
def Hub.jtag (h : Hub) (i : JtagInstr) : Hub :=
  let ok := match i with
    | .bypass | .idcode | .sample => true
    | .extest | .intest => decide (1 ≤ h.sec.level)
    | .debug => h.sec.level == 2
    | .other => false
  let i := if ok then i else .bypass
  let idcode := Config.variant.toNat % 16 * 2 ^ 28 + 0x0A08 * 2 ^ 12 + 0x2B5 * 2 + 1
  let tdo := match i with
    | .idcode => idcode
    | .sample | .extest | .intest => Config.boundaryScan h.free
    | .bypass | .debug | .other => 0
  h.tick.updSec (fun s => { s with jtag := i, tdo })

/-! ### Fuses (R480, R481) -/

/-- One-time-programmable cells with a programming made: a cell never goes back. -/
def Otp.program (o : Otp) : OtpWrite → Otp
  | .revoke k => { o with revoked := o.revoked ||| 2 ^ k.val }
  | .ok0 key => if o.ok0.isNone then { o with ok0 := some (padTo 96 key) } else o
  | .ok1 key => if o.ok1.isNone then { o with ok1 := some (padTo 96 key) } else o
  | .dk key => if o.dk.isNone then { o with dk := some (padTo 96 key) } else o

/-- OTP and fuse programming through the debug port, at level 2 only (R480, R492). -/
def Dev.otpProgram (d : Dev) (w : OtpWrite) : Dev := if d.hub.sec.level = 2 then { d with otp := d.otp.program w } else d

/-! ### Words (R497) -/

/-- SEC.STATUS as it reads: its stored bits, RNG_FAIL and DEBUG. -/
def Hub.secStatus (h : Hub) : Nat :=
  putBits (putBits (h.reg 0x1300000) 5 5 (b2n !h.sec.rng)) 1 1 (b2n (h.sec.level != 0))

/-- SEC.DEBUG: the seconds left, rounded up. -/
def Sec.debugWord (s : Sec) : Nat := s.level * 2 ^ 30 + if s.level = 0 then 0 else divUp (s.dur * 1000000 - s.spent) 1000000

def Hub.portSeal (h : Hub) (x : Nat) : Nat :=
  let ex := (h.port x).ex
  ex.xstate * 2 ^ 28 + ex.lastRej * 2 ^ 16 + b2n ex.auth * 2 ^ 8 + ex.xid

/-- SEC_QUERY (R495). -/
def secQueryHod (q : HodReq) (d : Dev) : Dev × HodOut :=
  let h := d.hub
  if q.who.isVf then (d, .refused)
  else (d, .ok ([.u32 h.secStatus, .u32 d.otp.arb, .u32 h.sec.debugWord, .u32 d.keysWord, .u32 (h.reg 0x1300004),
    .record (padTo 48 Config.deviceCert),
    .record (if h.fw.run.isSome then padTo 48 (Config.aliasCert h.aliasContents) else zeros 48)] ++
    (List.range 8).map (fun x => .u32 (h.portSeal x))))

end Sys2Proof.Machine
end

