-- ==== Sys2Proof/Machine/Recorder.lean ====
section
/-!
DEFINITION. Machine/Recorder.lean: the event recorder's log, clears, views and words (R500 to R519).
-/
namespace Sys2Proof.Machine

def Hub.updEv (h : Hub) (f : Evrec → Evrec) : Hub := { h with ev := f h.ev }

/-! ### Records as bytes (R500, R508) -/

/-- The first 60 bytes of a record, as created. -/
def Rec.body (r : Rec) : List Byte :=
  leBytes 4 r.seq.toNat ++ leBytes 6 r.course.toNat ++ leBytes 4 r.wallOfs.toNat ++ leBytes 1 (r.code / 256) ++
  leBytes 1 r.sev ++ leBytes 2 r.code ++ leBytes 1 r.req ++ leBytes 1 (b2n r.wallValid + 2 * b2n r.cont) ++
  leBytes 1 r.part ++ zeros 7 ++ padTo 32 r.payload

/-- The 64 bytes of a record as its slot reads. -/
def Rec.bytes (r : Rec) : List Byte := r.raw.getD (r.body ++ leBytes 4 (crc32c r.body))

/-- The record's CRC fails (R508). -/
def Rec.suspect (r : Rec) : Bool := r.raw.any (fun b => leNat (slice b 60 4) != crc32c (slice b 0 60))

/-- CLEAR_COUNT of a clear pair (R510); 0 where the list does not begin with one. -/
def clearCountOf (rs : List Rec) : Nat :=
  match rs with
  | r :: _ => if r.code = 0x1401 then leNat (r.payload.take 4) else 0
  | [] => 0

/-- Slots of the log (R503). -/
def logSlots : Nat := 131072

/-! ### Draining (R504, R505, R513) -/

/-- The medium has failed (R513): operation 0 program, 1 erase, 2 read-back. -/
def Hub.logFail (h : Hub) (op ofs : Nat) : Hub :=
  ((h.updEv (fun e => { e with mediaFail := true })).event 0x1406 [.u8 1, .u8 op, .u32 ofs]).faultMet 16

/-- Event 0x1403 in the last slot, in place of the record that would have gone there, which is dropped (R505, R516). -/
def Hub.logFull (h : Hub) (displaced : Rec) : Hub :=
  let h := h.bump (dropCtr (if displaced.part < 8 then displaced.part + 1 else 0))
  let drops := (List.range 9).map (fun s => Arg.u16 (sat 65535 (h.ctr (dropCtr s)).val.toNat))
  let r := h.mkRec 0x1403 drops 0xFF 0xFF
  let h := h.updEv (fun e => { e with log := e.log ++ [r], full := true, seq := Tbl.upd 0 e.seq 0 (· + 1) })
  let h := h.tick
  if h.fld 0x1400004 1 0 ≤ severity 0x1403 then h.irq 0 1 else h

/-- One record programmed and read back. -/
def Hub.drainOne (h : Hub) (r : Rec) (rest : List Rec) : Hub :=
  let h := h.updEv (fun e => { e with shadow := rest, footCount := e.footCount.map (· - 1) })
  if h.ev.log.length + 1 = logSlots then h.logFull r else h.updEv (fun e => { e with log := e.log ++ [r] })

/-- Records drained in creation order until the log is full; the `bad`th programming fails (R513). `n` bounds the number. -/
def Hub.drainN (h : Hub) : Nat → Option Nat → Hub
  | 0, _ => h
  | n + 1, bad =>
    if h.ev.full || h.ev.mediaFail || h.ev.clearing then h
    else
      match h.ev.shadow with
      | [] => h
      | r :: rest =>
        if bad = some 0 then h.logFail 0 (64 * h.ev.log.length)
        else (h.drainOne r rest).drainN n (bad.map (· - 1))

/-- The management core drains the shadow (R504): the core is up. -/
def Hub.logDrain (h : Hub) (bad : Option Nat) : Hub :=
  if h.fw.phase = .up then h.drainN h.ev.shadow.length bad else h

/-! ### Views and reading (R507, R508, R517) -/

/-- The requester sees only the tray-wide records and those of its own partition (R507). -/
def Hub.limited (h : Hub) (who : Requester) : Bool := who.isVf || (who == .debug && decide (h.sec.level < 2))

/-- A record lies in the requester's view. -/
def Hub.sees (h : Hub) (who : Requester) (r : Rec) : Bool :=
  !h.limited who || (!r.suspect && (r.part == 0xFF || (match who with
    | .vf n => r.part == n.val
    | _ => false)))

/-- The requester's view, in log order, records of the shadow last. -/
def Hub.logView (h : Hub) (who : Requester) : List Rec := (h.ev.log ++ h.ev.shadow).filter (h.sees who)

/-- A record as slot `i` reads at the `n`th free value. -/
def Rec.aged (r : Rec) (n i : Nat) : Rec :=
  match Config.slotRead n i with
  | none => r
  | some b => { r with raw := some (padTo 64 b) }

/-- The log's slots as they read now. -/
def Hub.logAged (h : Hub) : Hub :=
  h.tick.updEv (fun e => { e with log := e.log.mapIdx (fun i r => r.aged h.free i) })

/-- LOG_READ. -/
def logReadHod (q : HodReq) (start count : Nat) (h : Hub) : Hub × HodOut :=
  if count = 0 ∨ 63 < count then (h, .badArg 2)
  else if h.ev.clearing then (h, .fail .busy)
  else
    let h := h.logAged
    let v := h.logView q.who
    let rs := (v.drop start).take count
    let sus := (List.range rs.length).foldl (fun a j => a + b2n ((rs[j]?).any Rec.suspect) * 2 ^ j) 0
    (h.flagIf (sus != 0) 0x1400000 1, .ok [.u32 v.length, .u64 sus, .block (rs.flatMap Rec.bytes)])

/-- LOG_STATUS. -/
def logStatusHod (q : HodReq) (h : Hub) : Hub × HodOut :=
  let drop (s : Nat) := (h.ctr (dropCtr s)).val.toNat
  let own := match q.who with
    | .vf n => drop (n.val + 1)
    | _ => if h.limited q.who then 0 else (List.range 8).foldl (fun a p => a + drop (p + 1)) 0
  (h, .ok [.u32 (h.logView q.who).length, .u32 h.ev.clearCount, .u16 (if h.limited q.who then 0 else h.ev.shadow.length),
    .u8 (b2n h.ev.full + 2 * b2n h.ev.mediaFail + 4 * b2n h.ev.clearing), .u64 (drop 0), .u64 own])

/-! ### Clears (R509 to R513) -/

/-- The clear pair (R510). -/
def Hub.clearPair (h : Hub) (who count : Nat) (digest : List Byte) : List Rec :=
  let a := h.mkRec 0x1401 [] 0xFF who
  let b := h.mkRec 0x1402 [] 0xFF who
  [{ a with payload := leBytes 4 count ++ leBytes 1 who ++ zeros 11 ++ slice digest 0 16 },
   { b with seq := a.seq + 1, cont := true, payload := slice digest 16 32 }]

/-- The drop counters return to 0 at the end of a clear, but for the records dropped during it (R506, R512). -/
def Hub.resetDrops (h : Hub) : Hub :=
  let h := (List.range 9).foldl (fun h s =>
    { h with ctrs := h.ctrs.set {} (dropCtr s) { val := (h.ctr (dropCtr s)).val - h.ev.dropsAt.getD s 0 } }) h
  h.updEv (fun e => { e with dropsAt := [] })

/-- A step of a clear fails (R513): the flash records count as erased, and the shadow is headed by the clear pair. Its newest
records are dropped where the pair leaves no room for them. -/
def Hub.clearFailed (h : Hub) (op ofs : Nat) : Hub :=
  let all := h.ev.clearPair ++ h.ev.shadow
  let was := h.ev.mediaFail
  let h := (h.updEv (fun e => { e with
    log := [], shadow := all.take 64, clearing := false, clearPair := [], mediaFail := true
    footCount := e.footCount.map (fun _ => min 64 all.length) })).resetDrops
  let h := (all.drop 64).foldl (fun h r => h.bump (dropCtr (if r.part < 8 then r.part + 1 else 0))) h
  if was then h else (h.event 0x1406 [.u8 1, .u8 op, .u32 ofs]).faultMet 16

/-- Steps 1 to 3 of a clear (R509): draining stops, the pair is formed and written to the journal copy not in force, and,
once its read-back has passed, the shadow records that the digest covers are discarded. -/
def Hub.clearStart (h : Hub) (who : Nat) : Hub :=
  let digest := sha384 ((h.ev.log ++ h.ev.shadow).flatMap Rec.bytes)
  let count := h.ev.clearCount + 1
  let pair := h.clearPair who count digest
  let ok := Config.flashOk h.free
  let h := h.tick.updEv (fun e => { e with
    full := false, clearing := true, clearPair := pair, clearCount := count
    dropsAt := (List.range 9).map (fun s => (h.ctr (dropCtr s)).val)
    shadow := if ok then [] else e.shadow, footCount := if ok then e.footCount.map (fun _ => 0) else e.footCount
    seq := Tbl.upd 0 e.seq 0 (· + 2) })
  let h := if h.fld 0x1400004 1 0 ≤ 1 then (h.irq 0 1).irq 0 1 else h
  if ok then h.updEv (fun e => if e.inForceB then { e with journalA := pair, inForceB := false }
    else { e with journalB := pair, inForceB := true })
  else h

/-- LOG_CLEAR (R509, R510, R512). -/
def logClearHod (q : HodReq) (h : Hub) : Hub × HodOut :=
  if h.ev.clearing then (h, .fail .busy)
  else if h.ev.clearCount = 0xFFFFFFFF then (h, .fail .noResource)
  else
    let ok := Config.flashOk h.free
    let h := h.clearStart q.who.id
    if ok then (h, .wait) else (h.clearFailed 0 (0x800000 + b2n (!h.ev.inForceB) * 4096), .fail .media)

/-- Steps 5 and 6: the pair heads the log, the drop counters return to 0, and the medium, if it had failed, counts as
restored. -/
def Hub.clearDone (h : Hub) (pair : List Rec) : Hub :=
  let was := h.ev.mediaFail
  let h := (h.updEv (fun e => { e with log := pair, clearing := false, clearPair := [], mediaFail := false })).resetDrops
  if was then h.event 0x1406 [.u8 0, .u8 1, .u32 0] else h

/-- The sector erases end, and the pair is programmed and read back (R509). -/
def Hub.eraseComplete (h : Hub) (ok : Bool) : Hub :=
  if h.ev.clearing then
    if ok then (h.clearDone h.ev.clearPair).finishWait 0x1402 .ok 0 []
    else (h.clearFailed 1 0).finishWait 0x1402 .media 0 []
  else h

/-- The journal copy in force. -/
def Evrec.journal (e : Evrec) : List Rec := if e.inForceB then e.journalB else e.journalA

/-- The boot check (R511): a clear that reached its journal and not the head of the log is finished. On a failed medium nothing
is written but for a clear that was in progress (R513). -/
def Hub.bootCheck (h : Hub) : Hub :=
  let j := h.ev.journal
  if (!h.ev.mediaFail || h.ev.clearing) && !j.isEmpty && decide (clearCountOf h.ev.log < clearCountOf j) then
    let ok := Config.flashOk h.free
    let h := h.tick.updEv (fun e => { e with clearing := true, clearPair := j })
    h.eraseComplete ok
  else h

/-! ### Wall time (R514) -/

/-- A new wall reference: cause 0 written, 1 advanced. -/
def Hub.setWall (h : Hub) (v : Nat) (cause : Nat) : Hub :=
  (h.tick.updEv (fun e => { e with wallRef := some (BitVec.ofNat 64 v) })).event 0x1404 [.u64 v, .u8 cause]

/-- WALL_OFS has reached 2^31. -/
def Hub.wallWrap (h : Hub) : Hub :=
  match h.ev.wallRef with
  | none => h
  | some v => h.setWall ((v.toNat + 2 ^ 31) % 2 ^ 64) 1

/-! ### Words (R518, R519) -/

def Hub.evStatus (h : Hub) : Nat :=
  h.reg 0x1400000 % 4 + b2n h.ev.clearing * 4 + b2n h.ev.mediaFail * 8 + b2n h.ev.full * 16

end Sys2Proof.Machine
end

