-- ==== Sys2Proof/Machine/Sensing.lean ====
section
/-!
DEFINITION. Machine/Sensing.lean: the scanning ADC and its sample words, calibration and converter faults, the die
monitors and the sensing hods (R339 to R356).
-/
namespace Sys2Proof.Machine

/-- SENSE.CH_CFG[k]. -/
def adcCfg (k : Nat) : Nat := 0xE00100 + 4 * k

/-- A fixed channel (R339). -/
def adcFixed (k : Nat) : Bool := (decide (24 ≤ k) && decide (k ≤ 31)) || k == 42 || k == 46 || k == 47

/-- Enable, gain and filter of a channel under a configuration. -/
def adcEn (cfg : Nat → Nat) (k : Nat) : Bool := adcFixed k || (cfg (adcCfg k)).testBit 31
def adcGain (cfg : Nat → Nat) (k : Nat) : Nat := bits (cfg (adcCfg k)) 5 3
def adcFilter (cfg : Nat → Nat) (k : Nat) : Nat := bits (cfg (adcCfg k)) 1 0

/-- The invalid samples of a visit and their reason, after the previous visit's gain and filter (R344). -/
def settle (gain filter gain' filter' : Nat) : Nat × Nat :=
  if filter ≠ filter' then (4, 3) else if gain ≠ gain' then (3, 2) else (2, 1)

/-- The sample period of a filter in µs (R340). -/
def filterUs (f : Nat) : Nat := 40 * 4 ^ f

/-- The scan time of a configuration in µs (R341, R344). -/
def scanUs (cfg : Nat → Nat) : Nat :=
  let n := bits (cfg 0xE00004) 2 0 + 1
  ((List.range 48).filter (adcEn cfg)).foldl (fun (a : Nat × Nat × Nat) k =>
    let g := adcGain cfg k
    let f := adcFilter cfg k
    (a.1 + ((settle a.2.1 a.2.2 g f).1 + n) * filterUs f, g, f)) (0, 0, 0) |>.1

/-- The sensing configuration that `cfg` would put in effect may take effect (R342). -/
def senseSetOk (cfg : Nat → Nat) : Bool := decide (scanUs cfg ≤ 8500)

/-! ### The scan (R341 to R345) -/

def Hub.adcCh (h : Hub) (k : Nat) : AdcCh := Tbl.get {} h.sense.adc k

def Hub.updAdc (h : Hub) (k : Nat) (f : AdcCh → AdcCh) : Hub :=
  { h with sense := { h.sense with adc := h.sense.adc.upd {} k f } }

/-- The visit of a channel after one with the given gain and filter. -/
def Hub.visitOf (h : Hub) (k gain filter : Nat) : Visit :=
  let g := adcGain h.reg k
  let f := adcFilter h.reg k
  let s := settle gain filter g f
  { ch := k, invalid := s.1, reason := s.2, valid := h.fld 0xE00004 2 0 + 1, gain := g, filter := f }

/-- A frame starts (R341): its first visit counts channel 47 at gain 1 and FILTER 0 as its predecessor (R344). -/
def Hub.scanFrame (h : Hub) : Hub :=
  match (List.range 48).filter (adcEn h.reg) with
  | [] => h
  | k :: rest => { h with sense := { h.sense with visit := some (h.visitOf k 0 0), queue := rest, clean := true } }

/-- A word of a channel, mirrored to the base die while that is out of reset (R343, R348). -/
def Hub.mirrorWord (h : Hub) (k : Nat) (valid : Bool) (reason value : Nat) : Hub :=
  let seq := (h.adcCh k).seq + 1
  let w := b2n valid * 2 ^ 31 + reason * 2 ^ 28 + k * 2 ^ 22 + seq.toNat * 2 ^ 16 + value % 65536
  let ts := h.stamp
  let h := (h.updAdc k (fun c => { c with seq })).tick
  let h := if !h.up then h else { h with sense := { h.sense with mirror := h.sense.mirror.upd {} k (fun m =>
    if valid then { word := w, valid := w, ts := BitVec.ofNat 64 ts } else { m with word := w }) } }
  if valid then h else h.bump 0xE00018

/-- A valid reading reaches its consumers: the diode actions of R285, the NTC of R300, the ropes' thresholds apart. -/
def Hub.useReading (h : Hub) (k : Nat) (v : Int) : Hub :=
  if 8 ≤ k ∧ k < 24 then h.diodeCheck ((k - 8) / 2)
  else if 32 ≤ k ∧ k < 42 then h.ntcRead (k - 32) v
  else h

/-- The fault ends once a calibration has succeeded and a full scan has had no reason-7 word (R347). -/
def Hub.endFault (h : Hub) : Hub :=
  if !h.sense.fault && h.sense.faultCal && h.sense.clean then
    let was := h.sense.adcFault
    let h := { h with sense := { h.sense with adcFault := false, faultCal := false } }
    if was then h.event 0x0E01 [.u8 0, .u8 0] else h
  else h

/-- The word of a conversion: its reason and its value (R343 to R345). -/
def wordOf (v : Visit) (fault : Bool) (s : Sample) : Nat × Nat :=
  let reason := if fault then 7 else if v.invalid = 0 then (if 4 ≤ s.reason ∧ s.reason ≤ 6 then s.reason else 0) else v.reason
  (reason, if reason = 6 then (if s.raw.toNat < 32768 then 0x7FFF else 0x8000)
    else if reason = 0 ∨ reason = 4 ∨ reason = 5 then s.raw.toNat else 0)

/-- What a word leads to: a valid reading reaches its consumers, and an NTC that reads open or short fails (R305). -/
def Hub.useWord (h : Hub) (k reason : Nat) (settled : Bool) (s : Sample) : Hub :=
  let h := if settled || reason == 7 then
      h.updAdc k (fun c => { c with last := reason, reading := if reason = 0 then some s.reading else c.reading })
    else h
  if reason = 0 then h.useReading k s.reading
  else if (reason = 4 ∨ reason = 5) ∧ 32 ≤ k ∧ k < 42 then h.ntcBad (k - 32) reason
  else h

/-- The visit after a word, or the next visit, or the end of the frame's scan (R341). -/
def Hub.nextVisit (h : Hub) (v : Visit) : Hub :=
  if v.invalid ≠ 0 then { h with sense := { h.sense with visit := some { v with invalid := v.invalid - 1 } } }
  else if 1 < v.valid then { h with sense := { h.sense with visit := some { v with valid := v.valid - 1 } } }
  else match h.sense.queue with
    | k :: rest => { h with sense := { h.sense with visit := some (h.visitOf k v.gain v.filter), queue := rest } }
    | [] => ({ (h.bump 0xE00010) with sense := { h.sense with visit := none } } : Hub).endFault

/-- The next conversion of the visit in progress (R343 to R345, R347). A sample of reason 7 is a converter fault found
during it. -/
def Hub.convert (h : Hub) (s : Sample) : Hub :=
  match h.sense.visit with
  | none => h
  | some v =>
    let fault := h.sense.fault || s.reason == 7
    let h := if fault then { h with sense := { h.sense with fault := true, faultCal := false, clean := false } } else h
    let w := wordOf v fault s
    let h := h.mirrorWord v.ch (w.1 == 0) w.1 w.2
    (h.useWord v.ch w.1 (v.invalid == 0) s).nextVisit v

/-- A calibration against channels 46 and 47 in a frame's reserved time (R346): its words carry reason 7; a result outside
the fused tolerance keeps the old coefficients. -/
def Hub.calibrate (h : Hub) (ok : Bool) (ofs gain : Int) : Hub :=
  if h.sense.visit.isSome then h
  else
    let h := (h.mirrorWord 46 false 7 0).mirrorWord 47 false 7 0
    let h := if !ok then (h.flag 0xE00000 2).event 0x0E02 [.u16 (unsigned 16 ofs), .u16 (unsigned 16 gain)]
      else if h.sense.fault then { h with sense := { h.sense with fault := false, faultCal := true } }
      else h
    h.finishWait 0x0E02 .ok 0 []

/-- An input fails, and the diode pair it belongs to is judged again (R286, R326, R328). -/
def Hub.loseInput (h : Hub) (i code : Nat) : Hub :=
  let h := h.failInput i code
  if 8 ≤ i ∧ i < 24 then h.diodeCheck ((i - 8) / 2) else h

/-- A converter fault has lasted 50 ms (R347): every input read by the converter counts as failed. -/
def Hub.adcFaultTimeout (h : Hub) : Hub :=
  if h.sense.fault ∧ !h.sense.adcFault then
    let h := ({ h with sense := { h.sense with adcFault := true } } : Hub).event 0x0E01 [.u8 1, .u8 0]
    let h := h.faultMet 11
    (List.range 26).foldl (fun h i => h.loseInput i 7) h
  else h

/-- An input has read open or short for 100 ms (R326, R328). -/
def Hub.sensorFault (h : Hub) (i : Nat) : Hub :=
  let r := (h.adcCh i).last
  if i < 26 ∧ (r = 4 ∨ r = 5) then (h.loseInput i r).faultMet 11 else h

/-- A failed input has read in range for 1 s (R326, R328). -/
def Hub.sensorRestore (h : Hub) (i : Nat) : Hub :=
  if i < 26 ∧ (h.adcCh i).last = 0 then
    let h := h.restoreInput i
    if 8 ≤ i ∧ i < 24 then h.diodeCheck ((i - 8) / 2) else h
  else h

/-! ### Die monitors (R350 to R352) -/

def Hub.dts (h : Hub) (m : Nat) : Dts := Tbl.get {} h.sense.dts m
def Hub.updDts (h : Hub) (m : Nat) (f : Dts → Dts) : Hub :=
  { h with sense := { h.sense with dts := h.sense.dts.upd {} m f } }

/-- A die sensor fails (R350, R328). -/
def Hub.dtsFail (h : Hub) (m cause : Nat) : Hub :=
  if m < 32 ∧ !(h.dts m).fail then
    ((((h.updDts m (fun d => { d with fail := true })).flag 0xE00000 3).event 0x0E04 [.u8 m, .u8 (cause + 1)]).faultMet 11).failInput 26 7
  else h

/-- The sensors read, and those in `back` have read in range for 1 s after failing (R350). -/
def Hub.dtsUpdate (h : Hub) (rs : List Int) (back : Nat) : Hub :=
  let h := (List.range 32).foldl (fun h m =>
    let h := h.updDts m (fun d => { d with reading := rs.getD m d.reading })
    if back.testBit m && (h.dts m).fail then
      (h.updDts m (fun d => { d with fail := false })).event 0x0E04 [.u8 m, .u8 0]
    else h) h
  if (List.range 32).any (fun m => (h.dts m).fail) then h else h.restoreInput 26

def Hub.vmon (h : Hub) (v : Nat) : Vmon := Tbl.get {} h.sense.vmon v

/-- SENSE.VMON_LIM's window: low and high. -/
def Hub.vmonLim (h : Hub) (v : Nat) : Nat × Nat := (h.fld (0xE00700 + 4 * v) 15 0, h.fld (0xE00700 + 4 * v) 31 16)

/-- Every monitor reads and keeps its extremes (R351). -/
def Hub.vmonSample (h : Hub) (rs : List Nat) : Hub :=
  (List.range 24).foldl (fun h v =>
    let lim := h.vmonLim v
    { h with sense := { h.sense with vmon := h.sense.vmon.upd {} v (fun k =>
      let mv := rs.getD v k.mv % 65536
      { mv, ext := some (match k.ext with | none => (mv, mv) | some e => (min e.1 mv, max e.2 mv))
        out := k.out && (decide (mv < lim.1) || decide (lim.2 < mv)) }) } }) h

/-- A reading has been outside its window for 100 µs (R351). -/
def Hub.vmonExcursion (h : Hub) (v : Nat) : Hub :=
  let k := h.vmon v
  let lim := h.vmonLim v
  if v < 24 ∧ k.out = false ∧ (k.mv < lim.1 ∨ lim.2 < k.mv) then
    let h := { h with sense := { h.sense with vmon := h.sense.vmon.upd {} v (fun k => { k with out := true }) } }
    (h.flag 0xE00000 4).eventOnce 0x0E03 v [.u8 v, .u16 k.mv, .u16 (if k.mv < lim.1 then lim.1 else lim.2)]
  else h

def Hub.pmon (h : Hub) (r : Nat) : Pmon := Tbl.get {} h.sense.pm r
def Hub.updPm (h : Hub) (r : Nat) (f : Pmon → Pmon) : Hub :=
  { h with sense := { h.sense with pm := h.sense.pm.upd {} r f } }

/-- An integer within `±top`. -/
def clampInt (top v : Int) : Int := max (-top) (min top v)

/-- The count of every monitor: normalised frequency in kHz and shortfall in ppm (R352). AGE_PPM is the mean shortfall of
the last 24 hours, 8,640 counts. -/
def Hub.pmCount (h : Hub) (cs : List (Nat × Int)) : Hub :=
  (List.range 16).foldl (fun h r =>
    let c := cs.getD r (0, 0)
    let k := h.pmon r
    let counts := (c.2 :: k.counts).take 8640
    let age := clampInt 32767 (counts.sum / (counts.length : Nat))
    let h := h.updPm r (fun k => { k with khz := c.1 % 2 ^ 24, counts, age, warned := decide ((h.fld 0xE00004 31 16 : Int) < age) })
    if (h.pmon r).warned && !k.warned then
      (h.flag 0xE00000 5).event 0x0E05 [.u8 r, .u16 (unsigned 16 age), .u16 (unsigned 16 k.trend)]
    else h) h

/-- The least-squares slope over stored days, in ppm per 1,000 h, rounded down (R352). -/
def slope (ys : List Int) : Int :=
  let n : Int := (ys.length : Nat)
  let xs := (List.range ys.length).map (fun (x : Nat) => (x : Int))
  let sx := xs.sum
  let sxx := (xs.map (fun x => x * x)).sum
  let sxy := (List.zipWith (· * ·) xs ys).sum
  (n * sxy - sx * ys.sum) * 1000 / ((n * sxx - sx * sx) * 24)

/-- TREND over stored days (R352): 0 until 7 are stored. -/
def trendOf (days : List Int) : Int := if 7 ≤ days.length then clampInt 16383 (slope days) else 0

/-- The daily averages are stored (R352): at most 64, the oldest dropped first. -/
def Hub.pmStore (h : Hub) : Hub :=
  (List.range 16).foldl (fun h r =>
    h.updPm r (fun k =>
      let days := (k.days ++ [k.age]).drop (k.days.length + 1 - 64)
      { k with days, trend := trendOf days })) h

/-- What a start of the base die restores of a monitor: its stored days, and TREND over them (R352). -/
def Pmon.stored (k : Pmon) : Pmon := { days := k.days, trend := trendOf k.days }

/-! ### Words of the registers and hods (R353, R354) -/

def Dts.word (d : Dts) : Nat := b2n d.fail * 65536 + unsigned 16 d.reading
def Vmon.extWord (k : Vmon) : Nat := match k.ext with | none => 0 | some e => e.2 * 65536 + e.1
def Pmon.word (k : Pmon) : Nat :=
  b2n (decide (7 ≤ k.days.length)) * 2 ^ 31 + unsigned 15 k.trend * 65536 + unsigned 16 k.age
def Hub.mirrorOf (h : Hub) (k : Nat) : Mirror := Tbl.get {} h.sense.mirror k

def senseReadHod (q : HodReq) (mask : Nat) (h : Hub) : Hub × HodOut :=
  if q.who.isVf then (h, .refused)
  else (h, .ok ((onesBelow 48 mask).flatMap fun k =>
    [.u32 (h.mirrorOf k).word, .u32 (h.mirrorOf k).valid, .u64 (h.mirrorOf k).ts.toNat]))

def senseCalHod (q : HodReq) (h : Hub) : Hub × HodOut :=
  if q.who.isVf then (h, .refused)
  else if h.hods.waiting.any (fun r => r.op == 0x0E02) then (h, .fail .busy)
  else (h, .wait)

def monReadHod (q : HodReq) (h : Hub) : Hub × HodOut :=
  if q.who.isVf then (h, .refused)
  else (h, .ok ((List.range 32).map (fun m => Arg.u32 (h.dts m).word) ++
    (List.range 24).flatMap (fun v => [Arg.u32 (h.vmon v).mv, .u32 (h.vmon v).extWord]) ++
    (List.range 16).flatMap (fun r => [Arg.u32 (h.pmon r).khz, .u32 (h.pmon r).word])))

end Sys2Proof.Machine
end

