-- ==== Sys2Proof/Machine/Views.lean ====
section
/-!
DEFINITION. Machine/Views.lean: what the read-only registers and the 64-bit pairs of every block read as.
-/
namespace Sys2Proof.Machine


/-- The index of an offset among `n` registers at `base` with a stride. -/
def arrIx (a base n stride : Nat) : Option Nat :=
  if base ≤ a ∧ a < base + n * stride ∧ (a - base) % stride = 0 then some ((a - base) / stride) else none

/-! ### Domains (R309) -/

/-- Domain d is on and usable: an octet once a training attempt has brought it into service. -/
def Hub.domainOn (h : Hub) (d : Nat) : Bool :=
  if d < 64 then
    let p := h.port (d / 8)
    h.bitAt (portReg (d / 8) 0) 0 && (p.st == .active || p.st == .retrain || p.st == .sealSync) && p.active.toNat.testBit (d % 8)
  else if d < 128 then
    let g := h.groupPower (d - 64)
    g != .off && g != .starting
  else if d < 152 then h.mortar.on.testBit (d - 128)
  else if d < 154 then h.smp.on.testBit (d - 152)
  else if d < 162 then h.sealWanted (d - 154) && (h.port (d - 154)).sealUp
  else if d < 170 then h.tile.chPresent.testBit (d - 162) && !h.tile.memFail
  else d == 170 && (h.bus.sleep == .awake || h.bus.sleep == .entering)

/-! ### The words of each block -/

def Hub.viewTop (h : Hub) (a : Nat) : Nat :=
  match a with
  | 0x100010 => h.offsetNow
  | 0x100014 => h.crs.lateRun * 256 + b2n h.rack.local_ * 16 + b2n h.rack.aligned * 8 + bits (h.reg a) 2 1 * 2 + b2n h.crs.prevLate
  | 0x100020 => if h.rack.role == .worker || h.rack.role == .standby then unsigned 32 h.rack.ofs else 0
  | 0x100030 => h.hubTherm
  | 0x100038 => h.clkStatus
  | 0x10003C => h.therm.straps.word
  | _ => h.reg a

/-- LINK.PORT_STATUS (R96). -/
def Hub.portStatus (h : Hub) (x : Nat) : Nat :=
  let p := h.port x
  p.st.code * 2 ^ 28 + octets p.active * 2 ^ 24 + b2n p.fec * 2 ^ 23 + b2n p.sealed * 2 ^ 22 + b2n p.cblB * 2 ^ 21 +
  b2n p.cblA * 2 ^ 20 + p.lastFail * 2 ^ 8 + min 15 p.attempts * 2 ^ 4 + bits (h.reg (portReg x 8)) 3 2 * 4

def Hub.viewLink (h : Hub) (a : Nat) : Nat :=
  if a = 0x200000 then
    maskOf 8 (fun x => (h.port x).fenced) * 256 + maskOf 8 (fun x => (h.port x).st == .active)
  else
    let x := (a - 0x201000) / 0x1000
    let p := h.port x
    match (a - 0x201000) % 0x1000 with
    | 0x08 => h.portStatus x
    | 0x0C => p.retired.toNat * 256 + p.active.toNat
    | 0x14 => b2n p.overdue * 8 + b2n p.rxSlot * 4 + b2n p.txSlot * 2 + b2n p.sealed
    | o => match arrIx o 0x50 6 4 with
      | some vc => Tbl.get 0 p.advert vc * 65536 + Tbl.get 0 p.credit vc
      | none => h.reg a

def Hub.viewXbar (h : Hub) (a : Nat) : Nat :=
  match arrIx a 0x302000 256 4 with
  | some i => maskOf 32 (fun j => h.latency (32 * i + j))
  | none => h.reg a

/-- TILE.OWNER.STATE: every tile of a group that is OFF, or not yet ON again, reads UNPOWERED (R142). -/
def Hub.tileCode (h : Hub) (n : Nat) : Nat :=
  match h.groupPower (tileGroup n) with
  | .off | .starting => TileState.unpowered.code
  | _ => (h.tileAt n).st.code

def Hub.viewTile (h : Hub) (a : Nat) : Nat :=
  if a = 0x400000 then putBits (h.reg a) 2 2 (b2n (h.tile.tile.any fun e => e.2.repair || e.2.await))
  else if a = 0x40000C then h.leaseUsed
  else match arrIx a 0x400140 8 4 with
    | some p => (h.frameCounts p).2 * 65536 + (h.frameCounts p).1
    | none => match arrIx a 0x400200 768 4 with
      | some n => b2n (h.tileAt n).repair * 256 + h.tileCode n * 16 + h.ownerReg n
      | none => h.reg a

def Hub.viewSpill (h : Hub) (a : Nat) : Nat :=
  match a with
  | 0x50000C => bits (h.reg a) 9 9 * 512 + b2n h.tile.memFail * 256 + h.tile.chPresent
  | 0x500010 => h.tile.spillFrames - h.usedSpill.length
  | _ => h.reg a

/-- MORTAR.ST_STATUS and SMP.ST_STATUS. -/
def Rotation.word (r : Rotation) : Nat :=
  b2n (r.phase != .none) * 2 ^ 31 + b2n r.paused * 2 ^ 30 + min 255 r.skips * 256 + r.unit

def Hub.viewMortar (h : Hub) (a : Nat) : Nat :=
  match a with
  | 0x600008 => h.mortar.failed
  | 0x60000C => h.mortar.st.word
  | 0x600014 => h.mortar.load * 65536 + h.mortar.colls.length
  | _ => h.reg a

/-- A step or a hod waits on a self-test slice (R206). -/
def Dev.sliceWaits (d : Dev) : Bool :=
  d.hub.smp.inSlice && (decide (0 < d.hub.smp.hodsHeld) || !d.openersHeld.isEmpty)

/-- SMP.ST_STATUS: in slicing the one sampler that is up is the one under test (R202, R206). -/
def Hub.smpTestWord (h : Hub) : Nat :=
  match h.smpsUp with
  | [s] => b2n h.smp.inSlice * 2 ^ 31 + min 255 h.smp.st.skips * 256 + s
  | _ => { h.smp.st with paused := false }.word

def Dev.viewSmp (d : Dev) (a : Nat) : Nat :=
  let h := d.hub
  match a with
  | 0x700004 => h.smp.failed * 64 + b2n h.slicing * 32 + b2n d.sliceWaits * 16 + b2n h.smpsUp.isEmpty * 8 + h.reg a % 8
  | 0x700008 => h.smpTestWord
  | 0x70000C => h.smp.sets 1 * 2 ^ 24 + h.smp.sets 0 * 2 ^ 16 + h.smp.open_ 1 * 2 ^ 8 + h.smp.open_ 0
  | _ => h.reg a

/-- STREAM.CTX_STATE of a stream (R230). -/
def Hub.ctxState (h : Hub) (s : Nat) : Nat :=
  let c := h.stream s
  c.st.code * 2 ^ 29 + b2n (h.latency s) * 2 ^ 28 + b2n c.hot * 2 ^ 27 + (h.streamPart s).getD 0 * 2 ^ 24 +
  c.queue.getD 0 * 2 ^ 16 + c.reason * 2 ^ 8

def JobState.code : JobState → Nat
  | .none => 0 | .running => 1 | .ending => 2

def Hub.queueStatus (h : Hub) (q : Nat) : Nat :=
  b2n (!h.stagesUp q) * 2 ^ 31 + b2n (!h.jobRunning (h.queuePart q)) * 2 ^ 30 + (h.queue q).length * 2 ^ 16 +
  (h.runningOn q).length

def Hub.viewStream (h : Hub) (a : Nat) : Nat :=
  match a with
  | 0x800000 => putBits (h.reg a) 3 3 (b2n h.str.jobBoundary)
  | 0x800008 => (h.str.strm.filter (·.2.pinned)).length * 65536 + (h.str.strm.filter (·.2.hot)).length
  | 0x80000C => maskOf 8 (fun p => h.jobState p == .ending) * 256 + maskOf 8 (fun p => h.jobState p == .running)
  | 0x801004 => h.ctxState (h.reg 0x801000)
  | _ => match arrIx a 0x800080 8 4 with
    | some p => (h.jobState p).code * 2 ^ 30
    | none => match arrIx a 0x8000A0 8 4 with
      | some p => Tbl.get 0 h.str.jobNum p
      | none => match arrIx a 0x800300 64 4 with
        | some q => h.queueStatus q
        | none => h.reg a

/-- BARRIER.OBJ_STATE, OBJ_P and OBJ_C of the selected object (R253); a FREE object shows ALIGN 0xFFFF. -/
def Hub.barView (h : Hub) (i o : Nat) : Nat :=
  let p := (h.barPart i).getD 0
  match h.bar i with
  | none => if o = 4 then p * 2 ^ 24 + 0xFFFF else 0
  | some b =>
    if o = 8 then b.arrived else if o = 12 then b.total
    else (if b.waiting then 2 else 1) * 2 ^ 30 + b2n ((List.range 8).any (fun x => decide (0 < b.e x) && h.unavail x p)) * 2 ^ 29 + p * 2 ^ 24 +
      b.phase.toNat % 256 * 2 ^ 16 + b.align

def Hub.talView (h : Hub) (i o : Nat) : Nat :=
  let p := (h.talPart i).getD 0
  match h.tal i with
  | none => if o = 4 then p * 2 ^ 24 + 0xFFFF else 0
  | some t =>
    if o = 8 then t.p else if o = 12 then t.c
    else (if t.error then 2 else 1) * 2 ^ 30 + b2n (h.unavail t.prod p || h.unavail t.cons p) * 2 ^ 29 +
      b2n t.le.isSome * 2 ^ 28 + b2n t.ge.isSome * 2 ^ 27 + p * 2 ^ 24 + t.alignBar

def Hub.viewBarrier (h : Hub) (a : Nat) : Nat :=
  if 0x901004 ≤ a then
    let s := h.reg 0x901000
    if s.testBit 31 then h.talView (bits s 13 0) (a - 0x901000) else h.barView (bits s 11 0) (a - 0x901000)
  else h.reg a

/-- PWRGOV.ACC_STATUS (R290). -/
def Hub.govStatus (h : Hub) (x : Nat) : Nat :=
  let g := h.acc x
  b2n g.ident.verified * 2 ^ 31 + b2n g.stale * 2 ^ 30 + b2n g.latency * 2 ^ 29 + b2n g.critical * 2 ^ 28 +
  b2n h.hs.stop * 2 ^ 27 + b2n (h.throtWire x) * 2 ^ 26 + min 255 g.staleRun * 2 ^ 16 + g.phase * 2 ^ 8 + min 255 g.badTelem

def Hub.viewAcc (h : Hub) (x o : Nat) : Nat :=
  let g := h.acc x
  match o with
  | 0x004 => h.govStatus x
  | 0x008 => g.last * 65536 + h.reasonNow x
  | 0x00C => h.grantReg x
  | _ => match arrIx o 0x400 64 4 with
    | some w => leNat ((g.ceil.drop (4 * w)).take 4 |>.map (BitVec.ofNat 8))
    | none => h.reg (accReg x o)

def Hub.viewGov (h : Hub) (a : Nat) : Nat :=
  match a with
  | 0xA00010 => b2n (decide (0 < h.gov.rounds)) * 2 ^ 31 + h.gov.rounds * 2 ^ 16 + min 65535 h.gov.rc
  | 0xA0001C => putBits (h.reg a) 3 3 (b2n (h.poweredAll.any (fun x => (h.acc x).stale)))
  | 0xA00020 => min 65535 h.gov.budget * 65536 + min 65535 h.gov.cap
  | _ => if 0xA01000 ≤ a then h.viewAcc ((a - 0xA01000) / 0x1000) ((a - 0xA01000) % 0x1000) else h.reg a

/-- HOTSWAP.CH_STATUS (R313). -/
def Hub.chStatus (h : Hub) (c : Nat) : Nat :=
  let k := h.hsCh c
  k.st.code * 2 ^ 28 + k.cause * 2 ^ 24 + k.retries * 2 ^ 21 + b2n (k.st == .on) * 2 ^ 20 + b2n k.seatA * 2 ^ 19 +
  b2n k.seatB * 2 ^ 18 + b2n (decide (c < 8) && h.bus.sled.testBit c) * 2 ^ 17 + b2n k.ntcFault * 2 ^ 16

def Hub.viewHs (h : Hub) (a : Nat) : Nat :=
  match a with
  | 0xB00008 => (if h.hs.step < 3 then 0 else h.nextSlot.getD 0xF) * 16 + b2n (h.hs.up || !h.hs.down.isEmpty) * 8 + h.hs.step
  | 0xB0000C => h.hs.vbus
  | _ => match arrIx a 0xB00010 6 4 with
    | some k => maskOf 32 (fun j => h.domainOn (32 * k + j))
    | none =>
      let c := (a - 0xB01000) / 0x1000
      if a = hsReg c 0x10 then h.chStatus c
      else if a = hsReg c 0x14 then (h.hsCh c).cur * 65536 + (h.hsCh c).vsrc
      else h.reg a

/-- COOL.TEMP of an input: its FAULT bit and its last reading. -/
def Hub.tempWord (h : Hub) (i : Nat) : Nat :=
  let v := if i = 26 then h.hubTj else (Tbl.get ({} : AdcCh) h.sense.adc i).reading.getD 0
  b2n (h.inputFault i) * 65536 + unsigned 16 v

def Hub.viewCool (h : Hub) (a : Nat) : Nat :=
  match a with
  | 0xC00000 => b2n h.shdn * 128 + b2n h.cool.hostSilent * 64 + b2n h.cool.fanFail * 32 + h.reg a % 32
  | 0xC00004 => b2n h.cool.liquid * 4 + h.cool.critSel
  | 0xC0000C => h.cool.fault
  | _ => match arrIx a 0xC00090 8 4 with
    | some z => (h.zone z).target / permille * 2 ^ 22 + b2n (h.zone z).full * 2 ^ 21 + b2n (h.zone z).noInput * 2 ^ 20 +
        unsigned 16 (h.zone z).tz
    | none => match arrIx a 0xC00100 27 4 with
      | some i => h.tempWord i
      | none =>
        let c := (a - 0xC01000) / 0x1000
        let k := h.coolCh c
        if a = coolReg c 4 then k.st.code * 2 ^ 29 + k.cmd / permille * 2 ^ 16 + k.target / permille
        else if a = coolReg c 8 then min 65535 k.flow * 65536 + min 65535 k.tach
        else h.reg a

def Hub.viewLeak (h : Hub) (a : Nat) : Nat :=
  if a = 0xD00000 then
    maskOf 6 (fun r => (h.rope r).st == 3) * 2 ^ 24 + maskOf 6 (fun r => (h.rope r).st == 1) * 2 ^ 16 +
    maskOf 6 (fun r => (h.rope r).action) * 2 ^ 8 + h.reg a % 2
  else match arrIx a 0xD00030 6 4 with
    | some r => (h.rope r).meas
    | none => h.reg a

def Hub.viewSense (h : Hub) (a : Nat) : Nat :=
  if a = 0xE00000 then putBits (h.reg a) 1 1 (b2n h.sense.adcFault)
  else if a = 0xE00008 then scanUs h.reg
  else
    let m (base n : Nat) (f : Nat → Nat) : Option Nat := (arrIx a base n 4).map f
    ((m 0xE00200 48 fun k => (h.mirrorOf k).word).orElse fun _ =>
     (m 0xE00300 48 fun k => (h.mirrorOf k).valid).orElse fun _ =>
     (m 0xE00600 32 fun k => (h.dts k).word).orElse fun _ =>
     (m 0xE00680 24 fun k => (h.vmon k).mv).orElse fun _ =>
     (m 0xE00780 24 fun k => (h.vmon k).extWord).orElse fun _ =>
     (m 0xE00800 16 fun k => (h.pmon k).khz).orElse fun _ =>
     m 0xE00840 16 fun k => (h.pmon k).word).getD (h.reg a)

def CrcPhase.code : CrcPhase → Nat
  | .none => 0 | .pending => 1 | .ok => 2 | .refBad => 3 | .mismatch => 4

/-- The transaction that REG.TXN_STATUS shows: the requester's open one, else its last to commit. -/
def Hub.txnOf (h : Hub) (r : Requester) : Option Txn :=
  let mine := h.rb.txns.filter (·.owner == r)
  (mine.find? (·.phase == .opened)).orElse fun _ => mine.getLast?

def TxnItem.isReg : TxnItem → Bool
  | .reg .. => true
  | .hod _ => false

/-- REG.TXN_STATUS (R380). -/
def Txn.word (t : Txn) : Nat :=
  let st := match t.phase with | .opened => 1 | .commitPending => 2 | .staging => 3
  t.id * 2 ^ 16 + st * 2 ^ 13 + b2n (t.phase == .staging) * 2 ^ 12 + b2n t.overflow * 2 ^ 11 +
    (if t.phase = .staging then t.written else t.items.countP (·.2.isReg))

def TxnResult.word (r : TxnResult) : Nat := r.id * 2 ^ 16 + min 255 r.item * 2 ^ 8 + r.status

/-- One master's shadow. -/
def Hub.shadow (h : Hub) (m : Master) : Shadow := Tbl.get {} h.rb.shadow m.req.id

/-- The status byte of the SMBus target (R419). -/
def Hub.statusByte (h : Hub) : Nat :=
  b2n h.ev.mediaFail * 128 + b2n (h.safetyActions != 0) * 64 + b2n (!h.bus.out.isEmpty) * 32 + b2n h.bus.hodDone * 16 +
  b2n h.bus.pecErr * 8 + b2n h.bus.cmdErr * 4 + b2n (h.rb.crcPhase == .refBad || h.rb.crcPhase == .mismatch) * 2 +
  b2n (h.bus.sleep == .awake)

def Hub.viewReg (h : Hub) (m : Master) (a : Nat) : Nat :=
  let r := m.req
  match a with
  | 0xF00004 => b2n (h.shadow m).stray * 2 + b2n (h.shadow m).wrap
  | 0xF0000C => h.rb.crc
  | 0xF00010 => h.rb.refA.getD 0
  | 0xF00014 => h.rb.refB.getD 0
  | 0xF00018 => b2n h.rb.crcBusy * 8 + h.rb.crcPhase.code
  | 0xF00024 => ((h.txnOf r).map Txn.word).getD 0
  | 0xF00028 => Tbl.get 0 h.rb.txnRef r.id
  | 0xF00030 => (Tbl.get {} h.rb.result r.id).word
  | 0xF00038 => h.rb.cause
  | 0xF01004 => b2n (h.fw.phase == .up) * 2 ^ 24 + h.hods.emuQueue.length
  | _ => match arrIx a 0xF01100 32 4 with
    | some k => if k < 12 then (h.hod k).statusWord else 0
    | none => h.reg a

def Hub.viewSmb (h : Hub) (a : Nat) : Nat :=
  match a with
  | 0x1000004 => h.bus.smbAddr
  | 0x1000008 => h.statusByte
  | 0x10000C0 => h.bus.sled * 65536 + h.bus.cable
  | _ => match arrIx a 0x1000080 10 4 with
    | some b => h.idStatus b
    | none => h.reg a

def Hub.viewRack (h : Hub) (a : Nat) : Nat :=
  match a with
  | 0x1100004 => h.rackStatus
  | 0x1100010 => h.epoch.1 * 65536 + h.epoch.2
  | 0x1100014 => h.rack.mgrWord
  | 0x1100028 => h.rack.hopUp * 65536 + h.rack.hopDn
  | _ => match arrIx a 0x1100100 32 4 with
    | some k => h.rack.grantWord k
    | none => h.reg a

def Hub.viewFw (h : Hub) (a : Nat) : Nat :=
  match a with
  | 0x1200000 => putBits (h.reg a) 1 1 (b2n h.fw.pend.isSome)
  | 0x1200004 => h.fw.bootWord
  | 0x1200014 => h.fw.versionWord
  | 0x1200018 => h.fw.jpIf
  | 0x1200020 => h.accStatus
  | _ => h.reg a

def Dev.viewSec (d : Dev) (a : Nat) : Nat :=
  let h := d.hub
  match a with
  | 0x1300000 => h.secStatus
  | 0x1300008 => d.otp.arb
  | 0x130000C => h.sec.debugWord
  | 0x1300010 => d.keysWord
  | _ => match arrIx a 0x1300040 8 4 with
    | some x => h.portSeal x
    | none => h.reg a

def Hub.viewEv (h : Hub) (a : Nat) : Nat :=
  match a with
  | 0x1400000 => h.evStatus
  | 0x1400008 => h.ev.log.length
  | 0x140000C => h.ev.shadow.length
  | 0x1400010 => h.ev.clearCount
  | _ => h.reg a

def Hub.viewSafety (h : Hub) (a : Nat) : Nat :=
  match a with
  | 0x1500000 => h.safetyStatus
  | 0x1500004 => h.safetyWires
  | 0x1500008 => h.safetyRecovery
  | 0x150000C => h.safety.dataWord
  | 0x1500010 => h.safety.mgmtWord
  | _ => h.reg a

/-- The value of a register that is no half of a pair, as a privileged master reads it (R10, R11, R359). -/
def Dev.view (d : Dev) (m : Master) (a : Nat) : Nat :=
  let h := d.hub
  match a / 0x100000 with
  | 0x00 => if a = 0 then Config.device else Config.variant.toNat
  | 0x01 => h.viewTop a
  | 0x02 => h.viewLink a
  | 0x03 => h.viewXbar a
  | 0x04 => h.viewTile a
  | 0x05 => h.viewSpill a
  | 0x06 => h.viewMortar a
  | 0x07 => d.viewSmp a
  | 0x08 => h.viewStream a
  | 0x09 => h.viewBarrier a
  | 0x0A => h.viewGov a
  | 0x0B => h.viewHs a
  | 0x0C => h.viewCool a
  | 0x0D => h.viewLeak a
  | 0x0E => h.viewSense a
  | 0x0F => h.viewReg m a
  | 0x10 => h.viewSmb a
  | 0x11 => h.viewRack a
  | 0x12 => h.viewFw a
  | 0x13 => d.viewSec a
  | 0x14 => h.viewEv a
  | 0x15 => h.viewSafety a
  | _ => 0

/-! ### 64-bit pairs (R362, R363) -/

/-- The 64-bit value of the pair whose LO half lies at `a`, with its wrap flag. TOP.CRS_COUNT shows its flag in bit 31 of
its HI half (R54). -/
def Dev.pair (d : Dev) (a : Nat) : Nat × Bool :=
  let h := d.hub
  match a with
  | 0x000008 => (Config.serial.toNat, false)
  | 0x100008 => (b2n h.crs.wrap * 2 ^ 63 + h.crs.count.toNat, h.crs.wrap)
  | 0x401004 => ((h.pte (h.reg 0x401000)).bits, false)
  | 0x1100018 => (h.rack.course, false)
  | 0x1100020 => (h.rack.sleepK, false)
  | 0x1400018 => ((h.ev.wallRef.getD 0).toNat, false)
  | _ =>
    if 0x201000 ≤ a ∧ a < 0x209000 ∧ a % 0x1000 = 0x18 then ((h.port ((a - 0x201000) / 0x1000)).txCtr, false)
    else match arrIx a 0xE00400 48 8 with
      | some k => ((h.mirrorOf k).ts.toNat, false)
      | none => ((h.ctr a).val.toNat, (h.ctr a).wrap)

/-- A LO read clears the pair's wrap flag (R363). -/
def Hub.clearWrap (h : Hub) (a : Nat) : Hub :=
  if a = 0x100008 then { h with crs := { h.crs with wrap := false } }
  else if (h.ctr a).wrap then { h with ctrs := h.ctrs.set {} a { h.ctr a with wrap := false } } else h

end Sys2Proof.Machine
end

