-- ==== Sys2Proof/Machine/Checks.lean ====
section
/-!
DEFINITION. Machine/Checks.lean: the range checks of course-buffered writes, against the configuration that would be in
effect after the boundary (R367), and the overlays that give that configuration.
-/
namespace Sys2Proof.Machine

/-! ### Overlays -/

/-- `v` with the bits of `sel` taken from `w`. -/
def mergeBits (sel v w : Nat) : Nat := (v &&& (0xFFFFFFFF ^^^ sel)) ||| (w &&& sel)

/-- A configuration with one register write laid over it. -/
def overlay (cfg : Nat → Nat) (a sel v : Nat) : Nat → Nat := fun b => if b = a then mergeBits sel (cfg b) v else cfg b

/-- Register writes in order: offset, selected bits, value. -/
abbrev Writes := List (Nat × Nat × Nat)

/-- A configuration with register writes laid over it. -/
def overlayAll (cfg : Nat → Nat) (ws : Writes) : Nat → Nat := ws.foldl (fun c w => overlay c w.1 w.2.1 w.2.2) cfg

/-- The register writes among staged changes. -/
def stagedWrites (l : List TxnItem) : Writes :=
  l.filterMap fun i => match i with | .reg _ a sel v => some (a, sel, v) | .hod _ => none

/-- The register writes of a transaction. -/
def Txn.writes (t : Txn) : Writes := stagedWrites (t.items.map (·.2))

/-! ### Tile ownership (R122) -/

/-- The tiles and offsets that a bound program's record names, by its enabled tables. -/
def Prog.tiles (p : Prog) : List Nat :=
  (if p.penalty then [p.cntTile] else []) ++ (if p.biased then [p.biasTile] else []) ++ (if p.masked then [p.autTile] else [])

/-- A hub structure of the partition lies in the tile (R122, R124): cold contexts, programs and tables in use, mortar
operands. -/
def Dev.holds (d : Dev) (part n : Nat) : Bool :=
  let h := d.hub
  (h.partEn part && h.fld (partCtx part) 9 0 == n && decide (h.fld (partCtx part) 25 16 < h.partCount part)) ||
  h.smp.steps.any (fun s => s.part == part && (s.tile == n || (Prog.of s.prog).tiles.contains n)) ||
  h.str.strm.any (fun e => h.streamPart e.1 == some part &&
    (match d.boundProg part e.1 with
     | some (t, _, b) => t == n || (Prog.of b).tiles.contains n
     | none => false)) ||
  h.mortar.colls.any (fun c => c.part == part && (Desc.of c.desc).usesHub && (Desc.of c.desc).tile == n)

/-- The tile that a TILE.OWNER offset names. -/
def ownerTile (a : Nat) : Option Nat := arrIx a 0x400200 768 4

/-- The hub with the ownership writes applied, but for the one at `skip`: the ownership that the boundary would leave. -/
def Dev.withOwners (d : Dev) (ws : Writes) (skip : Nat) : Dev :=
  ws.foldl (fun d w =>
    match ownerTile w.1 with
    | some n => if w.1 = skip then d
      else { d with hub := d.hub.applyOwner (d.holds (d.hub.ownerReg n) n) n (w.2.2 % 16) }
    | none => d) d

/-! ### Range checks -/

def between (v lo hi : Nat) : Bool := decide (lo ≤ v) && decide (v ≤ hi)

/-- A field of the configuration lies in a range. -/
def inRange (v hi lo least most : Nat) : Bool := between (bits v hi lo) least most

/-- What a failing write sets: nothing, or a status bit. -/
abbrev Flag := Option (Nat × Nat)

/-- Blocks 0x01 to 0x05: what a value must satisfy, and what a failing write sets. A SCRUB_CFG write with either field at 0 is
ignored as a whole: the spec says that 0 in the field is ignored (log entry 97). -/
def checkLow (d : Dev) (cfg : Nat → Nat) (a : Nat) : Bool × Flag :=
  let v := cfg a
  let h := d.hub
  if a = 0x100000 then (inRange v 9 0 20 1000, some (0x100014, 1))
  else if a = 0x100034 then (inRange v 6 0 25 75, none)
  else if 0x201000 ≤ a ∧ a < 0x209000 ∧ a % 0x1000 = 0 then (inRange v 11 8 4 8, some (a + 8, 2))
  else if a = 0x300000 then
    (inRange v 15 12 1 15 && inRange v 11 8 1 15 && inRange v 7 4 1 15 && inRange v 3 0 1 15, some (0x300008, 1))
  else if a = 0x300004 then (inRange v 23 8 100 65535 && inRange v 2 0 1 4, some (0x300008, 1))
  else if (arrIx a 0x300140 8 4).isSome then (inRange v 3 0 1 15, some (0x300008, 1))
  else if a = 0x400004 then (h.ptCfgOk (bits v 3 0), some (0x400000, 0))
  else if a = 0x400008 then (inRange v 23 8 1 65535 && inRange v 7 0 1 255, some (0x400000, 0))
  else if (arrIx a 0x400040 64 4).isSome then (bits v 1 0 != 3, some (0x400000, 0))
  else if a = 0x500000 then (!(v.testBit 8 && h.tile.memFail), some (0x50000C, 9))
  else if a = 0x500004 then (decide (bits v 15 0 < bits v 31 16), some (0x50000C, 9))
  else if a = 0x500008 then
    (inRange v 31 24 1 255 && inRange v 23 8 1 65535 && inRange v 5 0 1 63, some (0x50000C, 9))
  else match ownerTile a with
    | some n => (h.ownerOk (d.holds (h.ownerReg n) n) n (bits v 3 0), some (0x400000, 0))
    | none => (true, none)

/-- Blocks 0x06 to 0x09. -/
def checkMid (h : Hub) (cfg : Nat → Nat) (a : Nat) : Bool × Flag :=
  let v := cfg a
  if a = 0x600000 then (inRange v 31 16 1 65535, some (0x600010, 0))
  else if (arrIx a 0x600020 8 4).isSome then
    (decide ((List.range 8).foldl (fun s p => s + bits (cfg (0x600020 + 4 * p)) 11 0) 0 ≤ 3072), some (0x600010, 0))
  else if a = 0x700000 then (inRange v 31 16 1 65535, some (0x700004, 0))
  else if a = 0x800004 then (inRange v 31 16 1 65535, some (0x800000, 0))
  else if (arrIx a 0x800040 16 4).isSome then (h.partSetOk cfg, some (0x800000, 0))
  else if a = 0x900040 ∨ (arrIx a 0x900040 16 4).isSome then (h.syncSetOk cfg, some (0x900000, 0))
  else match arrIx a 0x800100 64 4 with
    | some q => (h.queueCfgOk cfg q, some (0x800000, 0))
    | none => (true, none)

/-- Block 0x0A (R289, R290). -/
def checkGov (cfg : Nat → Nat) (a : Nat) : Bool :=
  let v := cfg a
  match a with
  | 0xA00000 => inRange v 23 16 1 255 && inRange v 11 8 1 8
  | 0xA00004 => inRange v 15 8 1 60 && inRange v 1 0 0 2
  | 0xA00008 => inRange v 15 0 1 65535
  | 0xA0000C => inRange v 15 0 1 65535
  | 0xA00014 => inRange v 23 16 0 50
  | 0xA00018 => inRange v 31 24 20 60 && inRange v 23 16 50 100 && inRange v 15 8 1 255 && inRange v 7 0 1 20
  | _ =>
    let o := (a - 0xA01000) % 0x1000
    !(decide (0xA01000 ≤ a) && decide (0x200 ≤ o) && decide (o < 0x300)) || decide (bits v 7 0 ≤ bits v 15 8)

/-- Block 0x0B (R312, R313). -/
def checkHs (cfg : Nat → Nat) (a : Nat) : Bool :=
  let v := cfg a
  if a = 0xB00004 then inRange v 31 24 1 255 && inRange v 15 8 60 66 && inRange v 7 0 36 44
  else
    let c := (a - 0xB01000) / 0x1000
    match (a - 0xB01000) % 0x1000 with
    | 0 => inRange v 23 16 1 100 && inRange v 13 8 5 50 && (decide (8 ≤ c) || inRange v 7 0 1 255)
    | 4 => inRange v 23 16 60 150 && inRange v 8 0 16 320
    | 8 => inRange v 27 16 1 4095 && inRange v 7 0 3 250
    | _ => true

/-- Block 0x0C (R335). -/
def checkCool (cfg : Nat → Nat) (a : Nat) : Bool :=
  let v := cfg a
  if (arrIx a 0xC00010 8 4).isSome then inRange v 29 20 0 1000 && inRange v 19 10 0 1000
  else if (arrIx a 0xC00030 8 4).isSome then inRange v 23 16 30 125
  else if a < 0xC01000 then true
  else
    let o := (a - 0xC01000) % 0x1000
    if o = 0 then inRange v 30 24 1 100 && inRange v 15 0 100 65535
    else if o < 0x20 then
      (bits v 25 16 == 0 && bits v 9 0 == 0) || (decide (bits v 9 0 < bits v 25 16) && decide (bits v 25 16 < 1000))
    else inRange v 15 0 1 65535

/-- LEAK.ROPE_CFG (R331, R337). -/
def checkRope (h : Hub) (v r : Nat) : Bool :=
  inRange v 19 10 10 400 && between (bits v 29 20) (bits v 19 10 + 50) 900 &&
  !((h.rope r).action && (!v.testBit 31 || bits v 7 0 != h.fld (ropeCfg r) 7 0))

/-- Block 0x0E (R342, R354, R355). -/
def checkSense (h : Hub) (cfg : Nat → Nat) (a : Nat) : Bool :=
  let v := cfg a
  if a = 0xE00004 then inRange v 31 16 1 32767 && inRange v 15 8 1 255 && senseSetOk cfg
  else match arrIx a 0xE00100 48 4 with
    | some k => senseSetOk cfg && !(adcFixed k && v != h.reg a)
    | none => if (arrIx a 0xE00700 24 4).isSome then decide (bits v 15 0 < bits v 31 16) else true

/-- The check of a course-buffered write that makes the configuration `cfg` (R367): whether it passes, and what it sets
otherwise. -/
def Dev.checkReg (d : Dev) (cfg : Nat → Nat) (a : Nat) : Bool × Flag :=
  match a / 0x100000 with
  | 0x06 | 0x07 | 0x08 | 0x09 => checkMid d.hub cfg a
  | 0x0A => (checkGov cfg a, some (0xA0001C, 0))
  | 0x0B => (checkHs cfg a, some (0xB00000, 0))
  | 0x0C => (checkCool cfg a, some (0xC00000, 0))
  | 0x0D => match arrIx a 0xD00010 6 4 with
    | some r => (checkRope d.hub (cfg a) r, some (0xD00000, 0))
    | none => (true, none)
  | 0x0E => (checkSense d.hub cfg a, some (0xE00000, 0))
  | 0x0F => (a != 0xF0002C || (inRange (cfg a) 31 16 1 65535 && inRange (cfg a) 15 0 1 65535), some (0xF00000, 1))
  | 0x12 => (a != 0x1200010 || (inRange (cfg a) 31 16 100 60000 && inRange (cfg a) 15 8 2 255), some (0x1200000, 0))
  | _ => checkLow d cfg a

/-- The check of a write laid over the configuration and ownership that the other writes `ws` would leave. -/
def Dev.checkWrite (d : Dev) (ws : Writes) (a sel v : Nat) : Bool × Flag :=
  (d.withOwners ws a).checkReg (overlay (overlayAll d.hub.reg ws) a sel v) a

/-- The hub with what a failing write sets. -/
def Hub.raise (h : Hub) : Flag → Hub
  | some (a, i) => h.flag a i
  | none => h

end Sys2Proof.Machine
end

