-- ==== Sys2Proof/Machine/Txn.lean ====
section
/-!
DEFINITION. Machine/Txn.lean: changes staged for a boundary, outside transactions and in them, and the opening, commit
arrival and abort of transactions (R11, R35, R365, R367, R371 to R375).
-/
namespace Sys2Proof.Machine

def Hub.updTxn (h : Hub) (id : Nat) (f : Txn → Txn) : Hub :=
  h.updRb fun b => { b with txns := b.txns.map fun t => if t.id = id then f t else t }

/-! ### Staging outside any transaction -/

/-- The staged write of a register in a list of changes: its selected bits and value. -/
def stagedAt (l : List TxnItem) (a : Nat) : Nat × Nat :=
  ((stagedWrites l).find? (·.1 == a)).elim (0, 0) (·.2)

/-- An item is a write of the register. -/
def TxnItem.isRegAt (i : TxnItem) (a : Nat) : Bool := match i with | .reg _ b _ _ => a == b | .hod _ => false

/-- A staged commit holds the register for its second stage (R375). -/
def Hub.lockedBy (h : Hub) (a : Nat) : Option Nat :=
  (h.rb.txns.find? (fun t => t.phase == .staging && t.items.any (·.2.isRegAt a))).map (·.id)

/-- A change staged for the next boundary, in the place of its arrival. -/
def Hub.stage (h : Hub) (i : TxnItem) : Hub := h.updRb fun b => { b with staged := b.staged ++ [i] }

/-- A course-buffered write outside any transaction (R11, R365, R367): merged bit by bit with what is staged for the
register, and dropped where it meets a lock or fails its check. -/
def Dev.stageOutside (d : Dev) (who a sel v : Nat) : Dev :=
  let h := d.hub
  if (h.lockedBy a).isSome then d.hubMap (·.flag 0xF00000 3)
  else
    let (os, ov) := stagedAt h.rb.staged a
    let rest := h.rb.staged.filter (fun i => !i.isRegAt a)
    let v := mergeBits sel ov v
    let sel := os ||| sel
    let c := d.checkWrite (stagedWrites rest) a sel v
    if c.1 then d.hubMap (·.updRb fun b => { b with staged := rest ++ [.reg who a sel v] }) else d.hubMap (·.raise c.2)

/-! ### Staging in a transaction (R372) -/

/-- The hub with the tile groups that writes switch on past their tests (R142, R375). -/
def Hub.groupsReady (h : Hub) (ws : Writes) : Hub :=
  ws.foldl (fun h w =>
    match arrIx w.1 0x400040 64 4 with
    | some g =>
      if w.2.2 % 4 < 2 ∧ h.groupPower g = .off then
        (groupTiles g).foldl (fun h n => h.updTile n (fun t => if t.st = .unpowered then { t with st := .available } else t))
          (h.setGroup g .on)
      else h
    | none => h) h

/-- The hub with every tile that waits for its owner past its test (R122, R375). -/
def Hub.testsOver (h : Hub) : Hub :=
  (h.tile.tile.filter (fun e => e.2.st == .testing && decide (h.ownerReg e.1 < 8))).foldl
    (fun h e => h.updTile e.1 (fun t => { t with st := .owned, tested := false })) h

/-- The check of a transaction's write, against the configuration that all its writes would lead to once their transitions
have ended (R367, R373, R375). -/
def Dev.checkSettled (d : Dev) (ws : Writes) (a sel v : Nat) : Bool × Flag :=
  (((d.hubMap (·.groupsReady ws)).withOwners ws a).hubMap (·.testsOver)).checkReg (overlay (overlayAll d.hub.reg ws) a sel v) a

/-- A register write staged into a transaction: a register written again keeps its place. -/
def Txn.put (t : Txn) (who a sel v : Nat) : Txn :=
  if t.items.any (·.2.isRegAt a) then
    { t with items := t.items.map fun i => if i.2.isRegAt a then (i.1, .reg who a sel v) else i }
  else if 1024 ≤ t.items.countP (·.2.isReg) then { t with overflow := true }
  else { t with items := t.items ++ [(t.items.length, .reg who a sel v)] }

/-- A course-buffered write of a requester whose transaction is OPEN (R372). -/
def Dev.stageInside (d : Dev) (t : Txn) (a sel v : Nat) : Dev :=
  let items := t.items.map (·.2)
  let (os, ov) := stagedAt items a
  let v := mergeBits sel ov v
  let sel := os ||| sel
  let c := d.checkSettled (stagedWrites (items.filter (fun i => !i.isRegAt a))) a sel v
  if c.1 then d.hubMap (·.updTxn t.id (·.put t.owner.id a sel v)) else d.hubMap (·.raise c.2)

/-- A course-buffered write by a master (R11, R372). -/
def Dev.stageWrite (d : Dev) (m : Master) (a sel v : Nat) : Dev :=
  match d.hub.openTxn m.req with
  | some t => d.stageInside t a sel v
  | none => d.stageOutside m.req.id a sel v

/-- A hod staged into its requester's transaction (R372): ACCEPTED, or NO_RESOURCE beyond 64. -/
def Hub.stageHod (h : Hub) (t : Txn) (q : HodReq) : Hub × HodOut :=
  if 64 ≤ t.items.countP (fun i => !i.2.isReg) then
    (h.updTxn t.id (fun t => { t with overflow := true }), .fail .noResource)
  else (h.updTxn t.id (fun t => { t with items := t.items ++ [(t.items.length, .hod q)] }), .fail .accepted)

/-! ### Opening, commit arrival, abort -/

/-- The next id in rotation that no transaction has (R371). -/
def Hub.freshTxnId (h : Hub) : Nat :=
  let c (k : Nat) : Nat := (h.rb.lastId + k) % 65535 + 1
  (((List.range 17).map c).find? (fun i => !h.rb.txns.any (·.id == i))).getD 1

/-- TXN_BEGIN (R371): one OPEN transaction a requester, a slot for each VF and eight shared ones. -/
def Hub.txnBegin (h : Hub) (r : Requester) : Hub × HodOut :=
  let full := if r.isVf then h.rb.txns.any (·.owner == r) else decide (8 ≤ h.rb.txns.countP (fun t => !t.owner.isVf))
  if (h.openTxn r).isSome then (h, .fail .busy)
  else if full then (h, .fail .noResource)
  else
    let id := h.freshTxnId
    (h.updRb fun b => { b with txns := b.txns ++ [{ id, owner := r }], lastId := id }, .ok [.u16 id])

/-- REG.CRC_STATUS.STATE changes (R410). -/
def Hub.crcTo (h : Hub) (p : CrcPhase) : Hub :=
  if h.rb.crcPhase = p then h else (h.updRb (fun b => { b with crcPhase := p })).irq 0 3

/-- The reference of a change that has arrived is outstanding: CRC_STATUS.STATE reads PENDING (R369). -/
def Hub.refPending (h : Hub) : Hub := h.crcTo .pending

/-- A transaction brings a reference: its commit carries one, or it holds a CFG_REF_SET (R369). -/
def Txn.brings (t : Txn) : Bool :=
  t.ref.isSome || t.items.any (fun i => match i.2 with | .hod q => q.op == 0x0F04 | .reg .. => false)

/-- A commit arrives (R373): staging closes, and it waits for the boundary behind the commits that arrived before it. -/
def Hub.txnCommit (h : Hub) (t : Txn) (ref : Option Nat) (q : Option HodReq) : Hub :=
  let h := h.updRb fun b => { b with
    txns := b.txns.filter (·.id != t.id) ++ [{ t with phase := .commitPending, age := 0, ref, commit := q }] }
  if ref.isSome || t.brings then h.refPending else h

/-- TXN_ABORT (R374). -/
def Hub.txnAbort (h : Hub) (r : Requester) (id : Nat) : Hub × HodOut :=
  match h.openTxn r with
  | some t => if t.id = id then (h.dropTxn id, .ok []) else (h, .badArg 1)
  | none => (h, .badArg 1)

/-- A transaction has stayed OPEN for MAX_COURSES courses (R374). -/
def Hub.txnOpenTimeout (h : Hub) (id : Nat) : Hub :=
  match h.rb.txns.find? (fun t => t.id == id && t.phase == .opened) with
  | some t => if h.fld 0xF0002C 31 16 ≤ t.age then h.hubAbort t 1 else h
  | none => h

/-- A commit completes (R373, R375): its slot is free, REG.TXN_RESULT of its requester reports it, and the hod that made it
completes with the status and DETAIL; the index of a failing item, and the register of a conflict, stand in the response, but for REFUSED, which carries nothing
(R394). -/
def Hub.commitDone (h : Hub) (t : Txn) (st : Status) (detail : Nat) (item reg : Option Nat) : Hub :=
  let h := h.dropTxn t.id
  let h := h.updRb fun b => { b with
    result := b.result.set {} t.owner.id { id := t.id, item := min 255 (item.getD 0), status := st.code } }
  let pl := if st = .refused then [] else encodeArgs ((item.map Arg.u16).toList ++ (reg.map Arg.u32).toList)
  match t.commit with
  | some q =>
    ({ h with hods := { h.hods with waiting := h.hods.waiting.filter (· != q) } }).finish (completion q st detail pl true)
  | none => h

/-- The first register that a staging commit still waits to write; 0 where it waits with hods only. -/
def Txn.firstReg (t : Txn) : Nat := (t.writes.head?.map (·.1)).getD 0

/-- A staged commit has not reached stage 2 within STAGE_MAX courses (R375): stage 1 stays, and its reference is discarded. -/
def Hub.stageTimeout (h : Hub) (t : Txn) : Hub :=
  (h.commitDone t .timeout 0 none none).event 0x0F04 [.u16 t.id, .u8 t.owner.id, .u32 t.firstReg]

/-- The row STAGE_MAX_TIMEOUT. -/
def Hub.stageMaxTimeout (h : Hub) (id : Nat) : Hub :=
  match h.rb.txns.find? (fun t => t.id == id && t.phase == .staging) with
  | some t => if h.fld 0xF0002C 15 0 ≤ t.age then h.stageTimeout t else h
  | none => h

end Sys2Proof.Machine
end

