-- ==== Sys2Proof/Machine/HodServe.lean ====
section
/-!
DEFINITION. Machine/HodServe.lean: what each opcode does: the effects that take place at a boundary and the service of the
others (R396, R399, R400).
-/
namespace Sys2Proof.Machine

/-- The effect of a hod on the hub alone. -/
def Dev.byHub (d : Dev) (f : Hub → Hub × HodOut) : Dev × HodOut := let (h, o) := f d.hub; ({ d with hub := h }, o)

/-! ### Partition context switch (R227) -/

/-- The streams, steps, collectives, objects, queues and job of a partition are cleared, the end of a job recorded, and its
spill keys replaced where it holds no page (R33, R171, R227, R250, R491). Its ranges are those of the configuration `cfg`. -/
def Hub.switchPart (h : Hub) (cfg : Nat → Nat) (p : Nat) : Hub :=
  let f (a hi lo : Nat) : Nat := bits (cfg a) hi lo
  let h := if h.jobState p = .none then h else h.jobNone p
  let h := (h.clearStreams p (f (partCfg p) 12 0) (f (partCfg p) 29 16)).abortColls p
  let h := h.clearSync p (f (barCfg p) 11 0, f (barCfg p) 28 16) (f (talCfg p) 13 0, f (talCfg p) 30 16)
  if h.tile.pte.any (fun e => e.2.valid && e.2.part == p) then h else h.newSpillKeys p

def partSwitchHod (q : HodReq) (p : Nat) (h : Hub) : Hub × HodOut := (h.switchPart h.reg (q.part p), .ok [])

/-! ### Boundary effects, by block -/

def Dev.effectTile (d : Dev) (q : HodReq) : Dev × HodOut :=
  match q.op with
  | 0x0401 => q.choice 2 3 d fun pin =>
    if q.num 1 = 0 ∨ 256 < q.num 1 then (d, .badArg 2) else pageAllocHod q (q.num 0) (q.num 1) pin d
  | 0x0402 => if 256 < (q.entries 0).length then (d, .badArg 1) else pageFreeHod q (q.entries 0) d
  | 0x0403 => leaseSetHod q (q.num 0) (q.num 1) (q.num 2) d
  | 0x0404 => q.choice 1 2 d fun unpin => pagePinHod q (q.num 0) unpin d
  | 0x0405 => pteReadHod q (q.num 0) d
  | _ => q.choice 1 2 d fun demote => pageMoveHod q (q.num 0) demote d

def Dev.effectMortar (d : Dev) (q : HodReq) : Dev × HodOut :=
  match q.op with
  | 0x0601 => hubOpndWriteHod q (q.num 0) (q.num 1) (q.num 2) (q.bytes 3) d
  | 0x0602 => hubOpndReadHod q (q.num 0) (q.num 1) (q.num 2) d
  | _ => collAbortHod q (q.num 0) (q.num 1) d

/-- An optional argument (R388) at two places: none where its flag is 0. -/
def HodReq.opt (q : HodReq) (i : Nat) : Option Nat := if q.num i = 0 then none else some (q.num (i + 1))

def Dev.effectSampler (d : Dev) (q : HodReq) : Dev × HodOut :=
  match q.op with
  | 0x0701 => smpProgWriteHod q (q.num 0) (q.num 1) (q.bytes 2) d
  | 0x0702 => q.choice 3 4 d fun _ => smpBindHod q (q.num 0) (q.num 1) (q.num 2) (q.opt 3) d
  | 0x0703 => q.choice 1 2 d fun _ => q.choice 3 3 d fun clear =>
    if 512 < (q.entries 4).length then (d, .badArg 4) else smpStateSetHod q (q.num 0) (q.opt 1) clear (q.entries 4) d
  | 0x0704 => smpLastHod q (q.num 0) d
  | _ => smpTableWriteHod q (q.num 0) (q.num 1) (q.bytes 2) d

def Hub.effectStream (h : Hub) (q : HodReq) : Hub × HodOut :=
  match q.op with
  | 0x0801 => streamReadyHod q (q.num 0) (q.bytes 1) h
  | 0x0802 => streamParkHod q (q.num 0) h
  | 0x0803 => streamStopHod q (q.num 0) h
  | 0x0804 => streamResetHod q (q.num 0) h
  | 0x0805 => streamSetQueueHod q (q.num 0) (q.num 1) h
  | 0x0806 => streamQueryHod q (q.num 0) h
  | 0x0807 => jobStartHod q (q.num 0) (q.num 1) h.fw.jp.isSome h
  | 0x0808 => jobEndHod q (q.num 0) h
  | _ => partSwitchHod q (q.num 0) h

def Hub.effectSync (h : Hub) (q : HodReq) : Hub × HodOut :=
  match q.op with
  | 0x0901 => barSetHod q (q.num 0) (q.recField 1 0 1) ((List.range 9).map fun k => q.recField 1 (2 + 2 * k) 2)
      (q.recField 1 20 4) (q.recField 1 24 2) h
  | 0x0902 => barFreeHod q (q.num 0) h
  | 0x0903 => barResetHod q (q.num 0) h
  | 0x0904 => barArriveHod q (q.num 0) (q.num 1) h
  | 0x0905 => barQueryHod q (q.num 0) h
  | 0x0906 => tallySetHod q (q.num 0) (q.recField 1 0 1) (q.recField 1 1 1) (q.recField 1 4 4) (q.recField 1 8 2)
      (q.recField 1 12 4) h
  | 0x0907 => tallyQueryHod q (q.num 0) h
  | _ => tallyFreeHod q (q.num 0) h

def Hub.effectPower (h : Hub) (q : HodReq) : Hub × HodOut :=
  match q.op with
  | 0x0A01 => pwrQueryHod q (q.num 0) h
  | 0x0A02 => phaseTableSetHod q (q.num 0) ((List.range 64).map fun k => q.recField 1 (4 * k) 4) h
  | 0x0A03 => estResetHod q (q.num 0) (q.num 1) h
  | 0x0B01 => hsOffHod q (q.num 0) h
  | 0x0B02 => hsOnHod q (q.num 0) h
  | 0x0B03 => hsReleaseHod q (q.num 0) h
  | 0x0B04 => hsQueryHod q (q.num 0) h
  | 0x0B05 => q.choice 0 1 h fun down => traySeqHod q down h
  | 0x0C02 => q.choice 0 1 h fun ch => coolQueryHod q ch (q.num 1) h
  | 0x0D01 => leakClearHod q (q.num 0) h
  | _ => (h.updRb (fun b => { b with refDue := some (q.num 0) }), .ok [])

/-- The effect of a hod at its boundary (R396), with its outcome. Of the firmware hods only JOBPLANE_LOAD has one: the module
it brought starts (R468). -/
def Dev.effect (d : Dev) (q : HodReq) : Dev × HodOut :=
  match q.op / 256 with
  | 0x04 | 0x05 => d.effectTile q
  | 0x06 => d.effectMortar q
  | 0x07 => d.effectSampler q
  | 0x08 => d.byHub (·.effectStream q)
  | 0x09 => d.byHub (·.effectSync q)
  | 0x12 => d.byHub fun h => (h.jpStart, .ok [])
  | _ => d.byHub (·.effectPower q)

/-! ### Service of the other opcodes -/

/-- WARM_RESET (R376, R378): from PF0, SMBus and the management core. -/
def warmResetHod (q : HodReq) (h : Hub) : Hub × HodOut :=
  if q.who = .pf0 ∨ q.who = .smbus ∨ q.who = .core then
    (h.updRb (fun b => { b with warm := some (3, q.who.id) }), .ok [])
  else (h, .refused)

/-- TXN_COMMIT (R373): an optional reference behind the transaction's id. -/
def txnCommitHod (q : HodReq) (h : Hub) : Hub × HodOut :=
  match h.openTxn q.who with
  | some t =>
    if t.id ≠ q.num 0 then (h, .badArg 1)
    else q.choice 1 2 h fun _ => (h.txnCommit t (q.opt 1) (some q), .wait)
  | none => (h, .badArg 1)

/-- HOD_CAPS (R400): the job-plane interface while a module runs, and the emulated map's version (R401). -/
def hodCapsHod (h : Hub) : Hub × HodOut :=
  (h, .ok [.u8 1, .u16 4080, .u16 64, .u32 (if h.fw.jp.isSome then h.jpHave else 0),
    .u32 ((h.fw.run.map (·.emuVer)).getD 0)])

/-- SMB_STATUS (R430). -/
def smbStatusHod (h : Hub) : Hub × HodOut :=
  (h, .ok [.u8 h.statusByte, .u8 (h.reg 0x100000C), .u8 h.bus.smbAddr, .u64 (h.ctr 0x1000018).val.toNat,
    .u64 (h.ctr 0x1000020).val.toNat])

def Hub.serveReg (h : Hub) (q : HodReq) : Hub × HodOut :=
  match q.op with
  | 0x0C01 => coolHeartbeatHod q h
  | 0x0D02 => leakQueryHod q h
  | 0x0E01 => senseReadHod q (q.num 0) h
  | 0x0E02 => senseCalHod q h
  | 0x0E03 => monReadHod q h
  | 0x0F01 => h.txnBegin q.who
  | 0x0F02 => txnCommitHod q h
  | 0x0F03 => h.txnAbort q.who (q.num 0)
  | 0x0F05 => warmResetHod q h
  | 0x0F06 => (h, .ok [.block (q.bytes 0)])
  | _ => hodCapsHod h

def Dev.serveFw (d : Dev) (q : HodReq) : Dev × HodOut :=
  match q.op with
  | 0x1201 => fwWriteHod q (q.num 0) (q.num 1) (q.bytes 2) d
  | 0x1202 => fwVerifyHod q (q.num 0) (q.num 1) d
  | 0x1203 => d.byHub (fwActivateHod q (q.num 0) (q.num 1) (q.num 2))
  | 0x1204 => d.byHub (fwQueryHod q)
  | 0x1205 => jobplaneLoadHod q (q.num 0) (q.num 1) (q.bytes 2) d
  | _ => accImageWriteHod q (q.num 0) (q.num 1) (q.bytes 2) d

def Dev.serveTop (d : Dev) (q : HodReq) : Dev × HodOut :=
  match q.op with
  | 0x1001 => d.byHub (idReadHod q (q.num 0) (q.num 1) (q.num 2) (q.num 3))
  | 0x1002 => d.byHub smbStatusHod
  | 0x1101 => d.byHub (rackQueryHod q (q.num 0))
  | 0x1102 => d.byHub (rackRoleHod q)
  | 0x1103 => d.byHub (rackSleepHod q)
  | 0x1301 => secQueryHod q d
  | 0x1302 => jtagUnlockHod q (q.num 0) (q.num 1) (q.num 2) (q.bytes 3) d
  | 0x1401 => d.byHub (logReadHod q (q.num 0) (q.num 1))
  | 0x1402 => d.byHub (logClearHod q)
  | 0x1403 => d.byHub (logStatusHod q)
  | _ => d.byHub (safetyQueryHod q)

/-- The service of an opcode that takes no effect at a boundary. -/
def Dev.serveNow (d : Dev) (q : HodReq) : Dev × HodOut :=
  match q.op / 256 with
  | 0x0C | 0x0D | 0x0E | 0x0F => d.byHub (·.serveReg q)
  | 0x12 => d.serveFw q
  | _ => d.serveTop q

/-! ### Requests in progress -/

/-- What a hod's window shows while its request is in progress (R385, R386, R394). -/
def Hub.showPhase (h : Hub) (q : HodReq) (p : HodPhase) : Hub :=
  if q.path = .window then
    let p := if h.timed q then .waiting else p
    h.updHod q.who.id (fun k => { k with
      phase := p, code := match p with | .waiting => 0x15 | .deferred => 0x1B | _ => 0 })
  else h

/-- A request that waits: for a boundary where its opcode completes after one. -/
def Hub.holdReq (h : Hub) (q : HodReq) : Hub :=
  let h := { h with hods := { h.hods with waiting := h.hods.waiting ++ [q] } }
  h.showPhase q (if [0x0808, 0x0F02, 0x1203, 0x1205, 0x1302].contains q.op then .waiting else .running)

/-- The outcome of a request: completed, staged for the boundary, or waiting. -/
def Hub.conclude (h : Hub) (q : HodReq) (due : Bool) : HodOut → Hub
  | .done st det pl => h.finish (completion q st det pl due)
  | .boundary =>
    let slice := q.op / 256 = 0x07 ∧ h.smp.inSlice
    let h := (h.stage (.hod q)).showPhase q (if slice then .deferred else .waiting)
    let h := if slice then { h with smp := { h.smp with hodsHeld := h.smp.hodsHeld + 1 } } else h
    if q.op = 0x0F04 then h.refPending else h
  | .wait => h.holdReq q

/-- A request that is executed (R390 step 9): staged in its transaction, staged for the next boundary, or served. -/
def Dev.execute (d : Dev) (q : HodReq) : Dev :=
  match findOp q.op with
  | none => d
  | some r =>
    let (d, o) : Dev × HodOut :=
      match d.hub.openTxn q.who with
      | some t =>
        if q.txn ≠ 0 then (if q.txn = t.id ∧ r.txn then d.byHub (·.stageHod t q) else (d, .badArg 0))
        else if r.bnd then (d, .boundary) else d.serveNow q
      | none =>
        if q.txn ≠ 0 then (d, .badArg 0) else if r.bnd then (d, .boundary) else d.serveNow q
    d.hubMap (·.conclude q false o)

/-- A request in kiln mode (R463): hods 0 and 9 only, and of the opcodes those the ROM serves. -/
def Dev.executeKiln (d : Dev) (q : HodReq) : Dev :=
  let served := (q.who == .pf0 || q.who == .smbus) && (findOp q.op).any (·.kiln)
  if served then d.execute q
  else d.hubMap (·.conclude q false (.fail (if q.op = 0x0807 then .version else .busy)))

/-- A request that has passed intake is served by the core, by the ROM in kiln mode, or held until the core is back
(R397, R463). -/
def Dev.serve (d : Dev) (q : HodReq) : Dev :=
  match d.hub.fw.phase with
  | .up => d.execute q
  | .kiln => d.executeKiln q
  | .off | .handover =>
    d.hubMap fun h => ({ h with hods := { h.hods with parked := h.hods.parked ++ [q] } }).showPhase q .running

/-- The requests in progress: those that wait for a boundary, for a later completion, or for the core (R397). -/
def Hub.inProgress (h : Hub) : Nat :=
  (h.rb.staged.filter (fun i => !i.isReg)).length + h.hods.waiting.length + h.hods.parked.length

/-- Once the core runs an image or the ROM serves, what waited for it goes on (R397): requests cut off by a warm reset
complete, and those that arrived meanwhile are served, with event 0x0F09. -/
def Dev.coreReady (d : Dev) : Dev :=
  if d.hub.fw.phase = .up ∨ d.hub.fw.phase = .kiln then
    let cut := d.hub.hods.afterBoot
    let qs := d.hub.hods.parked
    let n := d.hub.inProgress
    let d : Dev := d.hubMap fun (h : Hub) =>
      let h : Hub := { h with hods := { h.hods with afterBoot := [], parked := [] } }
      let h := cut.foldl (fun h c => h.finish c) h
      if n == 0 || h.fw.kiln || decide (h.fw.cause < 2) then h else h.event 0x0F09 [.u8 0x0C, .u16 (sat 65535 n)]
    qs.foldl (fun d q => d.serve q) d
  else d

end Sys2Proof.Machine
end

