-- ==== Sys2Proof/Machine/Commit.lean ====
section
/-!
DEFINITION. Machine/Commit.lean: how staged items take effect in the steps of R41, and what a commit leads to (R42, R373,
R375).
-/
namespace Sys2Proof.Machine

/-! ### The step of an item (R41) -/

/-- The steps of R41 at which staged items apply: 2, 3, 4 and 5, and the two halves of 6. -/
inductive StepOf where
  | period | parts | rest | jobs | queues
  deriving DecidableEq, Repr

/-- A register of the partition set and its quotas. -/
def partReg (a : Nat) : Bool :=
  (arrIx a 0x800040 16 4).isSome || (arrIx a 0x900040 16 4).isSome || (ownerTile a).isSome ||
  (arrIx a 0x600020 8 4).isSome || (arrIx a 0x300100 8 4).isSome

def TxnItem.step : TxnItem → StepOf
  | .reg _ a _ _ => if a = 0x100000 then .period else if partReg a then .parts else .rest
  | .hod q =>
    if q.op = 0x0809 then .parts
    else if q.op = 0x0807 ∨ q.op = 0x0808 then .jobs
    else if q.op = 0x0805 then .queues else .rest

/-! ### One item -/

/-- A course-buffered register write takes effect, with what its change leads to. -/
def Hub.applyWrite (h : Hub) (who a sel v : Nat) : Hub :=
  let old := h.reg a
  let set := h.setReg a (mergeBits sel old v)
  let cmd := sel &&& v
  if 0x201000 ≤ a ∧ a < 0x209000 then
    let x := (a - 0x201000) / 0x1000
    match (a - 0x201000) % 0x1000 with
    | 0 => set.applyPortCfg x old
    | 4 =>
      let h := if cmd.testBit 0 then h.fullAttempt x else h
      if cmd.testBit 1 then h.fenceRelease x else h
    | 0x10 => set.applySealCfg x old
    | _ => set
  else if 0xB01000 ≤ a ∧ a < 0xB0B000 then
    let c := (a - 0xB01000) / 0x1000
    match (a - 0xB01000) % 0x1000 with
    | 0 => set.applyChEn c
    | 0xC => h.chCtrl c cmd who
    | _ => set
  else if 0xC01000 ≤ a ∧ a < 0xC0F000 then
    if a % 0x1000 = 0 then set.applyCoolEn ((a - 0xC01000) / 0x1000) else set
  else if a = 0xD00004 then h.leakCtrl cmd who
  else if a = 0xA00004 then (if bits old 15 8 = set.fld a 15 8 then set else set.restartWindows)
  else if a = 0x1100000 then
    if old.testBit 0 != set.bitAt a 0 then set.enumStart
    else if old.testBit 1 != set.bitAt a 1 ∧ (h.rack.role = .worker ∨ h.rack.role = .standby) then set.setRole set.lesserRole 0
    else set
  else match arrIx a 0xC00010 8 4 with
    | some z => set.applyZone z old
    | none => set

/-- A staged register write takes effect: tile ownership, tile groups and the page table through their own rules, the
reference of the configuration CRC as one that this boundary brings (R369). -/
def Dev.applyReg (d : Dev) (who a sel v : Nat) : Dev :=
  match ownerTile a, arrIx a 0x400040 64 4 with
  | some n, _ => d.hubMap (fun h => h.applyOwner (d.holds (h.ownerReg n) n) n (v % 16))
  | none, some g => d.hubMap (·.applyGroup g (v % 4))
  | none, none =>
    d.hubMap fun h =>
      if a = 0x400004 then h.applyPtCfg (v % 16)
      else if a = 0xF00010 then h.updRb (fun b => { b with refDue := some v })
      else h.applyWrite who a sel v

/-- What a boundary has removed: the hub before step 3, and the partitions it then had and has no more. -/
structure Gone where
  before : Hub
  parts : List Nat

/-- The effect of a hod at a boundary. One on a stream whose partition is removed at the same boundary is REFUSED, and a class
change so dropped is recorded (R42, R228). -/
def Dev.effectAt (d : Dev) (g : Gone) (q : HodReq) : Dev × HodOut :=
  if 0x0801 ≤ q.op ∧ q.op ≤ 0x0806 ∧ (g.before.streamPart (q.num 0)).any g.parts.contains then
    (if q.op = 0x0805 then d.hubMap (·.event (0x0800 + Config.classDropCode.toNat) [.u16 (q.num 0)]) else d, .refused)
  else d.effect q

/-- An item made outside any transaction takes effect, and a hod is concluded. -/
def Dev.applyOutside (g : Gone) (d : Dev) : TxnItem → Dev
  | .reg who a sel v => d.applyReg who a sel v
  | .hod q => let (d, o) := d.effectAt g q; d.hubMap (·.conclude q true o)

/-- An item of a commit takes effect. -/
def Dev.applyInside (g : Gone) (d : Dev) : TxnItem → Dev
  | .reg who a sel v => d.applyReg who a sel v
  | .hod q => (d.effectAt g q).1

/-! ### Steps 3 to 6 -/

/-- The items of one step take effect in order. -/
def Dev.inStep (d : Dev) (f : Dev → TxnItem → Dev) (s : StepOf) (l : List TxnItem) : Dev :=
  (l.filter (fun i => decide (i.step = s))).foldl f d

/-- Step 3 for one list of items: partitions whose EN changes are switched, over the ranges they had or are given, the items
take effect, and accelerators whose
partitions change are lost to the objects they leave (R227, R249). -/
def Dev.partsStep (d : Dev) (f : Dev → TxnItem → Dev) (l : List TxnItem) : Dev :=
  let cfg := overlayAll d.hub.reg (stagedWrites l)
  let d := ((List.range 8).filter (fun p => (cfg (partCfg p)).testBit 31 != d.hub.partEn p)).foldl
    (fun d p => d.hubMap (fun h => h.switchPart (if h.partEn p then h.reg else cfg) p)) d
  let was := d.hub
  let d := d.inStep f .parts l
  ((List.range 8).filter (fun x => d.hub.reg (0x300100 + 4 * x) ≠ was.reg (0x300100 + 4 * x))).foldl
    (fun d x => d.hubMap (·.loseSync x)) d

/-- JOB_ENDs whose jobs have reached NONE complete (R225). -/
def Hub.jobsEnded (h : Hub) : Hub := h.finishWaitIf 0x0808 (fun q => h.jobState (q.part (q.num 0)) == .none) .ok 0 []

/-- Step 3 over what is made outside and the passing commits, with what it removes. -/
def Dev.step3 (d : Dev) (out : List TxnItem) (cs : List (List TxnItem)) : Dev × Gone :=
  let h0 := d.hub
  let d := d.hubMap (·.ownTested)
  let d := d.partsStep (Dev.applyOutside ⟨h0, []⟩) out
  let d := cs.foldl (fun d l => d.partsStep (Dev.applyInside ⟨h0, []⟩) l) d
  (d, ⟨h0, (List.range 8).filter (fun p => h0.partEn p && !d.hub.partEn p)⟩)

/-- Steps 4 to 6. -/
def Dev.steps456 (d : Dev) (g : Gone) (out : List TxnItem) (cs : List (List TxnItem)) : Dev :=
  let both (d : Dev) (s : StepOf) : Dev :=
    cs.foldl (fun d l => d.inStep (Dev.applyInside g) s l) (d.inStep (Dev.applyOutside g) s out)
  let d := both (d.hubMap (·.closeStreams)) .rest
  let d := both (d.hubMap (·.settleJobs)) .jobs
  let d := d.hubMap fun (h : Hub) => { h.jobsEnded with str := { h.jobsEnded.str with jobBoundary := h.jobsNone } }
  (both d .queues).hubMap (·.openStreams)

/-- The items of a commit applied to a copy of the device, to see what they lead to. -/
def Dev.trial (d : Dev) (l : List TxnItem) : Dev := let (d, g) := d.step3 [] [l]; d.steps456 g [] [l]

/-! ### What a commit leads to (R373, R375) -/

/-- Why a hod would fail; none where it would not. -/
def HodOut.failure : HodOut → Option (Status × Nat)
  | .done st det _ => if st = .ok ∨ st = .accepted then none else some (st, det)
  | _ => none

/-- The hods of a commit tried in the order of the steps: the index and status of each that fails. -/
def Dev.tryHods (d : Dev) (g : Gone) (l : List (Nat × TxnItem)) : List (Nat × Status × Nat) :=
  (([.parts, .rest, .jobs, .queues] : List StepOf).flatMap (fun s => l.filter (fun i => decide (i.2.step = s)))).foldl
    (fun (acc : Dev × List (Nat × Status × Nat)) i =>
      match i.2 with
      | .reg .. => acc
      | .hod q =>
        let (d', o) := acc.1.effectAt g q
        match o.failure with
        | none => (d', acc.2)
        | some st => (acc.1, acc.2 ++ [(i.1, st)])) (d.hubMap (·.closeStreams), []) |>.2

def isRegItem (i : Nat × TxnItem) : Bool := i.2.isReg

/-- The status of a register item that fails its check: REFUSED for one of the partition set and its quotas (R33, R209, R233),
BAD_ARG for another. -/
def failStatus (a : Nat) : Status :=
  if (arrIx a 0x800040 16 4).isSome || (arrIx a 0x900040 16 4).isSome then .refused else .badArg

/-- The items that fail their own rule: with the transitions they start over when `settled`, else only started. -/
def Dev.failures (d : Dev) (settled : Bool) (l : List (Nat × TxnItem)) : List (Nat × Status × Nat) :=
  let ws := stagedWrites (l.map (·.2))
  let bad := l.filterMap fun i =>
    match i.2 with
    | .reg _ a sel v =>
      let rest := ws.filter (fun w => w.1 != a)
      let c := if settled then d.checkSettled rest a sel v else d.checkWrite rest a sel v
      if c.1 then none else some (i.1, failStatus a, 0)
    | .hod _ => none
  let base := if settled then
      ((d.hubMap (·.groupsReady ws)).withOwners ws 0).hubMap (·.testsOver) else d
  let regs := (l.filter isRegItem).map (·.2)
  let (d3, g) := base.step3 [] [regs]
  bad ++ (d3.steps456 g [] [regs]).tryHods g l

/-- The first item that fails, by index. -/
def firstFailure (l : List (Nat × Status × Nat)) : Option (Nat × Status × Nat) :=
  l.foldl (fun m e => match m with | some b => if e.1 < b.1 then some e else m | none => some e) none

/-- The partitions whose context tile a commit makes theirs only once its transitions have ended (R209, R375). -/
def Dev.lateParts (d : Dev) (ws : Writes) : List Nat :=
  let cfg := overlayAll d.hub.reg ws
  let a := d.withOwners ws 0
  let b := ((d.hubMap (·.groupsReady ws)).withOwners ws 0).hubMap (·.testsOver)
  (List.range 8).filter fun p =>
    let t := bits (cfg (partCtx p)) 9 0
    (cfg (partCfg p)).testBit 31 && decide (bits (cfg (partCtx p)) 25 16 < bits (cfg (partCfg p)) 29 16) &&
    !a.hub.hubTileOk p t && b.hub.hubTileOk p t

/-- The partitions whose full rows a commit completes with tiles that are still TESTING (R375). -/
def Dev.rowParts (d : Dev) (ws : Writes) : List Nat :=
  let b := ((d.hubMap (·.groupsReady ws)).withOwners ws 0).hubMap (·.testsOver)
  (List.range 8).filter fun p => ws.any fun w =>
    match ownerTile w.1 with
    | some n => w.2.2 % 16 == p && (d.hub.tileAt n).st == .testing && b.hub.fullRow p (n / 16)
    | none => false

/-- A PAGE_ALLOC or LEASE_SET for one of those partitions: it is checked at stage 2 (R375). -/
def Hub.atStage2 (h : Hub) (ps : List Nat) : TxnItem → Bool
  | .reg .. => false
  | .hod q =>
    if q.op = 0x0401 then ps.contains (q.part (q.num 0))
    else if q.op = 0x0403 then
      (match q.who with
        | .vf n => ps.contains n.val
        | _ => !ps.isEmpty && (!h.validPage (q.num 0) || ps.contains (h.pte (q.num 0)).part))
    else false

/-- More items wait until those that stay would pass with the transitions only started. -/
def Dev.grow (d : Dev) (l : List (Nat × TxnItem)) : Nat → List Nat → List Nat
  | 0, w => w
  | n + 1, w =>
    match (d.failures false (l.filter (fun i => !w.contains i.1))).map (·.1) with
    | [] => w
    | more => d.grow l n (w ++ more)

/-- The items of a commit that wait for its second stage: those whose check depends on a transitional object (R375), and
with `hold` the JOB_STARTs that R226 holds. -/
def Dev.waiting (d : Dev) (l : List (Nat × TxnItem)) (hold : Bool) : List Nat :=
  let late := d.lateParts (stagedWrites (l.map (·.2)))
  let rows := d.rowParts (stagedWrites (l.map (·.2)))
  let seed := l.filterMap fun i =>
    match i.2 with
    | .reg _ a _ _ => if late.any (fun p => a == partCfg p || a == partCtx p) then some i.1 else none
    | .hod q => if (hold ∧ q.op = 0x0807) ∨ d.hub.atStage2 rows (.hod q) = true then some i.1 else none
  d.grow l l.length seed

/-- The transition of R375 that the write of a port's register has started. -/
def Hub.startedPort (h : Hub) (x o : Nat) : List Transition :=
  if (o = 0 ∨ o = 0x10) ∧ (h.port x).st = .retrain then [Transition.port x false]
  else if o = 0x10 ∧ h.bitAt (portReg x 0x10) 0 ∧ (h.port x).st = .active ∧ (h.port x).sealed = false then
    [Transition.port x true]
  else []

/-- The transitions that the write of a register has started, on the hub as it leaves it. -/
def Hub.startedBy (h : Hub) (a : Nat) : List Transition :=
  match ownerTile a with
  | some n => if (h.tileAt n).st = .testing ∧ h.ownerReg n < 8 then [Transition.tile n] else []
  | none =>
    match arrIx a 0x400040 64 4 with
    | some g => if h.groupPower g = .starting then [Transition.group g] else []
    | none =>
      if a = 0x600004 then
        ((List.range 24).filter (fun n => !h.bitAt 0x600004 n && h.mortar.on.testBit n)).map Transition.engine
      else if a = 0x700000 then
        ((List.range 2).filter (fun s => !h.bitAt 0x700000 s && h.smp.on.testBit s)).map Transition.sampler
      else if a / 0x100000 = 2 then h.startedPort ((a - 0x201000) / 0x1000) ((a - 0x201000) % 0x1000)
      else []

/-- The transitions of R375 that items have started, on the device as they leave it. -/
def Dev.started (d : Dev) (l : List TxnItem) : List Transition := (stagedWrites l).flatMap fun w => d.hub.startedBy w.1

/-- A transition has ended (R375). -/
def Hub.ended (h : Hub) : Transition → Bool
  | .tile n => (h.tileAt n).st != .testing || (h.tileAt n).tested
  | .group g => h.groupPower g != .starting && (groupTiles g).all (fun n => (h.tileAt n).st != .testing)
  | .port x true => (h.port x).closed || ((h.port x).st == .active && (h.port x).sealed)
  | .port x false => (h.port x).closed || (h.port x).st == .active
  | .engine n => !h.mortar.on.testBit n || h.mortar.engineLoad n == 0
  | .sampler s => !h.smp.on.testBit s || h.smp.open_ s == 0

/-- A transition of a port ended by a fence (R525): one for reason 0x08 is the end that R375 gives a seal exchange. -/
def Hub.fencedOut (h : Hub) : Transition → Bool
  | .port x sl => (h.port x).closed && !(sl && (h.port x).fenceReason == 8)
  | _ => false

/-- What a boundary does with one transaction: the items it applies, those that wait, the transitions they wait for, and how
the commit ends: its status and DETAIL, the failing item and the register of a conflict. -/
structure Plan where
  txn : Txn
  now : List TxnItem := []
  later : List (Nat × TxnItem) := []
  waits : List Transition := []
  done : Option (Status × Nat × Option Nat × Option Nat) := none

/-- A staging commit at a boundary (R375, R525). `d` is the device as what is outside and the commits before it leave it. -/
def Dev.planStage (d : Dev) (t : Txn) (hold : Bool) : Plan :=
  if t.waits.any d.hub.fencedOut then { txn := t, done := some (.timeout, 0, none, none) }
  else if !t.waits.all d.hub.ended || (hold && t.items.any (fun i => match i.2 with | .hod q => q.op == 0x0807 | .reg .. => false)) then
    { txn := t, later := t.items, waits := t.waits }
  else match firstFailure (d.failures false t.items) with
    | some (i, st, det) => { txn := t, done := some (st, det, some i, none) }
    | none => { txn := t, now := t.items.map (·.2), done := some (.ok, 0, none, none) }

/-- A commit at its boundary (R373, R375). -/
def Dev.planCommit (d : Dev) (t : Txn) (hold : Bool) : Plan :=
  let clash := t.items.findSome? fun i =>
    match i.2 with
    | .reg _ a _ _ => if t.changed.contains a || (d.hub.lockedBy a).isSome then some (i.1, a) else none
    | .hod _ => none
  if t.overflow then { txn := t, done := some (.noResource, 0, none, none) }
  else match clash with
    | some (i, a) => { txn := t, done := some (.conflict, 0, some i, some a) }
    | none =>
      let rows := d.rowParts (stagedWrites (t.items.map (·.2)))
      match firstFailure (d.failures true (t.items.filter fun i => !d.hub.atStage2 rows i.2)) with
      | some (i, st, det) => { txn := t, done := some (st, det, some i, none) }
      | none =>
        let w := d.waiting t.items hold
        let later := t.items.filter (fun i => w.contains i.1)
        let now := (t.items.filter (fun i => !w.contains i.1)).map (·.2)
        let waits := (d.trial now).started now
        let held := later.all fun i => match i.2 with | .hod q => hold && q.op == 0x0807 | .reg .. => false
        if waits.isEmpty && later.isEmpty then { txn := t, now, done := some (.ok, 0, none, none) }
        else if waits.isEmpty && !held then
          match firstFailure (d.failures false t.items) with
          | some (i, st, det) => { txn := t, done := some (st, det, some i, none) }
          | none => { txn := t, done := some (.badArg, 0, some 0, none) }
        else { txn := t, now, later, waits }

/-- The outcomes of the boundary's commits, decided in order of arrival, each on what the ones before it leave (R373). -/
def Dev.plans (d : Dev) (hold : Bool) : List Plan :=
  ((d.hub.rb.txns.filter (fun t => t.phase != .opened)).foldl (fun (acc : Dev × List Plan) t =>
    let p := if t.phase = .staging then acc.1.planStage t hold else acc.1.planCommit t hold
    (if p.now.isEmpty then acc.1 else acc.1.trial p.now, acc.2 ++ [p])) (d, [])).2

/-- A plan carried out in the transaction table: the commit completes, or goes on to its second stage. -/
def Hub.closePlan (h : Hub) (p : Plan) : Hub :=
  match p.done with
  | some (st, det, i, reg) =>
    let h := if st = .ok then
        (match p.txn.ref with | some r => h.updRb (fun b => { b with refDue := some r }) | none => h)
      else h
    h.commitDone p.txn st det i reg
  | none =>
    h.updTxn p.txn.id fun t => { t with
      phase := .staging, items := p.later, waits := p.waits
      written := if t.phase = .staging then t.written else t.items.countP (·.2.isReg)
      age := if t.phase = .staging then t.age else 0 }

end Sys2Proof.Machine
end

