-- ==== Sys2Proof/Machine/Resets.lean ====
section
/-!
DEFINITION. Machine/Resets.lean: the resets of R376 and what each leaves, the start of the base die (R141, R502, R550), the
thermal trip (R545) and the losses of supplies and of the crystal (R24, R541, R549).
-/
namespace Sys2Proof.Machine

/-- A table with every entry changed, and those that come to the default dropped. -/
def Tbl.mapVals {α : Type} [DecidableEq α] (d : α) (f : α → α) (t : Tbl α) : Tbl α :=
  (t.map fun e => (e.1, f e.2)).filter fun e => decide (e.2 ≠ d)

/-- A register is coded AO (R10). -/
def regAo (a : Nat) : Bool := (findRow a).any (·.ao)

/-- An offset lies in a block whose AO state the footing die holds: HOTSWAP, LEAK and SENSE. -/
def onFooting (a : Nat) : Bool := decide ((0xB00000 ≤ a ∧ a < 0xC00000) ∨ (0xD00000 ≤ a ∧ a < 0xF00000))

/-- The pumps' COOL.CH_CFG.EN at reset follows COOL_MODE (R335). -/
def Hub.pumpReset (h : Hub) : Hub :=
  if h.cool.liquid then h else [12, 13].foldl (fun h c => h.setFld (coolReg c 0) 31 31 0) h

/-- The footing die's part of the power path, cooling and sensing, which outlives every base-die reset (R303, R330, R376). -/
def Hub.footPath (h : Hub) : HotSwap :=
  { ch := h.hs.ch.mapVals {} fun k => { k with tick := false }
    vbus := h.hs.vbus, busGood := h.hs.busGood, flowLoss := h.hs.flowLoss, stop := h.hs.stop, baseThrot := h.hs.baseThrot }
def Hub.footCool (h : Hub) : Cooling :=
  { liquid := h.cool.liquid, critSel := h.cool.critSel, rope := h.cool.rope, shdnCrit := h.cool.shdnCrit
    shdnExt := h.cool.shdnExt, fault := h.cool.fault % 2 ^ 26
    ch := h.cool.ch.mapVals {} fun k => { cmd := k.cmd, tach := k.tach, flow := k.flow } }
def Hub.footSense (h : Hub) : Sense :=
  { h.sense with mirror := [], dts := [], vmon := [], pm := h.sense.pm.mapVals {} Pmon.stored }

/-- What the field list in the flash keeps of repairs (R141): the failed tiles, and the spares fitted and failed. -/
def Tiles.repairs (t : Tiles) : Tiles := { failList := t.failList, spareFor := t.spareFor, spareBad := t.spareBad }

/-! ### Power-on reset -/

/-- All base-die state at its reset values; the footing die, the flash and its records, and the level of the alert inputs stay
(R376). -/
def Hub.baseReset (h : Hub) : Hub :=
  let h' : Hub :=
    { regs := h.regs.filter (fun e => onFooting e.1 && regAo e.1)
      ctrs := h.ctrs.filter (fun e => onFooting e.1)
      free := h.free
      up := false
      ev := { log := h.ev.log, full := h.ev.full, journalA := h.ev.journalA, journalB := h.ev.journalB,
              inForceB := h.ev.inForceB, clearCount := clearCountOf h.ev.journal, footCount := h.ev.footCount }
      tile := h.tile.repairs
      hs := { h.footPath with baseThrot := h.therm.aux }
      cool := h.footCool
      sense := h.footSense
      gov := { acc := h.gov.acc.mapVals {} fun g => { vrWire := g.vrWire, vrForced := g.vrWire } }
      bus := { irq := h.bus.irq.mapVals {} fun e => { sent := e.sent } }
      fw := { bcr0 := h.fw.bcr0, bcr1 := h.fw.bcr1 }
      therm := { tripLatch := h.therm.tripLatch, tripSensor := h.therm.tripSensor, tripReading := h.therm.tripReading
                 tripped := h.therm.tripped, xtalLost := h.therm.xtalLost, supply := h.therm.supply, aux := h.therm.aux
                 auxLost := h.therm.auxLost
                 straps := { coolMode := h.therm.straps.coolMode, critSel := h.therm.straps.critSel } } }
  h'.pumpReset

/-- The base die is held in power-on reset: tile SRAM and spill memory keep nothing. -/
def Dev.baseReset (d : Dev) : Dev := { d with hub := d.hub.baseReset, mem := { d.mem with tile := [], spill := [] } }

/-- The row POWER_ON_RESET: the base-die supplies rise when `rise`, or HUB_RST_L is asserted (R376, R550). -/
def Dev.powerOnReset (d : Dev) (rise : Bool) : Dev :=
  (d.hubMap fun (h : Hub) => { h with therm := { h.therm with supply := h.therm.supply || rise } }).baseReset

/-- A footing die at its reset values (R376): the straps COOL_MODE and CRIT_SEL as sampled; the flash outlives it. -/
def Hub.footReset (h : Hub) (liquid : Bool) (crit : BitVec 2) : Hub :=
  let h' : Hub :=
    { free := h.free
      ev := { log := h.ev.log, full := h.ev.full, journalA := h.ev.journalA, journalB := h.ev.journalB,
              inForceB := h.ev.inForceB, clearCount := h.ev.clearCount }
      tile := h.tile.repairs
      hs := { baseThrot := h.therm.aux }
      cool := { liquid, critSel := crit.toNat }
      sense := { pm := h.sense.pm.mapVals {} Pmon.stored }
      bus := { irq := h.bus.irq.mapVals {} fun e => { sent := e.sent } }
      fw := { bcr0 := h.fw.bcr0, bcr1 := h.fw.bcr1 }
      therm := { xtalLost := h.therm.xtalLost, supply := h.therm.supply, aux := h.therm.aux
                 straps := { coolMode := liquid, critSel := crit } } }
  (if liquid then h' else h'.setFld (hsReg 8 0) 31 31 0).pumpReset

/-- VIN_AUX rises (R376): everything returns to reset values, with the base die in power-on reset. -/
def Dev.footingPowerOn (d : Dev) (liquid : Bool) (crit : BitVec 2) : Dev :=
  let h : Hub := d.hub
  let h : Hub := { h with therm := { h.therm with aux := true } }
  { d with hub := h.footReset liquid crit, mem := { d.mem with tile := [], spill := [] } }

/-- VIN_AUX falls (R541): the footing die stops, its outputs float, the base die is held in power-on reset, and the
thermal-trip latch releases. -/
def Dev.auxLoss (d : Dev) : Dev :=
  let h : Hub := d.hub
  let h : Hub := { h with therm := { h.therm with aux := false } }
  { d with hub := h.footReset h.cool.liquid h.therm.straps.critSel, mem := { d.mem with tile := [], spill := [] } }

/-- A base-die supply leaves its range (R24). -/
def Dev.supplyLoss (d : Dev) : Dev :=
  (d.hubMap fun (h : Hub) => { h with therm := { h.therm with supply := false } }).baseReset

/-- The core PLL loses lock (R549). -/
def Dev.crystalLoss (d : Dev) : Dev :=
  (d.hubMap fun (h : Hub) => { h with therm := { h.therm with xtalLost := true } }).baseReset

/-! ### Start of the base die -/

/-- Boot repair (R141): each group's spare takes the place of its first failed tile, and keeps it at later boots unless the
spare itself has failed; the other failed tiles stay FAILED. Of several found at one boot, the first is the lowest tile number:
the spec does not say (log entry 93). -/
def Hub.bootRepair (h : Hub) (bad : List Nat) : Hub :=
  ((List.range 768).filter fun n => bad.contains n || h.tile.failList.contains n).foldl (fun (h : Hub) n =>
    let g := tileGroup n
    match Tbl.get none h.tile.spareFor g with
    | none => { h with tile := { h.tile with spareFor := h.tile.spareFor.set none g (some n) } }
    | some t => if t = n ∧ h.tile.spareBad.testBit g = false then h else h.updTile n (fun t => { t with st := .failed })) h

/-- Spill training (R133): `gib` GiB on eight channels, or none; the top 1/512 holds tags. -/
def Hub.trainSpill (h : Hub) (gib bad : Nat) : Hub :=
  if gib = 0 then h
  else
    let fail : Bool := decide (bad % 256 ≠ 0)
    let h : Hub := { h with tile := { h.tile with
      spillFrames := if fail then 0 else gib * 16384 / 512 * 511, chPresent := 0xFF - bad % 256, memFail := fail } }
    if fail then h.event 0x0501 [.u8 (bad % 256)] else h

/-- The base die leaves power-on reset (R502, R545, R550): straps are sampled, the first record is 0x1405, then that of a
thermal trip or of a crystal's return; boot repair and training run, spill keys are drawn and enumeration starts. -/
def Hub.startBase (h : Hub) (b : Boot) : Hub :=
  let first := h.therm.auxLost
  let trip := h.therm.tripped
  let xtal := h.therm.xtalLost
  let lost := h.ev.footCount.getD 0xFF
  let h : Hub := { h with
    up := true
    ev := { h.ev with footCount := some 0 }
    rb := { h.rb with cause := if first then 0 else 1 }
    bus := { h.bus with smbAddr := 0x60 + b.smbAddr.toNat }
    hs := { h.hs with step := 2 }
    therm := { h.therm with
      auxLost := false, tripped := false, xtalLost := false
      straps := { h.therm.straps with smbAddr := b.smbAddr, mgrEn := b.mgrEn, bootKiln := b.bootKiln } } }
  let h := h.event 0x1405 [.u8 h.rb.cause, .u8 (b2n first), .u8 lost]
  let h := if trip then
      (h.flag 0x100030 31).event 0x0112 [.u8 h.therm.tripSensor, .u16 (unsigned 16 h.therm.tripReading)]
    else h
  let h := if xtal then h.clkEvent 1 true else h
  let h := (h.bootRepair b.badTiles).trainSpill b.gib b.badChannels
  let h := (List.range 8).foldl (fun h x => h.courseReasons x 1) h.fixedSeats.id8Read
  let h := { h with cool := { h.cool with zoneDue := true } }
  ((List.range 8).foldl Hub.newSpillKeys h).enumStart

/-- The base die may start: its supplies and VIN_AUX are in range, the crystal runs and no thermal trip is latched. -/
def Hub.mayStart (h : Hub) : Bool := !h.up && h.therm.supply && h.therm.aux && !h.therm.tripLatch

/-- The row HUB_RST_DEASSERT. -/
def Hub.rstDeassert (h : Hub) (b : Boot) : Hub := if h.mayStart && !h.therm.xtalLost then h.startBase b else h

/-- The row CRYSTAL_RESTORED. -/
def Hub.crystalBack (h : Hub) (b : Boot) : Hub :=
  if h.therm.xtalLost then
    if h.mayStart then h.startBase b else { h with therm := { h.therm with xtalLost := false } }
  else h

/-! ### Thermal trip (R545) -/

/-- A valid die reading at or above 115 °C: the trip is latched, SYS_SHDN_L falls and the base die is held in reset. -/
def Dev.thermTrip (d : Dev) : Dev :=
  match (List.range 32).find? (fun m => !(d.hub.dts m).fail && decide (920 ≤ (d.hub.dts m).reading)) with
  | some m =>
    let r := (d.hub.dts m).reading
    (d.hubMap (fun h => h.driveShdn (fun (h : Hub) =>
      { h with therm := { h.therm with tripLatch := true, tripSensor := m, tripReading := r, tripped := true } }) 0xFF r)).baseReset
  | none => d

/-- HUB_RST_L has been low for 100 ms: the latch and its hold on SYS_SHDN_L release. -/
def Hub.tripRelease (h : Hub) : Hub :=
  if h.therm.tripLatch ∧ !h.up then
    h.driveShdn (fun (h : Hub) => { h with therm := { h.therm with tripLatch := false } }) 0xFF h.therm.tripReading
  else h

/-! ### Warm reset -/

/-- A tile after a warm reset (R376): through TESTING, but for the page table's, failed and unpowered ones; a tile whose repair
is pending becomes FAILED as it is released (R141). -/
def Tile.warm (n : Nat) (t : Tile) : Tile :=
  if n = 752 then { st := .hub }
  else match t.st with
    | .failed => { st := .failed, repair := t.repair, await := t.await }
    | .unpowered => { st := .unpowered }
    | _ => if t.repair then { st := .failed, repair := true, await := true } else { st := .testing }

def Tiles.warm (t : Tiles) : Tiles :=
  { tile := ((List.range 768).map fun n => (n, (Tbl.get {} t.tile n).warm n)).filter fun e => decide (e.2 ≠ {})
    group := t.group.mapVals .on fun g => if g = .off ∨ g = .starting then .starting else .on
    spareFor := t.spareFor, spareBad := t.spareBad, failList := t.failList, spillFrames := t.spillFrames, chPresent := t.chPresent
    memFail := t.memFail }

/-- A port after a warm reset: through DISABLED to DETECT, its cables still present. -/
def Port.warm (p : Port) : Port := { cblA := p.cblA, cblB := p.cblB }

/-- A hod after a warm reset (R391, R397): the tag memory without its payloads, and the request in progress. -/
def Hod.warm (k : Hod) : Hod :=
  { out := k.out, stale := k.stale
    phase := if k.out.any (·.path = .window) then .running else .idle
    tag := if k.out.any (·.path = .window) then k.tag else 0
    tags := k.tags.map fun e => { e with payload := [], lost := e.lost || decide (e.len ≠ 0) } }

/-- The hods among staged changes. -/
def stagedHods (l : List TxnItem) : List HodReq := l.filterMap fun i => match i with | .hod q => some q | .reg .. => none

/-- Every request that is not DONE, with how it will complete (R397). -/
def Hub.cutRequests (h : Hub) : List Held :=
  let qs := h.hods.waiting ++ stagedHods h.rb.staged ++ h.hods.parked ++ h.hods.held.map (·.req)
  h.hods.afterBoot ++ qs.map fun q => completion q (if q.op = 0x1402 ∧ h.ev.clearing then .ok else .busy) 0 [] false

/-- What a warm reset keeps of an accelerator's governor state: identity, ceilings, counts and the levels of its wires. -/
def GovAcc.warm (g : GovAcc) : GovAcc :=
  { ident := g.ident, ceil := g.ceil, badTelem := g.badTelem, frac := g.frac, vrWire := g.vrWire, vrForced := g.vrForced
    diode := g.diode, diodesDead := g.diodesDead }

/-- A push that had not ended begins again when its port next reaches ACTIVE. -/
def Hub.freshPushes (h : Hub) : Hub :=
  (List.range 8).foldl (fun h x =>
    let st := (h.push x).st
    if st = 0 ∨ st = 4 then h else h.updHs x (fun k => { k with fresh := true })) h

/-- FW.BOOT is coded AO (R475): the restarts of the last 10 s, a staged image and the other fields live through a warm reset,
until the ROM boots from the record (R459, R466). -/
def Fw.warm (f : Fw) : Fw :=
  { cause := f.cause, trial := f.trial, slot := f.slot, restarts := f.restarts, kilnCause := f.kilnCause, stage := f.stage
    bcr0 := f.bcr0, bcr1 := f.bcr1 }

/-- Every base-die register not coded AO and all data-plane state at their reset values (R376, R377); `cause` goes to
REG.RESET_CAUSE and `who` into event 0x0F05. -/
def Hub.warmReset (h : Hub) (cause who : Nat) : Hub :=
  let h := (h.rb.txns.filter (fun t => t.phase == .opened)).foldl (fun h t => h.hubAbort t 2) h
  let h := (List.range 8).foldl (fun h x => h.leaveActive (h.port x)) h
  let h := if h.rb.crcPhase = .none then h else h.irq 0 3
  let h := (h.endSessions 4).jpStop
  let h := h.freshPushes
  let resume := !h.sec.rng
  let h' : Hub :=
    { regs := h.regs.filter (fun e => regAo e.1)
      ctrs := h.ctrs
      free := h.free
      up := true
      crs := { count := h.crs.count, wrap := h.crs.wrap, ticks := h.crs.ticks }
      ev := { h.ev with once := [] }
      hods := { hod := h.hods.hod.mapVals {} Hod.warm, afterBoot := h.cutRequests }
      rb := { cause }
      fab := { port := h.fab.port.mapVals {} Port.warm }
      tile := h.tile.warm
      mortar := { failed := h.mortar.failed, on := h.mortar.on, st := { skips := h.mortar.st.skips } }
      smp := { failed := h.smp.failed, on := h.smp.on, st := { skips := h.smp.st.skips } }
      str := { dseq := h.str.dseq, jobNum := h.str.jobNum }
      hs := { h.footPath with step := 2 }
      cool := h.footCool
      sense := h.footSense
      gov := { acc := h.gov.acc.mapVals {} GovAcc.warm, frac := h.gov.frac }
      bus := { irq := h.bus.irq, linkUp := h.bus.linkUp, rate := h.bus.rate, width := h.bus.width, numVfs := h.bus.numVfs, smbAddr := h.bus.smbAddr
               smbRst := h.bus.smbRst, mem := h.bus.mem, idFault := h.bus.idFault, sled := h.bus.sled, cable := h.bus.cable }
      fw := h.fw.warm
      sec := { keySet := h.sec.keySet, keyLack := h.sec.keyLack, image := h.sec.image }
      safety := { dataMax := h.safety.dataMax, mgmtMax := h.safety.mgmtMax }
      therm := h.therm }
  let h := (List.range 8).foldl (fun k x => k.courseReasons x (h.reasonNow x)) h'.pumpReset
  let h := { h with cool := { h.cool with zoneDue := decide (h.crs.count.toNat % 2000 = 0) } }
  let h := h.event 0x0F05 [.u8 who]
  let h := if resume then h.event 0x1306 [.u8 0xFF] else h
  ((List.range 8).foldl Hub.newSpillKeys h).enumStart

/-! ### PCIe resets (R376, R377, R411) -/

/-- The function's MSI-X table and Pending Bits return to their reset values (R376, R410); what was sent stays sent. -/
def Hub.clearVectors (h : Hub) (fn : Nat) : Hub :=
  { h with bus := { h.bus with
    irq := (List.range 8).foldl (fun t v => t.upd {} (8 * fn + v) fun e => { sent := e.sent }) h.bus.irq } }

/-- One function is reset: its MSI-X table is cleared, its hod's window returns to IDLE with an empty buffer, a request past
intake goes on with its response to be discarded, and its open transaction is aborted. -/
def Hub.functionReset (h : Hub) (r : Requester) : Hub :=
  let h := (h.clearVectors r.id).updHod r.id fun k =>
    let cut := k.out.any (·.path = .window)
    { k with
      phase := .idle, code := 0, tag := 0, buf := []
      stale := if cut then k.stale ++ k.out.toList else k.stale
      out := if cut then none else k.out }
  h.abortFor r 2

/-- PF0 and every VF. -/
def pcieFunctions : List Requester := .pf0 :: (List.finRange 8).map .vf

/-- A reset of PF0 clears NumVFs (R376, R409). -/
def Hub.noVfs (h : Hub) : Hub := { h with bus := { h.bus with numVfs := 0 } }

/-- The row PCIE_RESET: a conventional reset, a hot reset or the loss of the link. -/
def Hub.pcieReset (h : Hub) : Hub :=
  let was := h.bus.linkUp
  let h := pcieFunctions.foldl Hub.functionReset h
  let h : Hub := { h with bus := { h.bus with linkUp := false, rate := 0, width := 0, numVfs := 0 } }
  if was then h.event 0x1007 [.u8 0, .u8 0] else h

/-- The row FLR: of PF0, which covers the VFs, or of one VF. -/
def Hub.flr (h : Hub) (vf : Option (Fin 8)) : Hub :=
  match vf with
  | some n => h.functionReset (.vf n)
  | none => (pcieFunctions.foldl Hub.functionReset h).noVfs

end Sys2Proof.Machine
end

