-- ==== Sys2Proof/Machine/Boundary.lean ====
section
/-!
DEFINITION. Machine/Boundary.lean: the course boundary with its steps in order (R41), the grant point (R44 to R47), and the
recomputation of the configuration CRC (R368 to R370).
-/
namespace Sys2Proof.Machine

/-! ### Before the changes -/

/-- Every brick at the stream scheduler is executed (R43). -/
def Hub.drainStreams (h : Hub) : Hub :=
  (h.fab.inbox.filter (·.unit == 0xC3)).foldl (fun h i => h.streamMessage i.port (dfield i.brick.payload 0 1)) h

/-- An action waits for a tray-wide job boundary, or has begun at one and has not ended (R226, R444, R465). -/
def Hub.actionWaits (h : Hub) : Bool :=
  h.fw.pend.isSome || (h.fw.cause == 4 && h.fw.phase != .up) ||
  (h.rack.rejoin.isSome && h.rack.local_ && !h.rack.rejoinFail)

def TxnItem.isJobStart : TxnItem → Bool
  | .hod q => q.op == 0x0807
  | .reg .. => false

/-- Register writes staged outside any transaction are checked again against what the others leave; one that now fails is
ignored (R367). -/
def Dev.recheck (d : Dev) : Dev :=
  let l := d.hub.rb.staged
  let bad := l.filter fun i =>
    match i with
    | .reg _ a sel v => !(d.checkWrite (stagedWrites (l.filter (fun j => !j.isRegAt a))) a sel v).1
    | .hod _ => false
  bad.foldl (fun d i =>
    match i with
    | .reg _ a sel v =>
      let c := d.checkWrite (stagedWrites (l.filter (fun j => !j.isRegAt a))) a sel v
      d.hubMap fun h => (h.updRb (fun b => { b with staged := b.staged.filter (· != i) })).raise c.2
    | .hod _ => d) d

/-- Step 3 to step 6 of the changes made outside, on a trial copy. -/
def Dev.trialOutside (d : Dev) (out : List TxnItem) : Dev := let (d, g) := d.step3 out []; d.steps456 g out []

/-- The hub as the commits of a boundary meet it: what is outside has taken effect. -/
def Dev.plansAfter (d : Dev) (out : List TxnItem) (hold : Bool) : List Plan := (d.trialOutside out).plans hold

/-- JOB_STARTs are held at this boundary (R226): an action waits for it, and without them every job is NONE. -/
def Dev.holds226 (d : Dev) (out : List TxnItem) : Bool :=
  d.hub.actionWaits &&
  (let out := out.filter (!·.isJobStart)
   let ps := d.plansAfter out true
   let after := ps.foldl (fun (d : Dev) p => if p.now.isEmpty then d else d.trial p.now) (d.trialOutside out)
   after.hub.jobsNone)

/-! ### Steps 1 and 2 -/

/-- Step 1 of R41: the ticks leave the balls under the ending course's TICK_EN (R38), and the counter advances (R36); in the
adjusted course of a rejoin it takes the manager's number (R444). -/
def Hub.nextCourse (h : Hub) : Hub :=
  let h := h.hsBoundary
  let old := h.crs.count
  let ticks := ((List.range 8).filter (fun x => h.bitAt 0x100004 x && (h.hsCh x).tick)).foldl (fun m x => m + 2 ^ x) 0
  let crs := { h.crs with
    count := old + 1, wrap := h.crs.wrap || old == BitVec.allOnes 48, ticks, prevLate := h.crs.late
    late := false, closed := false, granted := false }
  let h : Hub := { h with crs, ev := { h.ev with once := [] }, hods := { h.hods with mctpOut := [] } }
  let h := h.updRack (fun r => { r with sent := [] })
  match h.rack.jump with
  | some n =>
    (({ h with crs := { h.crs with count := BitVec.ofNat 48 n } } : Hub).updRack (fun r => { r with aligned := true, pulsed := true })).rejoined
      crs.count.toNat
  | none => h

/-- Writes to emulated registers dropped in the course: one record for each requester (R407). -/
def Hub.emuReport (h : Hub) : Hub :=
  let h := h.hods.emuDrops.foldl (fun (h : Hub) e => h.event 0x0F07 [.u8 e.1, .u32 e.2.2, .u16 (sat 65535 e.2.1)]) h
  { h with hods := { h.hods with emuDrops := [] } }

/-- The period that a list of changes asks for. -/
def periodIn (old : Nat) (l : List TxnItem) : Option Nat :=
  l.foldl (fun m i =>
    match i with
    | .reg _ 0x100000 sel v => some (mergeBits sel (m.getD old) v)
    | _ => m) none

/-- A valid write of TOP.CRS_PERIOD reaches its boundary: on a manager with a worker it waits for its announced course
(R438). `was` is the course of the write. -/
def Hub.applyPeriod (h : Hub) (was : Nat) (v : Option Nat) : Hub :=
  match v with
  | none => h
  | some v =>
    if h.rack.role = .manager ∧ 1 < h.rack.count then
      h.updRack (fun r => { r with pending := some (v, (was + 59) / 20 * 20) })
    else h.setReg 0x100000 v

/-- A period announced to the chain takes effect at its course (R438). -/
def Hub.announced (h : Hub) : Hub :=
  match h.rack.pending with
  | some (v, at_) =>
    if at_ ≤ h.crs.count.toNat then (h.setReg 0x100000 v).updRack (fun r => { r with pending := none }) else h
  | none => h

/-- The length of the course that begins (R34, R50). -/
def Hub.periodNow (h : Hub) : Nat :=
  let r := h.rack
  if (r.role = .worker ∨ r.role = .standby) ∧ !r.local_ ∧ r.period ≠ 0 then
    (if r.nextPeriod ≠ 0 ∧ r.periodAt ≤ h.crs.count.toNat then r.nextPeriod else r.period)
  else h.fld 0x100000 9 0

/-- Step 2 of R41. -/
def Hub.step2 (h : Hub) (was : Nat) (out : List TxnItem) (cs : List (List TxnItem)) : Hub :=
  let h := (cs.foldl (fun (h : Hub) l => h.applyPeriod was (periodIn (h.reg 0x100000) l))
    (h.applyPeriod was (periodIn (h.reg 0x100000) out))).announced
  { h with crs := { h.crs with period := h.periodNow } }

/-! ### Step 8 -/

/-- The configuration that the CRC covers, 4 bytes a register in ascending offset (R368). -/
def Dev.covered (d : Dev) : List Byte :=
  crcCover.flatMap fun g => (List.range g.n).flatMap fun i => g.runs.flatMap fun r =>
    (List.range r.n).flatMap fun j => leBytes 4 (d.view .core (r.off + i * g.s + j * r.s) &&& r.mask)

/-- Step 8 of R41: the recomputation begins (R368). -/
def Dev.step8 (d : Dev) : Dev := d.hubMap (·.updRb (fun b => { b with crc := crc32c d.covered, crcBusy := true }))

/-- A reference that this boundary brings reaches both copies (R369). -/
def Hub.bringRef (h : Hub) : Hub :=
  match h.rb.refDue with
  | some v => (h.updRb (fun b => { b with refA := some v, refB := some v, refDue := none, goodA := none })).refPending
  | none => h

/-- The registers whose stored value differs between two hubs. -/
def changedRegs (a b : Hub) : List Nat :=
  ((a.regs.map (·.1)).filter (fun k => a.reg k ≠ b.reg k)) ++
  ((b.regs.map (·.1)).filter (fun k => a.reg k ≠ b.reg k && !(a.regs.any (·.1 == k))))

/-- The transactions and completions after a boundary's changes: `old` is the hub before them (R373, R374, R375, R394). -/
def Hub.afterChanges (h old : Hub) (kept : List TxnItem) : Hub :=
  let ch := changedRegs old h
  let h := h.updRb fun b => { b with
    staged := kept
    txns := b.txns.map fun t => { t with
      age := t.age + 1, changed := t.changed ++ ch.filter (fun a => !t.changed.contains a) } }
  { h with
    hods := { h.hods with held := h.hods.held.map (fun c => { c with due := true }) }
    bus := { h.bus with vfDue := h.bus.vfDue ||| h.bus.vfFault, vfFault := 0 }
    hs := { h.hs with baseThrot := false }
    safety := { h.safety with leasePending := 0 } }

/-! ### The boundary -/

/-- What the units do at a boundary once its changes have applied. -/
def Dev.unitsAtBoundary (d : Dev) : Dev :=
  let d := d.hubMap fun h => ((((h.parkFenced.noteBlocked).prefetch).smpBoundary).mortarBoundary)
  let d := d.tileBoundary
  d.hubMap fun h => (((((h.linkBoundary.sealBoundary).leaseBoundary).rejoinBoundary).applyActivation).applyLevel)

/-- The course ends for the governor: grants that still wait go out or are withdrawn (R22, R46), throttled time accrues, and
the grants handed over take effect (R39, R281). -/
def Hub.endCourse (h : Hub) : Hub := h.grantsOut.govBoundary

/-- The changes of a boundary: steps 2 to 8 of R41. -/
def Dev.applyChanges (d : Dev) (was : Nat) (out : List TxnItem) (kept : List TxnItem) (ps : List Plan) : Dev :=
  let old := d.hub
  let cs := ps.map (·.now)
  let d := d.hubMap (·.step2 was out cs)
  let (d, g) := d.step3 out cs
  let d := (d.steps456 g out cs).hubMap (·.coolStep)
  let d := d.unitsAtBoundary
  let d := (d.hubMap fun h => { h with sec := h.sec.age h.crs.period }).step8
  d.hubMap fun h => ((ps.foldl (fun h p => h.closePlan p) h).afterChanges old kept).bringRef

/-- The bricks that entered before the boundary and wait at a unit meet the settings of the ending course (R43). -/
def Dev.drainUnits (d : Dev) : Dev :=
  (d.drainTiles.drainMortar.drainLogits.hubMap fun h => h.drainSync.drainStreams).writeContexts

/-- A course boundary with its changes. -/
def Dev.fullBoundary (d : Dev) : Dev :=
  let d := (d.hubMap (·.zoneUpdate)).drainUnits
  let was := d.hub.crs.count.toNat
  let d := d.recheck
  let all := d.hub.rb.staged
  let hold := d.holds226 all
  let out := if hold then all.filter (!·.isJobStart) else all
  let kept := if hold then all.filter (·.isJobStart) else []
  let ps := d.plansAfter out hold
  let d := d.hubMap fun h => (h.endCourse.emuReport).nextCourse
  d.applyChanges was out kept ps

/-- The row COURSE_BOUNDARY. In a rack sleep only the counter advances and leases run down (R448, R449); a scheduled warm reset takes the place of the
boundary's changes (R376). -/
def Dev.courseBoundary (d : Dev) : Dev :=
  if d.hub.bus.sleep = .asleep ∨ d.hub.bus.sleep = .exiting then d.hubMap (·.nextCourse.leaseBoundary)
  else match d.hub.rb.warm with
    | some (cause, who) => d.hubMap fun h => (h.endCourse.nextCourse).warmReset cause who
    | none => d.fullBoundary

/-! ### The 85% point (R44 to R47) -/

/-- The row GRANT_POINT: `late` where the grants are not complete (R45, R46, R47). The spec gives event 0x0110 no payload; the
model's is LATE_RUN as one byte (log entry 86). -/
def Hub.grantPoint (h : Hub) (late : Bool) : Hub :=
  if h.crs.granted then h
  else
    let h : Hub := { h with crs := { h.crs with granted := true } }
    if late then
      let run := min 255 (h.crs.lateRun + 1)
      let h : Hub := ({ h with crs := { h.crs with late := true, lateRun := run } } : Hub).bump 0x100018
      if run = 8 then (h.flag 0x100014 2).event 0x0110 [.u8 run] else h
    else ({ h with crs := { h.crs with lateRun := 0 } } : Hub).handGrants

/-! ### The check of the configuration CRC (R369, R370) -/

/-- A reference has arrived and is not yet applied (R369). -/
def Hub.refOutstanding (h : Hub) : Bool :=
  h.rb.refDue.isSome || h.rb.txns.any (fun t => t.brings && t.phase != .opened) ||
  h.rb.staged.any (fun i => match i with | .reg _ a _ _ => a == 0xF00010 | .hod q => q.op == 0x0F04)

/-- A mismatch at a recomputation: counted in every course, recorded on entry (R370). -/
def Hub.crcMismatch (h : Hub) (a b : Nat) : Hub :=
  let enter := h.rb.crcPhase != .mismatch
  let h := (h.crcTo .mismatch).bump 0xF00048
  if enter then h.event 0x0F02 [.u32 h.rb.crc, .u32 a, .u32 b] else h

/-- The live CRC equals one copy only: the other is deemed corrupt, recorded on entry (R370). `good` says that A is the good one. -/
def Hub.crcRefBad (h : Hub) (good : Bool) (a b : Nat) : Hub :=
  let enter := h.rb.crcPhase != .refBad
  let h := (h.crcTo .refBad).updRb (fun r => { r with goodA := some good })
  if enter then h.event 0x0F01 [.u8 (b2n good), .u32 h.rb.crc, .u32 a, .u32 b] else h

/-- The comparison of a live CRC with both copies, or after REF_BAD with the good one (R370). -/
def Hub.crcCompare (h : Hub) (a b : Nat) : Hub :=
  let live := h.rb.crc
  match h.rb.goodA with
  | some good => if live = (if good then a else b) then h.crcRefBad good a b else h.crcMismatch a b
  | none =>
    if live = a ∧ live = b then h.crcTo .ok
    else if live = a then h.crcRefBad true a b
    else if live = b then h.crcRefBad false a b
    else h.crcMismatch a b

/-- The row CRC_COMPLETE: 2 µs after the boundary the recomputation is valid (R368, R370). -/
def Hub.crcComplete (h : Hub) : Hub :=
  if h.rb.crcBusy then
    let h := h.updRb (fun b => { b with crcBusy := false })
    if h.refOutstanding then h.crcTo .pending
    else match h.rb.refA, h.rb.refB with
      | some a, some b => if h.bitAt 0xF00008 0 then h.crcCompare a b else h.crcTo .pending
      | _, _ => h.crcTo .none
  else h

end Sys2Proof.Machine
end

