-- ==== Sys2Proof/Machine/Lift.lean ====
section
/-!
DEFINITION. Machine/Lift.lean: how an operation of the device becomes the meaning of a command. No command of this block
stops the machine: every meaning answers a next state.
-/
namespace Sys2Proof.Machine

/-- What a meaning answers. -/
abbrev Answer := Host.Outcome State Fault Refusal

/-- The state with its device changed; the queue stays. -/
def State.devMap (s : State) (f : Dev → Dev) : State := { s with dev := f s.dev }

/-- The state with the hub changed; the memories, the fuses and the queue stay. -/
def State.hubMap (s : State) (f : Hub → Hub) : State := s.devMap fun d => d.hubMap f

/-- A command whose effect does not ask which die has power. -/
def always (f : Dev → Dev) (s : State) : Answer := .next (s.devMap f)

/-- A command of the base die: it has no effect while the base die is in power-on reset (R376). -/
def onBase (f : Dev → Dev) (s : State) : Answer := always (fun d => if d.hub.up then f d else d) s

/-- A command of the base die that leaves the memories and the fuses alone. -/
def onHub (f : Hub → Hub) (s : State) : Answer := onBase (fun d => d.hubMap f) s

/-- The footing die acts while the base die is in reset (R24, R376): the base die keeps its reset state, and no event of it
is recorded. -/
def Hub.footOnly (h : Hub) (f : Hub → Hub) : Hub := { (f h).baseReset with ev := h.ev, bus := h.bus }

/-- An event at the footing die (R24): it has no effect without VIN_AUX (R541). -/
def Hub.atFoot (h : Hub) (f : Hub → Hub) : Hub :=
  if !h.therm.aux then h else if h.up then f h else h.footOnly f

/-- A command of the footing die. -/
def onFoot (f : Hub → Hub) (s : State) : Answer := always (fun d => d.hubMap fun h => h.atFoot f) s

end Sys2Proof.Machine
end

