-- ==== Sys2Proof/Machine/Intake.lean ====
section
/-!
DEFINITION. Machine/Intake.lean: hod requests from their bytes to their service: the window, the checks of intake, the
duplicate screen, the release of timed completions, and the emulated register file (R383 to R394, R401, R402).
-/
namespace Sys2Proof.Machine

/-! ### Answers at intake -/

/-- A request that ends at intake: at once when `now`, else at the point of R394. Where another request of the requester is
outstanding, that one is left as it is. -/
def Hub.answer (h : Hub) (c : Held) (now : Bool) : Hub :=
  let q := c.req
  if (h.hod q.who.id).out.isSome then h.respond q (hodRsp q c.status c.detail c.len c.payload c.truncated) c.status
  else
    let h := (h.updHod q.who.id (fun k => { k with out := some q })).showPhase q .running
    if now then h.releaseRsp c else h.finish c

/-- A completion that is not entered into the tag memory. -/
def unentered (q : HodReq) (st : Status) (detail : Nat) : Held := { completion q st detail [] false with enter := false }

/-- The replay of an entry (R392): TRUNCATED where the original response was longer than what is stored, or was lost. -/
def replayOf (q : HodReq) (e : TagEntry) : Held :=
  { req := q, status := Status.replayed.code, detail := e.status, len := e.len, payload := e.payload, enter := false
    truncated := decide (240 < e.len) || (e.lost && decide (e.len ≠ 0)) }

/-- The duplicate screen (R392), and the one outstanding request of R383: none where the request goes on. A retry of a
request whose response a function reset discards is still outstanding (R411). -/
def Hub.screen (h : Hub) (q : HodReq) : Option Hub :=
  let k := h.hod q.who.id
  let busy := h.answer (unentered { q with crc := 2 ^ 32 } .busy 0) false
  let old := if q.idem then none else k.tags.find? (·.tag == q.tag)
  match old with
  | some e =>
    if e.op = q.op ∧ e.crc = q.crc then some ((h.bump 0xF01018).answer (replayOf q e) false)
    else
      let h := (h.flag 0xF01000 3).eventOnce 0x0F06 q.who.id [.u8 q.who.id, .u16 q.tag, .u16 e.op, .u16 q.op]
      some (h.answer (unentered q .badArg 0xFF) false)
  | none =>
    if k.out.isSome then some busy
    else if !q.idem && k.stale.any (fun o => o.tag == q.tag && o.op == q.op && o.crc == q.crc) then some busy
    else none

/-- The requester is entitled to an opcode, with the partition field it gives (R383, R390 step 6, R399). -/
def Hub.entitled (h : Hub) (r : OpRow) (q : HodReq) : Bool :=
  let opcode := if q.who.isVf then r.vf else if q.who == .debug && decide (h.sec.level < 2) then r.vf && decide (0x0F00 ≤ r.op) else true
  opcode && (!r.part || (if q.who.isVf then q.num 0 == 0xFF else decide (q.num 0 < 8)))

/-- Step 8 (R372): the transaction id is 0, or names the requester's OPEN transaction and the opcode may be staged. -/
def Hub.txnIdOk (h : Hub) (r : OpRow) (q : HodReq) : Bool :=
  q.txn == 0 || (r.txn && (h.openTxn q.who).any (·.id == q.txn))

/-! ### Intake (R390) -/

/-- Steps 4 to 9 of intake. `len` is LENGTH. -/
def Dev.intakeLate (d : Dev) (q : HodReq) (payload : List Byte) (len : Nat) : Dev :=
  let stop (st : Status) (now : Bool) : Dev := d.hubMap (·.answer (completion q st 0 [] false) now)
  match findOp q.op with
  | none => stop .badOpcode true
  | some r =>
    let (args, n) := readArgs r.args payload
    let q := { q with args }
    if q.idem && !r.ro then stop .badArg false
    else if !d.hub.entitled r q then stop .refused false
    else if n ≠ len then stop .badLength false
    else if !d.hub.txnIdOk r q then stop .badArg false
    else
      let d := d.hubMap fun h => (h.updHod q.who.id (fun k => { k with out := some q })).showPhase q .running
      d.serve q

/-- A request arrives (R390): the bytes of its message from the header on. A message that carries fewer or more bytes than
its LENGTH, where the transport says how many it carries, fails step 2. -/
def Dev.intake (d : Dev) (who : Requester) (path : Path) (msg : List Byte) : Dev :=
  let f (o n : Nat) : Nat := leNat (slice msg o n)
  let len := f 4 2
  let payload := slice msg 16 (min len 4080)
  let crc := crc32c (slice msg 0 2 ++ zeros 2 ++ slice msg 4 6 ++ zeros 2 ++ slice msg 12 4 ++ payload)
  let q : HodReq := { who, path, op := f 0 2, tag := f 2 2, txn := f 8 2, idem := (f 6 1).testBit 0, crc }
  let d := d.hubMap (·.bump 0xF01010)
  let exact := decide (path = .window) || msg.length == 16 + len
  if f 7 1 ≠ 1 then d.hubMap (·.answer (unentered q .version 0) true)
  else if 4080 < len ∨ 1 < f 6 1 ∨ f 10 6 ≠ 0 ∨ !exact then d.hubMap (·.answer (unentered q .badLength 0) true)
  else match d.hub.screen q with
    | some h => { d with hub := h }
    | none => d.intakeLate q payload len

/-! ### Windows (R384 to R386) -/

/-- The buffer of a window is locked: its request is PENDING to before DONE. -/
def Hod.locked (k : Hod) : Bool := k.phase != .idle && k.phase != .done

/-- A write of a window's buffer (R386). -/
def Hub.bufWrite (h : Hub) (who : Requester) (ofs : Nat) (bs : List Byte) : Hub :=
  if (h.hod who.id).locked then h.flag 0xF01000 1
  else h.updHod who.id (fun k => { k with buf := k.buf.writeN ofs (bs.take (4096 - ofs)) })

/-- A RING (R386): ignored unless the window is IDLE or DONE. The rack chain has no window. -/
def Dev.ring (d : Dev) (who : Requester) : Dev :=
  let k := d.hub.hod who.id
  if who = .rack then d
  else if k.locked then d.hubMap (·.flag 0xF01000 2)
  else
    let head := k.buf.readN 0 16
    let msg := head ++ k.buf.readN 16 (min 4080 (leNat (slice head 4 2)))
    let d := d.hubMap (·.updHod who.id (fun k => { k with phase := .pending, code := 0, tag := leNat (slice head 2 2) }))
    d.intake who .window msg

/-- A 32-bit write to a register of a hod window (R385): the doorbell or HOD.CTRL; the others ignore writes. -/
def Dev.windowReg (d : Dev) (who : Requester) (ofs v : Nat) : Dev :=
  if ofs = 0x1000 then (if v.testBit 16 && v.testBit 0 then d.ring who else d)
  else if ofs = 0x1008 then d.hubMap (·.updHod who.id (fun k => { k with intrEn := v.testBit 0 }))
  else d

/-- A write to a hod window (R384, R385): the buffer, or its registers under the access rules of R360: one write of 4 bytes,
or two, the lower address first, where 8 bytes are aligned to 8. -/
def Dev.windowWrite (d : Dev) (who : Requester) (ofs : Nat) (bs : List Byte) : Dev :=
  if ofs < 0x1000 then d.hubMap (·.bufWrite who ofs bs)
  else if bs.length = 4 ∧ ofs % 4 = 0 then d.windowReg who ofs (leNat bs)
  else if bs.length = 8 ∧ ofs % 8 = 0 then
    (d.windowReg who ofs (leNat (bs.take 4))).windowReg who (ofs + 4) (leNat (bs.drop 4))
  else d.hubMap (·.badAccess)

/-- A request given by its opcode and arguments: its message is laid out (R387, R388), placed in the requester's window and
rung; a request of the rack chain comes in a HOD frame (R450). -/
def Dev.submit (d : Dev) (c : Call) (op : Nat) (args : List Arg) : Dev :=
  let body := encodeArgs args
  let msg := hodHead op c.tag body.length (b2n c.idem) c.txn 0 0 ++ body
  if c.who = .rack then d.intake .rack (.frame d.hub.rack.mgrPos) msg
  else (d.hubMap (·.bufWrite c.who 0 msg)).ring c.who

/-! ### Release of timed completions (R394, R410) -/

/-- The row VF_COMPLETION_RELEASE: completions and interrupts held for the boundary just passed are released. -/
def Hub.releaseDue (h : Hub) : Hub :=
  let cs := h.hods.held.filter (·.due)
  let h : Hub := { h with hods := { h.hods with held := h.hods.held.filter (!·.due) } }
  let h := cs.foldl (fun h c => h.releaseRsp c) h
  let vf := h.bus.vfDue
  let h : Hub := { h with bus := { h.bus with vfDue := 0 } }
  (onesBelow 8 vf).foldl (fun h p => h.irq (p + 1) 1) h

/-- Windows that waited on a self-test slice wait on (R202). -/
def Hub.endDeferred (h : Hub) : Hub :=
  { h with hods := { h.hods with hod := h.hods.hod.map fun e =>
      if e.2.phase = .deferred then (e.1, { e.2 with phase := .waiting, code := 0x15 }) else e } }

/-! ### The emulated register file (R401, R402) -/

/-- EMU.VERSION of the running image, 0 with none. -/
def Hub.emuVersion (h : Hub) : Nat := (h.fw.run.map (·.emuVer)).getD 0

/-- EMU.SIZE: 8 in kiln mode (R463); else a multiple of 4, as the firmware of that version sets it, and at most the 57,344
bytes of the image in management SRAM (R454). -/
def Hub.emuSize (h : Hub) : Nat := if h.fw.kiln then 8 else Config.emuSize h.emuVersion % 0xE001 / 4 * 4

/-- A write to the emulated register file (R401, R402), of 32 bits; the first two words are read only. -/
def Hub.emuWrite (h : Hub) (m : Master) (ofs v : Nat) : Hub :=
  if m ≠ .pf0 ∧ m ≠ .core then h
  else if ofs % 4 ≠ 0 then h.badAccess
  else if ofs < 8 ∨ h.emuSize ≤ ofs then h
  else if 256 ≤ h.hods.emuQueue.length then
    let r := m.req.id
    let h := (h.flag 0xF01000 4).bump 0xF01028
    { h with hods := { h.hods with
        emuDrops := h.hods.emuDrops.upd (0, 0) r (fun e => (e.1 + 1, if e.1 = 0 then ofs else e.2)) } }
  else { h with hods := { h.hods with emuQueue := h.hods.emuQueue ++ [(ofs, v % 2 ^ 32)] } }

/-- Firmware applies the oldest queued write while the core runs (R402). -/
def Hub.emuApply (h : Hub) : Hub :=
  match h.hods.emuQueue with
  | (ofs, v) :: rest =>
    if h.fw.phase = .up then { h with hods := { h.hods with emuQueue := rest, emu := h.hods.emu.set 0 ofs v } } else h
  | [] => h

end Sys2Proof.Machine
end

