-- ==== Sys2Proof/Machine/Mctp.lean ====
section
/-!
DEFINITION. Machine/Mctp.lean: MCTP packets and messages: assembly, control commands, and the dispatch of SPDM and hod
messages (R403, R404, R407). Layouts that the rules take from the DMTF base specification are PRESUMED (log 34).
-/
namespace Sys2Proof.Machine

/-! ### Control commands (R404) -/

/-- A control response: completion code 0 is success. -/
def Hub.ctlReply (h : Hub) (c : CtlFrom) (cmd code : Nat) (body : List Byte) : Hub :=
  h.mctpSend c.pcie c.eid c.tag (leBytes 1 0 ++ leBytes 1 (c.inst % 32) ++ leBytes 1 cmd ++ leBytes 1 code ++ body)

def Hub.setEid (h : Hub) (pcie : Bool) (e : Nat) : Hub :=
  { h with hods := if pcie then { h.hods with eidPcie := e } else { h.hods with eidSmb := e } }

/-- Set Endpoint ID: operations 0 set and 1 force assign the id, and the sender is the bus owner (R421); 2 asks for a reset
to a static id, which the hub has none of, and 3 sets the discovered flag. -/
def Hub.setEndpointId (h : Hub) (c : CtlFrom) (op e : Nat) : Hub :=
  let op := op % 4
  if 2 ≤ op ∨ e = 0 ∨ 255 ≤ e then h.ctlReply c 0x01 0x02 []
  else
    let h := h.setEid c.pcie e
    let h : Hub := if c.pcie then h else { h with bus := { h.bus with owner := c.slave / 2 } }
    h.ctlReply c 0x01 0 (leBytes 1 0 ++ leBytes 1 e ++ leBytes 1 0)

def Hub.getEndpointId (h : Hub) (c : CtlFrom) : Hub :=
  h.ctlReply c 0x02 0 (leBytes 1 (h.eid c.pcie) ++ leBytes 1 0 ++ leBytes 1 0)

def Hub.getEndpointUuid (h : Hub) (c : CtlFrom) : Hub := h.ctlReply c 0x03 0 ((List.range 16).map Config.uuid)

/-- Get MCTP Version Support of the base specification (0xFF), control (0x00), SPDM or vendor messages. -/
def Hub.getMctpVersion (h : Hub) (c : CtlFrom) (typ : Nat) : Hub :=
  if typ = 0xFF ∨ typ = 0x00 then h.ctlReply c 0x04 0 (leBytes 1 1 ++ [0xF1, 0xF3, 0xFF, 0x00])
  else if typ = 0x05 ∨ typ = 0x7E then h.ctlReply c 0x04 0 (leBytes 1 1 ++ [0xF1, 0xF0, 0xFF, 0x00])
  else h.ctlReply c 0x04 0x80 []

/-- Get Message Type Support: SPDM and the PCI vendor-defined messages; control itself is not listed. -/
def Hub.getMessageTypes (h : Hub) (c : CtlFrom) : Hub := h.ctlReply c 0x05 0 (leBytes 1 2 ++ leBytes 1 0x05 ++ leBytes 1 0x7E)

/-- Get Vendor Defined Message Support: one vendor id, the hod messages'. -/
def Hub.getVdmSupport (h : Hub) (c : CtlFrom) (selector : Nat) : Hub :=
  if selector = 0 then h.ctlReply c 0x06 0 (leBytes 1 0xFF ++ leBytes 1 0 ++ [0x48, 0x56] ++ leBytes 2 0)
  else h.ctlReply c 0x06 0x02 []

/-- Any other control command (R404). -/
def Hub.ctlUnsupported (h : Hub) (c : CtlFrom) (cmd : Nat) : Hub := h.ctlReply c cmd 0x05 []

/-- A control message from its second byte on: only a request is answered. -/
def Hub.mctpControl (h : Hub) (pcie : Bool) (eid tag slave : Nat) (b : List Byte) : Hub :=
  let f (i : Nat) : Nat := leNat (slice b i 1)
  let c : CtlFrom := { pcie, eid, tag, inst := f 0 % 32, slave }
  if f 0 < 192 ∧ 128 ≤ f 0 then
    match f 1 with
    | 0x01 => h.setEndpointId c (f 2) (f 3)
    | 0x02 => h.getEndpointId c
    | 0x03 => h.getEndpointUuid c
    | 0x04 => h.getMctpVersion c (f 2)
    | 0x05 => h.getMessageTypes c
    | 0x06 => h.getVdmSupport c (f 2)
    | cmd => h.ctlUnsupported c cmd
  else h.mctpDrop pcie eid 2

/-! ### Messages (R403) -/

/-- A hod message (R383, R403): the vendor id, then the request. -/
def Dev.mctpHod (d : Dev) (a : Assembly) : Dev :=
  if a.bytes.length < 19 then d.hubMap (·.mctpDrop a.pcie a.src 1)
  else if (a.bytes.drop 1).take 2 ≠ [0x48, 0x56] then d.hubMap (·.mctpDrop a.pcie a.src 2)
  else if d.hub.eid a.pcie = 0 then d.hubMap (·.mctpDrop a.pcie a.src 4)
  else d.intake (if a.pcie then .pf0 else .smbus) (.mctp a.pcie a.src a.tag) (a.bytes.drop 3)

/-- A message whose last packet has come: responses, messages with IC = 1 and other types are discarded. -/
def Dev.mctpMessage (d : Dev) (slave : Nat) (a : Assembly) : Dev :=
  match a.owner, leNat (a.bytes.take 1) with
  | true, 0x00 => d.hubMap (·.mctpControl a.pcie a.src a.tag slave (a.bytes.drop 1))
  | true, 0x05 => d.spdmMessage { pcie := a.pcie, eid := a.src, tag := a.tag, bytes := a.bytes.drop 1 }
  | true, 0x7E => d.mctpHod a
  | _, _ => d.hubMap (·.mctpDrop a.pcie a.src 2)

/-! ### Packets (R404) -/

/-- The message in assembly from a source is taken away. -/
def Hub.dropAsm (h : Hub) (pcie : Bool) (src : Nat) : Hub :=
  { h with hods := { h.hods with asm := h.hods.asm.filter (fun a => !(a.pcie == pcie && a.src == src)) } }

def Hub.asmOf (h : Hub) (pcie : Bool) (src : Nat) : Option Assembly := h.hods.asm.find? (fun a => a.pcie == pcie && a.src == src)

/-- The message in assembly is discarded. -/
def Hub.discardAsm (h : Hub) (pcie : Bool) (src cause : Nat) : Hub :=
  if (h.asmOf pcie src).isSome then (h.dropAsm pcie src).mctpDrop pcie src cause else h

/-- A packet's part of its message joins it: the message goes on in assembly, or is complete. -/
def Dev.asmPut (d : Dev) (slave : Nat) (a : Assembly) (eom : Bool) : Dev :=
  let d := d.hubMap (·.dropAsm a.pcie a.src)
  if 4099 < a.bytes.length then d.hubMap (·.mctpDrop a.pcie a.src 1)
  else if eom then d.mctpMessage slave a
  else d.hubMap fun h => { h with hods := { h.hods with asm := h.hods.asm ++ [a] } }

/-- A packet arrives on a binding: its header of version, destination, source and flags, then at most 64 bytes. -/
def Dev.mctpPacket (d : Dev) (pcie : Bool) (slave : Nat) (p : List Byte) : Dev :=
  let f (i : Nat) : Nat := leNat (slice p i 1)
  let src := f 2
  let tag := f 3 % 8
  let owner := (f 3).testBit 3
  let seq := f 3 / 16 % 4
  let body := p.drop 4
  let mine := f 1 = 0 ∨ f 1 = 255 ∨ f 1 = d.hub.eid pcie
  if p.length < 5 ∨ f 0 % 16 ≠ 1 ∨ 64 < body.length ∨ !mine then d.hubMap (·.mctpDrop pcie src 1)
  else if (f 3).testBit 7 then
    let d := d.hubMap (·.discardAsm pcie src 3)
    d.asmPut slave { pcie, src, tag, owner, seq := (seq + 1) % 4, bytes := body } ((f 3).testBit 6)
  else match d.hub.asmOf pcie src with
    | some a =>
      if a.tag = tag ∧ a.owner = owner ∧ a.seq = seq then
        d.asmPut slave { a with seq := (seq + 1) % 4, bytes := a.bytes ++ body } ((f 3).testBit 6)
      else d.hubMap (·.discardAsm pcie src 3)
    | none => d.hubMap (·.mctpDrop pcie src 3)

/-- The row MCTP_PACKET_RECEIVED. A VDM addressed to a VF is discarded (R403). -/
def Dev.packetIn (d : Dev) (pcie toVf : Bool) (p : List Byte) : Dev :=
  if pcie && toVf then d else d.mctpPacket pcie (2 * d.hub.bus.owner) p

end Sys2Proof.Machine
end

