-- ==== Sys2Proof/Machine/Registers.lean ====
section
/-!
DEFINITION. Machine/Registers.lean: accesses of a master to the registers of BAR0: access rights, alignment, 64-bit pairs,
read-clear fields, write masks, and what a write of each kind of register does (R359 to R367).
-/
namespace Sys2Proof.Machine

/-! ### Access rights (R361) -/

/-- A privileged master: the debug port only at level 2. -/
def Hub.privileged (h : Hub) : Master → Bool
  | .vf _ => false
  | .debug => h.sec.level == 2
  | _ => true

/-- A master reaches a block: SMBus does not reach block 0x13. -/
def reaches (m : Master) (a : Nat) : Bool := !(m == .smbus && a / 0x100000 == 0x13)

/-- What an access of a master to a register offset comes to: nothing, a register it is denied, or one it has, with whether
it has its privileged fields. -/
inductive Right where
  | nothing
  | denied
  | has (r : RegRow) (priv : Bool)

def Hub.right (h : Hub) (m : Master) (a : Nat) : Right :=
  match findRow a with
  | none => .nothing
  | some r =>
    if !reaches m a then .nothing
    else if h.privileged m then .has r true
    else if r.pv then .denied
    else .has r false

/-- REG.PV_DENY (R361). -/
def Hub.deny (h : Hub) : Hub := h.bump 0xF00040

/-- The mask of the fields of a row that satisfy `p` and that the master has. -/
def RegRow.maskFor (r : RegRow) (priv : Bool) (p : Field → Bool) : Nat := r.mask (fun f => (priv || !f.pv) && p f)

/-! ### Reads (R10, R362, R363, R366) -/

def Hub.setShadow (h : Hub) (m : Master) (f : Shadow → Shadow) : Hub :=
  h.updRb fun b => { b with shadow := b.shadow.upd {} m.req.id f }

/-- A LO read: the other half, the wrap flag and the address are latched for the master, and the flag is cleared. -/
def Dev.readLo (d : Dev) (m : Master) (a : Nat) : Dev × Nat :=
  let (v, w) := d.pair a
  (d.hubMap fun h => (h.setShadow m (fun s => { s with hi := v / 2 ^ 32, wrap := w, addr := some a })).clearWrap a,
   v % 2 ^ 32)

/-- A HI read: the shadow at the latched address, else the live value with STRAY set. -/
def Dev.readHi (d : Dev) (m : Master) (a : Nat) : Dev × Nat :=
  let s := d.hub.shadow m
  if s.addr = some (a - 4) then (d.hubMap (·.setShadow m (fun s => { s with stray := false })), s.hi)
  else (d.hubMap (·.setShadow m (fun s => { s with stray := true })), (d.pair (a - 4)).1 / 2 ^ 32)

/-- What the read of a read-clear field clears: SENSE.VMON_EXT of a monitor (R351). -/
def Hub.clearRc (h : Hub) (a : Nat) : Hub :=
  match arrIx a 0xE00780 24 4 with
  | some k => { h with sense := { h.sense with vmon := h.sense.vmon.upd {} k (fun v => { v with ext := none }) } }
  | none => h

/-- The read of one register at its 4-byte offset. -/
def Dev.read32 (d : Dev) (m : Master) (a : Nat) : Dev × Nat :=
  match d.hub.right m a with
  | .nothing => (d, 0)
  | .denied => (d.hubMap (·.deny), 0)
  | .has r priv =>
    let mask := r.maskFor priv (fun _ => true)
    match r.half with
    | .lo => let (d, v) := d.readLo m a; (d, v &&& mask)
    | .hi => let (d, v) := d.readHi m a; (d, v &&& mask)
    | .none =>
      let v := d.view m a &&& mask
      let d := if priv && r.fields.any (·.acc == .rc) then d.hubMap (·.clearRc a) else d
      (if a = 0x100010 then d.hubMap (·.tick) else d, v)


/-- The data of a read on the bus. -/
def Hub.rdata (h : Hub) (v : Nat) : Hub := h.updRb (fun b => { b with rdata := BitVec.ofNat 64 v })

/-- How an access lies in the register file (R360). -/
inductive Shape where
  | unmapped
  | bad
  /-- `n` bytes at byte `o` of the register at `a`. -/
  | one (a o n : Nat)
  | two (a : Nat)

def shapeOf (a size : Nat) : Shape :=
  if 0x1600000 ≤ a then .unmapped
  else if size = 8 ∧ a % 8 = 0 then .two a
  else if 1 ≤ size ∧ size ≤ 4 ∧ a % 4 + size ≤ 4 then .one (a / 4 * 4) (a % 4) size
  else .bad

/-- A BAR0 read of `size` bytes. -/
def Dev.read (d : Dev) (m : Master) (a size : Nat) : Dev :=
  match shapeOf a size with
  | .unmapped => d.hubMap fun h => (h.flag 0xF00000 0).rdata 0
  | .bad => d.hubMap fun h => h.badAccess.rdata 0
  | .one a o n => let (d, v) := d.read32 m a; d.hubMap (·.rdata (v / 256 ^ o % 256 ^ n))
  | .two a =>
    let (d, lo) := d.read32 m a
    let (d, hi) := d.read32 m (a + 4)
    d.hubMap (·.rdata (hi * 2 ^ 32 + lo))

/-! ### Writes (R10, R364, R365, R367) -/

/-- What a write mask selects among the bits of `mask` (R365). -/
def wmSel (v mask : Nat) : Nat := v / 2 ^ 16 % 2 ^ 16 &&& mask

/-- REG.TXN_CTRL (R371, R373, R374, R380): several commands in one write are refused; COMMIT_REF acts with COMMIT. -/
def Hub.txnCtrl (h : Hub) (m : Master) (v : Nat) : Hub :=
  let c := wmSel v 0xF &&& v
  let n := b2n (c.testBit 0) + b2n (c.testBit 1) + b2n (c.testBit 2)
  if 1 < n then h.badAccess
  else if c.testBit 0 then (h.txnBegin m.req).1
  else match h.openTxn m.req with
    | none => h
    | some t =>
      if c.testBit 1 then h.txnCommit t (if c.testBit 3 then some (Tbl.get 0 h.rb.txnRef m.req.id) else none) none
      else if c.testBit 2 then h.dropTxn t.id
      else h

/-- REG.RESET_CTRL.WARM schedules a warm reset for the next boundary (R376, R378): PF0, SMBus and the management core. -/
def Hub.resetCtrl (h : Hub) (m : Master) (v : Nat) : Hub :=
  if (wmSel v 1 &&& v).testBit 0 && m != .debug then h.updRb (fun b => { b with warm := some (b.warm.getD (2, m.req.id)) })
  else h

/-- FW.CTRL.KICK (R455): the watchdog restarts, and the first kick after handover ends the restart. -/
def Dev.kick (d : Dev) : Dev := if d.hub.fw.phase = .handover then d.firstKick.coreReady else d

/-- FW.CTRL (R455, R466, R476): from the management core only. -/
def Dev.fwCtrl (d : Dev) (m : Master) (v : Nat) : Dev :=
  if m ≠ .core then d.hubMap (·.flag 0x1200000 0)
  else
    let c := wmSel v 3 &&& v
    let d := if c.testBit 0 then d.kick else d
    if c.testBit 1 then d.confirm else d

/-- FW.WDT (R476). -/
def Hub.fwWdt (h : Hub) (m : Master) (v : Nat) : Hub :=
  if m ≠ .core ∨ v % 1024 < 1 ∨ 1000 < v % 1024 then h.flag 0x1200000 0 else h.setReg 0x120000C (v % 1024)

/-- The HI half of EVREC.WALL_REF (R364, R514). -/
def Hub.wallHi (h : Hub) (m : Master) (v : Nat) : Hub :=
  match (h.shadow m).held with
  | some (0x1400018, lo) => (h.setShadow m (fun s => { s with held := none })).setWall (v * 2 ^ 32 + lo) 0
  | _ => h.badAccess

/-- A write of the block 0x13 to a field that is not writable (R497): a register with no writable field, or a 1 in a field
of SEC.STATUS that is read only. -/
def secBad (r : RegRow) (v : Nat) : Bool :=
  r.mask (fun f => f.acc != .ro) == 0 || (r.base == 0x1300000 && v &&& r.mask (fun f => f.acc == .ro) != 0)

/-- A write of COOL.HEARTBEAT (R323): stored, and a heartbeat where it comes from PF0 or SMBus. -/
def Hub.heartbeatWrite (h : Hub) (m : Master) (v : Nat) : Hub :=
  let h := h.setReg 0xC00008 v
  if m = .pf0 ∨ m = .smbus then h.heartbeat else h

/-- A write of REG.CFG_REF (R369): the reference reaches both copies at the next boundary. -/
def Dev.cfgRef (d : Dev) (m : Master) (v : Nat) : Dev :=
  (d.stageOutside m.req.id 0xF00010 0xFFFFFFFF v).hubMap (·.refPending)

/-- The write of a register by its fields' access codes: W1C bits clear at once (R366), course-buffered bits are staged
(R11), and the others take their value. -/
def Dev.writeFields (d : Dev) (m : Master) (r : RegRow) (a v : Nat) : Dev :=
  let w1c := r.mask (fun f => f.acc == .w1c)
  let rw := r.mask (fun f => f.acc == .rw && !f.cb)
  let cb := r.mask (fun f => f.acc == .rw && f.cb)
  let wm := wmSel v (r.mask (fun f => f.acc == .wm))
  let d := if v &&& w1c ≠ 0 then d.hubMap (fun h => h.setReg a (mergeBits (v &&& w1c) (h.reg a) 0)) else d
  let d := if rw ≠ 0 then d.hubMap (fun h => h.setReg a (mergeBits rw (h.reg a) v)) else d
  let d := if cb ≠ 0 then d.stageWrite m a cb v else d
  if wm ≠ 0 then d.stageWrite m a wm v else d

/-- The write of a register by a privileged master. -/
def Dev.writeReg (d : Dev) (m : Master) (r : RegRow) (a v : Nat) : Dev :=
  match a with
  | 0xF00010 => d.cfgRef m v
  | 0xF00020 => d.hubMap (·.txnCtrl m v)
  | 0xF00028 => d.hubMap (·.updRb fun b => { b with txnRef := b.txnRef.set 0 m.req.id v })
  | 0xF00034 => d.hubMap (·.resetCtrl m v)
  | 0xC00008 => d.hubMap (·.heartbeatWrite m v)
  | 0x1200008 => d.fwCtrl m v
  | 0x120000C => d.hubMap (·.fwWdt m v)
  | 0x1400018 => d.hubMap (·.setShadow m (fun s => { s with held := some (a, v) }))
  | 0x140001C => d.hubMap (·.wallHi m v)
  | _ =>
    let d := if a / 0x100000 = 0x13 ∧ secBad r v then d.hubMap (·.flag 0x1300000 0) else d
    d.writeFields m r a v

/-- The 32-bit write of a register. -/
def Dev.write32 (d : Dev) (m : Master) (a v : Nat) : Dev :=
  match d.hub.right m a with
  | .nothing => d
  | .denied => d.hubMap (·.deny)
  | .has r true => d.writeReg m r a v
  | .has _ false => d

/-- A BAR0 write of `size` bytes. -/
def Dev.write (d : Dev) (m : Master) (a size v : Nat) : Dev :=
  match shapeOf a size with
  | .unmapped => d.hubMap (·.flag 0xF00000 0)
  | .bad => d.hubMap (·.badAccess)
  | .one a _ n => if n = 4 then d.write32 m a (v % 2 ^ 32) else d.hubMap (·.badAccess)
  | .two a => (d.write32 m a (v % 2 ^ 32)).write32 m (a + 4) (v / 2 ^ 32 % 2 ^ 32)

end Sys2Proof.Machine
end

