-- ==== Sys2Proof/Machine/Smbus.lean ====
section
/-!
DEFINITION. Machine/Smbus.lean: the SMBus target: its commands with their counts, PEC and status bits, its behaviour in
sleep, and its resets (R413 to R423).
-/
namespace Sys2Proof.Machine

def Hub.updBus (h : Hub) (f : Bus → Bus) : Hub := { h with bus := f h.bus }

/-- A transfer that the target NACKs and discards, with CMD_ERR (R414, R415). -/
def Hub.smbNack (h : Hub) : Hub := h.updBus (fun b => { b with nack := true, cmdErr := true, rsp := [] })

/-- A write with no answer to read. -/
def Hub.smbAck (h : Hub) : Hub := h.updBus (fun b => { b with nack := false, rsp := [] })

/-- An address match (R422, R449): it is a wake, and while the target's clocks do not run the transfer waits on the stretch.
No START is accepted while SMB_RST_L is asserted (R423). -/
def Dev.smbMatch (d : Dev) (k : Dev → Dev) : Dev :=
  if d.hub.bus.smbRst then d
  else
    let d := d.hubMap (·.wakeUp 0)
    if d.hub.bus.clocks && d.hub.bus.sleep != .asleep && d.hub.bus.sleep != .entering then k d else d

/-- A transfer addressed to the hub, counted in SMBUS.XFER (R431). -/
def Dev.smbStart (d : Dev) (k : Dev → Dev) : Dev := d.smbMatch fun d => k (d.hubMap (·.bump 0x1000010))

/-- Until exit from sleep completes, only commands 0x00 to 0x04 are served (R422). -/
def Hub.smbServes (h : Hub) (code : Nat) : Bool := h.bus.sleep == .awake || decide (code ≤ 4)

/-- A failing PEC byte of a write (R416): NACKed, counted, and recorded once a course. -/
def Hub.pecFail (h : Hub) (code : Nat) : Hub :=
  ((h.updBus (fun b => { b with nack := true, pecErr := true, rsp := [] })).bump 0x1000018).eventOnce 0x1004 0 [.u8 code]

/-- The PEC of a write transfer: over its address byte, its command code and its data. -/
def Hub.writePec (h : Hub) (code : Nat) (data : List Byte) : Nat :=
  crc8 (leBytes 1 (2 * h.bus.smbAddr) ++ leBytes 1 code ++ data)

/-- A write whose bytes after the command code are `data`, with the PEC byte it carries if any (R416). -/
def Dev.smbWrite (d : Dev) (code : Nat) (data : List Byte) (pec : Option Nat) (k : Dev → Dev) : Dev :=
  d.smbStart fun d =>
    if !d.hub.smbServes code then d.hubMap (·.smbNack)
    else match pec with
      | some p => if p = d.hub.writePec code data then k (d.hubMap (·.smbAck)) else d.hubMap (·.pecFail code)
      | none =>
        if d.hub.bitAt 0x1000000 0 then d.hubMap fun h => h.smbAck.updBus (fun b => { b with pecErr := true })
        else k (d.hubMap (·.smbAck))

/-- A Block Write: a count byte that the command does not allow is NACKed, and a transfer that ends short of its count is
discarded (R415). -/
def Dev.smbBlock (d : Dev) (code count : Nat) (data : List Byte) (pec : Option Nat) (allowed : Hub → Bool) (k : Dev → Dev) : Dev :=
  if data.length < count then
    d.smbStart fun d => if !d.hub.smbServes code || !allowed d.hub then d.hubMap (·.smbNack) else d.hubMap (·.smbAck)
  else
    let bad := d.smbStart fun d => d.hubMap (·.smbNack)
    if !allowed d.hub then bad
    else d.smbWrite code (leBytes 1 count ++ data.take count) pec k

/-- A read: the bytes returned, with their PEC where the controller asks for it (R416); in exit from sleep, 0xFF bytes. -/
def Dev.smbRead (d : Dev) (code n : Nat) (pec : Bool) (k : Dev → Dev × List Byte) : Dev :=
  d.smbStart fun d =>
    let ok := d.hub.smbServes code
    let (d, bs) := if ok then k d else (d, List.replicate n 0xFF)
    d.hubMap fun h =>
      let a := leBytes 1 (2 * h.bus.smbAddr) ++ leBytes 1 code ++ leBytes 1 (2 * h.bus.smbAddr + 1)
      let bs := if pec then bs ++ leBytes 1 (if ok then crc8 (a ++ bs) else 0xFF) else bs
      h.updBus (fun b => { b with nack := false, rsp := bs })

/-- A Block Read: the count, then the bytes. -/
def Dev.smbBlockRead (d : Dev) (code n : Nat) (pec : Bool) (k : Dev → Dev × List Byte) : Dev :=
  d.smbRead code (n + 1) pec fun d => let (d, bs) := k d; (d, leBytes 1 bs.length ++ bs)

/-! ### Commands (R414) -/

def Dev.cmdStatus (d : Dev) (pec : Bool) : Dev := d.smbRead 0x00 1 pec fun d => (d, leBytes 1 d.hub.statusByte)

/-- STATUS_CLEAR acts on bits 4, 3 and 2 (R419). -/
def Dev.cmdStatusClear (d : Dev) (v : Nat) (pec : Option Nat) : Dev :=
  d.smbWrite 0x01 (leBytes 1 v) pec fun d => d.hubMap (·.updBus fun b => { b with
    hodDone := b.hodDone && !v.testBit 4, pecErr := b.pecErr && !v.testBit 3, cmdErr := b.cmdErr && !v.testBit 2 })

def Dev.cmdMaskRead (d : Dev) (pec : Bool) : Dev := d.smbRead 0x02 1 pec fun d => (d, leBytes 1 (d.hub.reg 0x100000C))

/-- ALERT_MASK write: bits 6 to 1 (R420, R432). -/
def Dev.cmdMaskWrite (d : Dev) (v : Nat) (pec : Option Nat) : Dev :=
  d.smbWrite 0x02 (leBytes 1 v) pec fun d => d.hubMap (·.setReg 0x100000C (v &&& 0x7E))

def Dev.cmdDeviceId (d : Dev) (pec : Bool) : Dev :=
  d.smbBlockRead 0x03 16 pec fun d => (d, leBytes 4 Config.device ++ leBytes 4 Config.variant.toNat ++ leBytes 8 Config.serial.toNat)

/-- COURSE: the timestamp at the moment of the read. -/
def Dev.cmdCourse (d : Dev) (pec : Bool) : Dev :=
  d.smbBlockRead 0x04 8 pec fun d => (d.hubMap (·.tick), leBytes 8 d.hub.stamp)

/-- An inbound MCTP packet (R416, R421): without a valid PEC it is discarded and counted. -/
def Dev.cmdMctpWrite (d : Dev) (data : List Byte) (pec : Option Nat) : Dev :=
  let count := data.length
  let src (h : Hub) : Hub := h.mctpDrop false (leNat (slice data 3 1)) 1
  d.smbStart fun d =>
    if !d.hub.smbServes 0x0F || count == 0 || decide (255 < count) then d.hubMap (·.smbNack)
    else match pec with
      | none => d.hubMap fun h => src (h.smbAck.updBus (fun b => { b with pecErr := b.pecErr || h.bitAt 0x1000000 0 }))
      | some p =>
        if p = d.hub.writePec 0x0F (leBytes 1 count ++ data) then
          (d.hubMap (·.smbAck)).mctpPacket false (leNat (data.take 1)) (data.drop 1)
        else d.hubMap fun h => src (h.pecFail 0x0F)

/-- The oldest outbound packet is read and removed (R421); with none waiting the count is 0. -/
def Dev.cmdMctpRead (d : Dev) (pec : Bool) : Dev :=
  d.smbBlockRead 0x0F 255 pec fun d =>
    match d.hub.bus.out with
    | p :: rest => (d.hubMap (·.updBus fun b => { b with out := rest }), p)
    | [] => (d, [])

def Dev.cmdRegAddr (d : Dev) (count : Nat) (data : List Byte) (pec : Option Nat) : Dev :=
  d.smbBlock 0x10 count data pec (fun _ => count == 4) fun d => d.hubMap (·.updBus fun b => { b with regAddr := leNat (data.take 4) })

/-- A count that REG_DATA allows: 4 to 252, a multiple of 4. -/
def regCount (n : Nat) : Bool := decide (4 ≤ n) && decide (n ≤ 252) && n % 4 == 0

/-- Register reads in ascending order. -/
def Dev.readRun (d : Dev) (a : Nat) : Nat → Dev × List Byte
  | 0 => (d, [])
  | n + 1 =>
    let d := d.read .smbus a 4
    let (d', bs) := d.readRun (a + 4) n
    (d', leBytes 4 d.hub.rb.rdata.toNat ++ bs)

/-- Register writes in ascending order. -/
def Dev.writeRun (d : Dev) (a : Nat) (data : List Byte) : Nat → Dev
  | 0 => d
  | n + 1 => (d.write .smbus a 4 (leNat (slice data 0 4))).writeRun (a + 4) (data.drop 4) n

/-- REG_DATA advances REG_ADDR by the count (R415). -/
def Hub.advance (h : Hub) (n : Nat) : Hub := h.updBus fun b => { b with regAddr := (b.regAddr + n) % 2 ^ 32 }

def Dev.cmdRegRead (d : Dev) (n : Nat) (pec : Bool) : Dev :=
  if !regCount n then d.smbStart fun d => d.hubMap (·.smbNack)
  else d.smbBlockRead 0x11 n pec fun d =>
    let (d, bs) := d.readRun d.hub.bus.regAddr (n / 4)
    (d.hubMap (·.advance n), bs)

def Dev.cmdRegWrite (d : Dev) (count : Nat) (data : List Byte) (pec : Option Nat) : Dev :=
  d.smbBlock 0x11 count data pec (fun _ => regCount count) fun d =>
    (d.writeRun d.hub.bus.regAddr data (count / 4)).hubMap (·.advance count)

/-- HOD_PTR: an offset of hod 9's buffer; one past its end is discarded. -/
def Dev.cmdHodPtr (d : Dev) (v : Nat) (pec : Option Nat) : Dev :=
  d.smbWrite 0x20 (leBytes 2 v) pec fun d =>
    if v < 4096 then d.hubMap (·.updBus fun b => { b with hodPtr := v }) else d.hubMap (·.smbNack)

/-- A count that HOD_DATA allows: 1 to 255, not crossing offset 4,096. -/
def Hub.hodCount (h : Hub) (n : Nat) : Bool := decide (1 ≤ n) && decide (n ≤ 255) && decide (h.bus.hodPtr + n ≤ 4096)

def Hub.hodMove (h : Hub) (n : Nat) : Hub := h.updBus fun b => { b with hodPtr := b.hodPtr + n }

def Dev.cmdHodRead (d : Dev) (n : Nat) (pec : Bool) : Dev :=
  if !d.hub.hodCount n then d.smbStart fun d => d.hubMap (·.smbNack)
  else d.smbBlockRead 0x21 n pec fun d => (d.hubMap (·.hodMove n), (d.hub.hod 9).buf.readN d.hub.bus.hodPtr n)

def Dev.cmdHodWrite (d : Dev) (count : Nat) (data : List Byte) (pec : Option Nat) : Dev :=
  d.smbBlock 0x21 count data pec (·.hodCount count) fun d =>
    d.hubMap fun h => (h.bufWrite .smbus h.bus.hodPtr (data.take count)).hodMove count

/-- HOD_RING: data 0x01 rings hod 9 (R386). -/
def Dev.cmdHodRing (d : Dev) (v : Nat) (pec : Option Nat) : Dev :=
  d.smbWrite 0x22 (leBytes 1 v) pec fun d => if v = 1 then d.ring .smbus else d.hubMap (·.smbNack)

def Dev.cmdHodStatus (d : Dev) (pec : Bool) : Dev := d.smbBlockRead 0x23 4 pec fun d => (d, leBytes 4 (d.hub.hod 9).statusWord)

/-- SMB_ALERT_L is asserted (R420): by LOG_MEDIA_FAIL, or by a status bit that SMBUS.ALERT_MASK selects. -/
def Hub.smbAlert (h : Hub) : Bool := h.ev.mediaFail || (h.statusByte &&& h.reg 0x100000C &&& 0x7E) != 0

/-- A read of the Alert Response Address (R420), which is answered whether or not SMB_ALERT_L is asserted. -/
def Dev.alertResponse (d : Dev) (pec : Bool) : Dev :=
  d.smbMatch fun d => d.hubMap fun h =>
    let bs := leBytes 1 (2 * h.bus.smbAddr)
    h.updBus (fun b => { b with nack := false, rsp := if pec then bs ++ leBytes 1 (crc8 (leBytes 1 0x19 ++ bs)) else bs })

/-- The command codes of R414. -/
def smbCodes : List Nat := [0x00, 0x01, 0x02, 0x03, 0x04, 0x0F, 0x10, 0x11, 0x20, 0x21, 0x22, 0x23]

/-- A command code that the table does not have is NACKed (R414). -/
def Dev.cmdUnknown (d : Dev) (code : Nat) : Dev :=
  d.smbStart fun d => if smbCodes.contains code then d else d.hubMap (·.smbNack)

/-! ### Time-outs and reset (R413, R418, R423) -/

/-- SCL has been low for 30 ms (R413, R521): the target state machine is reset, and waits for a START. -/
def Hub.sclTimeout (h : Hub) : Hub := h.smbAck.faultMet 14

/-- A stretch has lasted 2 ms (R418): a read's remaining `n` bytes are 0xFF with a PEC that does not match, a write is
NACKed. -/
def Hub.stretchTimeout (h : Hub) (code : Nat) (read : Bool) (n : Nat) : Hub :=
  if h.bus.smbRst then h
  else
    let bs := List.replicate n (0xFF : Byte)
    let a := leBytes 1 (2 * h.bus.smbAddr) ++ leBytes 1 code ++ leBytes 1 (2 * h.bus.smbAddr + 1)
    let h := if read then
        h.updBus (fun b => { b with cmdErr := true, nack := false, rsp := bs ++ leBytes 1 (crc8 (a ++ bs) ^^^ 0xFF) })
      else h.smbNack
    ((h.bump 0x1000010).bump 0x1000020).eventOnce 0x1005 0 [.u8 code]

/-- SMB_RST_L is asserted (R423): the transfer and any inbound message in assembly are discarded. -/
def Hub.smbRstOn (h : Hub) (busy : Bool) : Hub :=
  if h.bus.smbRst then h
  else
    let h := (if busy then h.bump 0x1000010 else h).smbAck.updBus (fun b => { b with smbRst := true })
    ({ h with hods := { h.hods with asm := h.hods.asm.filter (·.pcie) } } : Hub).event 0x1006 [.u8 (b2n busy)] |>.faultMet 14

def Hub.smbRstOff (h : Hub) : Hub := h.updBus (fun b => { b with smbRst := false })

/-! ### Hub sleep (R412, R422, R449) -/

/-- The row HUB_SLEEP_ENTRY: PF0 is in D3hot with its link in L2. A rack sleep enters at its commit point. -/
def Hub.sleepEntry (h : Hub) : Hub :=
  if h.bus.sleep = .awake then h.updBus (fun b => { b with sleep := .entering, wake := false }) else h

/-- Entry completes within 200 µs: a wake received during it starts exit at once (R449). -/
def Hub.sleepEntered (h : Hub) : Hub :=
  if h.bus.sleep = .entering then
    let w := h.bus.wake
    let h := h.updBus (fun b => { b with sleep := .asleep, clocks := false, linkUp := false, rate := 0, width := 0 })
    if w then h.wakeUp 0 else h
  else h

/-- The row HUB_SLEEP_EXIT: a wake by exit of PCIe from L2 (R449). -/
def Hub.sleepExit (h : Hub) : Hub := h.wakeUp 1

/-- Within 1.5 ms of exit starting the target's clocks run (R422). -/
def Hub.clocksRun (h : Hub) : Hub := if h.bus.sleep = .exiting then h.updBus (fun b => { b with clocks := true }) else h

/-- A hub that follows a manager leaves sleep on its floor, and aligns first under R444 (R448). -/
def Hub.afterSleep (h : Hub) : Hub := if h.rack.role.follows then h.ownTime else h

/-- Full exit (R412, R422). -/
def Hub.sleepExited (h : Hub) : Hub :=
  if h.bus.sleep = .exiting then (h.updBus (fun b => { b with sleep := .awake, clocks := true, wake := false })).afterSleep else h

/-! ### PCIe -/

/-- The link trains (R433): its rate and width. -/
def Hub.pcieLinkUp (h : Hub) (rate width : Nat) : Hub :=
  if h.bus.sleep = .awake then
    (h.updBus (fun b => { b with linkUp := true, rate, width })).event 0x1007 [.u8 rate, .u8 width]
  else h

/-! ### Switched domains (R309) -/

/-- A switched domain that is being switched on becomes usable: a tile group, whose tiles enter TESTING, a mortar engine, a
sampler or a seal engine. An octet becomes usable by its training alone. An engine or sampler that is switched off or has failed stays off (R172, R203). -/
def Hub.domainUp (h : Hub) (d : Nat) : Hub :=
  if 64 ≤ d ∧ d < 128 then h.groupStarted (d - 64)
  else if 128 ≤ d ∧ d < 152 then
    if h.bitAt 0x600004 (d - 128) && !h.mortar.failed.testBit (d - 128) then
      ({ h with mortar := { h.mortar with on := setBit h.mortar.on (d - 128) true } } : Hub).mortarPause
    else h
  else if 152 ≤ d ∧ d < 154 then
    if h.smpUp (d - 152) then
      let h : Hub := { h with smp := { h.smp with on := setBit h.smp.on (d - 152) true } }
      h.noteSamplers
    else h
  else if 154 ≤ d ∧ d < 162 then
    if h.sealWanted (d - 154) then h.updPort (d - 154) (fun p => { p with sealUp := true }) else h
  else h

end Sys2Proof.Machine
end

