-- ==== Sys2Proof/Machine/Actions.lean ====
section
/-!
DEFINITION. Machine/Actions.lean: commands that join operations of several blocks.
-/
namespace Sys2Proof.Machine

/-- ROM_BOOT (R459): the ROM chooses an image once in a start of the base die. It ran from power-on reset where REG.RESET_CAUSE
shows one (R378), and the log's clear journal is completed first (R509). -/
def Dev.bootRow (d : Dev) : Dev :=
  if d.hub.fw.phase = .off ∧ d.hub.fw.run = none then
    let d : Dev := d.hubMap (·.bootCheck)
    (d.romBoot (if d.hub.rb.cause < 2 then 0 else 1) d.hub.therm.straps.bootKiln).coreReady
  else d

/-- TELEMETRY_CLOSE (R44, R255, R318): what came before it is judged, the snapshot of temperatures is taken and the governor
computes, once a course. -/
def Hub.closeRow (h : Hub) (m : CourseMeas) : Hub := if h.crs.closed then h else h.drainTelemetry.coolSnap.govClose m

/-- DTS_UPDATE (R350): HUB_TJ moves, and with it self-throttle and the thermal trip (R544, R545). -/
def Dev.dtsRow (d : Dev) (readings : List Int) (back : Nat) : Dev :=
  (d.hubMap fun (h : Hub) => (h.dtsUpdate readings back).throtCheck).thermTrip

/-- NAK_RECEIVED (R74): only a port that is ACTIVE receives. -/
def Hub.nakRow (h : Hub) (x : Nat) (seq : BitVec 32) : Hub :=
  if (h.port x).st = .active then h.takeNak x seq { typ := 0x01, seq } else h

/-- RAMP_TIMEOUT and ENH_LOST (R298): a trip that only a channel in one state can take. -/
def Hub.tripIf (h : Hub) (c : Nat) (st : ChState) (cause cur vds : Nat) : Hub :=
  if (h.hsCh c).st = st then h.trip c cause cur vds else h

/-- ENH_LOST (R298, R349). -/
def Hub.enhLost (h : Hub) (c cur vds : Nat) : Hub :=
  if (h.hsCh c).sarFault then h else h.tripIf c .on 6 cur vds

/-- A HOD frame (R450): its payload is a request, served on hod 10. -/
def Dev.hodFrame (d : Dev) (f : Frame) : Dev :=
  let mine := f.ok && d.hub.rackEn && (f.dst == 0 || (f.dst == d.hub.rack.pos && d.hub.rack.pos != 0))
  let d : Dev := d.hubMap (·.onFrame 0x07 f id)
  if mine then d.intake .rack (.frame f.src) f.payload else d

/-- An SPDM request given by its code and body (R482): GET_VERSION names version 1.0, as SPDM requires, every other 1.3. -/
def Dev.spdmRow (d : Dev) (code : Nat) (q : SpdmMsg) : Dev :=
  d.spdmMessage { q with bytes := [if code = 0x84 then 0x10 else 0x13, BitVec.ofNat 8 code] ++ q.bytes }

/-- The SPDM requests that the hub supports (R482). -/
def spdmCodes : List Nat := [0x81, 0x82, 0x83, 0x84, 0xE0, 0xE1, 0xE3, 0xE4, 0xE5, 0xE8, 0xE9, 0xEC]

/-- A request whose code the hub does not support (R482). -/
def Dev.spdmOther (d : Dev) (code : Nat) (q : SpdmMsg) : Dev := if spdmCodes.contains code then d else d.spdmRow code q

/-- A control command outside the supported set (R404). -/
def Hub.ctlUnsupportedRow (h : Hub) (c : CtlFrom) (cmd : Nat) : Hub :=
  if 1 ≤ cmd ∧ cmd ≤ 6 then h else h.ctlUnsupported c cmd

/-- SMP_SLICE_END (R202): the steps and the hods that waited on the slice go on. -/
def Dev.endSlice (d : Dev) : Dev := if d.hub.smp.inSlice then d.sliceEnd.hubMap (·.endDeferred) else d

/-- DTS_FAIL (R350, R544): a sensor that has failed may begin self-throttle. -/
def Hub.dtsFailRow (h : Hub) (m cause : Nat) : Hub := (h.dtsFail m cause).throtCheck

/-- CRASH_LOOP (R456): in kiln mode the requests held for the firmware are served there. -/
def Dev.crashRow (d : Dev) : Dev := d.crashLoop.coreReady

/-- SLED_ID_READ_COMPLETE (R426, R427, R480): the record is verified under the eligible image and owner keys. -/
def Dev.sledRead (d : Dev) (x : Nat) (image : Option (List Byte)) : Dev :=
  d.hubMap fun (h : Hub) => h.sledIdRead (d.otp.keys true) x image

end Sys2Proof.Machine
end

