-- ==== Sys2Proof/Machine/BusRows.lean ====
section
/-!
DEFINITION. Machine/BusRows.lean: the meaning of each command: the emulated register file, MCTP, SPDM, PCIe and the identity buses.
-/
namespace Sys2Proof.Machine

/-- EMU_WRITE (R402): A write to the emulated register file enters the hardware queue, or is dropped when the queue is
full. -/
def execEmuWrite (m : Master) (offset : Nat) (v : Word) (s : State) : Answer :=
  onHub (fun (h : Hub) => h.emuWrite m offset v.toNat) s

/-- EMU_WRITE_APPLY (R402): Firmware applies a queued emulated write to the image. -/
def execEmuWriteApply (s : State) : Answer := onHub (fun (h : Hub) => h.emuApply) s

/-- MCTP_PACKET_RECEIVED (R404): An MCTP packet is assembled into its message, or discarded. -/
def execMctpPacketReceived (pcie toVf : Bool) (packet : List Byte) (s : State) : Answer :=
  onBase (fun (d : Dev) => d.packetIn pcie toVf packet) s

/-- MCTP_ASSEMBLY_TIMEOUT (R404): A message not completed within 100 ms of its first packet is discarded. -/
def execMctpAssemblyTimeout (pcie : Bool) (src : Byte) (s : State) : Answer :=
  onHub (fun (h : Hub) => h.discardAsm pcie src.toNat 5) s

/-- SET_ENDPOINT_ID (R404): The MCTP control command assigns the endpoint ID on its binding. -/
def execSetEndpointId (c : CtlFrom) (op eid : Byte) (s : State) : Answer :=
  onHub (fun (h : Hub) => h.setEndpointId c op.toNat eid.toNat) s

/-- GET_ENDPOINT_ID (R404): The MCTP control command returns the endpoint ID. -/
def execGetEndpointId (c : CtlFrom) (s : State) : Answer := onHub (fun (h : Hub) => h.getEndpointId c) s

/-- GET_ENDPOINT_UUID (R404): The MCTP control command returns the endpoint UUID. -/
def execGetEndpointUuid (c : CtlFrom) (s : State) : Answer := onHub (fun (h : Hub) => h.getEndpointUuid c) s

/-- GET_MCTP_VERSION_SUPPORT (R404): The MCTP control command returns the supported versions. -/
def execGetMctpVersionSupport (c : CtlFrom) (typ : Byte) (s : State) : Answer :=
  onHub (fun (h : Hub) => h.getMctpVersion c typ.toNat) s

/-- GET_MESSAGE_TYPE_SUPPORT (R404): The MCTP control command returns the supported message types. -/
def execGetMessageTypeSupport (c : CtlFrom) (s : State) : Answer := onHub (fun (h : Hub) => h.getMessageTypes c) s

/-- GET_VDM_SUPPORT (R404): The MCTP control command returns vendor-defined message support. -/
def execGetVdmSupport (c : CtlFrom) (selector : Byte) (s : State) : Answer :=
  onHub (fun (h : Hub) => h.getVdmSupport c selector.toNat) s

/-- MCTP_UNSUPPORTED_CONTROL (R404): An MCTP control command outside the supported set is answered with
ERROR_UNSUPPORTED_CMD. -/
def execMctpUnsupportedControl (c : CtlFrom) (cmd : Byte) (s : State) : Answer :=
  onHub (fun (h : Hub) => h.ctlUnsupportedRow c cmd.toNat) s

/-- GET_VERSION (R482): The SPDM request returns the supported versions. -/
def execGetVersion (q : SpdmMsg) (s : State) : Answer := onBase (fun (d : Dev) => d.spdmRow 0x84 q) s

/-- GET_CAPABILITIES (R482): The SPDM request returns the responder capabilities. -/
def execGetCapabilities (q : SpdmMsg) (s : State) : Answer := onBase (fun (d : Dev) => d.spdmRow 0xE1 q) s

/-- NEGOTIATE_ALGORITHMS (R482): The SPDM request negotiates P-384, SHA-384 and AES-256-GCM. -/
def execNegotiateAlgorithms (q : SpdmMsg) (s : State) : Answer := onBase (fun (d : Dev) => d.spdmRow 0xE3 q) s

/-- GET_DIGESTS (R482): The SPDM request returns the certificate chain digest of slot 0. -/
def execGetDigests (q : SpdmMsg) (s : State) : Answer := onBase (fun (d : Dev) => d.spdmRow 0x81 q) s

/-- GET_CERTIFICATE (R482): The SPDM request returns the slot-0 certificate chain. -/
def execGetCertificate (q : SpdmMsg) (s : State) : Answer := onBase (fun (d : Dev) => d.spdmRow 0x82 q) s

/-- CHALLENGE (R482): The SPDM request is answered with an Alias-signed challenge response. -/
def execChallenge (q : SpdmMsg) (s : State) : Answer := onBase (fun (d : Dev) => d.spdmRow 0x83 q) s

/-- GET_MEASUREMENTS (R483): The SPDM request returns the measurement blocks read at that moment. -/
def execGetMeasurements (q : SpdmMsg) (s : State) : Answer := onBase (fun (d : Dev) => d.spdmRow 0xE0 q) s

/-- KEY_EXCHANGE (R482): The SPDM request opens a session, up to four at a time. -/
def execKeyExchange (q : SpdmMsg) (s : State) : Answer := onBase (fun (d : Dev) => d.spdmRow 0xE4 q) s

/-- FINISH (R482): The SPDM request completes a session handshake. -/
def execFinish (q : SpdmMsg) (s : State) : Answer := onBase (fun (d : Dev) => d.spdmRow 0xE5 q) s

/-- HEARTBEAT (R482): The SPDM request keeps a session alive. -/
def execHeartbeat (q : SpdmMsg) (s : State) : Answer := onBase (fun (d : Dev) => d.spdmRow 0xE8 q) s

/-- KEY_UPDATE (R482): The SPDM request updates a session's keys. -/
def execKeyUpdate (q : SpdmMsg) (s : State) : Answer := onBase (fun (d : Dev) => d.spdmRow 0xE9 q) s

/-- END_SESSION (R482): The SPDM request ends a session. -/
def execEndSession (q : SpdmMsg) (s : State) : Answer := onBase (fun (d : Dev) => d.spdmRow 0xEC q) s

/-- SPDM_UNSUPPORTED_REQUEST (R482): An SPDM request that is not supported receives ERROR UnsupportedRequest. -/
def execSpdmUnsupportedRequest (code : Byte) (q : SpdmMsg) (s : State) : Answer :=
  onBase (fun (d : Dev) => d.spdmOther code.toNat q) s

/-- PCIE_RESET (R376): A conventional or hot reset or link down resets PCIe state, aborting the transactions of the
functions reset. -/
def execPcieReset (s : State) : Answer := onHub (fun (h : Hub) => h.pcieReset) s

/-- FLR (R411): A function-level reset or VF Enable clear resets a VF's hod and aborts its transaction. -/
def execFlr (vf : Option (Fin 8)) (s : State) : Answer := onHub (fun (h : Hub) => h.flr vf) s

/-- PCIE_LINK_UP (R433): The PCIe link trains, and event 0x1007 is recorded. -/
def execPcieLinkUp (rate width : Byte) (s : State) : Answer :=
  onHub (fun (h : Hub) => h.pcieLinkUp rate.toNat width.toNat) s

/-- SLED_PRESENT (R426): PRSNTx_L has been low for 50 ms, and the sled identity read starts. -/
def execSledPresent (x : Fin 8) (s : State) : Answer := onHub (fun (h : Hub) => h.sledPresent x) s

/-- SLED_ID_READ_COMPLETE (R426): The sled identity record is read and verified, or the governor falls back to the
defaults. -/
def execSledIdReadComplete (x : Fin 8) (image : Option (List Byte)) (s : State) : Answer :=
  onBase (fun (d : Dev) => d.sledRead x image) s

/-- SLED_PRESENCE_LOST (R426): PRSNTx_L goes high, and the cached identity is invalidated. -/
def execSledPresenceLost (x : Fin 8) (s : State) : Answer := onHub (fun (h : Hub) => h.sledAbsent x) s

/-- ID_RETRY_TIMEOUT (R429): 10 ms after a NACK an identity transfer is retried, and after 3 retries the memory is
unreadable. -/
def execIdRetryTimeout (bus addr : Byte) (s : State) : Answer :=
  onHub (fun (h : Hub) => h.idRetry bus.toNat addr.toNat) s

/-- ID_BUS_STUCK (R429): SDA is held low, and after bus recovery fails the bus is marked FAULT. -/
def execIdBusStuck (bus : Fin 10) (s : State) : Answer := onHub (fun (h : Hub) => h.idStuck bus) s

/-- ID_BUS_RETRY (R429): Every second a faulted bus is retried and, on recovery, its memories are read. -/
def execIdBusRetry (bus : Fin 10) (cableA cableB : Option (List Byte)) (s : State) : Answer :=
  onHub (fun (h : Hub) => h.idRecover bus cableA cableB) s

end Sys2Proof.Machine
end

