-- ==== Sys2Proof/Machine/Collectives.lean ====
section
/-!
DEFINITION. Machine/Collectives.lean: the meaning of each command: the mortar engines.
-/
namespace Sys2Proof.Machine

/-- MORTAR_DESC (R156): A collective descriptor opens or joins a collective and is checked, or the collective ends with an
error. -/
def execMortarDesc (x : Fin 8) (s : State) : Answer := onHub (fun (h : Hub) => h.mortarDesc x) s

/-- MORTAR_OPND (R158): An operand brick enters its chunk, waits for chunk room, or is discarded as an orphan. -/
def execMortarOpnd (x : Fin 8) (s : State) : Answer := onHub (fun (h : Hub) => h.mortarOpnd x) s

/-- CHUNK_COMPLETE (R154): A chunk holds all its operands, and the engine issues its result bricks within 16 ns. -/
def execChunkComplete (part : Fin 8) (id offset : Nat) (s : State) : Answer :=
  onBase (fun (d : Dev) => d.chunkComplete part id offset) s

/-- COLLECTIVE_TIMEOUT (R160): TIMEOUT_US passes and the collective ends with TIMEOUT, naming the lowest stalled rank. -/
def execCollectiveTimeout (part : Fin 8) (id : Nat) (s : State) : Answer :=
  onHub (fun (h : Hub) => h.collTimeout part id) s

/-- MORTAR_ST_START (R172): Every ST_INTERVAL courses the next engine is drained for self-test, or the rotation pauses. -/
def execMortarStStart (s : State) : Answer := onHub (fun (h : Hub) => h.mortarStStart) s

/-- MORTAR_DRAIN_COMPLETE (R172): The engine under test is empty and starts its self-test. -/
def execMortarDrainComplete (s : State) : Answer := onHub (fun (h : Hub) => h.mortarDrained) s

/-- MORTAR_DRAIN_TIMEOUT (R172): The engine is not empty within 1 ms, and the test is skipped and counted. -/
def execMortarDrainTimeout (s : State) : Answer := onHub (fun (h : Hub) => h.mortarDrainTimeout) s

/-- MORTAR_ST_COMPLETE (R172): The engine's self-test ends, and the engine rejoins the pool or is marked failed. -/
def execMortarStComplete (ok : Bool) (s : State) : Answer := onHub (fun (h : Hub) => h.mortarStDone ok) s

end Sys2Proof.Machine
end

