-- ==== Sys2Proof/Machine/CoreRows.lean ====
section
/-!
DEFINITION. Machine/CoreRows.lean: the meaning of each command: the management core, images, security and the log.
-/
namespace Sys2Proof.Machine

/-- WATCHDOG_EXPIRY (R455): The watchdog expires, and the management core restarts within 600 µs. -/
def execWatchdogExpiry (aged : Nat) (s : State) : Answer := onHub (fun (h : Hub) => h.watchdog aged) s

/-- CORE_TRAP (R455): The core takes a fatal trap or PMP fault and restarts. -/
def execCoreTrap (aged : Nat) (s : State) : Answer := onHub (fun (h : Hub) => h.coreTrap aged) s

/-- CRASH_LOOP (R456): RESTARTS reaches CRASH_MAX within 10 s, and the ROM loads the other slot or enters kiln mode. -/
def execCrashLoop (s : State) : Answer := onBase (fun (d : Dev) => d.crashRow) s

/-- TRIAL_TIMEOUT (R466): TRIAL_MS expires before CONFIRM, and the core reverts to the previous region. -/
def execTrialTimeout (aged : Nat) (s : State) : Answer := onHub (fun (h : Hub) => h.trialTimeout aged) s

/-- FIRST_KICK_TIMEOUT (R455): An image that has not kicked within 500 µs of handover is restarted again, and the restart
counts as a core fault. -/
def execFirstKickTimeout (aged : Nat) (s : State) : Answer := onHub (fun (h : Hub) => h.firstKickTimeout aged) s

/-- ACC_PUSH_START (R470): After a port first reaches ACTIVE following reset release, the hub starts pushing the
accelerator image. -/
def execAccPushStart (s : State) : Answer := onBase (fun (d : Dev) => d.pushStart) s

/-- IMAGE_DONE (R472): IMAGE_DONE is checked against the hash, LEN and CRC, and IMAGE_GO, IMAGE_RESEND or IMAGE_ABORT
follows. -/
def execImageDone (x : Fin 8) (s : State) : Answer := onHub (fun (h : Hub) => h.imageDoneBrick x) s

/-- IMAGE_DONE_TIMEOUT (R472): No IMAGE_DONE arrives within 1 ms, and the push is retried or fails. -/
def execImageDoneTimeout (x : Fin 8) (s : State) : Answer := onHub (fun (h : Hub) => h.imageTimeout x) s

/-- ACC_RESET_PULSE_END (R472): The 1 ms ACCx_RST_L pulse after a push fence or timeout, or an accelerator activation,
ends and a fresh push follows. -/
def execAccResetPulseEnd (x : Fin 8) (s : State) : Answer := onHub (fun (h : Hub) => h.pulseEnd x) s

/-- DEBUG_LEVEL_EXPIRY (R493): DURATION_S has elapsed, and the debug level returns to 0. -/
def execDebugLevelExpiry (s : State) : Answer := onHub (fun (h : Hub) => h.levelExpiry) s

/-- DRBG_HEALTH_FAIL (R489): An entropy health test fails, and the DRBG stops. -/
def execDrbgHealthFail (test : Byte) (s : State) : Answer := onHub (fun (h : Hub) => h.rngFail test.toNat) s

/-- DRBG_RESEED (R489): After 2^20 requests the DRBG is reseeded. -/
def execDrbgReseed (s : State) : Answer := onHub (fun (h : Hub) => h.rngReseed) s

/-- OTP_FUSE_PROGRAM (R480): At debug level 2, revocation fuses and OTP keys are programmed through the debug port. -/
def execOtpFuseProgram (w : OtpWrite) (s : State) : Answer := onBase (fun (d : Dev) => d.otpProgram w) s

/-- JTAG_INSTRUCTION (R492): An IEEE 1149.1 instruction such as IDCODE, SAMPLE/PRELOAD, EXTEST or INTEST is executed if
the debug level permits it. -/
def execJtagInstruction (i : JtagInstr) (s : State) : Answer := onHub (fun (h : Hub) => h.jtag i) s

/-- LOG_DRAIN (R504): The management core programs and reads back shadow records into the log flash in order. -/
def execLogDrain (bad : Option Nat) (s : State) : Answer := onHub (fun (h : Hub) => h.logDrain bad) s

/-- LOG_ERASE_COMPLETE (R509): The sector erases end, the clear pair is programmed and draining resumes. -/
def execLogEraseComplete (ok : Bool) (s : State) : Answer := onHub (fun (h : Hub) => h.eraseComplete ok) s

/-- WALL_OFS_WRAP (R514): WALL_OFS reaches 2^31, and the reference is advanced by 2^31 ms. -/
def execWallOfsWrap (s : State) : Answer := onHub (fun (h : Hub) => h.wallWrap) s

end Sys2Proof.Machine
end

