-- ==== Sys2Proof/Machine/HodRows.lean ====
section
/-!
DEFINITION. Machine/HodRows.lean: the meaning of each command: hod requests.
-/
namespace Sys2Proof.Machine

/-- HOD_RING (R386): A RING write hands the buffer to the hub, which runs intake checks and the duplicate screen within 2
µs. -/
def execHodRing (who : Requester) (s : State) : Answer := onBase (fun (d : Dev) => d.ring who) s

/-- VF_COMPLETION_RELEASE (R394): 2 µs after its boundary, the completion of a VF or locked-debug request is released. -/
def execVfCompletionRelease (s : State) : Answer := onHub (fun (h : Hub) => h.releaseDue) s

/-- HOD_BUF_WRITE (R386): A PCIe write to a hod window's HOD.BUF is stored, or ignored with BUF_LOCKED set while the hod
is PENDING to before DONE. -/
def execHodBufWrite (who : Requester) (offset : Nat) (bytes : List Byte) (s : State) : Answer :=
  onBase (fun (d : Dev) => d.windowWrite who offset bytes) s

/-- PAGE_ALLOC (R131): Allocates pages in tile or spill frames at the boundary. -/
def execPageAlloc (c : Call) (part : Byte) (n : BitVec 16) (pin : Byte) (s : State) : Answer :=
  onBase (fun (d : Dev) => d.submit c 0x0401 [.u8 part.toNat, .u16 n.toNat, .u8 pin.toNat]) s

/-- PAGE_FREE (R146): Frees up to 256 pages and ends their leases at the boundary. -/
def execPageFree (c : Call) (pages : List Word) (s : State) : Answer :=
  onBase (fun (d : Dev) => d.submit c 0x0402 [.list 4 (pages.map BitVec.toNat)]) s

/-- LEASE_SET (R146): Sets a page's lessees and writer at the boundary. -/
def execLeaseSet (c : Call) (page : Word) (lessees writer : Byte) (s : State) : Answer :=
  onBase (fun (d : Dev) => d.submit c 0x0403 [.u32 page.toNat, .u8 lessees.toNat, .u8 writer.toNat]) s

/-- PAGE_PIN (R146): Pins or unpins a page. -/
def execPagePin (c : Call) (page : Word) (unpin : Byte) (s : State) : Answer :=
  onBase (fun (d : Dev) => d.submit c 0x0404 [.u32 page.toNat, .u8 unpin.toNat]) s

/-- PTE_READ (R146): Returns a page table entry. -/
def execPteRead (c : Call) (page : Word) (s : State) : Answer :=
  onBase (fun (d : Dev) => d.submit c 0x0405 [.u32 page.toNat]) s

/-- PAGE_MOVE (R146): Requests promotion or demotion of a page within a later course's budget. -/
def execPageMove (c : Call) (page : Word) (demote : Byte) (s : State) : Answer :=
  onBase (fun (d : Dev) => d.submit c 0x0501 [.u32 page.toNat, .u8 demote.toNat]) s

/-- HUB_OPND_WRITE (R173): Writes hub-operand bytes into a tile at the boundary. -/
def execHubOpndWrite (c : Call) (tile : BitVec 16) (offset len : Word) (bytes : List Byte) (s : State) : Answer :=
  onBase (fun (d : Dev) => d.submit c 0x0601 [.u16 tile.toNat, .u32 offset.toNat, .u32 len.toNat, .block bytes]) s

/-- HUB_OPND_READ (R173): Reads hub-operand bytes at the boundary. -/
def execHubOpndRead (c : Call) (tile : BitVec 16) (offset len : Word) (s : State) : Answer :=
  onBase (fun (d : Dev) => d.submit c 0x0602 [.u16 tile.toNat, .u32 offset.toNat, .u32 len.toNat]) s

/-- COLL_ABORT (R171): Ends a named open collective with ABORTED at the boundary. -/
def execCollAbort (c : Call) (part : Byte) (coll : BitVec 16) (s : State) : Answer :=
  onBase (fun (d : Dev) => d.submit c 0x0603 [.u8 part.toNat, .u16 coll.toNat]) s

/-- SMP_PROG_WRITE (R204): Writes a checked sampler program record. -/
def execSmpProgWrite (c : Call) (tile : BitVec 16) (offset : Word) (record : List Byte) (s : State) : Answer :=
  onBase (fun (d : Dev) => d.submit c 0x0701 [.u16 tile.toNat, .u32 offset.toNat, .record record]) s

/-- SMP_BIND (R204): Binds a stream to a program and optionally reseeds it. -/
def execSmpBind (c : Call) (stream tile : BitVec 16) (offset : Word) (seed : Option (BitVec 64)) (s : State) : Answer :=
  onBase (fun (d : Dev) => d.submit c 0x0702 [.u16 stream.toNat, .u16 tile.toNat, .u32 offset.toNat, .u8 (b2n seed.isSome), .u64 ((seed.map BitVec.toNat).getD 0)]) s

/-- SMP_STATE_SET (R204): Sets a stream's automaton state and adjusts its counts. -/
def execSmpStateSet (c : Call) (stream : BitVec 16) (aut : Option Word) (clear : Byte) (tokens : List Word) (s : State) : Answer :=
  onBase (fun (d : Dev) => d.submit c 0x0703 [.u16 stream.toNat, .u8 (b2n aut.isSome), .u32 ((aut.map BitVec.toNat).getD 0), .u8 clear.toNat, .list 4 (tokens.map BitVec.toNat)]) s

/-- SMP_LAST (R199): Returns the last TOKEN payload and the step counter. -/
def execSmpLast (c : Call) (stream : BitVec 16) (s : State) : Answer :=
  onBase (fun (d : Dev) => d.submit c 0x0704 [.u16 stream.toNat]) s

/-- SMP_TABLE_WRITE (R204): Writes bytes into a sampler table. -/
def execSmpTableWrite (c : Call) (tile : BitVec 16) (offset : Word) (bytes : List Byte) (s : State) : Answer :=
  onBase (fun (d : Dev) => d.submit c 0x0705 [.u16 tile.toNat, .u32 offset.toNat, .block bytes]) s

/-- STREAM_READY (R228): Moves an IDLE or PARKED stream to READY at the boundary. -/
def execStreamReady (c : Call) (stream : BitVec 16) (user : List Byte) (s : State) : Answer :=
  onBase (fun (d : Dev) => d.submit c 0x0801 [.u16 stream.toNat, .record user]) s

/-- STREAM_PARK (R228): Parks a READY or RUNNING stream with reason 0x02. -/
def execStreamPark (c : Call) (stream : BitVec 16) (s : State) : Answer :=
  onBase (fun (d : Dev) => d.submit c 0x0802 [.u16 stream.toNat]) s

/-- STREAM_STOP (R228): Sends a RUNNING stream to DRAINING, or a READY or PARKED stream to IDLE. -/
def execStreamStop (c : Call) (stream : BitVec 16) (s : State) : Answer :=
  onBase (fun (d : Dev) => d.submit c 0x0803 [.u16 stream.toNat]) s

/-- STREAM_RESET (R215): Aborts the stream's step, resets its counter and key and sends it to IDLE. -/
def execStreamReset (c : Call) (stream : BitVec 16) (s : State) : Answer :=
  onBase (fun (d : Dev) => d.submit c 0x0804 [.u16 stream.toNat]) s

/-- STREAM_SET_QUEUE (R216): Moves a stream to a queue of its partition at step 6. -/
def execStreamSetQueue (c : Call) (stream : BitVec 16) (queue : Byte) (s : State) : Answer :=
  onBase (fun (d : Dev) => d.submit c 0x0805 [.u16 stream.toNat, .u8 queue.toNat]) s

/-- STREAM_QUERY (R228): Returns a stream's state, queue, class and counters. -/
def execStreamQuery (c : Call) (stream : BitVec 16) (s : State) : Answer :=
  onBase (fun (d : Dev) => d.submit c 0x0806 [.u16 stream.toNat]) s

/-- JOB_START (R225): Starts a partition's job and fixes its rounding key. -/
def execJobStart (c : Call) (part : Byte) (seed : BitVec 64) (s : State) : Answer :=
  onBase (fun (d : Dev) => d.submit c 0x0807 [.u8 part.toNat, .u64 seed.toNat]) s

/-- JOB_END (R225): Ends a partition's job, draining its streams and aborting its steps and collectives. -/
def execJobEnd (c : Call) (part : Byte) (s : State) : Answer :=
  onBase (fun (d : Dev) => d.submit c 0x0808 [.u8 part.toNat]) s

/-- PART_SWITCH (R227): Switches a partition's context at the boundary. -/
def execPartSwitch (c : Call) (part : Byte) (s : State) : Answer :=
  onBase (fun (d : Dev) => d.submit c 0x0809 [.u8 part.toNat]) s

/-- BAR_SET (R234): Configures a barrier. -/
def execBarSet (c : Call) (bar : BitVec 16) (record : List Byte) (s : State) : Answer :=
  onBase (fun (d : Dev) => d.submit c 0x0901 [.u16 bar.toNat, .record record]) s

/-- BAR_FREE (R251): Returns a barrier to FREE. -/
def execBarFree (c : Call) (bar : BitVec 16) (s : State) : Answer :=
  onBase (fun (d : Dev) => d.submit c 0x0902 [.u16 bar.toNat]) s

/-- BAR_RESET (R250): Ends a barrier's phase with CLEARED and keeps its configuration. -/
def execBarReset (c : Call) (bar : BitVec 16) (s : State) : Answer :=
  onBase (fun (d : Dev) => d.submit c 0x0903 [.u16 bar.toNat]) s

/-- BAR_ARRIVE (R251): Counts an arrival on behalf of the hub. -/
def execBarArrive (c : Call) (bar : BitVec 16) (phase : Byte) (s : State) : Answer :=
  onBase (fun (d : Dev) => d.submit c 0x0904 [.u16 bar.toNat, .u8 phase.toNat]) s

/-- BAR_QUERY (R555): Returns a barrier's state, phase, counts and time remaining. -/
def execBarQuery (c : Call) (bar : BitVec 16) (s : State) : Answer :=
  onBase (fun (d : Dev) => d.submit c 0x0905 [.u16 bar.toNat]) s

/-- TALLY_SET (R241): Configures a tally and zeroes P and C. -/
def execTallySet (c : Call) (tally : BitVec 16) (record : List Byte) (s : State) : Answer :=
  onBase (fun (d : Dev) => d.submit c 0x0906 [.u16 tally.toNat, .record record]) s

/-- TALLY_QUERY (R555): Returns a tally's state, P, C and pending waits. -/
def execTallyQuery (c : Call) (tally : BitVec 16) (s : State) : Answer :=
  onBase (fun (d : Dev) => d.submit c 0x0907 [.u16 tally.toNat]) s

/-- TALLY_FREE (R251): Ends a tally's waits with CLEARED and frees it. -/
def execTallyFree (c : Call) (tally : BitVec 16) (s : State) : Answer :=
  onBase (fun (d : Dev) => d.submit c 0x0908 [.u16 tally.toNat]) s

/-- PWR_QUERY (R287): Returns an accelerator's grant, reasons, counters and energy. -/
def execPwrQuery (c : Call) (acc : Byte) (s : State) : Answer :=
  onBase (fun (d : Dev) => d.submit c 0x0A01 [.u8 acc.toNat]) s

/-- PHASE_TABLE_SET (R287): Sets an accelerator's 64 phase entries. -/
def execPhaseTableSet (c : Call) (acc : Byte) (record : List Byte) (s : State) : Answer :=
  onBase (fun (d : Dev) => d.submit c 0x0A02 [.u8 acc.toNat, .record record]) s

/-- EST_RESET (R287): Zeroes named EPP estimates. -/
def execEstReset (c : Call) (acc which : Byte) (s : State) : Answer :=
  onBase (fun (d : Dev) => d.submit c 0x0A03 [.u8 acc.toNat, .u8 which.toNat]) s

/-- HS_OFF (R310): Sends the named channels to CMD_OFF. -/
def execHsOff (c : Call) (mask : BitVec 16) (s : State) : Answer :=
  onBase (fun (d : Dev) => d.submit c 0x0B01 [.u16 mask.toNat]) s

/-- HS_ON (R310): Sends CMD_OFF channels to WAIT_SLOT. -/
def execHsOn (c : Call) (mask : BitVec 16) (s : State) : Answer :=
  onBase (fun (d : Dev) => d.submit c 0x0B02 [.u16 mask.toNat]) s

/-- HS_RELEASE (R301): Releases a latched or held channel. -/
def execHsRelease (c : Call) (ch : Byte) (s : State) : Answer :=
  onBase (fun (d : Dev) => d.submit c 0x0B03 [.u8 ch.toNat]) s

/-- HS_QUERY (R310): Returns a channel's state, cause, measurements and trip count. -/
def execHsQuery (c : Call) (ch : Byte) (s : State) : Answer :=
  onBase (fun (d : Dev) => d.submit c 0x0B04 [.u8 ch.toNat]) s

/-- TRAY_SEQ_UP (R308): Clears CMD_OFF on every channel and reruns steps 3 to 5. -/
def execTraySeqUp (c : Call) (s : State) : Answer := onBase (fun (d : Dev) => d.submit c 0x0B05 [.u8 0]) s

/-- TRAY_SEQ_DOWN (R308): Takes the tray down in timed stages from the next boundary. -/
def execTraySeqDown (c : Call) (s : State) : Answer := onBase (fun (d : Dev) => d.submit c 0x0B05 [.u8 1]) s

/-- COOL_HEARTBEAT (R323): Counts as a host heartbeat. -/
def execCoolHeartbeat (c : Call) (s : State) : Answer := onBase (fun (d : Dev) => d.submit c 0x0C01 []) s

/-- COOL_QUERY (R333): Returns a zone's or channel's state. -/
def execCoolQuery (c : Call) (what index : Byte) (s : State) : Answer :=
  onBase (fun (d : Dev) => d.submit c 0x0C02 [.u8 what.toNat, .u8 index.toNat]) s

/-- LEAK_CLEAR (R332): Clears the leak actions of ropes that have stayed DRY. -/
def execLeakClear (c : Call) (mask : Byte) (s : State) : Answer :=
  onBase (fun (d : Dev) => d.submit c 0x0D01 [.u8 mask.toNat]) s

/-- LEAK_QUERY (R333): Returns rope measurements, the latched mask and ACT_COUNT. -/
def execLeakQuery (c : Call) (s : State) : Answer := onBase (fun (d : Dev) => d.submit c 0x0D02 []) s

/-- SENSE_READ (R353): Returns the latest words of the named ADC channels. -/
def execSenseRead (c : Call) (mask : BitVec 64) (s : State) : Answer :=
  onBase (fun (d : Dev) => d.submit c 0x0E01 [.u64 mask.toNat]) s

/-- SENSE_CAL (R353): Requests a calibration in the next frame. -/
def execSenseCal (c : Call) (s : State) : Answer := onBase (fun (d : Dev) => d.submit c 0x0E02 []) s

/-- MON_READ (R353): Returns all on-die monitor readings. -/
def execMonRead (c : Call) (s : State) : Answer := onBase (fun (d : Dev) => d.submit c 0x0E03 []) s

/-- TXN_BEGIN (R371): Opens a transaction and returns its id. -/
def execTxnBegin (c : Call) (s : State) : Answer := onBase (fun (d : Dev) => d.submit c 0x0F01 []) s

/-- TXN_COMMIT (R373): Commits a transaction at the next boundary, in one or two stages. -/
def execTxnCommit (c : Call) (id : BitVec 16) (ref : Option Word) (s : State) : Answer :=
  onBase (fun (d : Dev) => d.submit c 0x0F02 [.u16 id.toNat, .u8 (b2n ref.isSome), .u32 ((ref.map BitVec.toNat).getD 0)]) s

/-- TXN_ABORT (R374): Discards an open transaction. -/
def execTxnAbort (c : Call) (id : BitVec 16) (s : State) : Answer :=
  onBase (fun (d : Dev) => d.submit c 0x0F03 [.u16 id.toNat]) s

/-- CFG_REF_SET (R369): Sets the configuration CRC reference. -/
def execCfgRefSet (c : Call) (ref : Word) (s : State) : Answer :=
  onBase (fun (d : Dev) => d.submit c 0x0F04 [.u32 ref.toNat]) s

/-- WARM_RESET (R378): Completes, then schedules a warm reset for the next boundary. -/
def execWarmReset (c : Call) (s : State) : Answer := onBase (fun (d : Dev) => d.submit c 0x0F05 []) s

/-- HOD_ECHO (R400): Returns its data block unchanged. -/
def execHodEcho (c : Call) (bytes : List Byte) (s : State) : Answer :=
  onBase (fun (d : Dev) => d.submit c 0x0F06 [.block bytes]) s

/-- HOD_CAPS (R400): Returns the hod capabilities and version fields. -/
def execHodCaps (c : Call) (s : State) : Answer := onBase (fun (d : Dev) => d.submit c 0x0F07 []) s

/-- ID_READ (R430): Returns identity memory bytes, cached or read live. -/
def execIdRead (c : Call) (bus addr : Byte) (offset len : Word) (s : State) : Answer :=
  onBase (fun (d : Dev) => d.submit c 0x1001 [.u8 bus.toNat, .u8 addr.toNat, .u32 offset.toNat, .u32 len.toNat]) s

/-- SMB_STATUS (R430): Returns the SMBus status byte, mask, address and counts. -/
def execSmbStatus (c : Call) (s : State) : Answer := onBase (fun (d : Dev) => d.submit c 0x1002 []) s

/-- RACK_QUERY (R450): Returns rack state for this hub or, on the manager, for another position via a HOD frame. -/
def execRackQuery (c : Call) (pos : Byte) (s : State) : Answer :=
  onBase (fun (d : Dev) => d.submit c 0x1101 [.u8 pos.toNat]) s

/-- RACK_ROLE_REQUEST (R446): Sends ROLE_REQ to take over the manager role. -/
def execRackRoleRequest (c : Call) (s : State) : Answer := onBase (fun (d : Dev) => d.submit c 0x1102 []) s

/-- RACK_SLEEP (R448): Starts a rack sleep agreement on the manager. -/
def execRackSleep (c : Call) (s : State) : Answer := onBase (fun (d : Dev) => d.submit c 0x1103 []) s

/-- FW_WRITE (R465): Writes and reads back a chunk of the inactive hub slot. -/
def execFwWrite (c : Call) (flags : Byte) (offset : Word) (bytes : List Byte) (s : State) : Answer :=
  onBase (fun (d : Dev) => d.submit c 0x1201 [.u8 flags.toNat, .u32 offset.toNat, .block bytes]) s

/-- FW_VERIFY (R465): Verifies a slot or copy and stages a hub image. -/
def execFwVerify (c : Call) (kind target : Byte) (s : State) : Answer :=
  onBase (fun (d : Dev) => d.submit c 0x1202 [.u8 kind.toNat, .u8 target.toNat]) s

/-- FW_ACTIVATE (R465): Schedules activation of a staged image at the next tray-wide job boundary. -/
def execFwActivate (c : Call) (kind target copy : Byte) (s : State) : Answer :=
  onBase (fun (d : Dev) => d.submit c 0x1203 [.u8 kind.toNat, .u8 target.toNat, .u8 copy.toNat]) s

/-- FW_ACTIVATE_CANCEL (R467): FW_ACTIVATE with TARGET 0xFF cancels the pending activation. -/
def execFwActivateCancel (c : Call) (s : State) : Answer :=
  onBase (fun (d : Dev) => d.submit c 0x1203 [.u8 0, .u8 0xFF, .u8 0]) s

/-- FW_QUERY (R474): Returns firmware and push status. -/
def execFwQuery (c : Call) (s : State) : Answer := onBase (fun (d : Dev) => d.submit c 0x1204 []) s

/-- JOBPLANE_LOAD (R468): Loads a chunk of the job-plane module, checked on the LAST chunk. -/
def execJobplaneLoad (c : Call) (flags : Byte) (offset : Word) (bytes : List Byte) (s : State) : Answer :=
  onBase (fun (d : Dev) => d.submit c 0x1205 [.u8 flags.toNat, .u32 offset.toNat, .block bytes]) s

/-- ACC_IMAGE_WRITE (R474): Writes a chunk of an inactive accelerator image copy. -/
def execAccImageWrite (c : Call) (target : Byte) (offset : Word) (bytes : List Byte) (s : State) : Answer :=
  onBase (fun (d : Dev) => d.submit c 0x1206 [.u8 target.toNat, .u32 offset.toNat, .block bytes]) s

/-- SEC_QUERY (R495): Returns the security status, keys and port seal states. -/
def execSecQuery (c : Call) (s : State) : Answer := onBase (fun (d : Dev) => d.submit c 0x1301 []) s

/-- JTAG_UNLOCK_CHALLENGE (R493): MODE 0 returns a fresh challenge and the serial. -/
def execJtagUnlockChallenge (c : Call) (s : State) : Answer :=
  onBase (fun (d : Dev) => d.submit c 0x1302 [.u8 0, .u8 0, .u32 0, .block []]) s

/-- JTAG_UNLOCK_LEVEL (R493): MODE 1 checks a signed token and raises the debug level at the next boundary. -/
def execJtagUnlockLevel (c : Call) (level : Byte) (duration : Word) (token : List Byte) (s : State) : Answer :=
  onBase (fun (d : Dev) => d.submit c 0x1302 [.u8 1, .u8 level.toNat, .u32 duration.toNat, .block token]) s

/-- JTAG_RELOCK (R493): MODE 2 relocks the debug port to level 0. -/
def execJtagRelock (c : Call) (s : State) : Answer :=
  onBase (fun (d : Dev) => d.submit c 0x1302 [.u8 2, .u8 0, .u32 0, .block []]) s

/-- LOG_READ (R507): Returns records from the requester's view of the log. -/
def execLogRead (c : Call) (index : Word) (count : BitVec 16) (s : State) : Answer :=
  onBase (fun (d : Dev) => d.submit c 0x1401 [.u32 index.toNat, .u16 count.toNat]) s

/-- LOG_CLEAR (R509): Digests the log, journals the clear pair and erases the log. -/
def execLogClear (c : Call) (s : State) : Answer := onBase (fun (d : Dev) => d.submit c 0x1402 []) s

/-- LOG_STATUS (R517): Returns the record, clear and drop counts. -/
def execLogStatus (c : Call) (s : State) : Answer := onBase (fun (d : Dev) => d.submit c 0x1403 []) s

/-- SAFETY_QUERY (R530): Returns every SAFETY register. -/
def execSafetyQuery (c : Call) (s : State) : Answer := onBase (fun (d : Dev) => d.submit c 0x1501 []) s

end Sys2Proof.Machine
end

