-- ==== Sys2Proof/Machine/Power.lean ====
section
/-!
DEFINITION. Machine/Power.lean: the meaning of each command: the governor and the power path.
-/
namespace Sys2Proof.Machine

/-- TELEMETRY (R258): A TELEMETRY brick is accepted before the close, replacing earlier ones and applying any ageing
report, or is discarded. -/
def execTelemetry (x : Fin 8) (s : State) : Answer := onHub (fun (h : Hub) => h.telemetry x) s

/-- VRALERT_ASSERT (R284): ACCx_VRALERT_L asserts, and ACCx_THROT_L is forced within 1 µs. -/
def execVralertAssert (x : Fin 8) (s : State) : Answer := onFoot (fun (h : Hub) => h.vrAssert x) s

/-- VRALERT_RELEASE_TIMEOUT (R284): VRALERT has been deasserted for 10 µs, ACCx_THROT_L is released and the VR_HOLD grant
cap begins. -/
def execVralertReleaseTimeout (x : Fin 8) (s : State) : Answer := onFoot (fun (h : Hub) => h.vrRelease x) s

/-- FLOW_LOSS_ASSERT (R283): FLOW_LOSS_L asserts, and ACCx_STOP_L goes to all eight accelerators within 2 µs. -/
def execFlowLossAssert (s : State) : Answer := onFoot (fun (h : Hub) => h.flowAssert) s

/-- FLOW_LOSS_DEASSERT (R306): FLOW_LOSS_L deasserts, completing step 4 of the tray sequence and starting the release
timer. -/
def execFlowLossDeassert (s : State) : Answer := onFoot (fun (h : Hub) => h.flowDeassert) s

/-- FLOW_LOSS_RELEASE_TIMEOUT (R283): FLOW_LOSS_L has been deasserted for 1 s, and ACCx_STOP_L is released. -/
def execFlowLossReleaseTimeout (s : State) : Answer := onFoot (fun (h : Hub) => h.flowRelease) s

/-- LEASE_EXPIRY (R268): ROUNDS_LEFT reaches 0, and R_C falls to RACK_FLOOR with LEASE_LOST set. -/
def execLeaseExpiry (s : State) : Answer := onHub (fun (h : Hub) => h.leaseExpiry) s

/-- SLED_SEATED (R295): Both seat pins have been low for 50 ms, and the channel moves to WAIT_SLOT. -/
def execSledSeated (x : Fin 8) (s : State) : Answer := onFoot (fun (h : Hub) => h.sledSeated x) s

/-- SLED_UNSEATED (R295): A seat pin goes high: the gate turns off within 10 µs, reset is asserted and the channel returns
to WAIT_SEAT. -/
def execSledUnseated (x : Fin 8) (pinB : Bool) (s : State) : Answer := onFoot (fun (h : Hub) => h.sledUnseated x pinB) s

/-- RAMP_START (R302): A channel in WAIT_SLOT whose start conditions and stagger slot have come enters RAMP. -/
def execRampStart (c : Fin 10) (s : State) : Answer := onFoot (fun (h : Hub) => h.rampStart c) s

/-- POWER_GOOD (R298): V_GS ≥ 10 V and V_DS < 100 mV together, and the channel is ON. -/
def execPowerGood (c : Fin 10) (ms peak : Nat) (s : State) : Answer := onFoot (fun (h : Hub) => h.powerGood c ms peak) s

/-- RST_DELAY_EXPIRY (R299): RST_DELAY after power-good, ACCx_RST_L is deasserted. -/
def execRstDelayExpiry (c : Fin 10) (s : State) : Answer := onFoot (fun (h : Hub) => h.rstDelay c) s

/-- RAMP_TIMEOUT (R298): Power-good is not reached within RAMP_TMO, and the channel trips. -/
def execRampTimeout (c : Fin 10) (cur vds : Nat) (s : State) : Answer :=
  onFoot (fun (h : Hub) => h.tripIf c .ramp 5 cur vds) s

/-- ENH_LOST (R298): An ON channel has lost enhancement for 10 µs and trips; while its SAR path is failed the check holds its last
result (R349). -/
def execEnhLost (c : Fin 10) (cur vds : Nat) (s : State) : Answer := onFoot (fun (h : Hub) => h.enhLost c cur vds) s

/-- FAST_TRIP (R300): The shunt voltage exceeds twice VLIM, and the gate is pulled down within 1 µs. -/
def execFastTrip (c : Fin 10) (cur vds : Nat) (s : State) : Answer := onFoot (fun (h : Hub) => h.trip c 1 cur vds) s

/-- BREAKER_TIMEOUT (R300): Current limiting has lasted BRK_MS, and the channel trips. -/
def execBreakerTimeout (c : Fin 10) (cur vds : Nat) (s : State) : Answer :=
  onFoot (fun (h : Hub) => h.trip c 2 cur vds) s

/-- SOA_TRIP (R304): The SOA accumulator exceeds SOA_E, and the gate turns off. -/
def execSoaTrip (c : Fin 10) (acc cur vds : Nat) (s : State) : Answer :=
  onFoot (fun (h : Hub) => h.soaTrip c acc cur vds) s

/-- BACKOFF_END (R301): The back-off time ends, and the channel re-enters WAIT_SLOT. -/
def execBackoffEnd (c : Fin 10) (s : State) : Answer := onFoot (fun (h : Hub) => h.backoffEnd c) s

/-- RETRY_COUNT_RESET (R301): A channel that has stayed ON for 60 s has its retry count reset. -/
def execRetryCountReset (c : Fin 10) (s : State) : Answer := onFoot (fun (h : Hub) => h.retryReset c) s

/-- BUS_OUT_OF_RANGE (R302): The bus leaves UV_V–OV_V, and channels in RAMP or ON turn off within 10 µs. -/
def execBusOutOfRange (mv : Nat) (s : State) : Answer := onFoot (fun (h : Hub) => h.busBad mv) s

/-- BUS_GOOD_TIMEOUT (R302): The bus has been within limits for 50 ms, and channels may start again. -/
def execBusGoodTimeout (mv : Nat) (s : State) : Answer := onFoot (fun (h : Hub) => h.busOk mv) s

/-- SYS_SHDN_ASSERT (R303): SYS_SHDN_L falls, and H0–H7 turn off and are held while H8 and H9 stay on. -/
def execSysShdnAssert (s : State) : Answer := onFoot (fun (h : Hub) => h.shdnPin true) s

/-- SYS_SHDN_RELEASE (R303): SYS_SHDN_L rises, ending the SHDN hold cause. -/
def execSysShdnRelease (s : State) : Answer := onFoot (fun (h : Hub) => h.shdnPin false) s

/-- TRAY_SEQ_STEP (R306): The tray power-up sequence advances through H8, H9 after 200 ms, the flow wait and the staggered
H0–H7. -/
def execTraySeqStep (s : State) : Answer := onHub (fun (h : Hub) => h.seqStep) s

/-- FLOW_WAIT_TIMEOUT (R306): Step 4 has not completed after FLOW_WAIT_S, and FLOW_WAIT sets. -/
def execFlowWaitTimeout (s : State) : Answer := onHub (fun (h : Hub) => h.flowWait) s

/-- SEQ_DOWN_STEP (R308): A timed stage of TRAY_SEQ DOWN turns the next channel's gate off. -/
def execSeqDownStep (s : State) : Answer := onHub (fun (h : Hub) => h.seqDownStep) s

/-- HS_OFF_GATE_OFF (R310): 1 ms after ACCx_RST_L is asserted by HS_OFF, the named channel's gate turns off. -/
def execHsOffGateOff (c : Fin 10) (s : State) : Answer := onFoot (fun (h : Hub) => h.offGate c) s

end Sys2Proof.Machine
end

