-- ==== Sys2Proof/Machine/RackRows.lean ====
section
/-!
DEFINITION. Machine/RackRows.lean: the meaning of each command: the rack chain.
-/
namespace Sys2Proof.Machine

/-- CHAIN_LINK_UP (R434): A chain link gains symbol lock, and enumeration runs. -/
def execChainLinkUp (down : Bool) (hop : Nat) (s : State) : Answer := onHub (fun (h : Hub) => h.chainUp down hop) s

/-- CHAIN_LINK_DOWN (R434): A chain link has been out of lock for 10 µs, and the chain re-enumerates. -/
def execChainLinkDown (down : Bool) (s : State) : Answer := onHub (fun (h : Hub) => h.chainDown down) s

/-- ENUM (R436): An ENUM frame assigns position plus one and is forwarded downstream. -/
def execEnum (f : Frame) (hop : Nat) (s : State) : Answer := onHub (fun (h : Hub) => h.enumFrame f hop) s

/-- ENUM_DONE (R436): An ENUM_DONE frame carries the hub count upstream. -/
def execEnumDone (f : Frame) (hop : Nat) (s : State) : Answer := onHub (fun (h : Hub) => h.enumDone f hop) s

/-- ROUND_SEND (R438): At every 20th course the manager computes budgets in hardware and sends a ROUND. -/
def execRoundSend (l2 : Bool) (s : State) : Answer := onHub (fun (h : Hub) => h.roundSend l2) s

/-- ROUND (R443): A worker receives a ROUND, compares its fields, renews its lease and sends its REPORT. -/
def execRound (f : Frame) (l2 : Bool) (s : State) : Answer := onHub (fun (h : Hub) => h.roundFrame f l2) s

/-- REPORT (R439): The manager receives a worker's REPORT for the next budget computation. -/
def execReport (f : Frame) (s : State) : Answer := onHub (fun (h : Hub) => h.reportFrame f) s

/-- SYNC_PULSE (R442): A pulse from the manager's side aligns the worker's boundary, slewing or falling back to the local
counter. -/
def execSyncPulse (ofs : Int) (s : State) : Answer := onHub (fun (h : Hub) => h.syncPulse ofs) s

/-- ROLE_REQ (R445): A ROLE_REQ frame from another hub is compared by position. -/
def execRoleReq (f : Frame) (s : State) : Answer := onHub (fun (h : Hub) => h.roleReq f) s

/-- MANAGER_LOST (R445): A standby sees 16 rounds pass without a round from the manager and sends ROLE_REQ. -/
def execManagerLost (s : State) : Answer := onHub (fun (h : Hub) => h.managerLost) s

/-- ROLE_REQ_TIMEOUT (R445): 20 courses pass without a ROLE_REQ from a lower position, and the hub becomes MANAGER. -/
def execRoleReqTimeout (s : State) : Answer := onHub (fun (h : Hub) => h.roleTimeout) s

/-- WAKE (R449): A WAKE frame cancels or ends rack sleep and is forwarded. -/
def execWake (f : Frame) (s : State) : Answer := onHub (fun (h : Hub) => h.wakeFrame f) s

/-- SLEEP_COMMIT (R448): At course K, each hub with STATE 2 begins hub sleep entry. -/
def execSleepCommit (s : State) : Answer := onHub (fun (h : Hub) => h.sleepCommit) s

/-- HOD (R450): A HOD frame from the manager is served on hod 10. -/
def execHod (f : Frame) (s : State) : Answer := onBase (fun (d : Dev) => d.hodFrame f) s

/-- HOD_RSP (R450): A HOD_RSP frame completes a forwarded RACK_QUERY. -/
def execHodRsp (f : Frame) (s : State) : Answer := onHub (fun (h : Hub) => h.hodRspFrame f) s

/-- RACK_QUERY_TIMEOUT (R450): No HOD_RSP arrives within 10 ms, and RACK_QUERY completes with TIMEOUT. -/
def execRackQueryTimeout (pos : Nat) (s : State) : Answer := onHub (fun (h : Hub) => h.rackQueryTimeout pos) s

end Sys2Proof.Machine
end

