-- ==== Sys2Proof/Machine/Register.lean ====
section
/-!
DEFINITION. Machine/Register.lean: the meaning of each command: accesses to the register file.
-/
namespace Sys2Proof.Machine

/-- CRS_PERIOD_WRITE (R34): A write to TOP.CRS_PERIOD is staged if it lies within 20 to 1,000; otherwise it is ignored and
BAD_PERIOD sets. -/
def execCrsPeriodWrite (m : Master) (v : Word) (s : State) : Answer :=
  onBase (fun (d : Dev) => d.write m 0x100000 4 v.toNat) s

/-- REGISTER_WRITE (R367): A BAR0 write to a register without a row of its own is checked for access rights, alignment and
range, then applied, staged or ignored. -/
def execRegisterWrite (m : Master) (a : Word) (size : Nat) (v : BitVec 64) (s : State) : Answer :=
  onBase (fun (d : Dev) => d.write m a.toNat size v.toNat) s

/-- PAIR_LO_READ (R362): A read of the LO half of a 64-bit pair latches HI, the wrap flag and the address into the
master's shadow. -/
def execPairLoRead (m : Master) (a : Word) (s : State) : Answer := onBase (fun (d : Dev) => d.read m a.toNat 4) s

/-- PAIR_HI_READ (R362): A read of a HI half returns the shadow at the latched address, or the live value with STRAY set. -/
def execPairHiRead (m : Master) (a : Word) (s : State) : Answer := onBase (fun (d : Dev) => d.read m a.toNat 4) s

/-- PAIR_HI_WRITE (R364): A HI write applies the 64 bits held from the same master's LO write, or is ignored with
BAD_ACCESS. -/
def execPairHiWrite (m : Master) (a v : Word) (s : State) : Answer :=
  onBase (fun (d : Dev) => d.write m a.toNat 4 v.toNat) s

/-- RC_READ (R366): A read of a read-clear field returns its value and clears it. -/
def execRcRead (m : Master) (a : Word) (s : State) : Answer := onBase (fun (d : Dev) => d.read m a.toNat 4) s

/-- CFG_REF_WRITE (R369): A write to REG.CFG_REF sets the reference, which reaches both copies at the next boundary. -/
def execCfgRefWrite (m : Master) (v : Word) (s : State) : Answer :=
  onBase (fun (d : Dev) => d.write m 0xF00010 4 v.toNat) s

/-- TXN_CTRL_BEGIN (R371): REG.TXN_CTRL.BEGIN opens a transaction for the writing master. -/
def execTxnCtrlBegin (m : Master) (s : State) : Answer := onBase (fun (d : Dev) => d.write m 0xF00020 4 0x00010001) s

/-- TXN_CTRL_COMMIT (R373): REG.TXN_CTRL.COMMIT, with COMMIT_REF if set, closes staging and assigns the commit to a
boundary. -/
def execTxnCtrlCommit (m : Master) (ref : Bool) (s : State) : Answer :=
  onBase (fun (d : Dev) => d.write m 0xF00020 4 (if ref then 0x000A000A else 0x00020002)) s

/-- TXN_CTRL_ABORT (R374): REG.TXN_CTRL.ABORT discards the master's open transaction. -/
def execTxnCtrlAbort (m : Master) (s : State) : Answer := onBase (fun (d : Dev) => d.write m 0xF00020 4 0x00040004) s

/-- RESET_CTRL_WARM (R376): REG.RESET_CTRL.WARM schedules a warm reset for the next boundary. -/
def execResetCtrlWarm (m : Master) (s : State) : Answer := onBase (fun (d : Dev) => d.write m 0xF00034 4 0x00010001) s

/-- TXN_OPEN_TIMEOUT (R374): A transaction that has stayed OPEN for MAX_COURSES is aborted, and event 0x0F03 is recorded. -/
def execTxnOpenTimeout (id : BitVec 16) (s : State) : Answer := onHub (fun (h : Hub) => h.txnOpenTimeout id.toNat) s

/-- STAGE_MAX_TIMEOUT (R375): A staged commit that has not reached stage 2 within STAGE_MAX keeps stage 1 and completes
with TIMEOUT. -/
def execStageMaxTimeout (id : BitVec 16) (s : State) : Answer := onHub (fun (h : Hub) => h.stageMaxTimeout id.toNat) s

/-- PORT_CTRL_RETRAIN (R95): LINK.PORT_CTRL.RETRAIN takes an ACTIVE port through a full training attempt at the next
boundary. -/
def execPortCtrlRetrain (m : Master) (x : Fin 8) (s : State) : Answer :=
  onBase (fun (d : Dev) => d.write m (portReg x 4) 4 0x00010001) s

/-- PORT_CTRL_FENCE_RELEASE (R95): LINK.PORT_CTRL.FENCE_RELEASE sends a FENCED or FAILED port to DETECT and resets
ATTEMPTS. -/
def execPortCtrlFenceRelease (m : Master) (x : Fin 8) (s : State) : Answer :=
  onBase (fun (d : Dev) => d.write m (portReg x 4) 4 0x00020002) s

/-- CH_CTRL_OFF (R313): HOTSWAP.CH_CTRL.OFF takes the channel to CMD_OFF at the next boundary. -/
def execChCtrlOff (m : Master) (c : Fin 10) (s : State) : Answer :=
  onBase (fun (d : Dev) => d.write m (hsReg c 0xC) 4 0x00010001) s

/-- CH_CTRL_ON (R313): HOTSWAP.CH_CTRL.ON takes a CMD_OFF channel to WAIT_SLOT. -/
def execChCtrlOn (m : Master) (c : Fin 10) (s : State) : Answer :=
  onBase (fun (d : Dev) => d.write m (hsReg c 0xC) 4 0x00020002) s

/-- CH_CTRL_RELEASE (R301): HOTSWAP.CH_CTRL.RELEASE releases a LATCHED or HELD channel whose hold cause has ended. -/
def execChCtrlRelease (m : Master) (c : Fin 10) (s : State) : Answer :=
  onBase (fun (d : Dev) => d.write m (hsReg c 0xC) 4 0x00040004) s

/-- LEAK_CTRL_CLEAR (R332): LEAK.CTRL.CLEAR ends a rope's leak action at the boundary if the rope has been DRY for 10 s. -/
def execLeakCtrlClear (m : Master) (mask : BitVec 6) (s : State) : Answer :=
  onBase (fun (d : Dev) => d.write m 0xD00004 4 (65536 * mask.toNat + mask.toNat)) s

/-- HEARTBEAT_WRITE (R323): A write to COOL.HEARTBEAT from PF0 or SMBus counts as a heartbeat and ends host silence. -/
def execHeartbeatWrite (m : Master) (v : Word) (s : State) : Answer :=
  onBase (fun (d : Dev) => d.write m 0xC00008 4 v.toNat) s

/-- WALL_REF_WRITE (R514): The HI write of EVREC.WALL_REF sets a new wall reference and records event 0x1404. -/
def execWallRefWrite (m : Master) (v : Word) (s : State) : Answer :=
  onBase (fun (d : Dev) => d.write m 0x140001C 4 v.toNat) s

/-- FW_CTRL_KICK (R455): FW.CTRL.KICK restarts the watchdog, and the first kick after handover ends a restart. -/
def execFwCtrlKick (m : Master) (s : State) : Answer := onBase (fun (d : Dev) => d.write m 0x1200008 4 0x00010001) s

/-- FW_CTRL_CONFIRM (R466): FW.CTRL.CONFIRM confirms a trial image, writes the record and may advance the anti-rollback
counter. -/
def execFwCtrlConfirm (m : Master) (s : State) : Answer := onBase (fun (d : Dev) => d.write m 0x1200008 4 0x00020002) s

end Sys2Proof.Machine
end

