-- ==== Sys2Proof/Machine/Sampling.lean ====
section
/-!
DEFINITION. Machine/Sampling.lean: the meaning of each command: the samplers.
-/
namespace Sys2Proof.Machine

/-- LOGITS (R179): A LOGITS brick opens a step or adds logits to it, waits for a sampler slot, or is discarded as an
orphan. -/
def execLogits (x : Fin 8) (s : State) : Answer := onBase (fun (d : Dev) => d.logits x) s

/-- TOKEN_ISSUE (R197): A complete step's weights, top-p, min-p and draws are computed, and one TOKEN brick goes to DEST
with counts, state and counter updated. -/
def execTokenIssue (stream : BitVec 13) (s : State) : Answer := onBase (fun (d : Dev) => d.tokenIssue stream.toNat) s

/-- STEP_TIMEOUT (R179): A step that is incomplete TIMEOUT_US after it opened ends with TIMEOUT. -/
def execStepTimeout (stream : BitVec 13) (s : State) : Answer := onHub (fun (h : Hub) => h.stepTimeout stream.toNat) s

/-- SMP_ST_START (R201): Every ST_INTERVAL courses, with both samplers up, one sampler drains for self-test. -/
def execSmpStStart (s : State) : Answer := onHub (fun (h : Hub) => h.smpStStart) s

/-- SMP_DRAIN_COMPLETE (R201): The sampler under test is empty and runs its self-test. -/
def execSmpDrainComplete (s : State) : Answer := onHub (fun (h : Hub) => h.smpDrained) s

/-- SMP_DRAIN_TIMEOUT (R201): The sampler is not empty within 1 ms, and the turn is skipped. -/
def execSmpDrainTimeout (s : State) : Answer := onHub (fun (h : Hub) => h.smpDrainTimeout) s

/-- SMP_ST_COMPLETE (R203): The sampler's self-test ends, and it rejoins the pool or fails with its open steps aborted. -/
def execSmpStComplete (ok : Bool) (s : State) : Answer := onHub (fun (h : Hub) => h.smpStDone ok) s

/-- SMP_SLICE_START (R202): With one sampler available and no open step, a 1 µs self-test slice starts. -/
def execSmpSliceStart (s : State) : Answer := onHub (fun (h : Hub) => h.sliceStart) s

/-- SMP_SLICE_END (R202): A slice ends, and the steps and hods waiting on it proceed, with deferred steps flagged. -/
def execSmpSliceEnd (s : State) : Answer := onBase (fun (d : Dev) => d.endSlice) s

end Sys2Proof.Machine
end

