-- ==== Sys2Proof/Machine/SmbusRows.lean ====
section
/-!
DEFINITION. Machine/SmbusRows.lean: the meaning of each command: the SMBus commands and hub sleep.
-/
namespace Sys2Proof.Machine

/-- SMB_CMD_STATUS (R419): SMBus command 0x00 returns the status byte. -/
def execSmbCmdStatus (pec : Bool) (s : State) : Answer := onBase (fun (d : Dev) => d.cmdStatus pec) s

/-- STATUS_CLEAR (R419): SMBus command 0x01 clears W1C status bits 4, 3 and 2. -/
def execStatusClear (v : Byte) (pec : Option Byte) (s : State) : Answer :=
  onBase (fun (d : Dev) => d.cmdStatusClear v.toNat (pec.map BitVec.toNat)) s

/-- ALERT_MASK_READ (R414): SMBus command 0x02 read returns SMBUS.ALERT_MASK. -/
def execAlertMaskRead (pec : Bool) (s : State) : Answer := onBase (fun (d : Dev) => d.cmdMaskRead pec) s

/-- ALERT_MASK_WRITE (R420): SMBus command 0x02 write sets SMBUS.ALERT_MASK. -/
def execAlertMaskWrite (v : Byte) (pec : Option Byte) (s : State) : Answer :=
  onBase (fun (d : Dev) => d.cmdMaskWrite v.toNat (pec.map BitVec.toNat)) s

/-- DEVICE_ID (R414): SMBus command 0x03 returns the identification words. -/
def execDeviceId (pec : Bool) (s : State) : Answer := onBase (fun (d : Dev) => d.cmdDeviceId pec) s

/-- COURSE (R414): SMBus command 0x04 returns the course timestamp. -/
def execCourse (pec : Bool) (s : State) : Answer := onBase (fun (d : Dev) => d.cmdCourse pec) s

/-- MCTP_BLOCK_WRITE (R421): SMBus command 0x0F Block Write delivers an inbound MCTP packet. -/
def execMctpBlockWrite (data : List Byte) (pec : Option Byte) (s : State) : Answer :=
  onBase (fun (d : Dev) => d.cmdMctpWrite data (pec.map BitVec.toNat)) s

/-- MCTP_BLOCK_READ (R421): SMBus command 0x0F Block Read removes the oldest outbound packet. -/
def execMctpBlockRead (pec : Bool) (s : State) : Answer := onBase (fun (d : Dev) => d.cmdMctpRead pec) s

/-- REG_ADDR (R414): SMBus command 0x10 sets the BAR0 offset for REG_DATA. -/
def execRegAddr (count : Byte) (data : List Byte) (pec : Option Byte) (s : State) : Answer :=
  onBase (fun (d : Dev) => d.cmdRegAddr count.toNat data (pec.map BitVec.toNat)) s

/-- REG_DATA_READ (R415): SMBus command 0x11 Block Read reads consecutive registers and advances REG_ADDR. -/
def execRegDataRead (count : Byte) (pec : Bool) (s : State) : Answer :=
  onBase (fun (d : Dev) => d.cmdRegRead count.toNat pec) s

/-- REG_DATA_WRITE (R415): SMBus command 0x11 Block Write writes consecutive registers and advances REG_ADDR. -/
def execRegDataWrite (count : Byte) (data : List Byte) (pec : Option Byte) (s : State) : Answer :=
  onBase (fun (d : Dev) => d.cmdRegWrite count.toNat data (pec.map BitVec.toNat)) s

/-- HOD_PTR (R414): SMBus command 0x20 sets the offset in hod 9's buffer. -/
def execHodPtr (v : BitVec 16) (pec : Option Byte) (s : State) : Answer :=
  onBase (fun (d : Dev) => d.cmdHodPtr v.toNat (pec.map BitVec.toNat)) s

/-- HOD_DATA_READ (R415): SMBus command 0x21 Block Read reads hod 9's buffer and advances HOD_PTR. -/
def execHodDataRead (count : Byte) (pec : Bool) (s : State) : Answer :=
  onBase (fun (d : Dev) => d.cmdHodRead count.toNat pec) s

/-- HOD_DATA_WRITE (R415): SMBus command 0x21 Block Write writes hod 9's buffer and advances HOD_PTR. -/
def execHodDataWrite (count : Byte) (data : List Byte) (pec : Option Byte) (s : State) : Answer :=
  onBase (fun (d : Dev) => d.cmdHodWrite count.toNat data (pec.map BitVec.toNat)) s

/-- SMB_HOD_RING (R414): SMBus command 0x22 rings hod 9. -/
def execSmbHodRing (v : Byte) (pec : Option Byte) (s : State) : Answer :=
  onBase (fun (d : Dev) => d.cmdHodRing v.toNat (pec.map BitVec.toNat)) s

/-- HOD_STATUS (R414): SMBus command 0x23 returns hod 9's STATUS word. -/
def execHodStatus (pec : Bool) (s : State) : Answer := onBase (fun (d : Dev) => d.cmdHodStatus pec) s

/-- ALERT_RESPONSE (R420): A read of the Alert Response Address returns the hub's address. -/
def execAlertResponse (pec : Bool) (s : State) : Answer := onBase (fun (d : Dev) => d.alertResponse pec) s

/-- SMB_UNKNOWN_COMMAND (R414): An SMBus command code not in the table is NACKed, the transfer is discarded and CMD_ERR is
set. -/
def execSmbUnknownCommand (code : Byte) (s : State) : Answer := onBase (fun (d : Dev) => d.cmdUnknown code.toNat) s

/-- SMB_SCL_TIMEOUT (R413): SCL has been held low for 30 ms, and the target state machine resets. -/
def execSmbSclTimeout (s : State) : Answer := onHub (fun (h : Hub) => h.sclTimeout) s

/-- SMB_STRETCH_TIMEOUT (R418): A stretch reaches 2 ms, and the hub releases SCL and ends the transfer. -/
def execSmbStretchTimeout (code : Byte) (reading : Bool) (count : Byte) (s : State) : Answer :=
  onHub (fun (h : Hub) => h.stretchTimeout code.toNat reading count.toNat) s

/-- SMB_RST_ASSERT (R423): SMB_RST_L resets the target and discards the transfer and any inbound MCTP assembly. -/
def execSmbRstAssert (busy : Bool) (s : State) : Answer := onHub (fun (h : Hub) => h.smbRstOn busy) s

/-- SMB_RST_DEASSERT (R423): SMB_RST_L is deasserted and the SMBus target accepts START conditions again. -/
def execSmbRstDeassert (s : State) : Answer := onHub (fun (h : Hub) => h.smbRstOff) s

/-- HUB_SLEEP_ENTRY (R412): PF0 in D3hot with its link in L2, or a committed rack sleep, takes the hub into sleep. -/
def execHubSleepEntry (s : State) : Answer := onHub (fun (h : Hub) => h.sleepEntry) s

/-- HUB_SLEEP_EXIT (R422): A wake starts exit from hub sleep, completing within 5 ms. -/
def execHubSleepExit (s : State) : Answer := onHub (fun (h : Hub) => h.sleepExit) s

/-- SMB_WAKE_MATCH (R422): An SMBus address match during sleep or entry is ACKed and stretched and starts exit. -/
def execSmbWakeMatch (s : State) : Answer := onBase (fun (d : Dev) => d.smbMatch id) s

/-- SLEEP_ENTRY_COMPLETE (R449): Hub sleep entry completes within 200 µs, and a wake received during entry starts exit at
once. -/
def execSleepEntryComplete (s : State) : Answer := onHub (fun (h : Hub) => h.sleepEntered) s

/-- TARGET_CLOCKS_RUN (R422): Within 1.5 ms of exit starting, the SMBus target's clocks run and the wake stretch on SCL is
released. -/
def execTargetClocksRun (s : State) : Answer := onHub (fun (h : Hub) => h.clocksRun) s

/-- SLEEP_EXIT_COMPLETE (R422): Full exit from hub sleep completes within 5 ms, and AWAKE becomes 1 so all SMBus commands
are served. -/
def execSleepExitComplete (s : State) : Answer := onHub (fun (h : Hub) => h.sleepExited) s

end Sys2Proof.Machine
end

