-- ==== Sys2Proof/Machine/Streaming.lean ====
section
/-!
DEFINITION. Machine/Streaming.lean: the meaning of each command: the streams and the queue engine.
-/
namespace Sys2Proof.Machine

/-- DISPATCH (R223): The queue engine dispatches a READY stream with a hot context and sends DISPATCH to each stage. -/
def execDispatch (q : Fin 64) (s : State) : Answer := onHub (fun (h : Hub) => h.dispatch q) s

/-- QUANTUM_END (R219): A stream's step count reaches QUANTUM, and it yields to a waiting stream or its count restarts. -/
def execQuantumEnd (stream : BitVec 13) (s : State) : Answer := onHub (fun (h : Hub) => h.quantumEnd stream.toNat) s

/-- READY_MESSAGE (R222): A READY message from a stage moves an IDLE or PARKED stream to READY, or is answered with a NAK. -/
def execReadyMessage (x : Fin 8) (s : State) : Answer := onHub (fun (h : Hub) => h.streamMessage x 0x10) s

/-- YIELD_MESSAGE (R213): A YIELD message returns a RUNNING stream to the tail of its queue. -/
def execYieldMessage (x : Fin 8) (s : State) : Answer := onHub (fun (h : Hub) => h.streamMessage x 0x11) s

/-- PARK_MESSAGE (R213): A PARK message parks a RUNNING stream with reason 0x01. -/
def execParkMessage (x : Fin 8) (s : State) : Answer := onHub (fun (h : Hub) => h.streamMessage x 0x12) s

/-- DONE_MESSAGE (R213): A DONE message takes a RUNNING stream to IDLE. -/
def execDoneMessage (x : Fin 8) (s : State) : Answer := onHub (fun (h : Hub) => h.streamMessage x 0x13) s

/-- FAULT_MESSAGE (R213): A FAULT message takes a RUNNING stream to FAULTED with reason 0x13. -/
def execFaultMessage (x : Fin 8) (s : State) : Answer := onHub (fun (h : Hub) => h.streamMessage x 0x14) s

/-- REVOKE_ACK (R213): A REVOKE_ACK counts toward a DRAINING stream's drain, and the last one takes it to IDLE. -/
def execRevokeAck (x : Fin 8) (s : State) : Answer := onHub (fun (h : Hub) => h.streamMessage x 0x15) s

/-- DRAIN_TIMEOUT (R213): DRAIN_US passes without all acknowledgements, and the stream faults with reason 0x12. -/
def execDrainTimeout (stream : BitVec 13) (s : State) : Answer := onHub (fun (h : Hub) => h.drainTimeout stream.toNat) s

end Sys2Proof.Machine
end

