-- ==== Sys2Proof/Machine/Synchronise.lean ====
section
/-!
DEFINITION. Machine/Synchronise.lean: the meaning of each command: barriers and tallies.
-/
namespace Sys2Proof.Machine

/-- BARRIER_ARRIVE (R237): An arrival is checked and counted, and the arrival that completes a phase issues the release. -/
def execBarrierArrive (x : Fin 8) (s : State) : Answer := onHub (fun (h : Hub) => h.syncBrick x 0) s

/-- BARRIER_TIMEOUT (R247): TIMEOUT_US after the first arrival, the phase ends with TIMEOUT to every PMASK member. -/
def execBarrierTimeout (id : Nat) (s : State) : Answer := onHub (fun (h : Hub) => h.barTimeout id) s

/-- ADD_P (R243): The producer adds to P, or is refused with TALLY_OVERFLOW, and pending waits are re-evaluated. -/
def execAddP (x : Fin 8) (s : State) : Answer := onHub (fun (h : Hub) => h.syncBrick x 1) s

/-- ADD_C (R243): The consumer adds to C, or is refused with TALLY_UNDERRUN, and pending waits are re-evaluated. -/
def execAddC (x : Fin 8) (s : State) : Answer := onHub (fun (h : Hub) => h.syncBrick x 2) s

/-- WAIT_GE (R244): The consumer waits until P − C ≥ ARG: the wait is answered at once, becomes pending, or is refused
with WAIT_BUSY. -/
def execWaitGe (x : Fin 8) (s : State) : Answer := onHub (fun (h : Hub) => h.syncBrick x 3) s

/-- WAIT_LE (R244): The producer waits until P − C ≤ ARG: the wait is answered at once, becomes pending, or is refused. -/
def execWaitLe (x : Fin 8) (s : State) : Answer := onHub (fun (h : Hub) => h.syncBrick x 4) s

/-- TALLY_READ (R242): A READ is answered at once with VALUE carrying P and C. -/
def execTallyRead (x : Fin 8) (s : State) : Answer := onHub (fun (h : Hub) => h.syncBrick x 5) s

/-- TALLY_WAIT_TIMEOUT (R247): A tally wait not satisfied within TIMEOUT_US ends with TIMEOUT to the waiter. -/
def execTallyWaitTimeout (id : Nat) (ge : Bool) (s : State) : Answer := onHub (fun (h : Hub) => h.talTimeout id ge) s

end Sys2Proof.Machine
end

