-- ==== Sys2Proof/Machine/Thermal.lean ====
section
/-!
DEFINITION. Machine/Thermal.lean: the meaning of each command: cooling, leak detection and sensing.
-/
namespace Sys2Proof.Machine

/-- ZONE_UPDATE (R318): At every 2,000th course each AUTO zone runs its PI loop, and forced zones are checked for release. -/
def execZoneUpdate (s : State) : Answer := onHub (fun (h : Hub) => h.zoneUpdate) s

/-- HOST_SILENCE_TIMEOUT (R323): No heartbeat has come for 5 s, and HOST_SILENT sets. -/
def execHostSilenceTimeout (s : State) : Answer := onHub (fun (h : Hub) => h.hostSilence) s

/-- FAN_FAIL_TIMEOUT (R324): A tach below 20% of the expected speed for 2 s makes the channel FAILED, and the fan-failure
response starts. -/
def execFanFailTimeout (c : Fin 14) (tach : BitVec 16) (s : State) : Answer :=
  onHub (fun (h : Hub) => h.fanFail c tach.toNat) s

/-- FAN_RECOVER_TIMEOUT (R324): A FAILED channel's tach has read at least 50% for 10 s, and the channel returns to OK. -/
def execFanRecoverTimeout (c : Fin 14) (tach : BitVec 16) (s : State) : Answer :=
  onHub (fun (h : Hub) => h.fanRecover c tach.toNat) s

/-- PUMP_FLOW_LOW_TIMEOUT (R324): A pump's flow has stayed below FLOW_LOW for 2 s, and a warning is recorded. -/
def execPumpFlowLowTimeout (c : Fin 14) (flow : BitVec 16) (s : State) : Answer :=
  onHub (fun (h : Hub) => h.flowLow c flow.toNat) s

/-- SENSOR_FAULT_TIMEOUT (R326): An input has read open or short for 100 ms and is excluded, or replaced by the hottest
code if privileged. -/
def execSensorFaultTimeout (i : Fin 26) (s : State) : Answer := onHub (fun (h : Hub) => h.sensorFault i) s

/-- SENSOR_RESTORE_TIMEOUT (R326): A failed input has read in range for 1 s and is restored. -/
def execSensorRestoreTimeout (i : Fin 26) (s : State) : Answer := onHub (fun (h : Hub) => h.sensorRestore i) s

/-- CRIT_COMPARATOR_TRIP (R327): A standard input at the CRIT_SEL threshold pulls SYS_SHDN_L low within 1 ms. -/
def execCritComparatorTrip (i : Fin 24) (t : Int) (s : State) : Answer := onFoot (fun (h : Hub) => h.critTrip i t) s

/-- CRIT_RELEASE_TIMEOUT (R327): Every standard reading has been 5 °C below the threshold for 1 s, and SYS_SHDN_L is
released. -/
def execCritReleaseTimeout (s : State) : Answer := onFoot (fun (h : Hub) => h.critRelease) s

/-- ROPE_MEASURE (R329): Every 10 ms each enabled rope's resistance is measured. -/
def execRopeMeasure (readings : List (Option Nat)) (s : State) : Answer :=
  onFoot (fun (h : Hub) => h.ropeMeasure readings) s

/-- ROPE_MOIST (R329): A rope has been below MOIST_K for 1 s and enters MOIST. -/
def execRopeMoist (r : Fin 6) (s : State) : Answer := onFoot (fun (h : Hub) => h.ropeMoist r) s

/-- ROPE_OPEN (R329): A rope has been above 1,500 kΩ, or without a valid reading, for 1 s and reads OPEN. -/
def execRopeOpen (r : Fin 6) (s : State) : Answer := onFoot (fun (h : Hub) => h.ropeOpen r) s

/-- LEAK_ACTION (R330): A rope has been below LEAK_K for 50 ms: the valve closes, the pumps stop, mapped sleds are held
and LEAK_OUT_L asserts. -/
def execLeakAction (r : Fin 6) (s : State) : Answer := onFoot (fun (h : Hub) => h.leakAction r) s

/-- SCAN_FRAME (R341): Every 10 ms the ADC starts a frame visiting each enabled channel in ascending order. -/
def execScanFrame (s : State) : Answer := onFoot (fun (h : Hub) => h.scanFrame) s

/-- ADC_CONVERSION (R343): A conversion produces a sample word, valid or invalid with its reason, and is mirrored to the
base die. -/
def execAdcConversion (smp : Sample) (s : State) : Answer := onFoot (fun (h : Hub) => h.convert smp) s

/-- ADC_CALIBRATION (R346): The ADC calibrates against channels 46 and 47 in a frame's reserved time, or keeps its old
coefficients. -/
def execAdcCalibration (ok : Bool) (offset gain : Int) (s : State) : Answer :=
  onFoot (fun (h : Hub) => h.calibrate ok offset gain) s

/-- ADC_FAULT_TIMEOUT (R347): A converter fault has lasted 50 ms, and ADC_FAULT sets. -/
def execAdcFaultTimeout (s : State) : Answer := onFoot (fun (h : Hub) => h.adcFaultTimeout) s

/-- SAR_CHECK (R349): Every 1 ms each hot-swap SAR path checks itself against its reference. -/
def execSarCheck (c : Fin 10) (ok : Bool) (cur vsrc vds : Nat) (s : State) : Answer :=
  onFoot (fun (h : Hub) => h.sarCheck c ok cur vsrc vds) s

/-- DTS_UPDATE (R350): Every 100 µs the die thermal sensors update HUB_TJ. -/
def execDtsUpdate (readings : List Int) (back : BitVec 32) (s : State) : Answer :=
  onBase (fun (d : Dev) => d.dtsRow readings back.toNat) s

/-- DTS_FAIL (R350): A die sensor fails its reference check or reads out of range for 10 ms. -/
def execDtsFail (m : Fin 32) (cause : Fin 2) (s : State) : Answer := onHub (fun (h : Hub) => h.dtsFailRow m cause) s

/-- VMON_SAMPLE (R351): Every 10 µs each voltage monitor reads and keeps its extremes. -/
def execVmonSample (readings : List Nat) (s : State) : Answer := onHub (fun (h : Hub) => h.vmonSample readings) s

/-- VMON_EXCURSION (R351): A reading has been outside its window for 100 µs, and VMON sets. -/
def execVmonExcursion (v : Fin 24) (s : State) : Answer := onHub (fun (h : Hub) => h.vmonExcursion v) s

/-- PM_COUNT (R352): Every 10 s each process monitor is counted and AGE_PPM is updated. -/
def execPmCount (counts : List (Nat × Int)) (s : State) : Answer := onHub (fun (h : Hub) => h.pmCount counts) s

/-- PM_DAILY_STORE (R352): Firmware stores each monitor's daily average in boot flash and updates TREND. -/
def execPmDailyStore (s : State) : Answer := onHub (fun (h : Hub) => h.pmStore) s

end Sys2Proof.Machine
end

