-- ==== Sys2Proof/Machine/TileSpace.lean ====
section
/-!
DEFINITION. Machine/TileSpace.lean: the meaning of each command: the tiles, pages and leases.
-/
namespace Sys2Proof.Machine

/-- READ_REQ (R127): A tile-space read is checked against the lease and answered with READ_RESP bricks. -/
def execReadReq (x : Fin 8) (vc5 : Bool) (ecc : EccReport) (s : State) : Answer :=
  onBase (fun (d : Dev) => d.serveTile x (if vc5 then 5 else 0) ecc (some .readReq) false) s

/-- WRITE (R127): A tile-space write message is checked and written, and a WRITE_CPL follows its LAST brick. -/
def execWrite (x : Fin 8) (vc5 : Bool) (ecc : EccReport) (s : State) : Answer :=
  onBase (fun (d : Dev) => d.serveTile x (if vc5 then 5 else 0) ecc (some .write) false) s

/-- GROUP_WAKE_COMPLETE (R143): A tile group in RETAIN wakes within 2 µs and the waiting access completes. -/
def execGroupWakeComplete (g : Fin 64) (s : State) : Answer := onBase (fun (d : Dev) => d.groupWoken g) s

/-- GROUP_RETAIN_TIMEOUT (R142): A group set to RETAIN goes to retention after 10 µs without access. -/
def execGroupRetainTimeout (g : Fin 64) (s : State) : Answer := onHub (fun (h : Hub) => h.groupRetain g) s

/-- BAR4_ACCESS (R132): A host access through BAR4 reaches a valid page of its partition, or reads zero and is counted as
refused. -/
def execBar4Access (m : Master) (addr : HostAccess) (wr : Option (List Byte)) (n : Nat) (s : State) : Answer :=
  onBase (fun (d : Dev) => d.bar4 m addr wr n) s

/-- TILE_TEST_COMPLETE (R123): A tile's zero-fill and march test ends, and the tile becomes AVAILABLE, pending-owned or
FAILED. -/
def execTileTestComplete (t : Fin 768) (ok : Bool) (s : State) : Answer :=
  onBase (fun (d : Dev) => d.testComplete t ok) s

/-- TILE_RETEST_START (R123): The hub starts re-testing an AVAILABLE tile while tile traffic leaves idle cycles. -/
def execTileRetestStart (t : Fin 768) (s : State) : Answer := onHub (fun (h : Hub) => h.retestStart t) s

/-- SCRUB_PASS (R140): Scrub visits the words of OWNED and HUB tiles and flags tiles past CE_LIMIT. -/
def execScrubPass (ces : List (Nat × Nat)) (bad : List Nat) (s : State) : Answer :=
  onHub (fun (h : Hub) => h.scrub ces bad) s

/-- ACC_DECAY (R136): Every DECAY courses, each page's access count is halved. -/
def execAccDecay (s : State) : Answer := onHub (fun (h : Hub) => h.accDecay) s

/-- MIGRATION_COMPLETE (R137): A migration's copy ends, and RES and FRAME switch between two bricks of the page. -/
def execMigrationComplete (page : MoveEnd) (s : State) : Answer := onBase (fun (d : Dev) => d.moveDone page) s

end Sys2Proof.Machine
end

