-- ==== Sys2Proof/Machine/Top.lean ====
section
/-!
DEFINITION. Machine/Top.lean: the meaning of each command: starts and resets of the dies, and the phases of a course.
-/
namespace Sys2Proof.Machine

/-- FOOTING_POWER_ON (R376): VIN_AUX rises: the footing die resets everything, samples COOL_MODE and CRIT_SEL and starts
its safety logic. -/
def execFootingPowerOn (liquid : Bool) (crit : BitVec 2) (s : State) : Answer :=
  always (fun (d : Dev) => d.footingPowerOn liquid crit) s

/-- POWER_ON_RESET (R376): The base-die supplies first rise or HUB_RST_L is asserted: all base-die state returns to reset
values and the footing die keeps running. -/
def execPowerOnReset (rise : Bool) (s : State) : Answer := always (fun (d : Dev) => d.powerOnReset rise) s

/-- HUB_RST_DEASSERT (R550): HUB_RST_L rises: straps are sampled, the PLL locks, the course counter starts and boot repair
and LPDDR5X training run. -/
def execHubRstDeassert (b : Boot) (s : State) : Answer := always (fun d => d.hubMap fun h => h.rstDeassert b) s

/-- ROM_BOOT (R459): After boot repair and training, the ROM takes the active slot from the boot-control record, verifies
it and runs it, falls back to the other slot, or enters kiln mode. -/
def execRomBoot (s : State) : Answer := onBase (fun (d : Dev) => d.bootRow) s

/-- COURSE_BOUNDARY (R41): The course timer expires: the counter increments, ticks leave the balls and pending changes are
applied in the order of steps 2 to 8. -/
def execCourseBoundary (s : State) : Answer := onBase (fun (d : Dev) => d.courseBoundary) s

/-- TELEMETRY_CLOSE (R255): At 60% of the course the governor closes telemetry, takes its snapshot and computes grants and
clamps. -/
def execTelemetryClose (meas : CourseMeas) (s : State) : Answer := onHub (fun (h : Hub) => h.closeRow meas) s

/-- GRANT_POINT (R45): At 85% of the course the grants are handed to their ports on VC4, or the course is late and no
grant is sent. -/
def execGrantPoint (late : Bool) (s : State) : Answer := onHub (fun (h : Hub) => h.grantPoint late) s

/-- CRC_COMPLETE (R370): The recomputed CRC becomes valid and is compared with both reference copies. -/
def execCrcComplete (s : State) : Answer := onHub (fun (h : Hub) => h.crcComplete) s

/-- VIN_AUX_LOSS (R541): VIN_AUX falls: the footing die stops, its open-drain outputs float, the base die is held in
power-on reset and the thermal-trip latch releases. -/
def execVinAuxLoss (s : State) : Answer := always (fun (d : Dev) => d.auxLoss) s

/-- BASE_SUPPLY_LOSS (R24): A base-die supply leaves its range, the base die goes unpowered and the footing die asserts
ACCx_THROT_L to every powered sled. -/
def execBaseSupplyLoss (s : State) : Answer := always (fun (d : Dev) => d.supplyLoss) s

/-- CRYSTAL_LOST (R549): The core PLL loses lock, and the base die enters power-on reset within 10 µs. -/
def execCrystalLost (s : State) : Answer := always (fun (d : Dev) => d.crystalLoss) s

/-- CRYSTAL_RESTORED (R549): The crystal runs again and the hub restarts as after any power-on reset, recording event
0x0113. -/
def execCrystalRestored (b : Boot) (s : State) : Answer := always (fun d => d.hubMap fun h => h.crystalBack b) s

/-- REFCLK_SD_LOST (R549): REFCLK_SD has been absent for 2 µs, and every port loses lock. -/
def execRefclkSdLost (s : State) : Answer := onHub (fun (h : Hub) => h.refclkLoss) s

/-- REFCLK_SD_RESTORED (R549): REFCLK_SD returns, REFCLK_SD_OK sets and event 0x0113 records the restoration. -/
def execRefclkSdRestored (s : State) : Answer := onHub (fun (h : Hub) => h.refclkBack) s

/-- CLK32K_LOST (R549): The 32.768 kHz clock has been absent for 1 ms, and the internal oscillator substitutes for it. -/
def execClk32kLost (s : State) : Answer := onHub (fun (h : Hub) => h.clk32Loss) s

/-- CLK32K_RESTORED (R549): The 32.768 kHz clock returns, the substitute oscillator is dropped and CLK32K_SUBST clears. -/
def execClk32kRestored (s : State) : Answer := onHub (fun (h : Hub) => h.clk32Back) s

/-- THERMTRIP_LATCH_RELEASE (R545): HUB_RST_L held low for 100 ms releases the HUB_THERMTRIP_L latch and its hold on
SYS_SHDN_L. -/
def execThermtripLatchRelease (s : State) : Answer := always (fun d => d.hubMap fun h => h.tripRelease) s

/-- HUB_VRALERT_ASSERT (R544): A HUB_VRALERT_L input asserts, and self-throttle starts within 1 µs. -/
def execHubVralertAssert (s : State) : Answer := onHub (fun (h : Hub) => h.throtCause false true) s

/-- HUB_THROTTLE_EXIT (R544): HUB_TJ has been below 95 °C for 10 ms and the alerts have been deasserted for 10 µs, and
self-throttle ends. -/
def execHubThrottleExit (s : State) : Answer := onHub (fun (h : Hub) => h.throtExit) s

/-- DOMAIN_SWITCH_ON_COMPLETE (R309): A switched domain being switched on becomes usable, reads 1 in DOM_STATUS, and for a
tile group its tiles enter TESTING. -/
def execDomainSwitchOnComplete (dom : Fin 171) (s : State) : Answer := onHub (fun (h : Hub) => h.domainUp dom) s

end Sys2Proof.Machine
end

