-- ==== Sys2Proof/Machine/Uaman.lean ====
section
/-!
DEFINITION. Machine/Uaman.lean: the meaning of each command: the accelerator ports.
-/
namespace Sys2Proof.Machine

/-- CABLE_INSERTED (R61): A presence pin stays low for 50 ms: the cable's identity is read, ATTEMPTS resets and a training
attempt starts. -/
def execCableInserted (x : Fin 8) (cableB : Bool) (image : Option (List Byte)) (s : State) : Answer :=
  onHub (fun (h : Hub) => h.cableIn x cableB image) s

/-- CABLE_REMOVED (R82): A presence pin goes high: the cable's octets are retired, or the port is fenced with reason 0x0E. -/
def execCableRemoved (x : Fin 8) (cableB : Bool) (s : State) : Answer := onHub (fun (h : Hub) => h.cableOut x cableB) s

/-- SIGNAL_DETECTED (R60): In DETECT, electrical idle exit on at least MIN_OCTETS octets moves the port to POLL. -/
def execSignalDetected (x : Fin 8) (octets : BitVec 8) (s : State) : Answer :=
  onHub (fun (h : Hub) => h.signalDetected x octets) s

/-- POLL_LOCKED (R60): All present octets achieve bit lock and the port moves to EQUALIZE. -/
def execPollLocked (x : Polled) (s : State) : Answer := onHub (fun (h : Hub) => h.pollLocked x.port x.wiring) s

/-- POLL_TIMEOUT (R60): After 10 ms, the port goes to EQUALIZE with at least MIN_OCTETS locked, or to DETECT with reason
0x01. -/
def execPollTimeout (x : Polled) (octets : BitVec 8) (s : State) : Answer :=
  onHub (fun (h : Hub) => h.pollTimeout x.port octets x.wiring) s

/-- EQUALIZE_DONE (R60): The target error rate is reached and the port enters CONFIG. -/
def execEqualizeDone (x : Fin 8) (octets : BitVec 8) (s : State) : Answer :=
  onHub (fun (h : Hub) => h.equalizeDone x octets) s

/-- EQUALIZE_TIMEOUT (R60): EQUALIZE exceeds 100 ms and the port returns to DETECT with reason 0x02. -/
def execEqualizeTimeout (x : Fin 8) (s : State) : Answer := onHub (fun (h : Hub) => h.equalizeTimeout x) s

/-- CONFIG_EXCHANGE (R62): The capability exchange is checked: the port goes to SEAL_SYNC or ACTIVE, or fails to DETECT
with reason 0x04 to 0x07. -/
def execConfigExchange (x : Fin 8) (caps : Caps) (s : State) : Answer :=
  onHub (fun (h : Hub) => h.configExchange x caps) s

/-- CONFIG_TIMEOUT (R60): CONFIG exceeds 1 ms and the port returns to DETECT with reason 0x03. -/
def execConfigTimeout (x : Fin 8) (s : State) : Answer := onHub (fun (h : Hub) => h.configTimeout x) s

/-- SEAL_SYNC_DONE (R86): Both directions agree on key slot and counter and the port becomes ACTIVE. -/
def execSealSyncDone (x : Fin 8) (ann : SealAnnounce) (s : State) : Answer :=
  onHub (fun (h : Hub) => h.sealSyncDone x ann) s

/-- SEAL_SYNC_TIMEOUT (R60): SEAL_SYNC exceeds 1 ms and the port is fenced with reason 0x08. -/
def execSealSyncTimeout (x : Fin 8) (s : State) : Answer := onHub (fun (h : Hub) => h.sealSyncTimeout x) s

/-- LANE_LOCK_LOST (R81): A lane of an ACTIVE port loses lock and the port enters RETRAIN. -/
def execLaneLockLost (x : Fin 8) (lane : Fin 64) (s : State) : Answer := onHub (fun (h : Hub) => h.laneLost x lane) s

/-- UNCORRECTABLE_RUN (R81): A run of uncorrectable codewords takes the port into RETRAIN. -/
def execUncorrectableRun (x : Fin 8) (octet : Option (Fin 8)) (s : State) : Answer :=
  onHub (fun (h : Hub) => h.uncorrectable x (octet.map Fin.val)) s

/-- RETRAIN_DONE (R60): RETRAIN completes, seal counters are adopted and the port is ACTIVE again, replaying
unacknowledged bricks. -/
def execRetrainDone (x : Fin 8) (far : BitVec 8) (ann : Option SealAnnounce) (s : State) : Answer :=
  onHub (fun (h : Hub) => h.retrainReport x far ann) s

/-- RETRAIN_TIMEOUT (R60): RETRAIN exceeds 80 µs and the port is fenced with reason 0x09. -/
def execRetrainTimeout (x : Fin 8) (s : State) : Answer := onHub (fun (h : Hub) => h.retrainTimeout x) s

/-- FENCE_REENTRY_TIMEOUT (R90): A port fenced for reason 0x09 or 0x0A re-enters DETECT after 1 ms. -/
def execFenceReentryTimeout (x : Fin 8) (s : State) : Answer := onHub (fun (h : Hub) => h.fenceReentry x) s

/-- BRICK_RECEIVED (R73): A brick slot arrives on a port: CRC or tag, sequence, ACK, credit, protocol and route checks
run, and it is accepted, discarded or NAKed. -/
def execBrickReceived (x : Fin 8) (b : Brick) (corrected uncorrectable : Nat) (s : State) : Answer :=
  onHub (fun (h : Hub) => h.receive x b corrected uncorrectable) s

/-- NAK_RECEIVED (R74): The transmitter goes back to the named sequence number and retransmits with RETRY set. -/
def execNakReceived (x : Fin 8) (seq : BitVec 32) (s : State) : Answer := onHub (fun (h : Hub) => h.nakRow x seq) s

/-- NAK_REPEAT_TIMEOUT (R74): The expected brick has not arrived within 1 µs of a NAK, and the NAK is repeated. -/
def execNakRepeatTimeout (x : Fin 8) (s : State) : Answer := onHub (fun (h : Hub) => h.nakRepeat x) s

/-- ACK_TIMER (R75): After 64 accepted bricks or 100 ns, the hub sends an acknowledgement. -/
def execAckTimer (x : Fin 8) (s : State) : Answer := onHub (fun (h : Hub) => h.ackTimer x) s

/-- REPLAY_TIMEOUT (R76): No acknowledgement progress for 2 µs, and the transmitter replays from its oldest unacknowledged
brick. -/
def execReplayTimeout (x : Fin 8) (s : State) : Answer := onHub (fun (h : Hub) => h.replay x) s

/-- RETRY_LIMIT (R76): One sequence number has been sent 8 times without progress, and the port enters RETRAIN. -/
def execRetryLimit (x : Fin 8) (s : State) : Answer := onHub (fun (h : Hub) => h.retryLimit x) s

/-- CREDIT_TIMEOUT (R80): A VC with a held brick and zero credits has had no return for 10 µs, and the port is fenced with
reason 0x0B. -/
def execCreditTimeout (x vc : Fin 8) (s : State) : Answer := onHub (fun (h : Hub) => h.creditTimeout x vc) s

/-- BRICK_TRANSMIT (R110): An egress port chooses its next brick by priority cap, weighted round robin, partition weight
and ageing, and sends it when a credit is held. -/
def execBrickTransmit (x : Fin 8) (overdue : List (Nat × Nat)) (s : State) : Answer :=
  onHub (fun (h : Hub) => h.transmit x overdue) s

/-- REKEY_REQUEST (R87): The transmit slot counter reaches 2^39 and a rekey exchange is requested for the inactive slot. -/
def execRekeyRequest (x : Fin 8) (s : State) : Answer := onHub (fun (h : Hub) => h.rekeyRequest x) s

/-- REKEY_SWITCH (R87): The counter reaches 2^40 and the port switches key slots, or sets REKEY_OVERDUE. -/
def execRekeySwitch (x : Fin 8) (s : State) : Answer := onHub (fun (h : Hub) => h.rekeySwitch x) s

/-- SEAL_COUNTER_EXHAUSTED (R87): The counter reaches 2^44 and the port is fenced with reason 0x0C. -/
def execSealCounterExhausted (x : Fin 8) (s : State) : Answer := onHub (fun (h : Hub) => h.sealExhausted x) s

/-- SEAL_ACCEPT (R486): An ACCEPT is checked, CONFIRM or REJECT is sent and keys are derived and installed. -/
def execSealAccept (x : Fin 8) (s : State) : Answer := onHub (fun (h : Hub) => h.sealBrick x) s

/-- SEAL_REJECT_RECEIVED (R486): A REJECT from the endpoint fails the exchange attempt. -/
def execSealRejectReceived (x : Fin 8) (s : State) : Answer := onHub (fun (h : Hub) => h.sealReject x) s

/-- SEAL_EXCHANGE_TIMEOUT (R488): An attempt without CONFIRM or REJECT in 20 ms fails, and after 3 initial failures the
port is fenced with reason 0x08. -/
def execSealExchangeTimeout (x : Fin 8) (s : State) : Answer := onHub (fun (h : Hub) => h.sealTimeout x) s

end Sys2Proof.Machine
end

