-- ==== Sys2Proof/Machine/Dispatch.lean ====
section
/-!
DEFINITION. Machine/Dispatch.lean: one arm for each command.
-/
namespace Sys2Proof.Machine

def exec (i : Instr) (s : State) : Host.Outcome State Fault Refusal :=
  match i with
  | .footingPowerOn liquid crit => Sys2Proof.Machine.execFootingPowerOn liquid crit s
  | .powerOnReset rise => Sys2Proof.Machine.execPowerOnReset rise s
  | .hubRstDeassert b => Sys2Proof.Machine.execHubRstDeassert b s
  | .romBoot => Sys2Proof.Machine.execRomBoot s
  | .courseBoundary => Sys2Proof.Machine.execCourseBoundary s
  | .telemetryClose meas => Sys2Proof.Machine.execTelemetryClose meas s
  | .grantPoint late => Sys2Proof.Machine.execGrantPoint late s
  | .crcComplete => Sys2Proof.Machine.execCrcComplete s
  | .crsPeriodWrite m v => Sys2Proof.Machine.execCrsPeriodWrite m v s
  | .registerWrite m a size v => Sys2Proof.Machine.execRegisterWrite m a size v s
  | .pairLoRead m a => Sys2Proof.Machine.execPairLoRead m a s
  | .pairHiRead m a => Sys2Proof.Machine.execPairHiRead m a s
  | .pairHiWrite m a v => Sys2Proof.Machine.execPairHiWrite m a v s
  | .rcRead m a => Sys2Proof.Machine.execRcRead m a s
  | .cfgRefWrite m v => Sys2Proof.Machine.execCfgRefWrite m v s
  | .txnCtrlBegin m => Sys2Proof.Machine.execTxnCtrlBegin m s
  | .txnCtrlCommit m ref => Sys2Proof.Machine.execTxnCtrlCommit m ref s
  | .txnCtrlAbort m => Sys2Proof.Machine.execTxnCtrlAbort m s
  | .resetCtrlWarm m => Sys2Proof.Machine.execResetCtrlWarm m s
  | .txnOpenTimeout id => Sys2Proof.Machine.execTxnOpenTimeout id s
  | .stageMaxTimeout id => Sys2Proof.Machine.execStageMaxTimeout id s
  | .portCtrlRetrain m x => Sys2Proof.Machine.execPortCtrlRetrain m x s
  | .portCtrlFenceRelease m x => Sys2Proof.Machine.execPortCtrlFenceRelease m x s
  | .cableInserted x cableB image => Sys2Proof.Machine.execCableInserted x cableB image s
  | .cableRemoved x cableB => Sys2Proof.Machine.execCableRemoved x cableB s
  | .signalDetected x octets => Sys2Proof.Machine.execSignalDetected x octets s
  | .pollLocked x => Sys2Proof.Machine.execPollLocked x s
  | .pollTimeout x octets => Sys2Proof.Machine.execPollTimeout x octets s
  | .equalizeDone x octets => Sys2Proof.Machine.execEqualizeDone x octets s
  | .equalizeTimeout x => Sys2Proof.Machine.execEqualizeTimeout x s
  | .configExchange x caps => Sys2Proof.Machine.execConfigExchange x caps s
  | .configTimeout x => Sys2Proof.Machine.execConfigTimeout x s
  | .sealSyncDone x ann => Sys2Proof.Machine.execSealSyncDone x ann s
  | .sealSyncTimeout x => Sys2Proof.Machine.execSealSyncTimeout x s
  | .laneLockLost x lane => Sys2Proof.Machine.execLaneLockLost x lane s
  | .uncorrectableRun x octet => Sys2Proof.Machine.execUncorrectableRun x octet s
  | .retrainDone x far ann => Sys2Proof.Machine.execRetrainDone x far ann s
  | .retrainTimeout x => Sys2Proof.Machine.execRetrainTimeout x s
  | .fenceReentryTimeout x => Sys2Proof.Machine.execFenceReentryTimeout x s
  | .brickReceived x b corrected uncorrectable => Sys2Proof.Machine.execBrickReceived x b corrected uncorrectable s
  | .nakReceived x seq => Sys2Proof.Machine.execNakReceived x seq s
  | .nakRepeatTimeout x => Sys2Proof.Machine.execNakRepeatTimeout x s
  | .ackTimer x => Sys2Proof.Machine.execAckTimer x s
  | .replayTimeout x => Sys2Proof.Machine.execReplayTimeout x s
  | .retryLimit x => Sys2Proof.Machine.execRetryLimit x s
  | .creditTimeout x vc => Sys2Proof.Machine.execCreditTimeout x vc s
  | .brickTransmit x overdue => Sys2Proof.Machine.execBrickTransmit x overdue s
  | .rekeyRequest x => Sys2Proof.Machine.execRekeyRequest x s
  | .rekeySwitch x => Sys2Proof.Machine.execRekeySwitch x s
  | .sealCounterExhausted x => Sys2Proof.Machine.execSealCounterExhausted x s
  | .sealAccept x => Sys2Proof.Machine.execSealAccept x s
  | .sealRejectReceived x => Sys2Proof.Machine.execSealRejectReceived x s
  | .sealExchangeTimeout x => Sys2Proof.Machine.execSealExchangeTimeout x s
  | .readReq x vc5 ecc => Sys2Proof.Machine.execReadReq x vc5 ecc s
  | .write x vc5 ecc => Sys2Proof.Machine.execWrite x vc5 ecc s
  | .groupWakeComplete g => Sys2Proof.Machine.execGroupWakeComplete g s
  | .groupRetainTimeout g => Sys2Proof.Machine.execGroupRetainTimeout g s
  | .bar4Access m addr wr n => Sys2Proof.Machine.execBar4Access m addr wr n s
  | .tileTestComplete t ok => Sys2Proof.Machine.execTileTestComplete t ok s
  | .tileRetestStart t => Sys2Proof.Machine.execTileRetestStart t s
  | .scrubPass ces bad => Sys2Proof.Machine.execScrubPass ces bad s
  | .accDecay => Sys2Proof.Machine.execAccDecay s
  | .migrationComplete page => Sys2Proof.Machine.execMigrationComplete page s
  | .mortarDesc x => Sys2Proof.Machine.execMortarDesc x s
  | .mortarOpnd x => Sys2Proof.Machine.execMortarOpnd x s
  | .chunkComplete part id offset => Sys2Proof.Machine.execChunkComplete part id offset s
  | .collectiveTimeout part id => Sys2Proof.Machine.execCollectiveTimeout part id s
  | .mortarStStart => Sys2Proof.Machine.execMortarStStart s
  | .mortarDrainComplete => Sys2Proof.Machine.execMortarDrainComplete s
  | .mortarDrainTimeout => Sys2Proof.Machine.execMortarDrainTimeout s
  | .mortarStComplete ok => Sys2Proof.Machine.execMortarStComplete ok s
  | .logits x => Sys2Proof.Machine.execLogits x s
  | .tokenIssue stream => Sys2Proof.Machine.execTokenIssue stream s
  | .stepTimeout stream => Sys2Proof.Machine.execStepTimeout stream s
  | .smpStStart => Sys2Proof.Machine.execSmpStStart s
  | .smpDrainComplete => Sys2Proof.Machine.execSmpDrainComplete s
  | .smpDrainTimeout => Sys2Proof.Machine.execSmpDrainTimeout s
  | .smpStComplete ok => Sys2Proof.Machine.execSmpStComplete ok s
  | .smpSliceStart => Sys2Proof.Machine.execSmpSliceStart s
  | .smpSliceEnd => Sys2Proof.Machine.execSmpSliceEnd s
  | .dispatch q => Sys2Proof.Machine.execDispatch q s
  | .quantumEnd stream => Sys2Proof.Machine.execQuantumEnd stream s
  | .readyMessage x => Sys2Proof.Machine.execReadyMessage x s
  | .yieldMessage x => Sys2Proof.Machine.execYieldMessage x s
  | .parkMessage x => Sys2Proof.Machine.execParkMessage x s
  | .doneMessage x => Sys2Proof.Machine.execDoneMessage x s
  | .faultMessage x => Sys2Proof.Machine.execFaultMessage x s
  | .revokeAck x => Sys2Proof.Machine.execRevokeAck x s
  | .drainTimeout stream => Sys2Proof.Machine.execDrainTimeout stream s
  | .barrierArrive x => Sys2Proof.Machine.execBarrierArrive x s
  | .barrierTimeout id => Sys2Proof.Machine.execBarrierTimeout id s
  | .addP x => Sys2Proof.Machine.execAddP x s
  | .addC x => Sys2Proof.Machine.execAddC x s
  | .waitGe x => Sys2Proof.Machine.execWaitGe x s
  | .waitLe x => Sys2Proof.Machine.execWaitLe x s
  | .tallyRead x => Sys2Proof.Machine.execTallyRead x s
  | .tallyWaitTimeout id ge => Sys2Proof.Machine.execTallyWaitTimeout id ge s
  | .telemetry x => Sys2Proof.Machine.execTelemetry x s
  | .vralertAssert x => Sys2Proof.Machine.execVralertAssert x s
  | .vralertReleaseTimeout x => Sys2Proof.Machine.execVralertReleaseTimeout x s
  | .flowLossAssert => Sys2Proof.Machine.execFlowLossAssert s
  | .flowLossDeassert => Sys2Proof.Machine.execFlowLossDeassert s
  | .flowLossReleaseTimeout => Sys2Proof.Machine.execFlowLossReleaseTimeout s
  | .leaseExpiry => Sys2Proof.Machine.execLeaseExpiry s
  | .sledSeated x => Sys2Proof.Machine.execSledSeated x s
  | .sledUnseated x pinB => Sys2Proof.Machine.execSledUnseated x pinB s
  | .rampStart c => Sys2Proof.Machine.execRampStart c s
  | .powerGood c ms peak => Sys2Proof.Machine.execPowerGood c ms peak s
  | .rstDelayExpiry c => Sys2Proof.Machine.execRstDelayExpiry c s
  | .rampTimeout c cur vds => Sys2Proof.Machine.execRampTimeout c cur vds s
  | .enhLost c cur vds => Sys2Proof.Machine.execEnhLost c cur vds s
  | .fastTrip c cur vds => Sys2Proof.Machine.execFastTrip c cur vds s
  | .breakerTimeout c cur vds => Sys2Proof.Machine.execBreakerTimeout c cur vds s
  | .soaTrip c acc cur vds => Sys2Proof.Machine.execSoaTrip c acc cur vds s
  | .backoffEnd c => Sys2Proof.Machine.execBackoffEnd c s
  | .retryCountReset c => Sys2Proof.Machine.execRetryCountReset c s
  | .busOutOfRange mv => Sys2Proof.Machine.execBusOutOfRange mv s
  | .busGoodTimeout mv => Sys2Proof.Machine.execBusGoodTimeout mv s
  | .sysShdnAssert => Sys2Proof.Machine.execSysShdnAssert s
  | .sysShdnRelease => Sys2Proof.Machine.execSysShdnRelease s
  | .traySeqStep => Sys2Proof.Machine.execTraySeqStep s
  | .flowWaitTimeout => Sys2Proof.Machine.execFlowWaitTimeout s
  | .seqDownStep => Sys2Proof.Machine.execSeqDownStep s
  | .chCtrlOff m c => Sys2Proof.Machine.execChCtrlOff m c s
  | .chCtrlOn m c => Sys2Proof.Machine.execChCtrlOn m c s
  | .chCtrlRelease m c => Sys2Proof.Machine.execChCtrlRelease m c s
  | .zoneUpdate => Sys2Proof.Machine.execZoneUpdate s
  | .heartbeatWrite m v => Sys2Proof.Machine.execHeartbeatWrite m v s
  | .hostSilenceTimeout => Sys2Proof.Machine.execHostSilenceTimeout s
  | .fanFailTimeout c tach => Sys2Proof.Machine.execFanFailTimeout c tach s
  | .fanRecoverTimeout c tach => Sys2Proof.Machine.execFanRecoverTimeout c tach s
  | .pumpFlowLowTimeout c flow => Sys2Proof.Machine.execPumpFlowLowTimeout c flow s
  | .sensorFaultTimeout n => Sys2Proof.Machine.execSensorFaultTimeout n s
  | .sensorRestoreTimeout n => Sys2Proof.Machine.execSensorRestoreTimeout n s
  | .critComparatorTrip n t => Sys2Proof.Machine.execCritComparatorTrip n t s
  | .critReleaseTimeout => Sys2Proof.Machine.execCritReleaseTimeout s
  | .ropeMeasure readings => Sys2Proof.Machine.execRopeMeasure readings s
  | .ropeMoist r => Sys2Proof.Machine.execRopeMoist r s
  | .ropeOpen r => Sys2Proof.Machine.execRopeOpen r s
  | .leakAction r => Sys2Proof.Machine.execLeakAction r s
  | .leakCtrlClear m mask => Sys2Proof.Machine.execLeakCtrlClear m mask s
  | .scanFrame => Sys2Proof.Machine.execScanFrame s
  | .adcConversion smp => Sys2Proof.Machine.execAdcConversion smp s
  | .adcCalibration ok offset gain => Sys2Proof.Machine.execAdcCalibration ok offset gain s
  | .adcFaultTimeout => Sys2Proof.Machine.execAdcFaultTimeout s
  | .sarCheck c ok cur vsrc vds => Sys2Proof.Machine.execSarCheck c ok cur vsrc vds s
  | .dtsUpdate readings back => Sys2Proof.Machine.execDtsUpdate readings back s
  | .dtsFail m cause => Sys2Proof.Machine.execDtsFail m cause s
  | .hubVralertAssert => Sys2Proof.Machine.execHubVralertAssert s
  | .hubThrottleExit => Sys2Proof.Machine.execHubThrottleExit s
  | .vmonSample readings => Sys2Proof.Machine.execVmonSample readings s
  | .vmonExcursion v => Sys2Proof.Machine.execVmonExcursion v s
  | .pmCount counts => Sys2Proof.Machine.execPmCount counts s
  | .pmDailyStore => Sys2Proof.Machine.execPmDailyStore s
  | .refclkSdLost => Sys2Proof.Machine.execRefclkSdLost s
  | .crystalLost => Sys2Proof.Machine.execCrystalLost s
  | .clk32kLost => Sys2Proof.Machine.execClk32kLost s
  | .hodRing who => Sys2Proof.Machine.execHodRing who s
  | .vfCompletionRelease => Sys2Proof.Machine.execVfCompletionRelease s
  | .pageAlloc c part n pin => Sys2Proof.Machine.execPageAlloc c part n pin s
  | .pageFree c pages => Sys2Proof.Machine.execPageFree c pages s
  | .leaseSet c page lessees writer => Sys2Proof.Machine.execLeaseSet c page lessees writer s
  | .pagePin c page unpin => Sys2Proof.Machine.execPagePin c page unpin s
  | .pteRead c page => Sys2Proof.Machine.execPteRead c page s
  | .pageMove c page demote => Sys2Proof.Machine.execPageMove c page demote s
  | .hubOpndWrite c tile offset len bytes => Sys2Proof.Machine.execHubOpndWrite c tile offset len bytes s
  | .hubOpndRead c tile offset len => Sys2Proof.Machine.execHubOpndRead c tile offset len s
  | .collAbort c part coll => Sys2Proof.Machine.execCollAbort c part coll s
  | .smpProgWrite c tile offset record => Sys2Proof.Machine.execSmpProgWrite c tile offset record s
  | .smpBind c stream tile offset seed => Sys2Proof.Machine.execSmpBind c stream tile offset seed s
  | .smpStateSet c stream aut clear tokens => Sys2Proof.Machine.execSmpStateSet c stream aut clear tokens s
  | .smpLast c stream => Sys2Proof.Machine.execSmpLast c stream s
  | .smpTableWrite c tile offset bytes => Sys2Proof.Machine.execSmpTableWrite c tile offset bytes s
  | .streamReady c stream user => Sys2Proof.Machine.execStreamReady c stream user s
  | .streamPark c stream => Sys2Proof.Machine.execStreamPark c stream s
  | .streamStop c stream => Sys2Proof.Machine.execStreamStop c stream s
  | .streamReset c stream => Sys2Proof.Machine.execStreamReset c stream s
  | .streamSetQueue c stream queue => Sys2Proof.Machine.execStreamSetQueue c stream queue s
  | .streamQuery c stream => Sys2Proof.Machine.execStreamQuery c stream s
  | .jobStart c part seed => Sys2Proof.Machine.execJobStart c part seed s
  | .jobEnd c part => Sys2Proof.Machine.execJobEnd c part s
  | .partSwitch c part => Sys2Proof.Machine.execPartSwitch c part s
  | .barSet c bar record => Sys2Proof.Machine.execBarSet c bar record s
  | .barFree c bar => Sys2Proof.Machine.execBarFree c bar s
  | .barReset c bar => Sys2Proof.Machine.execBarReset c bar s
  | .barArrive c bar phase => Sys2Proof.Machine.execBarArrive c bar phase s
  | .barQuery c bar => Sys2Proof.Machine.execBarQuery c bar s
  | .tallySet c tally record => Sys2Proof.Machine.execTallySet c tally record s
  | .tallyQuery c tally => Sys2Proof.Machine.execTallyQuery c tally s
  | .tallyFree c tally => Sys2Proof.Machine.execTallyFree c tally s
  | .pwrQuery c acc => Sys2Proof.Machine.execPwrQuery c acc s
  | .phaseTableSet c acc record => Sys2Proof.Machine.execPhaseTableSet c acc record s
  | .estReset c acc which => Sys2Proof.Machine.execEstReset c acc which s
  | .hsOff c mask => Sys2Proof.Machine.execHsOff c mask s
  | .hsOn c mask => Sys2Proof.Machine.execHsOn c mask s
  | .hsRelease c ch => Sys2Proof.Machine.execHsRelease c ch s
  | .hsQuery c ch => Sys2Proof.Machine.execHsQuery c ch s
  | .traySeqUp c => Sys2Proof.Machine.execTraySeqUp c s
  | .traySeqDown c => Sys2Proof.Machine.execTraySeqDown c s
  | .coolHeartbeat c => Sys2Proof.Machine.execCoolHeartbeat c s
  | .coolQuery c what index => Sys2Proof.Machine.execCoolQuery c what index s
  | .leakClear c mask => Sys2Proof.Machine.execLeakClear c mask s
  | .leakQuery c => Sys2Proof.Machine.execLeakQuery c s
  | .senseRead c mask => Sys2Proof.Machine.execSenseRead c mask s
  | .senseCal c => Sys2Proof.Machine.execSenseCal c s
  | .monRead c => Sys2Proof.Machine.execMonRead c s
  | .txnBegin c => Sys2Proof.Machine.execTxnBegin c s
  | .txnCommit c id ref => Sys2Proof.Machine.execTxnCommit c id ref s
  | .txnAbort c id => Sys2Proof.Machine.execTxnAbort c id s
  | .cfgRefSet c ref => Sys2Proof.Machine.execCfgRefSet c ref s
  | .warmReset c => Sys2Proof.Machine.execWarmReset c s
  | .hodEcho c bytes => Sys2Proof.Machine.execHodEcho c bytes s
  | .hodCaps c => Sys2Proof.Machine.execHodCaps c s
  | .idRead c bus addr offset len => Sys2Proof.Machine.execIdRead c bus addr offset len s
  | .smbStatus c => Sys2Proof.Machine.execSmbStatus c s
  | .rackQuery c pos => Sys2Proof.Machine.execRackQuery c pos s
  | .rackRoleRequest c => Sys2Proof.Machine.execRackRoleRequest c s
  | .rackSleep c => Sys2Proof.Machine.execRackSleep c s
  | .fwWrite c flags offset bytes => Sys2Proof.Machine.execFwWrite c flags offset bytes s
  | .fwVerify c kind target => Sys2Proof.Machine.execFwVerify c kind target s
  | .fwActivate c kind target copy => Sys2Proof.Machine.execFwActivate c kind target copy s
  | .fwActivateCancel c => Sys2Proof.Machine.execFwActivateCancel c s
  | .fwQuery c => Sys2Proof.Machine.execFwQuery c s
  | .jobplaneLoad c flags offset bytes => Sys2Proof.Machine.execJobplaneLoad c flags offset bytes s
  | .accImageWrite c target offset bytes => Sys2Proof.Machine.execAccImageWrite c target offset bytes s
  | .secQuery c => Sys2Proof.Machine.execSecQuery c s
  | .jtagUnlockChallenge c => Sys2Proof.Machine.execJtagUnlockChallenge c s
  | .jtagUnlockLevel c level duration token => Sys2Proof.Machine.execJtagUnlockLevel c level duration token s
  | .jtagRelock c => Sys2Proof.Machine.execJtagRelock c s
  | .debugLevelExpiry => Sys2Proof.Machine.execDebugLevelExpiry s
  | .logRead c index count => Sys2Proof.Machine.execLogRead c index count s
  | .logClear c => Sys2Proof.Machine.execLogClear c s
  | .logEraseComplete ok => Sys2Proof.Machine.execLogEraseComplete ok s
  | .logStatus c => Sys2Proof.Machine.execLogStatus c s
  | .safetyQuery c => Sys2Proof.Machine.execSafetyQuery c s
  | .emuWrite m offset v => Sys2Proof.Machine.execEmuWrite m offset v s
  | .emuWriteApply => Sys2Proof.Machine.execEmuWriteApply s
  | .mctpPacketReceived pcie toVf packet => Sys2Proof.Machine.execMctpPacketReceived pcie toVf packet s
  | .mctpAssemblyTimeout pcie src => Sys2Proof.Machine.execMctpAssemblyTimeout pcie src s
  | .setEndpointId c op eid => Sys2Proof.Machine.execSetEndpointId c op eid s
  | .getEndpointId c => Sys2Proof.Machine.execGetEndpointId c s
  | .getEndpointUuid c => Sys2Proof.Machine.execGetEndpointUuid c s
  | .getMctpVersionSupport c typ => Sys2Proof.Machine.execGetMctpVersionSupport c typ s
  | .getMessageTypeSupport c => Sys2Proof.Machine.execGetMessageTypeSupport c s
  | .getVdmSupport c selector => Sys2Proof.Machine.execGetVdmSupport c selector s
  | .getVersion q => Sys2Proof.Machine.execGetVersion q s
  | .getCapabilities q => Sys2Proof.Machine.execGetCapabilities q s
  | .negotiateAlgorithms q => Sys2Proof.Machine.execNegotiateAlgorithms q s
  | .getDigests q => Sys2Proof.Machine.execGetDigests q s
  | .getCertificate q => Sys2Proof.Machine.execGetCertificate q s
  | .challenge q => Sys2Proof.Machine.execChallenge q s
  | .getMeasurements q => Sys2Proof.Machine.execGetMeasurements q s
  | .keyExchange q => Sys2Proof.Machine.execKeyExchange q s
  | .finish q => Sys2Proof.Machine.execFinish q s
  | .heartbeat q => Sys2Proof.Machine.execHeartbeat q s
  | .keyUpdate q => Sys2Proof.Machine.execKeyUpdate q s
  | .endSession q => Sys2Proof.Machine.execEndSession q s
  | .smbCmdStatus pec => Sys2Proof.Machine.execSmbCmdStatus pec s
  | .statusClear v pec => Sys2Proof.Machine.execStatusClear v pec s
  | .alertMaskRead pec => Sys2Proof.Machine.execAlertMaskRead pec s
  | .alertMaskWrite v pec => Sys2Proof.Machine.execAlertMaskWrite v pec s
  | .deviceId pec => Sys2Proof.Machine.execDeviceId pec s
  | .course pec => Sys2Proof.Machine.execCourse pec s
  | .mctpBlockWrite data pec => Sys2Proof.Machine.execMctpBlockWrite data pec s
  | .mctpBlockRead pec => Sys2Proof.Machine.execMctpBlockRead pec s
  | .regAddr count data pec => Sys2Proof.Machine.execRegAddr count data pec s
  | .regDataRead count pec => Sys2Proof.Machine.execRegDataRead count pec s
  | .regDataWrite count data pec => Sys2Proof.Machine.execRegDataWrite count data pec s
  | .hodPtr v pec => Sys2Proof.Machine.execHodPtr v pec s
  | .hodDataRead count pec => Sys2Proof.Machine.execHodDataRead count pec s
  | .hodDataWrite count data pec => Sys2Proof.Machine.execHodDataWrite count data pec s
  | .smbHodRing v pec => Sys2Proof.Machine.execSmbHodRing v pec s
  | .hodStatus pec => Sys2Proof.Machine.execHodStatus pec s
  | .alertResponse pec => Sys2Proof.Machine.execAlertResponse pec s
  | .smbSclTimeout => Sys2Proof.Machine.execSmbSclTimeout s
  | .smbStretchTimeout code reading count => Sys2Proof.Machine.execSmbStretchTimeout code reading count s
  | .smbRstAssert busy => Sys2Proof.Machine.execSmbRstAssert busy s
  | .hubSleepEntry => Sys2Proof.Machine.execHubSleepEntry s
  | .hubSleepExit => Sys2Proof.Machine.execHubSleepExit s
  | .smbWakeMatch => Sys2Proof.Machine.execSmbWakeMatch s
  | .pcieReset => Sys2Proof.Machine.execPcieReset s
  | .flr vf => Sys2Proof.Machine.execFlr vf s
  | .pcieLinkUp rate width => Sys2Proof.Machine.execPcieLinkUp rate width s
  | .sledPresent x => Sys2Proof.Machine.execSledPresent x s
  | .sledIdReadComplete x image => Sys2Proof.Machine.execSledIdReadComplete x image s
  | .sledPresenceLost x => Sys2Proof.Machine.execSledPresenceLost x s
  | .idRetryTimeout bus addr => Sys2Proof.Machine.execIdRetryTimeout bus addr s
  | .idBusStuck bus => Sys2Proof.Machine.execIdBusStuck bus s
  | .idBusRetry bus cableA cableB => Sys2Proof.Machine.execIdBusRetry bus cableA cableB s
  | .chainLinkUp down hop => Sys2Proof.Machine.execChainLinkUp down hop s
  | .chainLinkDown down => Sys2Proof.Machine.execChainLinkDown down s
  | .enum f hop => Sys2Proof.Machine.execEnum f hop s
  | .enumDone f hop => Sys2Proof.Machine.execEnumDone f hop s
  | .roundSend l2 => Sys2Proof.Machine.execRoundSend l2 s
  | .round f l2 => Sys2Proof.Machine.execRound f l2 s
  | .report f => Sys2Proof.Machine.execReport f s
  | .syncPulse ofs => Sys2Proof.Machine.execSyncPulse ofs s
  | .roleReq f => Sys2Proof.Machine.execRoleReq f s
  | .managerLost => Sys2Proof.Machine.execManagerLost s
  | .roleReqTimeout => Sys2Proof.Machine.execRoleReqTimeout s
  | .wake f => Sys2Proof.Machine.execWake f s
  | .sleepCommit => Sys2Proof.Machine.execSleepCommit s
  | .hod f => Sys2Proof.Machine.execHod f s
  | .hodRsp f => Sys2Proof.Machine.execHodRsp f s
  | .rackQueryTimeout pos => Sys2Proof.Machine.execRackQueryTimeout pos s
  | .watchdogExpiry aged => Sys2Proof.Machine.execWatchdogExpiry aged s
  | .coreTrap aged => Sys2Proof.Machine.execCoreTrap aged s
  | .crashLoop => Sys2Proof.Machine.execCrashLoop s
  | .fwCtrlKick m => Sys2Proof.Machine.execFwCtrlKick m s
  | .fwCtrlConfirm m => Sys2Proof.Machine.execFwCtrlConfirm m s
  | .trialTimeout aged => Sys2Proof.Machine.execTrialTimeout aged s
  | .accPushStart => Sys2Proof.Machine.execAccPushStart s
  | .imageDone x => Sys2Proof.Machine.execImageDone x s
  | .imageDoneTimeout x => Sys2Proof.Machine.execImageDoneTimeout x s
  | .drbgHealthFail test => Sys2Proof.Machine.execDrbgHealthFail test s
  | .drbgReseed => Sys2Proof.Machine.execDrbgReseed s
  | .logDrain bad => Sys2Proof.Machine.execLogDrain bad s
  | .wallRefWrite m v => Sys2Proof.Machine.execWallRefWrite m v s
  | .wallOfsWrap => Sys2Proof.Machine.execWallOfsWrap s
  | .vinAuxLoss => Sys2Proof.Machine.execVinAuxLoss s
  | .baseSupplyLoss => Sys2Proof.Machine.execBaseSupplyLoss s
  | .crystalRestored b => Sys2Proof.Machine.execCrystalRestored b s
  | .refclkSdRestored => Sys2Proof.Machine.execRefclkSdRestored s
  | .clk32kRestored => Sys2Proof.Machine.execClk32kRestored s
  | .smbRstDeassert => Sys2Proof.Machine.execSmbRstDeassert s
  | .firstKickTimeout aged => Sys2Proof.Machine.execFirstKickTimeout aged s
  | .accResetPulseEnd x => Sys2Proof.Machine.execAccResetPulseEnd x s
  | .hsOffGateOff c => Sys2Proof.Machine.execHsOffGateOff c s
  | .thermtripLatchRelease => Sys2Proof.Machine.execThermtripLatchRelease s
  | .domainSwitchOnComplete dom => Sys2Proof.Machine.execDomainSwitchOnComplete dom s
  | .sleepEntryComplete => Sys2Proof.Machine.execSleepEntryComplete s
  | .targetClocksRun => Sys2Proof.Machine.execTargetClocksRun s
  | .sleepExitComplete => Sys2Proof.Machine.execSleepExitComplete s
  | .otpFuseProgram w => Sys2Proof.Machine.execOtpFuseProgram w s
  | .jtagInstruction n => Sys2Proof.Machine.execJtagInstruction n s
  | .smbUnknownCommand code => Sys2Proof.Machine.execSmbUnknownCommand code s
  | .mctpUnsupportedControl c cmd => Sys2Proof.Machine.execMctpUnsupportedControl c cmd s
  | .spdmUnsupportedRequest code q => Sys2Proof.Machine.execSpdmUnsupportedRequest code q s
  | .hodBufWrite who offset bytes => Sys2Proof.Machine.execHodBufWrite who offset bytes s

end Sys2Proof.Machine
end

