-- ==== Sys2Proof/Certificates/Slice0/Obligations.lean ====
section
/-!
DEFINITION. Certificates/Slice0/Obligations.lean: the statements for the provers. Where a statement gives the next state of a
command, it gives the whole of it: `s.hubMap f` is `s` with its hub changed by `f` and with the queue, the memories and the
fuses as they were.
-/

open Sys2Proof Sys2Proof.Machine

/-! ### Hod requests -/

/-- The arguments have the fields of a row (R388): each number within its width, blocks of at most 4,080 bytes, records of
their length, a presence flag and a value for an optional field; a list ends the arguments. -/
def Fits : List Fld → List Arg → Prop
  | [], [] => True
  | .u8 :: fs, .u8 v :: as => v < 2 ^ 8 ∧ Fits fs as
  | .u16 :: fs, .u16 v :: as => v < 2 ^ 16 ∧ Fits fs as
  | .u32 :: fs, .u32 v :: as => v < 2 ^ 32 ∧ Fits fs as
  | .u64 :: fs, .u64 v :: as => v < 2 ^ 64 ∧ Fits fs as
  | [.list w], [.list w' vs] => w = 4 ∧ w' = 4 ∧ vs.length ≤ 4080 ∧ ∀ v ∈ vs, v < 2 ^ 32
  | .block :: fs, .block bs :: as => bs.length ≤ 4080 ∧ Fits fs as
  | .record n :: fs, .record bs :: as => bs.length = n ∧ Fits fs as
  | .opt 4 :: fs, .u8 f :: .u32 v :: as => f < 2 ^ 8 ∧ v < 2 ^ 32 ∧ Fits fs as
  | .opt 8 :: fs, .u8 f :: .u64 v :: as => f < 2 ^ 8 ∧ v < 2 ^ 64 ∧ Fits fs as
  | _, _ => False

/-- The message of a request (R387, R388). -/
def hodMsg (c : Call) (op : Nat) (args : List Arg) : List Byte :=
  hodHead op c.tag (encodeArgs args).length (b2n c.idem) c.txn 0 0 ++ encodeArgs args

/-- The request that the hub takes from the message (R386, R391, R450). -/
def hodReq (h : Hub) (c : Call) (op : Nat) (args : List Arg) : HodReq :=
  let m := hodMsg c op args
  { who := c.who, path := if c.who = .rack then .frame h.rack.mgrPos else .window, op, tag := c.tag, txn := c.txn, idem := c.idem
    args, crc := crc32c (slice m 0 2 ++ zeros 2 ++ slice m 4 6 ++ zeros 2 ++ slice m 12 4 ++ encodeArgs args) }

/-- The requester is ready (R383, R385, R390 to R392): its window is free, it has no request outstanding and none that this one
repeats, the core runs, it is entitled to the opcode, and the header and the arguments are as the row has them. -/
def HodReady (s : State) (c : Call) (r : OpRow) (args : List Arg) : Prop :=
  let h := s.dev.hub
  let k := h.hod c.who.id
  h.up = true ∧ h.fw.phase = .up ∧ c.tag < 65536 ∧ c.txn < 65536 ∧ k.locked = false ∧ k.buf.wf = true ∧ k.out = none ∧
  k.stale = [] ∧ (∀ e ∈ k.tags, e.tag ≠ c.tag) ∧ Fits r.args args ∧ (encodeArgs args).length ≤ 4080 ∧
  (c.idem = true → r.ro = true) ∧ h.entitled r (hodReq h c r.op args) = true ∧ h.txnIdOk r (hodReq h c r.op args) = true

/-- The device once a request has been taken (R386, R390): its message in the window, the request counted, outstanding, and
shown as in progress. -/
def hodTaken (d : Dev) (q : HodReq) (msg : List Byte) : Dev := d.hubMap fun h =>
  let h := if q.who = .rack then h
    else (h.updHod q.who.id fun k => { k with buf := k.buf.writeN 0 msg }).updHod q.who.id fun k =>
      { k with phase := .pending, code := 0, tag := q.tag }
  ((h.bump 0xF01010).updHod q.who.id fun k => { k with out := some q }).showPhase q .running

/-- A hod request whose effect takes place at a boundary (R386, R396). The command completes: its request is taken and staged
for the next boundary. What the request does when it is served there, whatever the device then holds, is `k` of the device, of
the request, and of its answer `Dev.effect`. -/
def HodStages (c : Call) (i : Instr) (op : Nat) (args : List Arg) (k : Dev → HodReq → Prop) : Prop :=
  (∀ (s : State) (r : OpRow), findOp op = some r → HodReady s c r args → c.txn = 0 →
    let q := hodReq s.dev.hub c op args
    exec i s = .next (s.devMap fun d => (hodTaken d q (hodMsg c op args)).hubMap (·.conclude q false .boundary))) ∧
  ∀ (d : Dev) (q : HodReq), q.op = op → q.args = args → k d q

/-- A hod request that is served at once (R386, R396). The command completes: `k` is told the device that has taken the request,
the request, and what the command answers where the request's service leaves a device with an outcome. -/
def HodServes (c : Call) (i : Instr) (op : Nat) (args : List Arg) (k : Dev → HodReq → (Dev → HodOut → Prop) → Prop) : Prop :=
  ∀ (s : State) (r : OpRow), findOp op = some r → HodReady s c r args → c.txn = 0 →
    let q := hodReq s.dev.hub c op args
    k (hodTaken s.dev q (hodMsg c op args)) q fun d o =>
      exec i s = .next (s.devMap fun _ => d.hubMap (·.conclude q false o))

/-- The page hods (R131, R146): PAGE_ALLOC zeroes the frames of the pages it allocates and answers them; PAGE_FREE frees every
page of its list; LEASE_SET sets a page's lessees and writer; PAGE_PIN pins a page, asking for the promotion of a spilled one,
and unpins it; PTE_READ answers an entry; PAGE_MOVE asks for a migration. -/
def PageHodsAct : Prop :=
  ∀ c : Call,
    (∀ part n pin, HodStages c (.pageAlloc c part n pin) 0x0401 [.u8 part.toNat, .u16 n.toNat, .u8 pin.toNat] fun d q =>
      pin.toNat ≤ 1 → 1 ≤ n.toNat → n.toNat ≤ 256 →
      ∀ ps h, d.hub.allocPages (q.part part.toNat) (pin.toNat == 1) n.toNat = some (ps, h) →
        d.effect q = (ps.foldl (fun d p => d.zeroFrame (h.pte p).res (h.pte p).frame) { d with hub := h }, .ok [.list 4 ps])) ∧
    (∀ pages, HodStages c (.pageFree c pages) 0x0402 [.list 4 (pages.map BitVec.toNat)] fun d q =>
      pages.length ≤ 256 → (∀ p ∈ pages, d.hub.ownPage q p.toNat = true ∧ d.hub.validPage p.toNat = true) →
        d.effect q = ((pages.map BitVec.toNat).foldl (fun d p => d.freePage p) d, .ok [])) ∧
    (∀ page lessees writer, HodStages c (.leaseSet c page lessees writer) 0x0403
      [.u32 page.toNat, .u8 lessees.toNat, .u8 writer.toNat] fun d q =>
      d.hub.ownPage q page.toNat = true → d.hub.validPage page.toNat = true →
      (writer.toNat.testBit 3 = true → lessees.toNat.testBit (writer.toNat % 8) = true) →
      ((d.hub.pte page.toNat).lessees = 0 → lessees.toNat ≠ 0 → d.hub.leaseUsed < 65536) →
        d.effect q = (d.hubMap (·.updPte page.toNat fun e => { e with
          lessees := lessees.toNat, writer := if writer.toNat.testBit 3 then some (writer.toNat % 8) else none }), .ok [])) ∧
    (∀ page unpin, HodStages c (.pagePin c page unpin) 0x0404 [.u32 page.toNat, .u8 unpin.toNat] fun d q =>
      let p := page.toNat
      let e := d.hub.pte p
      let pinned (b : Bool) (h : Hub) : Hub := h.updPte p fun e => { e with pin := b }
      d.hub.ownPage q p = true → d.hub.validPage p = true →
        (unpin.toNat = 1 → d.effect q = (d.hubMap (pinned false), .ok [])) ∧
        (unpin.toNat = 0 → e.res = e.moving → d.effect q = (d.hubMap (pinned true), .ok [])) ∧
        (unpin.toNat = 0 → e.res = false → e.moving = true →
          d.effect q = (d.hubMap fun h => (pinned true h).askMove p false, .ok [])) ∧
        (unpin.toNat = 0 → e.res = true → e.moving = false → d.hub.placeTile e.part ≠ none →
          d.effect q = (d.hubMap fun h => (pinned true h).askMove p false, .ok []))) ∧
    (∀ page, HodStages c (.pteRead c page) 0x0405 [.u32 page.toNat] fun d q =>
      d.hub.ownPage q page.toNat = true → page.toNat < d.hub.tableSize →
        d.effect q = (d, .ok [.u64 (if (d.hub.pte page.toNat).valid then (d.hub.pte page.toNat).bits else 0)])) ∧
    (∀ page demote, HodStages c (.pageMove c page demote) 0x0501 [.u32 page.toNat, .u8 demote.toNat] fun d q =>
      demote.toNat ≤ 1 → d.hub.ownPage q page.toNat = true → d.hub.validPage page.toNat = true →
      (demote.toNat = 1 → (d.hub.pte page.toNat).pinned = false) →
        d.effect q = (d.hubMap (·.askMove page.toNat (demote.toNat == 1)), .done .accepted 0 []))

/-- The hods of the reduction engines (R161, R171, R173): HUB_OPND_WRITE and HUB_OPND_READ move bytes of a hub tile, in 256-byte
lines, where no open collective uses the range; COLL_ABORT ends an open collective with ABORTED. -/
def MortarHodsAct : Prop :=
  ∀ c : Call,
    (∀ tile offset len bytes, HodStages c (.hubOpndWrite c tile offset len bytes) 0x0601
      [.u16 tile.toNat, .u32 offset.toNat, .u32 len.toNat, .block bytes] fun d q =>
      let (t, o, n) := (tile.toNat, offset.toNat, len.toNat)
      d.hub.tileRight q t = true → d.hub.tileFits t = true → hubRange o n = true → bytes.length = n →
      (∀ k ∈ d.hub.mortar.colls, let e := Desc.of k.desc; e.usesHub = true → overlaps t o n e.tile e.ofs e.regionLen = false) →
        d.effect q = (d.tileWrite t o bytes, .ok [])) ∧
    (∀ tile offset len, HodStages c (.hubOpndRead c tile offset len) 0x0602
      [.u16 tile.toNat, .u32 offset.toNat, .u32 len.toNat] fun d q =>
      let (t, o, n) := (tile.toNat, offset.toNat, len.toNat)
      d.hub.tileRight q t = true → d.hub.tileFits t = true → hubRange o n = true →
      (∀ k ∈ d.hub.mortar.colls, let e := Desc.of k.desc; e.toHub = true → overlaps t o n e.tile e.ofs e.regionLen = false) →
        d.effect q = (d.hubMap (·.readRanges [(t, o, n)]), .ok [.block (d.tileRead t o n)])) ∧
    (∀ part coll, HodStages c (.collAbort c part coll) 0x0603 [.u8 part.toNat, .u16 coll.toNat] fun d q =>
      ∀ k, d.hub.coll? (q.part part.toNat) coll.toNat = some k →
        d.effect q = (d.hubMap fun h => h.endColl k 0x06 0xFF 0, .ok []))

/-- The hods of the samplers (R187, R189, R194, R199, R204): SMP_PROG_WRITE writes a program that passes its checks, SMP_TABLE_WRITE a
table's bytes, where no open step uses them; SMP_BIND binds a stream to a program, a seed given with it starting its draws anew;
SMP_STATE_SET sets the automaton state and counts tokens in, after clearing the count table where asked; SMP_LAST answers the
last result record. -/
def SamplerHodsAct : Prop :=
  ∀ c : Call,
    (∀ tile offset record, HodStages c (.smpProgWrite c tile offset record) 0x0701
      [.u16 tile.toNat, .u32 offset.toNat, .record record] fun d q =>
      let (t, o) := (tile.toNat, offset.toNat)
      d.hub.tileRight q t = true → d.hub.tileFits t = true → o % 256 = 0 → o + 64 ≤ 2097152 → record.length = 64 →
      d.hub.progCheck (d.hub.ownerReg t) record = none → (∀ x ∈ d.hub.smp.steps, overlaps t o 64 x.tile x.ofs 64 = false) →
        d.effect q = (d.tileWrite t o record, .ok [])) ∧
    (∀ stream tile offset seed, HodStages c (.smpBind c stream tile offset seed) 0x0702
      [.u16 stream.toNat, .u16 tile.toNat, .u32 offset.toNat, .u8 (b2n seed.isSome), .u64 ((seed.map BitVec.toNat).getD 0)]
      fun d q =>
      let (s, t, o) := (stream.toNat, tile.toNat, offset.toNat)
      d.hub.streamRight q s = none → d.hub.tileRight q t = true → d.hub.hubTileOk ((d.hub.streamPart s).getD 0) t = true →
      o % 256 = 0 → o + 64 ≤ 2097152 →
        (∀ v, seed = some v → d.effect q =
          (d.hubMap fun h => h.updStrm s fun c => { c with prog := some (t, o), seed := v, step := 0 }, .ok [])) ∧
        (seed = none → d.effect q = (d.hubMap fun h => h.updStrm s fun c => { c with prog := some (t, o) }, .ok []))) ∧
    (∀ stream aut clear tokens, HodStages c (.smpStateSet c stream aut clear tokens) 0x0703
      [.u16 stream.toNat, .u8 (b2n aut.isSome), .u32 ((aut.map BitVec.toNat).getD 0), .u8 clear.toNat,
        .list 4 (tokens.map BitVec.toNat)] fun d q =>
      let s := stream.toNat
      let toks := tokens.map BitVec.toNat
      let p := (d.boundProg ((d.hub.streamPart s).getD 0) s).map fun b => Prog.of b.2.2
      let d' := d.hubMap fun h => match aut with
        | some a => h.updStrm s fun c => { c with aut := a.toNat }
        | none => h
      d.hub.streamRight q s = none → clear.toNat ≤ 1 → tokens.length ≤ 512 →
      (∀ a, aut = some a → a.toNat ≠ 0xFFFF → ∃ x, p = some x ∧ x.stateIn a.toNat = true) →
        (p = none → d.effect q = (d', .ok [])) ∧
        (∀ x, p = some x →
          let counts := x.penalty = true ∧ x.cntSize ≤ 2 ∧
            d.hub.tableOk ((d.hub.streamPart s).getD 0) x.cntTile x.cntOfs (4 * x.cntLen) = true
          let old := wordsOf 4 (d'.tileRead x.cntTile x.cntOfs (4 * x.cntLen)) x.cntLen
          (¬ counts → d.effect q = (d', .ok [])) ∧
          (counts → clear.toNat = 1 → d.effect q =
            (d'.tileWrite x.cntTile x.cntOfs (wordsBytes (toks.foldl cntAdd (List.replicate x.cntLen 0))), .ok [])) ∧
          (counts → clear.toNat = 0 → d.effect q =
            (d'.countWrite x.cntTile x.cntOfs old (toks.foldl cntAdd old), .ok [])))) ∧
    (∀ stream, HodStages c (.smpLast c stream) 0x0704 [.u16 stream.toNat] fun d q =>
      d.hub.streamRight q stream.toNat = none → d.effect q =
        (d, .ok [.block (d.hub.stream stream.toNat).last, .u64 (d.hub.stream stream.toNat).step.toNat])) ∧
    (∀ tile offset bytes, HodStages c (.smpTableWrite c tile offset bytes) 0x0705
      [.u16 tile.toNat, .u32 offset.toNat, .block bytes] fun d q =>
      let (t, o) := (tile.toNat, offset.toNat)
      d.hub.tileRight q t = true → d.hub.tileFits t = true → o % 256 = 0 → o + bytes.length ≤ 2097152 →
      256 ≤ bytes.length → bytes.length ≤ 3840 →
      (∀ x ∈ d.hub.smp.steps, x.part = d.hub.ownerReg t →
        ∀ r ∈ d.stepRanges x, overlaps t o bytes.length r.1 r.2.1 r.2.2 = false) →
        d.effect q = (d.tileWrite t o bytes, .ok []))

/-- The hods of streams and jobs (R214 to R216, R225 to R228), on a stream of the requester's partition and on its state at
the close of the course: STREAM_READY queues an IDLE or PARKED one with its user bytes; STREAM_PARK parks a READY or RUNNING one;
STREAM_STOP ends one that is neither IDLE nor FAULTED; STREAM_RESET and STREAM_SET_QUEUE act in any state, a READY one moving to
the end of its new queue; STREAM_QUERY answers its context; JOB_START starts the next numbered job where none is and a job plane
runs; JOB_END ends the running one and waits for NONE; PART_SWITCH clears the partition's context. -/
def StreamHodsAct : Prop :=
  ∀ c : Call,
    (∀ stream user, HodStages c (.streamReady c stream user) 0x0801 [.u16 stream.toNat, .record user] fun d q =>
      let s := stream.toNat
      d.hub.streamRight q s = none → (d.hub.stateAtClose s = .idle ∨ d.hub.stateAtClose s = .parked) →
      (d.hub.stream s).queue ≠ none → d.effect q =
        (d.hubMap fun h => (h.updStrm s fun c => { c with user := padTo 32 user }).enterReady s, .ok [])) ∧
    (∀ stream, HodStages c (.streamPark c stream) 0x0802 [.u16 stream.toNat] fun d q =>
      let s := stream.toNat
      d.hub.streamRight q s = none →
        (d.hub.stateAtClose s = .ready → d.effect q = (d.hubMap (·.leaveReady s .parked 0x02), .ok [])) ∧
        (d.hub.stateAtClose s = .running → d.effect q = (d.hubMap fun h =>
          ((h.updStrm s fun c => { c with st := .parked, reason := 0x02 }).revoke s
            (d.hub.queueStages (d.hub.stream s).onQueue) 0x01).prefetch, .ok []))) ∧
    (∀ stream, HodStages c (.streamStop c stream) 0x0803 [.u16 stream.toNat] fun d q =>
      let s := stream.toNat
      d.hub.streamRight q s = none → d.hub.stateAtClose s ≠ .idle → d.hub.stateAtClose s ≠ .faulted →
        d.effect q = (d.hubMap (·.stopStream s 0x01), .ok [])) ∧
    (∀ stream, HodStages c (.streamReset c stream) 0x0804 [.u16 stream.toNat] fun d q =>
      d.hub.streamRight q stream.toNat = none → d.effect q = (d.hubMap (·.resetStream stream.toNat), .ok [])) ∧
    (∀ stream queue, HodStages c (.streamSetQueue c stream queue) 0x0805 [.u16 stream.toNat, .u8 queue.toNat] fun d q =>
      let (s, k) := (stream.toNat, queue.toNat)
      let on (h : Hub) : Hub := h.updStrm s fun c => { c with queue := some k }
      d.hub.streamRight q s = none → d.hub.queueRight q k = true → k < 64 → d.hub.queueEn k = true →
      d.hub.streamPart s = some (d.hub.queuePart k) →
        ((d.hub.stream s).st ≠ .ready → d.effect q = (d.hubMap on, .ok [])) ∧
        ((d.hub.stream s).st = .ready → d.effect q = (d.hubMap fun h => (on (h.leaveReady s .idle 0)).enterReady s, .ok []))) ∧
    (∀ stream, HodStages c (.streamQuery c stream) 0x0806 [.u16 stream.toNat] fun d q =>
      let k := d.hub.stream stream.toNat
      d.hub.streamRight q stream.toNat = none → d.effect q = (d, .ok [.u8 k.st.code, .u8 k.reason, .u8 (k.queue.getD 0),
        .u8 (b2n (d.hub.latency stream.toNat)), .u8 (b2n k.hot), .u64 k.step.toNat, .u64 k.dseq])) ∧
    (∀ part seed, HodStages c (.jobStart c part seed) 0x0807 [.u8 part.toNat, .u64 seed.toNat] fun d q =>
      let p := q.part part.toNat
      let n := Tbl.get 0 d.hub.str.jobNum p
      p < 8 → d.hub.partEn p = true → d.hub.fw.jp ≠ none →
        (d.hub.jobState p ≠ .none → d.effect q = (d, .fail .busy)) ∧
        (d.hub.jobState p = .none → n ≠ 0xFFFFFFFF → d.effect q = (d.hubMap fun h => ({ h with
            str := { h.str with
              job := h.str.job.set .none p .running, jobNum := h.str.jobNum.set 0 p (n + 1)
              srKey := h.str.srKey.set 0 p (seedKey srkLabel seed.toNat), drainFaults := h.str.drainFaults.set 0 p 0 }
            mortar := h.mortar.clearWindow p } : Hub).event 0x0802 [.u8 p, .u32 (n + 1)] p, .ok []))) ∧
    (∀ part, HodStages c (.jobEnd c part) 0x0808 [.u8 part.toNat] fun d q =>
      let p := q.part part.toNat
      p < 8 → (d.hub.jobState p = .running → d.effect q = (d.hubMap (·.jobEnd p), .wait)) ∧
        (d.hub.jobState p = .ending → d.effect q = (d, .wait))) ∧
    (∀ part, HodStages c (.partSwitch c part) 0x0809 [.u8 part.toNat] fun d q =>
      d.effect q = (d.hubMap fun h => h.switchPart h.reg (q.part part.toNat), .ok []))

/-- The hods of barriers (R234, R250, R251, R555), on an id of the requester's partition: BAR_SET puts the fields of its record in
a barrier that no phase is open on; BAR_FREE frees it; BAR_RESET ends its phase and tells who had arrived; BAR_ARRIVE counts the
hub's own arrival; BAR_QUERY answers its phase, counts and absent parties. -/
def BarrierHodsAct : Prop :=
  ∀ c : Call,
    (∀ bar record, HodStages c (.barSet c bar record) 0x0901 [.u16 bar.toNat, .record record] fun d q =>
      let id := bar.toNat
      let f (o n : Nat) : Nat := leNat (slice record o n)
      let expect := (List.range 9).map fun k => f (2 + 2 * k) 2
      objRight q (d.hub.barPart id) = none → ∀ p, d.hub.barPart id = some p →
      d.hub.barFields p (f 0 1) expect (f 20 4) (f 24 2) = none → (∀ b, d.hub.bar id = some b → b.waiting = false) →
        d.effect q = (d.hubMap fun h => h.setBar id
          (some { pmask := f 0 1, expect, timeout := f 20 4, align := f 24 2 }), .ok [])) ∧
    (∀ bar, HodStages c (.barFree c bar) 0x0902 [.u16 bar.toNat] fun d q =>
      objRight q (d.hub.barPart bar.toNat) = none → bar.toNat < 4096 →
        (∀ b, d.hub.bar bar.toNat = some b → b.waiting = false) →
        d.effect q = (d.hubMap fun h => h.setBar bar.toNat none, .ok [])) ∧
    (∀ bar, HodStages c (.barReset c bar) 0x0903 [.u16 bar.toNat] fun d q =>
      objRight q (d.hub.barPart bar.toNat) = none → ∀ b, d.hub.bar bar.toNat = some b →
        d.effect q = (d.hubMap fun h => (h.setBar bar.toNat (some { b with
          phase := b.phase + 1, counts := List.replicate 9 0, first := none })).syncError ((d.hub.barPart bar.toNat).getD 0)
            b.arrivers (b.err 0x0C bar.toNat none), .ok [])) ∧
    (∀ bar phase, HodStages c (.barArrive c bar phase) 0x0904 [.u16 bar.toNat, .u8 phase.toNat] fun d q =>
      objRight q (d.hub.barPart bar.toNat) = none → ∀ p, d.hub.barPart bar.toNat = some p →
      d.hub.arriveCheck p bar.toNat phase.toNat 8 = none →
        d.effect q = (d.hubMap fun h => h.countArrival p bar.toNat 8 q.who.id, .ok [])) ∧
    (∀ bar, HodStages c (.barQuery c bar) 0x0905 [.u16 bar.toNat] fun d q =>
      let id := bar.toNat
      objRight q (d.hub.barPart id) = none → id < 4096 →
        (d.hub.bar id = none →
          d.effect q = (d, .ok [.u8 0, .u32 0, .list 2 (List.replicate 9 0), .u8 0, .u32 0])) ∧
        (∀ b, d.hub.bar id = some b → d.effect q = (d.hubMap (·.tick), .ok [
          .u8 (if b.waiting then 2 else 1), .u32 b.phase.toNat, .list 2 b.counts,
          .u8 ((List.range 8).foldl (fun m x =>
            if 0 < b.e x ∧ d.hub.unavail x ((d.hub.barPart id).getD 0) then m + 2 ^ x else m) 0),
          .u32 (if b.waiting then (Config.elapsed d.hub.free).toNat % (b.timeout + 1) else 0)])))

/-- The hods of tallies (R241, R251, R555), on an id of the requester's partition: TALLY_SET ends the waits of what stood
there and sets a new tally with both counts 0; TALLY_QUERY answers its counts; TALLY_FREE ends its waits and frees it. -/
def TallyHodsAct : Prop :=
  ∀ c : Call,
    (∀ tally record, HodStages c (.tallySet c tally record) 0x0906 [.u16 tally.toNat, .record record] fun d q =>
      let id := tally.toNat
      let f (o n : Nat) : Nat := leNat (slice record o n)
      objRight q (d.hub.talPart id) = none → ∀ p, d.hub.talPart id = some p → f 0 1 < 8 → f 1 1 < 8 →
      (f 8 2 = 0xFFFF ∨ d.hub.barPart (f 8 2) = some p) → 1 ≤ f 12 4 → f 12 4 ≤ 60000000 →
        d.effect q = (d.hubMap fun h => (match h.tal id with
          | some t => h.endWaits p id 0x0C t
          | none => h).setTal id (some { prod := f 0 1, cons := f 1 1, window := f 4 4, alignBar := f 8 2, timeout := f 12 4 }),
          .ok [])) ∧
    (∀ tally, HodStages c (.tallyQuery c tally) 0x0907 [.u16 tally.toNat] fun d q =>
      objRight q (d.hub.talPart tally.toNat) = none → tally.toNat < 16384 →
        (d.hub.tal tally.toNat = none → d.effect q = (d, .ok [.u8 0, .u32 0, .u32 0, .u8 0])) ∧
        (∀ t, d.hub.tal tally.toNat = some t → d.effect q = (d, .ok [.u8 (if t.error then 2 else 1), .u32 t.p, .u32 t.c,
          .u8 (b2n t.ge.isSome + 2 * b2n t.le.isSome)]))) ∧
    (∀ tally, HodStages c (.tallyFree c tally) 0x0908 [.u16 tally.toNat] fun d q =>
      let id := tally.toNat
      objRight q (d.hub.talPart id) = none →
        (∀ t, d.hub.tal id = some t → d.effect q =
          (d.hubMap fun h => (h.endWaits ((d.hub.talPart id).getD 0) id 0x0C t).setTal id none, .ok [])) ∧
        (d.hub.tal id = none → id < 16384 → d.effect q = (d, .ok [])))

/-- The hods of the governor (R287): PWR_QUERY answers an accelerator's grant, reasons, counters and staleness; PHASE_TABLE_SET
writes its 64 phase entries; EST_RESET clears one of its estimates, or all of them with 0xFF. -/
def GovernorHodsAct : Prop :=
  ∀ c : Call,
    (∀ acc, HodStages c (.pwrQuery c acc) 0x0A01 [.u8 acc.toNat] fun d q =>
      let x := acc.toNat
      let h := d.hub
      q.who.isVf = false → x < 8 → d.effect q = (d, .ok ([.u32 (h.grantReg x), .u16 (h.reasonNow x), .u16 (h.acc x).last] ++
        (List.range 16).flatMap (fun n => [Arg.u64 (h.ctr (thrTime x n)).val.toNat, .u64 (h.ctr (thrCount x n)).val.toNat]) ++
        [.u64 (h.ctr (accReg x 0x10)).val.toNat, .u16 (h.acc x).staleRun, .u8 (b2n (h.acc x).critical)]))) ∧
    (∀ acc record, HodStages c (.phaseTableSet c acc record) 0x0A02 [.u8 acc.toNat, .record record] fun d q =>
      let e (n : Nat) : Nat := leNat (slice record (4 * n) 4)
      q.who.isVf = false → acc.toNat < 8 → (∀ n < 64, bits (e n) 7 0 ≤ bits (e n) 15 8) →
        d.effect q = (d.hubMap fun h => (List.range 64).foldl
          (fun h n => h.setReg (accReg acc.toNat (0x200 + 4 * n)) (e n % 2 ^ 20)) h, .ok [])) ∧
    (∀ acc which, HodStages c (.estReset c acc which) 0x0A03 [.u8 acc.toNat, .u8 which.toNat] fun d q =>
      q.who.isVf = false → acc.toNat < 8 →
        (which.toNat < 64 → d.effect q =
          (d.hubMap fun h => h.setReg (accReg acc.toNat (0x300 + 4 * which.toNat)) 0, .ok [])) ∧
        (which.toNat = 0xFF → d.effect q = (d.hubMap fun h => (List.range 64).foldl
          (fun h n => h.setReg (accReg acc.toNat (0x300 + 4 * n)) 0) h, .ok [])))

/-- The hods of the hot-swap channels (R301, R310): HS_OFF and HS_ON take every channel of their mask to CMD_OFF and out of
it; HS_RELEASE returns a latched or held channel without an active hold to WAIT_SLOT, or to WAIT_SEAT where it is not seated, with
event 0x0B04; HS_QUERY answers a channel's state, readings and energy. -/
def ChannelHodsAct : Prop :=
  ∀ c : Call,
    (∀ mask, HodStages c (.hsOff c mask) 0x0B01 [.u16 mask.toNat] fun d q =>
      (q.who.isVf = true → d.effect q = (d, .refused)) ∧
      (q.who.isVf = false →
        d.effect q = (d.hubMap fun h => (onesBelow 10 mask.toNat).foldl (fun h c => h.hsOff c) h, .ok []))) ∧
    (∀ mask, HodStages c (.hsOn c mask) 0x0B02 [.u16 mask.toNat] fun d q =>
      q.who.isVf = false → (∀ k ∈ onesBelow 10 mask.toNat, (d.hub.hsCh k).st ≠ .disabled) →
        d.effect q = (d.hubMap fun h => (onesBelow 10 mask.toNat).foldl (fun h c => h.cmdOn c) h, .ok [])) ∧
    (∀ ch, HodStages c (.hsRelease c ch) 0x0B03 [.u8 ch.toNat] fun d q =>
      let k := d.hub.hsCh ch.toNat
      q.who.isVf = false → ch.toNat < 10 → (k.st = .latched ∨ k.st = .held) → d.hub.holdActive ch.toNat = false →
        d.effect q = (d.hubMap fun h => (h.updHs ch.toNat fun k => { k with
          st := if k.seated then .waitSlot else .waitSeat, retries := 0 }).event 0x0B04 [.u8 ch.toNat, .u8 q.who.id], .ok [])) ∧
    (∀ ch, HodStages c (.hsQuery c ch) 0x0B04 [.u8 ch.toNat] fun d q =>
      let k := d.hub.hsCh ch.toNat
      q.who.isVf = false → ch.toNat < 10 → d.effect q = (d.hubMap (·.tick), .ok [.u8 k.st.code, .u8 k.cause, .u16 k.retries,
        .u32 (if k.st = .backoff then (Config.elapsed d.hub.free).toNat % (backoffMs k.retries + 1) else 0),
        .u32 (k.cur * 65536 + k.vsrc), .u32 (k.soa / 10 ^ 9), .u64 (d.hub.ctr (hsReg ch.toNat 0x18)).val.toNat]))

/-- The hods of the tray sequence (R308): outside a sequence, TRAY_SEQ runs it up, every channel leaving CMD_OFF, or down; while
one runs it is answered with BUSY_RETRY. -/
def SequenceHodsAct : Prop :=
  ∀ c : Call,
    HodStages c (.traySeqUp c) 0x0B05 [.u8 0] (fun d q => q.who.isVf = false →
      (d.hub.hs.up = false → d.hub.hs.down = [] → d.effect q = (d.hubMap (·.seqUp), .ok [])) ∧
      (d.hub.hs.up = true → d.effect q = (d, .fail .busy))) ∧
    HodStages c (.traySeqDown c) 0x0B05 [.u8 1] (fun d q => q.who.isVf = false → d.hub.hs.up = false → d.hub.hs.down = [] →
      d.effect q = (d.hubMap (·.seqDown), .ok []))

/-- The hods of cooling (R323, R333): COOL_HEARTBEAT of PF0 or SMBus is the host's sign of life; COOL_QUERY answers a channel or a
zone. -/
def CoolingHodsAct : Prop :=
  ∀ c : Call,
    HodServes c (.coolHeartbeat c) 0x0C01 [] (fun d _ ans =>
      ((c.who = .pf0 ∨ c.who = .smbus) → ans (d.hubMap (·.heartbeat)) (.ok [])) ∧
      (c.who ≠ .pf0 → c.who ≠ .smbus → ans d (.ok []))) ∧
    (∀ what index, HodStages c (.coolQuery c what index) 0x0C02 [.u8 what.toNat, .u8 index.toNat] fun d q =>
      let k := d.hub.coolCh index.toNat
      let z := d.hub.zone index.toNat
      q.who.isVf = false →
        (what.toNat = 1 → index.toNat < 14 → d.effect q = (d, .ok [.u8 k.st.code, .u16 (k.cmd / permille),
          .u16 (k.target / permille), .u16 k.tach, .u16 k.flow])) ∧
        (what.toNat = 0 → index.toNat < 8 → d.effect q = (d, .ok [.u16 (z.target / permille), .u16 (unsigned 16 z.tz),
          .u8 (b2n z.full + 2 * b2n z.noInput), .u32 (z.integ / 1000)])))

/-- The hods of the leak ropes (R332, R333): LEAK_CLEAR ends the actions of its ropes where each is dry for 1 s, and is answered
with BUSY_RETRY otherwise; LEAK_QUERY answers the measurements, the actions and the counter. -/
def LeakHodsAct : Prop :=
  ∀ c : Call,
    (∀ mask, HodStages c (.leakClear c mask) 0x0D01 [.u8 mask.toNat] fun d q => q.who.isVf = false →
      ((∀ r ∈ onesBelow 6 mask.toNat, (d.hub.rope r).action = true → d.hub.clearable r = true) →
        d.effect q = (d.hubMap fun h => (onesBelow 6 mask.toNat).foldl (fun h r => h.leakClear r q.who.id) h, .ok [])) ∧
      (∀ r ∈ onesBelow 6 mask.toNat, (d.hub.rope r).action = true → d.hub.clearable r = false →
        d.effect q = (d, .fail .busy))) ∧
    HodServes c (.leakQuery c) 0x0D02 [] (fun d _ ans => ans d (.ok ((List.range 6).map (fun r => Arg.u32 (d.hub.rope r).meas) ++
      [.u8 ((List.range 6).foldl (fun m r => if (d.hub.rope r).action then m + 2 ^ r else m) 0),
        .u64 (d.hub.ctr 0xD00050).val.toNat])))

/-- The hods of sensing (R346, R353): SENSE_READ answers the mirrors of its channels; SENSE_CAL waits for the calibration, one at
a time; MON_READ answers every die monitor. -/
def SensingHodsAct : Prop :=
  ∀ c : Call,
    (∀ mask, HodServes c (.senseRead c mask) 0x0E01 [.u64 mask.toNat] fun d _ ans =>
      ans d (.ok ((onesBelow 48 mask.toNat).flatMap fun k =>
        [.u32 (d.hub.mirrorOf k).word, .u32 (d.hub.mirrorOf k).valid, .u64 (d.hub.mirrorOf k).ts.toNat]))) ∧
    HodServes c (.senseCal c) 0x0E02 [] (fun d _ ans =>
      ((∀ r ∈ d.hub.hods.waiting, r.op ≠ 0x0E02) → ans d .wait) ∧
      (∀ r ∈ d.hub.hods.waiting, r.op = 0x0E02 → ans d (.fail .busy))) ∧
    HodServes c (.monRead c) 0x0E03 [] (fun d _ ans =>
      ans d (.ok ((List.range 32).map (fun m => Arg.u32 (d.hub.dts m).word) ++
        (List.range 24).flatMap (fun v => [Arg.u32 (d.hub.vmon v).mv, .u32 (d.hub.vmon v).extWord]) ++
        (List.range 16).flatMap (fun r => [Arg.u32 (d.hub.pmon r).khz, .u32 (d.hub.pmon r).word]))))

/-- The hods of transactions (R369, R371, R373, R374): TXN_BEGIN opens the requester's one transaction where a slot is free;
TXN_COMMIT of the open one waits for its boundary; TXN_ABORT drops it; CFG_REF_SET leaves its reference for the CRC. -/
def TransactionHodsAct : Prop :=
  ∀ c : Call,
    HodServes c (.txnBegin c) 0x0F01 [] (fun d q ans =>
      (d.hub.openTxn q.who ≠ none → ans d (.fail .busy)) ∧
      (d.hub.openTxn q.who = none →
        (if q.who.isVf then ∀ t ∈ d.hub.rb.txns, t.owner ≠ q.who else d.hub.rb.txns.countP (fun t => !t.owner.isVf) < 8) →
        ans (d.hubMap (·.updRb fun b => { b with
          txns := b.txns ++ [{ id := d.hub.freshTxnId, owner := q.who }], lastId := d.hub.freshTxnId }))
          (.ok [.u16 d.hub.freshTxnId]))) ∧
    (∀ id ref, HodServes c (.txnCommit c id ref) 0x0F02
      [.u16 id.toNat, .u8 (b2n ref.isSome), .u32 ((ref.map BitVec.toNat).getD 0)] fun d q ans =>
      ∀ t, d.hub.openTxn q.who = some t → t.id = id.toNat →
        ans (d.hubMap fun h => h.txnCommit t (ref.map BitVec.toNat) (some q)) .wait) ∧
    (∀ id, HodServes c (.txnAbort c id) 0x0F03 [.u16 id.toNat] fun d q ans =>
      ∀ t, d.hub.openTxn q.who = some t → t.id = id.toNat →
        ans (d.hubMap (·.updRb fun b => { b with txns := b.txns.filter (·.id != t.id) })) (.ok [])) ∧
    (∀ ref, HodStages c (.cfgRefSet c ref) 0x0F04 [.u32 ref.toNat] fun d q =>
      d.effect q = (d.hubMap (·.updRb fun b => { b with refDue := some ref.toNat }), .ok []))

/-- Three hods of the system block (R376, R378, R400): WARM_RESET of PF0, SMBus or the management core schedules a warm reset for the
next boundary, of another requester it is refused; HOD_ECHO answers its bytes; HOD_CAPS the interface. -/
def SystemHodsAct : Prop :=
  ∀ c : Call,
    HodServes c (.warmReset c) 0x0F05 [] (fun d q ans =>
      ((q.who = .pf0 ∨ q.who = .smbus ∨ q.who = .core) →
        ans (d.hubMap (·.updRb fun b => { b with warm := some (3, q.who.id) })) (.ok [])) ∧
      (q.who ≠ .pf0 → q.who ≠ .smbus → q.who ≠ .core → ans d .refused)) ∧
    (∀ bytes, HodServes c (.hodEcho c bytes) 0x0F06 [.block bytes] fun d _ ans => ans d (.ok [.block bytes])) ∧
    HodServes c (.hodCaps c) 0x0F07 [] (fun d _ ans => ans d (.ok [.u8 1, .u16 4080, .u16 64,
      .u32 (if d.hub.fw.jp.isSome then d.hub.jpHave else 0), .u32 ((d.hub.fw.run.map (·.emuVer)).getD 0)]))

/-- The identity memories and the SMBus status by hod (R425, R430): ID_READ answers bytes of a memory that the hub holds or of a
tray memory; SMB_STATUS the alert causes, their mask, the address and both counters. -/
def IdentityHodsAct : Prop :=
  ∀ c : Call,
    (∀ bus addr offset len, HodServes c (.idRead c bus addr offset len) 0x1001
      [.u8 bus.toNat, .u8 addr.toNat, .u32 offset.toNat, .u32 len.toNat] fun d _ ans =>
      let (b, a, o, n) := (bus.toNat, addr.toNat, offset.toNat, len.toNat)
      idPlace b a = true → 1 ≤ n → n ≤ 4064 →
        (b < 8 → ((d.hub.idMem b a).st = 2 ∨ (d.hub.idMem b a).bytes ≠ []) → o + n ≤ (d.hub.idMem b a).bytes.length →
          ans d (.ok [.block (slice (d.hub.idMem b a).bytes o n)])) ∧
        (b = 8 → (d.hub.idMem 8 0x50).st = 2 →
          ans d (.ok [.block ((List.range n).map fun k => Config.fruByte 8 0x50 (o + k))])) ∧
        (b = 9 → ans (d.hubMap (·.tick)) (if d.hub.bus.idFault.testBit 9 || !Config.fruOk 9 a d.hub.free then .fail .media
          else .ok [.block ((List.range n).map fun k => Config.fruByte 9 a (o + k))]))) ∧
    HodServes c (.smbStatus c) 0x1002 [] (fun d _ ans => ans d (.ok [.u8 d.hub.statusByte, .u8 (d.hub.reg 0x100000C),
      .u8 d.hub.bus.smbAddr, .u64 (d.hub.ctr 0x1000018).val.toNat, .u64 (d.hub.ctr 0x1000020).val.toNat]))

/-- The hods of the rack (R445, R446, R448, R450): RACK_QUERY of this hub, or of position 0, answers its place, with the grants
at the manager; of another position the manager asks that hub by frame and waits; RACK_ROLE_REQUEST is OK at the manager, and a
standby asks for the role and waits; RACK_SLEEP of the manager proposes a sleep and waits. -/
def RackHodsAct : Prop :=
  ∀ c : Call,
    (∀ pos, HodServes c (.rackQuery c pos) 0x1101 [.u8 pos.toNat] fun d q ans =>
      let r := d.hub.rack
      pos.toNat ≤ 32 →
        ((pos.toNat = 0 ∨ pos.toNat = r.pos) →
          ans d (.ok ([.u8 r.role.code, .u8 r.pos, .u16 r.count, .u64 r.course, .u32 d.hub.rackStatus, .u32 r.mgrWord] ++
            (if r.role = .manager then [.list 4 ((List.range 32).map r.grantWord)] else [])))) ∧
        (pos.toNat ≠ 0 → pos.toNat ≠ r.pos → r.role = .manager →
          ans (d.hubMap fun h => h.frame 0x07 pos.toNat (hodHead 0x1101 q.tag 4 1 0 0 0 ++ encodeArgs [.u8 0])) .wait)) ∧
    HodServes c (.rackRoleRequest c) 0x1102 [] (fun d _ ans =>
      (d.hub.rack.role = .manager → ans d (.ok [])) ∧
      (d.hub.rack.role ≠ .manager → d.hub.rack.role ≠ .standalone → d.hub.rackStandby = true →
        ans (d.hubMap fun h => (h.updRack fun r => { r with asking := true }).frame 0x05 0 (leBytes 1 h.rack.pos)) .wait)) ∧
    HodServes c (.rackSleep c) 0x1103 [] (fun d _ ans =>
      d.hub.rack.role = .manager → d.hub.rack.state ≠ 1 → d.hub.rack.state ≠ 2 → d.hub.rack.propose = false →
        ans (d.hubMap (·.updRack fun r => { r with propose := true })) .wait)

/-- A chunk reaches a target of the boot flash (R465): at offset 0 the target is erased first; a chunk that reads back moves the
cursor on, one that does not ends the sequence with MEDIA_FAIL; the target has no verdict, and an image staged from it is gone. -/
def chunkWritten (d : Dev) (t o : Nat) (bs : List Byte) : Dev × HodOut :=
  let d := d.hubMap (·.updFw fun f => { f with
    stage := if f.stage.any (fun i => b2n i.slot == t) then none else f.stage, verdict := f.verdict.set 0 t 0 })
  let d := if o = 0 then d.flashErase (targetBase t) (targetSize t) else d
  if Config.flashOk d.hub.free then
    (((d.hubMap (·.tick)).flashWrite (targetBase t + o) bs).hubMap
      (·.updFw fun f => { f with cursor := f.cursor.set none t (some (o + bs.length)) }), .ok [])
  else ((d.hubMap (·.tick)).hubMap fun h =>
    (h.updFw fun f => { f with cursor := f.cursor.set none t none }).mediaFail t o, .fail .media)

/-- The hods of firmware (R465, R467, R468, R470, R474): FW_WRITE writes a chunk to a hub slot that neither runs nor holds the
active image, ACC_IMAGE_WRITE to an accelerator copy that is not active; FW_VERIFY answers the verdict of a target, and a good
image in an inactive slot is staged; FW_ACTIVATE of a staged image or a copy waits for its boundary, and is cancelled while it
waits; FW_QUERY answers the images; JOBPLANE_LOAD collects a module chunk by chunk, and at the last one checks it and starts it
at the next boundary. -/
def FirmwareHodsAct : Prop :=
  ∀ c : Call,
    (∀ flags offset bytes, HodServes c (.fwWrite c flags offset bytes) 0x1201
      [.u8 flags.toNat, .u32 offset.toNat, .block bytes] fun d _ ans =>
      let (t, o) := (flags.toNat, offset.toNat)
      let f := d.hub.fw
      t ≤ 1 → (f.kiln = true ∨ (t ≠ b2n f.active.hub ∧ t ≠ b2n f.slot)) → f.pend = none →
      (o = 0 ∨ f.cursor.get none t = some o) → o + bytes.length ≤ targetSize t →
        ans (chunkWritten d t o bytes).1 (chunkWritten d t o bytes).2) ∧
    (∀ target offset bytes, HodServes c (.accImageWrite c target offset bytes) 0x1206
      [.u8 target.toNat, .u32 offset.toNat, .block bytes] fun d _ ans =>
      let (t, o) := (target.toNat, offset.toNat)
      let f := d.hub.fw
      t ≤ 3 → f.accActive (t / 2) ≠ decide (t % 2 = 1) → f.pend = none →
      (o = 0 ∨ f.cursor.get none (4 + t) = some o) → o + bytes.length ≤ targetSize (4 + t) →
        ans (chunkWritten d (4 + t) o bytes).1 (chunkWritten d (4 + t) o bytes).2) ∧
    (∀ kind target, HodServes c (.fwVerify c kind target) 0x1202 [.u8 kind.toNat, .u8 target.toNat] fun d _ ans =>
      let (k, t) := (kind.toNat, target.toNat)
      let r := d.verify k (if k = 1 then t else 4 + t)
      let i := imageOf false r.2.1
      let f := r.2.2.hub.fw
      let unused := f.kiln = true ∨ (t ≠ b2n f.slot ∧ t ≠ b2n f.active.hub)
      let good := HodOut.ok [.u8 0, .u16 i.major, .u16 i.minor, .u8 i.svn, .u16 i.epoch, .u16 i.epochMin, .u32 i.jpIf]
      ((k = 1 ∧ t ≤ 1) ∨ (k = 2 ∧ t ≤ 3)) →
        (r.1 = 8 → ans r.2.2 (.fail .media)) ∧
        (r.1 ≠ 8 → r.1 ≠ 0 → ans r.2.2 (.done .badArg 2 (encodeArgs [.u8 r.1]))) ∧
        (r.1 = 0 → k = 1 → unused → f.trial = false →
          ans (r.2.2.hubMap (·.updFw fun f => { f with stage := some (imageOf (t == 1) r.2.1) })) good) ∧
        (r.1 = 0 → k = 1 → (¬ unused ∨ f.trial = true) → ans r.2.2 good) ∧
        (r.1 = 0 → k = 2 → f.accActive (t / 2) ≠ decide (t % 2 = 1) → ans r.2.2 good) ∧
        (r.1 = 0 → k = 2 → f.accActive (t / 2) = decide (t % 2 = 1) → ans (r.2.2.hubMap fun h => (List.range 8).foldl (fun h x =>
          if h.accClass x == t / 2 && (h.push x).st == 6 then h.updPush x (fun p => { p with st := 1, retries := 0 }) else h) h)
          good)) ∧
    (∀ kind target copy, HodServes c (.fwActivate c kind target copy) 0x1203
      [.u8 kind.toNat, .u8 target.toNat, .u8 copy.toNat] fun d _ ans =>
      let f := d.hub.fw
      f.pend = none → ((kind.toNat = 1 ∧ target.toNat ≤ 1 ∧ ∃ i, f.stage = some i ∧ b2n i.slot = target.toNat) ∨
        (kind.toNat = 2 ∧ target.toNat ≤ 3)) →
        ans (d.hubMap (·.updFw fun f => { f with
          pend := some { kind := kind.toNat, target := target.toNat, mask := copy.toNat } })) .wait) ∧
    HodServes c (.fwActivateCancel c) 0x1203 [.u8 0, .u8 0xFF, .u8 0] (fun d _ ans =>
      (d.hub.fw.pend = none → ans d (.ok [])) ∧
      (∀ a, d.hub.fw.pend = some a → ans (d.hubMap fun h => (h.updFw fun f => { f with pend := none }).finishWaitIf 0x1203
        (fun r => r.args.head? == some (.u8 a.kind)) .busy 0 []) (.ok []))) ∧
    HodServes c (.fwQuery c) 0x1204 [] (fun d _ ans =>
      let f := d.hub.fw
      ans d (.ok ([.u32 f.bootWord, .u32 f.versionWord, .u32 f.active.seq] ++
        [0, 1, 4, 5, 6, 7].map (fun t => Arg.u8 (if f.verdict.get 0 t = 0 then 0xFF else f.verdict.get 0 t - 1)) ++
        [.u32 d.hub.accStatus, .u32 f.jpIf]))) ∧
    (∀ flags offset bytes, HodServes c (.jobplaneLoad c flags offset bytes) 0x1205
      [.u8 flags.toNat, .u32 offset.toNat, .block bytes] fun d _ ans =>
      let first := flags.toNat.testBit 0 = true
      let d := if flags.toNat.testBit 0 then d.hubMap (·.updFw fun f => { f with jpPart := none }) else d
      ∀ p, (first ∧ p = [] ∨ ¬ first ∧ d.hub.fw.jpPart = some p) → flags.toNat ≤ 3 → offset.toNat = p.length →
      offset.toNat + bytes.length ≤ 4096 + 196608 →
        (flags.toNat.testBit 1 = false → ans (d.hubMap (·.updFw fun f => { f with jpPart := some (p ++ bytes) })) (.ok [])) ∧
        (flags.toNat.testBit 1 = true →
          let d := d.hubMap (·.flagIf (d.moduleVerdict (p ++ bytes) == 6) 0x1300000 2)
          let drop (f : Fw) : Fw := { f with jpPart := none }
          (d.moduleCheck (p ++ bytes) = none → d.hub.fw.jp = some (p ++ bytes) → ans (d.hubMap (·.updFw drop)) (.ok [])) ∧
          (d.moduleCheck (p ++ bytes) = none → d.hub.fw.jp ≠ some (p ++ bytes) →
            ans (d.hubMap (·.updFw fun f => { drop f with jpNext := some (p ++ bytes) })) .boundary) ∧
          (d.moduleCheck (p ++ bytes) = some (.badArg 3) →
            ans (d.hubMap fun h => (h.updFw drop).jpEvent (p ++ bytes)) (.badArg 3)) ∧
          (d.moduleCheck (p ++ bytes) = some (.fail .version) →
            ans (d.hubMap fun h => ((h.updFw drop).flag 0x1200000 3).jpEvent (p ++ bytes)) (.fail .version)) ∧
          (d.moduleCheck (p ++ bytes) = some (.fail .busy) →
            ans (d.hubMap (·.updFw fun f => { f with jpPart := some p })) (.fail .busy))))

/-- The hods of security (R480, R493, R495): SEC_QUERY answers the states, the certificates and the ports; JTAG_UNLOCK answers a
fresh challenge while the source of random numbers is healthy, waits for the boundary at which a level that a token grants begins,
a token that no key signed being refused and the challenge used up, and relocks at the next boundary. -/
def SecurityHodsAct : Prop :=
  ∀ c : Call,
    HodServes c (.secQuery c) 0x1301 [] (fun d _ ans => ans d (.ok ([.u32 d.hub.secStatus, .u32 d.otp.arb, .u32 d.hub.sec.debugWord,
      .u32 d.keysWord, .u32 (d.hub.reg 0x1300004), .record (padTo 48 Config.deviceCert),
      .record (if d.hub.fw.run.isSome then padTo 48 (Config.aliasCert d.hub.aliasContents) else zeros 48)] ++
      (List.range 8).map (fun x => .u32 (d.hub.portSeal x))))) ∧
    HodServes c (.jtagUnlockChallenge c) 0x1302 [.u8 0, .u8 0, .u32 0, .block []] (fun d _ ans =>
      (d.hub.sec.rng = true → ans (d.hubMap fun h => h.draw.2.updSec fun s => { s with challenge := some h.draw.1, asked := 0 })
        (.ok [.record (padTo 48 (Config.drbg d.hub.draw.1)), .u64 Config.serial.toNat])) ∧
      (d.hub.sec.rng = false → ans d (.fail .busy))) ∧
    (∀ level duration token, HodServes c (.jtagUnlockLevel c level duration token) 0x1302
      [.u8 1, .u8 level.toNat, .u32 duration.toNat, .block token] fun d q ans =>
      let used := d.hubMap (·.updSec fun s => { s with challenge := none })
      ∀ n, d.hub.sec.challenge = some n → 1 ≤ level.toNat → level.toNat ≤ 2 → 1 ≤ duration.toNat → duration.toNat ≤ 86400 →
      d.hub.sec.asked ≤ 60000000 →
        (∀ k, d.otp.tokenKey level.toNat (unlockBytes n level.toNat duration.toNat) token = some k →
          ans (used.hubMap (·.setNextLevel level.toNat duration.toNat q.who.id k)) .wait) ∧
        (d.otp.tokenKey level.toNat (unlockBytes n level.toNat duration.toNat) token = none →
          ans (used.hubMap (·.flag 0x1300000 2)) (.badArg 4))) ∧
    HodServes c (.jtagRelock c) 0x1302 [.u8 2, .u8 0, .u32 0, .block []] (fun d q ans =>
      ans (d.hubMap (·.setNextLevel 0 0 q.who.id 0xFF)) .wait)

/-- The hods of the recorder and of the safety block (R507, R509, R517, R530): LOG_READ answers up to 63 records of the
requester's view; LOG_CLEAR starts a clear and waits for it, or ends with MEDIA_FAIL where the region cannot be written;
LOG_STATUS and SAFETY_QUERY answer the states and counters. -/
def RecorderHodsAct : Prop :=
  ∀ c : Call,
    (∀ index count, HodServes c (.logRead c index count) 0x1401 [.u32 index.toNat, .u16 count.toNat] fun d q ans =>
      let h := d.hub.logAged
      let v := h.logView q.who
      let rs := (v.drop index.toNat).take count.toNat
      let sus := (List.range rs.length).foldl (fun a j => a + b2n ((rs[j]?).any Rec.suspect) * 2 ^ j) 0
      1 ≤ count.toNat → count.toNat ≤ 63 → d.hub.ev.clearing = false →
        ans (d.hubMap fun _ => h.flagIf (sus != 0) 0x1400000 1) (.ok [.u32 v.length, .u64 sus, .block (rs.flatMap Rec.bytes)])) ∧
    HodServes c (.logClear c) 0x1402 [] (fun d q ans => d.hub.ev.clearing = false → d.hub.ev.clearCount ≠ 0xFFFFFFFF →
      ans (d.hubMap fun h => if Config.flashOk h.free then h.clearStart q.who.id
        else (h.clearStart q.who.id).clearFailed 0 (0x800000 + b2n (!(h.clearStart q.who.id).ev.inForceB) * 4096))
        (if Config.flashOk d.hub.free then .wait else .fail .media)) ∧
    HodServes c (.logStatus c) 0x1403 [] (fun d q ans =>
      let h := d.hub
      let drop (s : Nat) := (h.ctr (dropCtr s)).val.toNat
      let own := match q.who with
        | .vf n => drop (n.val + 1)
        | _ => if h.limited q.who then 0 else (List.range 8).foldl (fun a p => a + drop (p + 1)) 0
      ans d (.ok [.u32 (h.logView q.who).length, .u32 h.ev.clearCount, .u16 (if h.limited q.who then 0 else h.ev.shadow.length),
        .u8 (b2n h.ev.full + 2 * b2n h.ev.mediaFail + 4 * b2n h.ev.clearing), .u64 (drop 0), .u64 own])) ∧
    HodServes c (.safetyQuery c) 0x1501 [] (fun d _ ans =>
      let h := d.hub
      ans d (.ok [.u32 h.safetyStatus, .u32 h.safetyWires, .u32 h.safetyRecovery, .u32 h.safety.dataWord,
        .u32 h.safety.mgmtWord, .u64 (h.ctr 0x1500018).val.toNat]))

/-! ### Accelerator ports -/

/-- The steps of full training that advance a port (R57, R59, R60, R62, R78): DETECT to POLL; POLL to EQUALIZE on every present
octet or, at the timeout, on the octets that have locked and whose lanes the hub can put in order, with the corrections found and
the presets of the cables' length classes in force; EQUALIZE to CONFIG; and CONFIG, where every check passes, to ACTIVE, or to
SEAL_SYNC where both keys are installed and sealing is wanted, the hub's own credits being 128, 512, 1,024, 64, 64 and 512. -/
def Obligations.TrainingAdvancesPort : Prop :=
  (List.range 6).map hubCredits = [128, 512, 1024, 64, 64, 512] ∧
  ∀ (s : State) (x : Fin 8) (oct : BitVec 8) (w : Wiring) (c : Caps), s.dev.hub.up = true →
    let h := s.dev.hub
    let p := h.port x
    let toEqualize (locked : BitVec 8) (h : Hub) : Hub := h.updPort x fun p => { p with
      st := .equalize, locked, inverted := w.inverted, revA := w.reversed false, revB := w.reversed true
      presetA := h.presetOf x false, presetB := h.presetOf x true }
    (p.st = .detect → h.bitAt (portReg x 0) 0 = true → h.rstReleased x = true → (p.cblA || p.cblB) = true →
      h.minOctets x ≤ octets (oct &&& p.present) →
      exec (.signalDetected x oct) s = .next (s.hubMap (·.updPort x fun p => { p with st := .poll, locked := 0 }))) ∧
    (p.st = .poll → p.present &&& w.locks = p.present → h.minOctets x ≤ octets p.present →
      exec (.pollLocked { port := x, wiring := w }) s = .next (s.hubMap (toEqualize p.present))) ∧
    (p.st = .poll → h.minOctets x ≤ octets (oct &&& w.locks &&& p.present) →
      exec (.pollTimeout { port := x, wiring := w } oct) s =
        .next (s.hubMap (toEqualize (oct &&& w.locks &&& p.present)))) ∧
    (p.st = .equalize → h.minOctets x ≤ octets (oct &&& p.locked) →
      exec (.equalizeDone x oct) s =
        .next (s.hubMap (·.updPort x fun p => { p with st := .config, locked := oct &&& p.locked }))) ∧
    (p.st = .config → h.configCheck x c = none →
      let agreed (p : Port) : Port := { p with
        fec := h.bitAt (portReg x 0) 4, fecNext := h.bitAt (portReg x 0) 4, fecCap := c.fecModes, canSeal := c.canSeal,
        active := p.locked &&& c.octets, training := true,
        advert := (List.range 6).foldl (fun t v => t.set 0 v (c.credits.getD v 0).toNat) []
        rxCredit := (List.range 6).foldl (fun t v => t.set 0 v (hubCredits v)) [], owed := [] }
      exec (.configExchange x c) s =
        if h.bitAt (portReg x 0x10) 0 && p.keyed && c.canSeal then
          .next (s.hubMap fun h => (h.updPort x agreed).updPort x fun p => { p.announce with st := .sealSync, fromRetrain := false })
        else .next (s.hubMap fun h => (h.updPort x agreed).enterActive x))

/-- A training step that fails counts a failed attempt with its reason (R57, R60, R62): 0x01 in POLL, 0x02 in EQUALIZE, 0x03 for
the timeout of CONFIG, 0x04 to 0x07 for the first check of CONFIG that fails (another rate, the hub's FEC mode not supported, a
credit below 8 or above 4,095, too few octets); SEAL_SYNC that lasts 1 ms fences with 0x08. -/
def Obligations.TrainingFailureNamesReason : Prop :=
  ∀ (s : State) (x : Fin 8) (oct : BitVec 8) (w : Wiring) (c : Caps), s.dev.hub.up = true →
    let h := s.dev.hub
    let p := h.port x
    (p.st = .poll → octets (oct &&& w.locks &&& p.present) < h.minOctets x →
      exec (.pollTimeout { port := x, wiring := w } oct) s = .next (s.hubMap (·.failAttempt x 0x01 .detect))) ∧
    (p.st = .equalize → exec (.equalizeTimeout x) s = .next (s.hubMap (·.failAttempt x 0x02 .detect))) ∧
    (p.st = .config → exec (.configTimeout x) s = .next (s.hubMap (·.failAttempt x 0x03 .detect))) ∧
    (∀ r, p.st = .config → h.configCheck x c = some r → 4 ≤ r ∧ r ≤ 7 ∧
      exec (.configExchange x c) s = .next (s.hubMap (·.failAttempt x r .detect))) ∧
    (let rateOk := c.rate.toNat = Config.orderCode.laneRate
     let fecOk := c.fecModes.toNat.testBit (h.fld (portReg x 0) 4 4) = true
     let creditsOk := ∀ v, v < 6 → 8 ≤ (c.credits.getD v 0).toNat ∧ (c.credits.getD v 0).toNat ≤ 4095
     let octetsOk := h.minOctets x ≤ octets (p.locked &&& c.octets)
     (h.configCheck x c = some 4 ↔ ¬ rateOk) ∧ (h.configCheck x c = some 5 ↔ rateOk ∧ ¬ fecOk) ∧
     (h.configCheck x c = some 6 ↔ rateOk ∧ fecOk ∧ ¬ creditsOk) ∧
     (h.configCheck x c = some 7 ↔ rateOk ∧ fecOk ∧ creditsOk ∧ ¬ octetsOk) ∧
     (h.configCheck x c = none ↔ rateOk ∧ fecOk ∧ creditsOk ∧ octetsOk)) ∧
    (p.st = .sealSync → exec (.sealSyncTimeout x) s = .next (s.hubMap (·.fenceAttempt x 0x08)))

/-- A failed attempt (R61): LAST_FAIL and ATTEMPTS show it, and the third in a row takes the port to FAILED with event
0x0201; an earlier one takes it back to DETECT. Every other port is as it was. -/
def Obligations.ThirdFailedAttemptFails : Prop :=
  ∀ (h : Hub) (x r : Nat) (next : LinkState), r ≠ 0 →
    let n := min 15 ((h.port x).attempts + 1)
    let k := h.failAttempt x r next
    (k.port x).lastFail = r ∧ (k.port x).attempts = n ∧ (k.port x).active = 0 ∧ (k.port x).locked = 0 ∧
    (k.port x).st = (if 3 ≤ n then .failed else next) ∧
    (k.port x).txNext = (h.port x).txNext ∧ (k.port x).rxNext = (h.port x).rxNext ∧ (k.port x).retry = (h.port x).retry ∧
    (∀ y, y ≠ x → h.fab.port.wf (fun _ => {}) = true → k.port y = h.port y) ∧
    (n < 3 → k.ev = h.ev ∧ k.ctrs = h.ctrs) ∧
    (3 ≤ n → k = (h.updPort x fun p => { p with
      lastFail := r, attempts := n, training := false, locked := 0, active := 0, st := .failed }).event 0x0201 [.u8 x, .u8 r]) ∧
    k.regs = h.regs ∧ k.tile = h.tile ∧ k.str = h.str ∧ k.hs = h.hs ∧ k.gov = h.gov

/-- What takes an ACTIVE port into RETRAIN, with the octets that stay locked (R60, R76, R81, R82): a lane that loses lock
(cause 1), four uncorrectable codewords in a row (2), one sequence number sent 8 times (3) and a cable that leaves enough
octets (5). In RETRAIN a lane only unlocks its octet. -/
def Obligations.LossEntersRetrain : Prop :=
  ∀ (s : State) (x : Fin 8) (lane : Fin 64) (oct : Option (Fin 8)) (cableB : Bool), s.dev.hub.up = true →
    let h := s.dev.hub
    let p := h.port x
    let o : BitVec 8 := 1#8 <<< (lane.val / 8)
    let left := p.active &&& ~~~cableOctets cableB
    (p.st = .active → p.active &&& o ≠ 0 →
      exec (.laneLockLost x lane) s = .next (s.hubMap (·.enterRetrain x 1 (p.active &&& ~~~o)))) ∧
    (p.st = .retrain → p.active &&& o ≠ 0 →
      exec (.laneLockLost x lane) s = .next (s.hubMap (·.updPort x fun p => { p with locked := p.locked &&& ~~~o }))) ∧
    (p.st = .active → exec (.uncorrectableRun x oct) s = .next (s.hubMap fun h =>
      (h.bump (portReg x 0x40) 4).enterRetrain x 2 (p.active &&& ~~~((oct.map fun o => 1#8 <<< o.val).getD 0)))) ∧
    (∀ before b after n, p.st = .active → p.retry.zip p.sends = before ++ (b, n) :: after → 8 ≤ n → (∀ e ∈ before, e.2 < 8) →
      exec (.retryLimit x) s = .next (s.hubMap fun h =>
        (((h.bump (portReg x 0x20)).event 0x0206 [.u8 x, .u32 b.seq.toNat]).enterRetrain x 3 p.active).updPort x
          fun p => { p with retryLimit := true })) ∧
    (p.st = .active → h.minOctets x ≤ octets left →
      exec (.cableRemoved x cableB) s = .next (s.hubMap fun h =>
        ((((h.updPort x fun p => if cableB then { p with cblB := false } else { p with cblA := false }).cableAbsent x cableB).retire x
          (p.active &&& cableOctets cableB)).enterRetrain x 5 left)))

/-- What fences a port, with its reason (R76, R80, R81, R82, R87, R90): too few octets after a report of RETRAIN (0x07), RETRAIN
that lasts 80 µs (0x09, or 0x0A where the retry limit began it), no credit for 10 µs with a brick waiting (0x0B), a slot
counter at 2^44 (0x0C), and a cable that leaves too few octets of an ACTIVE port (0x0E). -/
def Obligations.FenceNamesReason : Prop :=
  ∀ (s : State) (x vc : Fin 8) (far : BitVec 8) (ann : Option SealAnnounce) (cableB : Bool), s.dev.hub.up = true →
    let h := s.dev.hub
    let p := h.port x
    (p.st = .retrain → far ≠ 0 → p.annOk ann = true → octets (p.active &&& p.locked &&& far) < h.minOctets x →
      exec (.retrainDone x far ann) s = .next (s.hubMap (·.fence x 0x07))) ∧
    (p.st = .retrain → p.retryLimit = false → exec (.retrainTimeout x) s = .next (s.hubMap (·.fence x 0x09))) ∧
    (p.st = .retrain → p.retryLimit = true → exec (.retrainTimeout x) s = .next (s.hubMap (·.fence x 0x0A))) ∧
    (∀ src b, p.st = .active → p.sealHold = false → Tbl.get 0 p.credit vc = 0 → (src, b) ∈ p.egress → b.vc.toNat = vc →
      exec (.creditTimeout x vc) s = .next (s.hubMap fun h => (h.event 0x0207 [.u8 x, .u8 vc]).fence x 0x0B)) ∧
    (p.sealed = true → 2 ^ 44 ≤ p.txCtr →
      exec (.sealCounterExhausted x) s = .next (s.hubMap fun h => (h.event 0x020A [.u8 x, .u8 0]).fence x 0x0C)) ∧
    (p.sealed = true → p.txCtr < 2 ^ 44 → 2 ^ 44 ≤ p.rxCtr →
      exec (.sealCounterExhausted x) s = .next (s.hubMap fun h => (h.event 0x020A [.u8 x, .u8 1]).fence x 0x0C)) ∧
    (p.st = .active → octets (p.active &&& ~~~cableOctets cableB) < h.minOctets x →
      exec (.cableRemoved x cableB) s = .next (s.hubMap fun h =>
        ((h.updPort x fun p => if cableB then { p with cblB := false } else { p with cblA := false }).cableAbsent x cableB).fence x 0x0E))

/-- How a port comes back (R60, R83, R86, R87, R90): a fence for reason 0x09 or 0x0A ends in DETECT after 1 ms; RETRAIN with
enough octets on a plain port that is not held for sealing retires the others and is ACTIVE again, as is a sealed one that adopts
an announced counter no lower than its own; SEAL_SYNC with the counter announced no lower is sealed and ACTIVE; a lower counter
under the same key slot fences with 0x0D; an announcement under the other slot, whose key is installed, switches the receiver to
it and erases the key left behind. A report of no octet, or a sealed port's without an announcement, leaves RETRAIN as it is. -/
def Obligations.PortReturnsToActive : Prop :=
  ∀ (s : State) (x : Fin 8) (far : BitVec 8) (ann : Option SealAnnounce) (a : SealAnnounce), s.dev.hub.up = true →
    let h := s.dev.hub
    let p := h.port x
    let stay := p.active &&& p.locked &&& far
    (p.st = .fenced → p.lastFail = 0x09 ∨ p.lastFail = 0x0A →
      exec (.fenceReentryTimeout x) s = .next (s.hubMap (·.updPort x fun p => { p with st := .detect }))) ∧
    let back (h : Hub) : Hub := (h.retire x (p.active &&& ~~~stay)).updPort x fun p => { p with
      fec := p.fecNext, sealed := p.sealed && !p.toPlain, toPlain := false, overdue := p.overdue && !p.toPlain }
    (p.st = .retrain → far ≠ 0 → h.minOctets x ≤ octets stay → p.sealHold = false →
      (p.sealed = false → exec (.retrainDone x far ann) s = .next (s.hubMap fun h => (back h).enterActive x)) ∧
      (p.sealed = true → p.toPlain = false → ann = some a → p.rxKey a.slot ≠ [] → a.slot = p.rxSlot →
        (p.rxCtr ≤ a.counter → exec (.retrainDone x far ann) s = .next (s.hubMap fun h =>
          ((back h).updPort x fun p => { p with rxCtr := a.counter }).enterActive x)) ∧
        (a.counter < p.rxCtr → exec (.retrainDone x far ann) s = .next (s.hubMap fun h => (back h).fenceAttempt x 0x0D)))) ∧
    (p.st = .retrain → far = 0 ∨ p.annOk ann = false → exec (.retrainDone x far ann) s = .next s) ∧
    (p.st = .sealSync → p.heldIn = [] → p.rxKey a.slot ≠ [] →
      let sealed (h : Hub) : Hub := (h.updPort x fun p => { p with sealed := true, sealHold := false, heldIn := [] }).enterActive x
      (a.slot = p.rxSlot → p.rxCtr ≤ a.counter → exec (.sealSyncDone x a) s = .next (s.hubMap fun h =>
        sealed (h.updPort x fun p => { p with rxCtr := a.counter }))) ∧
      (a.slot = p.rxSlot → a.counter < p.rxCtr → exec (.sealSyncDone x a) s = .next (s.hubMap (·.fenceAttempt x 0x0D))) ∧
      (a.slot ≠ p.rxSlot → exec (.sealSyncDone x a) s = .next (s.hubMap fun h => sealed
        ((h.updPort x fun p => { p with rxSlot := a.slot, rxCtr := a.counter, rxOverdue := false
                                        rxKey0 := if a.slot then [] else p.rxKey0, rxKey1 := if a.slot then p.rxKey1 else [] }).event
          0x0208 [.u8 x, .u8 1, .u8 (b2n a.slot)]))))

/-- A cable that is inserted (R59, R61, R83): its presence shows, ATTEMPTS is 0, a fenced or failed port goes to DETECT and an
ACTIVE one below its full width is marked for a full attempt; its record is read and kept where it passes the checks of R428,
and counts as unreadable otherwise. The rest of the port is as it was. -/
def Obligations.CableInsertionShows : Prop :=
  ∀ (s : State) (x : Fin 8) (cableB : Bool) (image : Option (List Byte)), s.dev.hub.up = true →
    ∃ t, exec (.cableInserted x cableB image) s = .next t ∧
      let p := s.dev.hub.port x
      t.dev.hub.port x = { p with
        cblA := if cableB then p.cblA else true
        cblB := if cableB then true else p.cblB
        attempts := 0
        st := if p.st = .fenced ∨ p.st = .failed then .detect else p.st
        reinsert := p.reinsert || (p.st == .active && p.active != 0xFF) } ∧
      t.dev.hub.bus.cable = setBit s.dev.hub.bus.cable (2 * x + b2n cableB) true ∧
      t.dev.hub.idMem x (0x54 + b2n cableB) = (match image with
        | some bs => if cableOk bs && !s.dev.hub.bus.idFault.testBit x then { st := 2, bytes := bs } else { st := 3 }
        | none => { st := 3 }) ∧
      t.dev.hub.regs = s.dev.hub.regs ∧ t.dev.hub.hods = s.dev.hub.hods ∧ t.dev.mem = s.dev.mem ∧ t.pending = s.pending

/-- A brick on an ACTIVE plain port (R73, R75): the FEC counts advance; a slot whose CRC fails is dropped and NAKed; an
acknowledgement is honoured; the expected sequence number is accepted, a number behind it is counted as a duplicate and
dropped, and one ahead of it asks for a NAK. -/
def Obligations.BricksAcceptedInSequence : Prop :=
  ∀ (s : State) (x : Fin 8) (b : Brick) (cor unc : Nat), s.dev.hub.up = true →
    let p := s.dev.hub.port x
    let fec (h : Hub) : Hub :=
      let h := if cor = 0 then h else h.bump (portReg x 0x38) cor
      if unc = 0 then h else h.bump (portReg x 0x40) unc
    let acked (h : Hub) : Hub := if b.ackValid then (fec h).updPort x (·.takeAck b.ack) else fec h
    let behind := (p.rxNext - b.seq).toNat
    p.st = .active → p.sealed = false →
    (b.check ≠ b.crc → exec (.brickReceived x b cor unc) s = .next (s.hubMap fun h => (fec h).badSlot x)) ∧
    (b.check = b.crc → b.is .idle = false → b.is .nak = false →
      (b.seq = p.rxNext → exec (.brickReceived x b cor unc) s = .next (s.hubMap fun h => (acked h).acceptBrick x b)) ∧
      (0 < behind → behind ≤ 2 ^ 31 →
        exec (.brickReceived x b cor unc) s = .next (s.hubMap fun h => (acked h).bump (portReg x 0x30))) ∧
      (2 ^ 31 < behind → exec (.brickReceived x b cor unc) s = .next (s.hubMap fun h => (acked h).wantNak x)))

/-- NAKs, acknowledgements and replays of an ACTIVE port (R74, R75, R76): a NAK that names an unacknowledged brick goes back
to it and is counted; 1 µs after a NAK it is repeated while its brick is missing; an acknowledgement falls due 100 ns after an
accepted brick; 2 µs without progress replay from the oldest unacknowledged brick. The rest of the machine is as it was. -/
def Obligations.LinkTimersActOnPort : Prop :=
  ∀ (s : State) (x : Fin 8) (seq : BitVec 32), s.dev.hub.up = true →
    let p := s.dev.hub.port x
    p.st = .active →
    (∀ i, p.retry.findIdx? (fun r => r.seq == seq) = some i → exec (.nakReceived x seq) s = .next (s.hubMap fun h =>
      (h.updPort x fun p => { p with resend := p.retry.length - i }).bump (portReg x 0x20))) ∧
    (p.nakWait = true → exec (.nakRepeatTimeout x) s = .next (s.hubMap (·.updPort x fun p => { p with nakOut := true }))) ∧
    (0 < p.ackDue → exec (.ackTimer x) s = .next (s.hubMap (·.updPort x fun p => { p with ackOut := true }))) ∧
    (p.retry ≠ [] → exec (.replayTimeout x) s = .next (s.hubMap fun h =>
      (h.updPort x fun p => { p with resend := p.retry.length }).bump (portReg x 0x20)))

/-- One egress slot of an ACTIVE port outside self-throttle (R70, R72, R74, R76, R77, R110): a due NAK comes first, then a brick
to replay, whose sendings are counted, then nothing new while 2,048 bricks are unacknowledged; else the brick that arbitration
chooses, a CREDIT brick where credits are owed, or IDLE; a chosen brick not allowed on its VC is discarded, counted and recorded.
Under self-throttle PORT_PCT of the slots carry bricks and IDLE fills the rest (R544). -/
def Obligations.EgressSlotOrder : Prop :=
  ∀ (s : State) (x : Fin 8) (od : List (Nat × Nat)), s.dev.hub.up = true →
    let h := s.dev.hub
    let p := h.port x
    p.st = .active → (p.sealed = true → p.txCtr < 2 ^ 44) →
    (h.therm.throt = false →
      (p.nakOut = true → exec (.brickTransmit x od) s = .next (s.hubMap fun h =>
        (h.emitSlot x { typ := 0x01, seq := p.rxNext }).updPort x fun p => { p with nakOut := false })) ∧
      (∀ b, p.nakOut = false → 0 < p.resend → p.retry[p.retry.length - p.resend]? = some b →
        exec (.brickTransmit x od) s = .next (s.hubMap fun h =>
          (h.emitSlot x { b with retry := true }).updPort x fun p => { p with
            resend := p.resend - 1, sends := p.sends.modify (p.retry.length - p.resend) (· + 1) })) ∧
      (p.nakOut = false → p.resend = 0 → 2048 ≤ p.retry.length →
        exec (.brickTransmit x od) s = .next (s.hubMap (·.emitSlot x { typ := 0x00 }))) ∧
      (∀ it p', p.nakOut = false → p.resend = 0 → p.retry.length < 2048 → h.choose x od = some (it, p') →
        (it.2.vcOk = true → exec (.brickTransmit x od) s = .next (s.hubMap (·.sendChosen x it p'))) ∧
        (it.2.vcOk = false → it.2.bt.isSome = true → 8 ≤ it.1 → exec (.brickTransmit x od) s = .next (s.hubMap fun h =>
          ((((h.bump (portReg x 0x48)).eventOnce 0x020C x [.u8 x, .u8 4, .u8 it.2.typ.toNat, .u8 it.2.vc.toNat, .u8 it.2.dst.toNat,
            .u8 it.2.src.toNat]).updPort x fun p => { p with egress := p.egress.erase it }).emitSlot x { typ := 0x00 })))) ∧
      (p.nakOut = false → p.resend = 0 → p.retry.length < 2048 → h.choose x od = none →
        exec (.brickTransmit x od) s = .next (s.hubMap fun h =>
          if p.creditField.2 = 0 then h.emitSlot x { typ := 0x00 } else h.emitSequenced x { typ := 0x02 }))) ∧
    (h.therm.throt = true → p.thr + h.fld 0x100034 6 0 < 100 →
      exec (.brickTransmit x od) s = .next (s.hubMap fun h =>
        (h.updPort x fun q => { q with thr := p.thr + h.fld 0x100034 6 0 }).emitSlot x { typ := 0x00 }))

/-- Rekeying and the seal exchange (R87, R486, R488): a counter at 2^39 whose next key is missing starts an exchange for the
other slot; a transmit counter at 2^40 switches to the other slot where its key is installed, with event 0x0208, and is overdue
otherwise, with event 0x0209, as is the receive direction whose next key is missing; neither CONFIRM nor REJECT within 20 ms, and a REJECT of the present exchange, fail the attempt
with 0x04 and 0x05; a whole ACCEPT is checked, and a fragment before it is kept. -/
def Obligations.SealExchangeRows : Prop :=
  ∀ (s : State) (x : Fin 8), s.dev.hub.up = true →
    let h := s.dev.hub
    let p := h.port x
    (∀ slot, p.rekeySlot = some slot → p.st = .active → p.sealed = true → p.ex.xstate ≠ 1 →
      exec (.rekeyRequest x) s = .next (s.hubMap fun h =>
        (h.updPort x fun p => { p with ex := { p.ex with rekey := true, want := true, slot := slot, fails := 0 } }).rekeyStart x)) ∧
    (p.sealed = true → 2 ^ 40 ≤ p.txCtr → p.txCtr < 2 ^ 44 → p.rxCtr < 2 ^ 40 → p.txKey (!p.txSlot) ≠ [] →
      exec (.rekeySwitch x) s = .next (s.hubMap fun h => (h.updPort x fun p => { p with
        txSlot := !p.txSlot, txCtr := 0, overdue := false
        txKey0 := if p.txSlot then p.txKey0 else [], txKey1 := if p.txSlot then [] else p.txKey1 }).event 0x0208
          [.u8 x, .u8 0, .u8 (b2n (!p.txSlot))])) ∧
    (p.sealed = true → 2 ^ 40 ≤ p.txCtr → p.txCtr < 2 ^ 44 → p.rxCtr < 2 ^ 40 → p.txKey (!p.txSlot) = [] → p.overdue = false →
      exec (.rekeySwitch x) s = .next (s.hubMap fun h =>
        (h.updPort x fun p => { p with overdue := true }).event 0x0209 [.u8 x, .u8 0])) ∧
    (p.sealed = true → p.txCtr < 2 ^ 40 → 2 ^ 40 ≤ p.rxCtr → p.rxCtr < 2 ^ 44 → p.rxKey (!p.rxSlot) = [] → p.rxOverdue = false →
      exec (.rekeySwitch x) s = .next (s.hubMap fun h =>
        (h.updPort x fun p => { p with rxOverdue := true }).event 0x0209 [.u8 x, .u8 1])) ∧
    (p.ex.xstate = 1 → exec (.sealExchangeTimeout x) s = .next (s.hubMap (·.sealFail x 0x04))) ∧
    (∀ b k, h.takeMgmt x (fun m => m == 0x43) = some (b, k) → (k.port x).ex.xstate = 1 → b.sealXid = (k.port x).ex.xid →
      exec (.sealRejectReceived x) s = .next (s.hubMap fun _ => k.sealFail x 0x05)) ∧
    (∀ b k, h.takeMgmt x (fun m => m != 0x30 && m != 0x43) = some (b, k) →
      let ex := (k.port x).ex
      ex.xstate = 1 → b.sealMsg = 0x41 → b.sealXid = ex.xid → fragmentOk ex b = true →
        exec (.sealAccept x) s = .next (s.hubMap fun _ =>
          if b.last then k.accept x (ex.body ++ b.data.drop 8)
          else k.updPort x fun p => { p with ex := { p.ex with body := ex.body ++ b.data.drop 8 } }))

/-! ### Starts, resets and the phases of a course -/

/-- What a base die held in power-on reset holds (R376): every register but the always-on ones of the footing die at its reset
value, no queue, link, hod, transaction, collective, step, stream, object or session, tile SRAM and spill memory empty. The
flash, the fuses, the log, the field list of repairs and the state of the footing die are those of `s`. The pumps' COOL.CH_CFG follows COOL_MODE
(R335). -/
def BaseHeldInReset (s t : State) : Prop :=
  let h := s.dev.hub
  let k := t.dev.hub
  k.up = false ∧
  (∀ a, (onFooting a && regAo a) = false → a ≠ coolReg 12 0 → a ≠ coolReg 13 0 → k.reg a = (regReset a).toNat) ∧
  (∀ a, onFooting a = false → k.ctr a = {}) ∧
  k.crs = {} ∧ k.hods = {} ∧ k.rb = {} ∧ k.fab = {} ∧ k.tile = h.tile.repairs ∧ k.mortar = {} ∧
  k.smp = {} ∧ k.str = {} ∧ k.sync = {} ∧ k.rack = {} ∧ k.sec = {} ∧ k.safety = {} ∧
  k.ev.shadow = [] ∧ k.ev.log = h.ev.log ∧ k.ev.journalA = h.ev.journalA ∧ k.ev.journalB = h.ev.journalB ∧
  k.fw = { bcr0 := h.fw.bcr0, bcr1 := h.fw.bcr1 } ∧
  t.dev.mem = { tile := [], spill := [], flash := s.dev.mem.flash } ∧ t.dev.otp = s.dev.otp ∧ t.pending = s.pending

/-- What puts the base die in power-on reset (R24, R376, R541, R549): HUB_RST_L asserted or the first rise of its supplies, a
supply out of range, the loss of the crystal and the loss of VIN_AUX. The channels' states stay but for the last, which resets
the footing die too and releases the latch of a thermal trip; a supply out of range throttles every sled. -/
def Obligations.PowerEventsResetBaseDie : Prop :=
  ∀ (s : State) (rise : Bool),
    let h := s.dev.hub
    (∃ t, exec (.powerOnReset rise) s = .next t ∧ BaseHeldInReset s t ∧ t.dev.hub.therm.aux = h.therm.aux ∧
      t.dev.hub.therm.supply = (if rise then true else h.therm.supply) ∧ t.dev.hub.therm.tripLatch = h.therm.tripLatch ∧
      t.dev.hub.cool.rope = h.cool.rope ∧ t.dev.hub.hs.vbus = h.hs.vbus ∧ t.dev.hub.hs.baseThrot = h.therm.aux ∧
      (h.hs.ch.wf (fun _ => {}) = true →
        ∀ c < 10, (t.dev.hub.hsCh c).st = (h.hsCh c).st ∧ (t.dev.hub.hsCh c).seated = (h.hsCh c).seated)) ∧
    (∃ t, exec .baseSupplyLoss s = .next t ∧ BaseHeldInReset s t ∧ t.dev.hub.therm.supply = false ∧
      t.dev.hub.hs.baseThrot = h.therm.aux ∧ t.dev.hub.cool.rope = h.cool.rope) ∧
    (∃ t, exec .crystalLost s = .next t ∧ BaseHeldInReset s t ∧ t.dev.hub.therm.xtalLost = true ∧
      t.dev.hub.cool.rope = h.cool.rope) ∧
    (∃ t, exec .vinAuxLoss s = .next t ∧ BaseHeldInReset s t ∧ t.dev.hub.therm.aux = false ∧
      t.dev.hub.therm.tripLatch = false ∧ t.dev.hub.hs.baseThrot = false ∧ t.dev.hub.cool.rope = [])

/-- VIN_AUX rises (R376): the footing die samples COOL_MODE and CRIT_SEL and starts with nothing latched; every
channel is in WAIT_SEAT (R313), H9 enabled, and H8 as COOL_MODE says (R306); the base die is in reset. -/
def Obligations.FootingPowerOnResets : Prop :=
  ∀ (s : State) (liquid : Bool) (crit : BitVec 2), ∃ t, exec (.footingPowerOn liquid crit) s = .next t ∧
    BaseHeldInReset s t ∧ t.dev.hub.therm.aux = true ∧ t.dev.hub.therm.straps = { coolMode := liquid, critSel := crit } ∧
    t.dev.hub.therm.tripLatch = false ∧ t.dev.hub.cool.liquid = liquid ∧ t.dev.hub.cool.critSel = crit.toNat ∧
    t.dev.hub.shdn = false ∧ (∀ c < 10, (t.dev.hub.hsCh c).st = .waitSeat) ∧ t.dev.hub.hsEn 8 = liquid ∧ t.dev.hub.hsEn 9 = true

/-- The base die starts (R502, R545, R549, R550): with its supplies, VIN_AUX and the crystal in range and no trip latched, the
rise of HUB_RST_L, or the return of the crystal, samples the straps; RESET_CAUSE says whether VIN_AUX was lost; the first
record is 0x1405. 100 ms of HUB_RST_L low release the latch of a thermal trip. -/
def Obligations.BaseDieStarts : Prop :=
  ∀ (s : State) (b : Boot),
    let h := s.dev.hub
    let started (t : State) : Prop :=
      t.dev.hub.up = true ∧ t.dev.hub.therm.straps.smbAddr = b.smbAddr ∧ t.dev.hub.therm.straps.mgrEn = b.mgrEn ∧
      t.dev.hub.therm.straps.bootKiln = b.bootKiln ∧ t.dev.hub.bus.smbAddr = 0x60 + b.smbAddr.toNat ∧
      t.dev.hub.rb.cause = (if h.therm.auxLost then 0 else 1) ∧ t.dev.hub.therm.xtalLost = false ∧
      (h.ev.shadow = [] → h.ev.full = false → (t.dev.hub.ev.shadow.head?.map (·.code)) = some 0x1405) ∧
      t.dev.mem = s.dev.mem ∧ t.dev.otp = s.dev.otp ∧ t.pending = s.pending
    (h.up = false → h.therm.supply = true → h.therm.aux = true → h.therm.tripLatch = false →
      (h.therm.xtalLost = false → ∃ t, exec (.hubRstDeassert b) s = .next t ∧ started t) ∧
      (h.therm.xtalLost = true → ∃ t, exec (.crystalRestored b) s = .next t ∧ started t)) ∧
    (h.up = false → h.therm.tripLatch = true →
      exec .thermtripLatchRelease s = .next (s.hubMap fun h =>
        h.driveShdn (fun h => { h with therm := { h.therm with tripLatch := false } }) 0xFF h.therm.tripReading))

/-- The phases of a course (R36, R41, R43, R44, R45, R47, R255, R370, R376, R448, R459), and what each command of them leaves:
COURSE_BOUNDARY advances the counter and, in a rack sleep, does no more than let leases run down; a scheduled warm reset takes the
place of the changes, with every base-die register that is not always on at its reset value; else what waits at the units meets the
old settings, the governor closes the course, and steps 2 to 8 of R41 follow in their order. TELEMETRY_CLOSE judges the bricks that
wait, takes the temperatures and computes once a course. GRANT_POINT hands the grants over, each to a port that is ACTIVE, or, where
the course is late, sends none and counts, the eighth late course in a row being flagged and recorded (log entry 86 for the payload).
CRC_COMPLETE compares the live CRC with both copies. ROM_BOOT enters kiln mode under the strap, else runs the first image that
verifies, the active slot's before the other's. -/
def Obligations.CoursePhases : Prop :=
  ∀ (s : State) (m : CourseMeas), s.dev.hub.up = true →
    let h := s.dev.hub
    (h.bus.sleep = .asleep ∨ h.bus.sleep = .exiting → exec .courseBoundary s = .next (s.hubMap (·.nextCourse.leaseBoundary))) ∧
    (∀ cause who, h.bus.sleep = .awake ∨ h.bus.sleep = .entering → h.rb.warm = some (cause, who) →
      exec .courseBoundary s = .next (s.hubMap fun h => (h.endCourse.nextCourse).warmReset cause who)) ∧
    (∀ cause who a, regAo a = false → a ≠ coolReg 12 0 → a ≠ coolReg 13 0 →
      (h.warmReset cause who).reg a = (regReset a).toNat ∧ (h.warmReset cause who).rb.cause = cause ∧
      (h.warmReset cause who).crs.count = h.crs.count ∧ (h.warmReset cause who).fab.inbox = [] ∧
      (h.warmReset cause who).up = true) ∧
    (h.bus.sleep = .awake ∨ h.bus.sleep = .entering → h.rb.warm = none →
      let d := (s.dev.hubMap (·.zoneUpdate)).drainUnits
      let e := d.recheck
      let all := e.hub.rb.staged
      let hold := e.holds226 all
      let out := if hold then all.filter (fun i => !i.isJobStart) else all
      let kept := if hold then all.filter (fun i => i.isJobStart) else []
      let plans := e.plansAfter out hold
      let cs := plans.map (fun p => p.now)
      let one := e.hubMap fun h => (h.endCourse.emuReport).nextCourse
      let three := (one.hubMap (·.step2 d.hub.crs.count.toNat out cs)).step3 out cs
      let seven := (three.1.steps456 three.2 out cs).hubMap (·.coolStep)
      let eight := (seven.unitsAtBoundary.hubMap fun h => { h with sec := h.sec.age h.crs.period }).step8
      exec .courseBoundary s = .next (s.devMap fun _ =>
        eight.hubMap fun h => ((plans.foldl (fun h p => h.closePlan p) h).afterChanges one.hub kept).bringRef)) ∧
    (h.rack.jump = none →
      h.nextCourse.crs.count = h.crs.count + 1 ∧ h.nextCourse.crs.prevLate = h.crs.late ∧ h.nextCourse.crs.late = false ∧
      h.nextCourse.crs.closed = false ∧ h.nextCourse.crs.granted = false ∧
      h.nextCourse.crs.wrap = (h.crs.wrap || h.crs.count == BitVec.allOnes 48) ∧ h.nextCourse.regs = h.regs) ∧
    (h.crs.closed = false → exec (.telemetryClose m) s = .next (s.hubMap fun h => h.drainTelemetry.coolSnap.govClose m) ∧
      (h.drainTelemetry.coolSnap.govClose m).crs = { h.crs with closed := true }) ∧
    (h.crs.closed = true → exec (.telemetryClose m) s = .next s) ∧
    (h.crs.granted = false → h.crs.lateRun ≠ 7 →
      exec (.grantPoint true) s = .next (s.hubMap fun h =>
        { h with crs := { h.crs with granted := true, late := true, lateRun := min 255 (h.crs.lateRun + 1) } }.bump 0x100018)) ∧
    (h.crs.granted = false → h.crs.lateRun = 7 →
      exec (.grantPoint true) s = .next (s.hubMap fun h =>
        (({ h with crs := { h.crs with granted := true, late := true, lateRun := 8 } }.bump 0x100018).flag 0x100014 2).event
          0x0110 [.u8 8])) ∧
    (h.crs.granted = false → exec (.grantPoint false) s = .next (s.hubMap fun h =>
      (List.range 8).foldl Hub.handGrant { h with crs := { h.crs with granted := true, lateRun := 0 } })) ∧
    (h.crs.granted = true → ∀ late, exec (.grantPoint late) s = .next s) ∧
    (∀ (x : Fin 8) g, (h.acc x).next = some g →
      (h.powered x = true → (h.port x).st = .active → (h.acc x).sent = false →
        h.handGrant x = (h.send x 0xC2 (h.grantBrick x g)).updAcc x (fun g => { g with sent := true })) ∧
      ((h.port x).st ≠ .active → h.handGrant x = h)) ∧
    (∀ a b, h.rb.crcBusy = true → h.refOutstanding = false → h.rb.refA = some a → h.rb.refB = some b →
      h.bitAt 0xF00008 0 = true → h.rb.goodA = none →
      let h' := h.updRb fun b => { b with crcBusy := false }
      exec .crcComplete s = .next (s.hubMap fun _ =>
        if h.rb.crc = a ∧ h.rb.crc = b then h'.crcTo .ok
        else if h.rb.crc = a then h'.crcRefBad true a b
        else if h.rb.crc = b then h'.crcRefBad false a b
        else h'.crcMismatch a b)) ∧
    (h.refOutstanding = true → h.rb.crcBusy = true → exec .crcComplete s = .next (s.hubMap fun h =>
      (h.updRb fun b => { b with crcBusy := false }).crcTo .pending)) ∧
    (h.fw.phase = .off → h.fw.run = none →
      let cause := if h.bootCheck.rb.cause < 2 then 0 else 1
      let d := s.dev.hubMap fun h => { h.bootCheck with fw := { h.bootCheck.fw with cause } }
      let e := d.hubMap fun h => h.flagIf h.fw.record.isNone 0x1200000 4
      let a := e.hub.fw.active.hub
      let one := e.verify 1 (b2n a)
      let two := one.2.2.verify 1 (b2n !a)
      (h.bootCheck.therm.straps.bootKiln = true →
        exec .romBoot s = .next (s.devMap fun _ => (d.hubMap (·.enterKiln 1)).coreReady)) ∧
      (h.bootCheck.therm.straps.bootKiln = false →
        (one.1 = 0 → exec .romBoot s = .next (s.devMap fun _ => (one.2.2.hubMap fun h =>
          (h.runImage (imageOf a one.2.1) cause).runEvent (imageOf a one.2.1) cause).coreReady)) ∧
        (one.1 ≠ 0 → two.1 = 0 → exec .romBoot s = .next (s.devMap fun _ => (two.2.2.hubMap fun h =>
          (((h.runImage (imageOf (!a) two.2.1) cause).updFw (fun f => { f with bootRec := true })).flag 0x1200000 4).event 0x1202
            [.u8 (b2n a), .u8 one.1, .u8 (b2n !a)]).coreReady)) ∧
        (one.1 ≠ 0 → two.1 ≠ 0 → exec .romBoot s = .next (s.devMap fun _ => (two.2.2.hubMap (·.enterKiln 2)).coreReady))))

/-- Lost and restored clocks, self-throttle and switched domains (R309, R544, R549): REFCLK_SD lost shows in CLK_STATUS and takes
every port's lock; a lost 32.768 kHz clock is substituted and shows; their return is recorded. An alert starts self-throttle,
which ends below 95 °C. A domain that is switched on gives its engine, sampler or seal engine back, or sets its group's tiles testing. -/
def Obligations.ClockThrottleAndDomainRows : Prop :=
  ∀ (s : State) (dom : Fin 171), s.dev.hub.up = true →
    let h := s.dev.hub
    (h.therm.refclkLost = false → exec .refclkSdLost s = .next (s.hubMap fun h =>
      (List.range 8).foldl (fun h x =>
          if (h.port x).st = .active then h.enterRetrain x 1 0 else h.updPort x fun p => { p with locked := 0 })
        (({ h with therm := { h.therm with refclkLost := true } }.flag 0x100038 1).event 0x0113 [.u8 0, .u8 0]))) ∧
    (h.therm.refclkLost = true → exec .refclkSdRestored s = .next (s.hubMap fun h =>
      { h with therm := { h.therm with refclkLost := false } }.event 0x0113 [.u8 0, .u8 1])) ∧
    (h.therm.subst = false → exec .clk32kLost s = .next (s.hubMap fun h =>
      ({ h with therm := { h.therm with subst := true } }.flag 0x100038 2).event 0x0113 [.u8 2, .u8 0])) ∧
    (h.therm.subst = true → exec .clk32kRestored s = .next (s.hubMap fun h =>
      { h with therm := { h.therm with subst := false } }.event 0x0113 [.u8 2, .u8 1])) ∧
    (h.therm.throt = false → exec .hubVralertAssert s = .next (s.hubMap fun h =>
      { h with therm := { h.therm with throt := true, causeVr := true } }.event 0x0111
        [.u8 1, .u8 (b2n h.therm.causeTj), .u8 1, .u16 (unsigned 16 h.hubTj)])) ∧
    (h.therm.throt = true → exec .hubVralertAssert s = .next (s.hubMap fun h =>
      { h with therm := { h.therm with causeVr := true } })) ∧
    (h.therm.throt = true → h.hubTj < 760 → exec .hubThrottleExit s = .next (s.hubMap fun h =>
      { h with therm := { h.therm with throt := false, causeTj := false, causeVr := false } }.event 0x0111
        [.u8 0, .u8 0, .u8 0, .u16 (unsigned 16 h.hubTj)])) ∧
    (64 ≤ dom.val → dom.val < 128 → h.groupPower (dom - 64) = .starting →
      exec (.domainSwitchOnComplete dom) s = .next (s.hubMap fun h =>
        (groupTiles (dom - 64)).foldl (fun h n => if (h.tileAt n).st = .unpowered then h.startTest n else h)
          (h.setGroup (dom - 64) .on))) ∧
    (128 ≤ dom.val → dom.val < 152 → h.bitAt 0x600004 (dom - 128) = true → h.mortar.failed.testBit (dom - 128) = false →
      exec (.domainSwitchOnComplete dom) s = .next (s.hubMap fun h =>
        { h with mortar := { h.mortar with on := setBit h.mortar.on (dom - 128) true } }.mortarPause)) ∧
    (152 ≤ dom.val → dom.val < 154 → h.smpUp (dom - 152) = true →
      exec (.domainSwitchOnComplete dom) s = .next (s.hubMap fun h =>
        { h with smp := { h.smp with on := setBit h.smp.on (dom - 152) true } }.noteSamplers)) ∧
    (154 ≤ dom.val → dom.val < 162 → h.sealWanted (dom - 154) = true →
      exec (.domainSwitchOnComplete dom) s = .next (s.hubMap (·.updPort (dom - 154) fun p => { p with sealUp := true })))

/-! ### The register file -/

/-- The course period (R34): PERIOD_US is 50 at reset; a write of 20 to 1,000 by a privileged master that has nothing staged there
is staged for the boundary, in force until then being the old value; any other value is ignored and sets
TOP.CRS_STATUS.BAD_PERIOD; the course that begins at the boundary has the new length on a hub that stands alone. -/
def Obligations.CoursePeriodWrite : Prop :=
  State.reset.dev.hub.fld 0x100000 9 0 = 50 ∧ State.reset.dev.hub.crs.period = 50 ∧
  ∀ (s : State) (m : Master) (v : Word), s.dev.hub.up = true → s.dev.hub.privileged m = true →
    s.dev.hub.openTxn m.req = none → s.dev.hub.lockedBy 0x100000 = none →
    (∀ i ∈ s.dev.hub.rb.staged, i.isRegAt 0x100000 = false) →
    (20 ≤ v.toNat % 1024 → v.toNat % 1024 ≤ 1000 →
      exec (.crsPeriodWrite m v) s = .next (s.hubMap (·.stage (.reg m.req.id 0x100000 0x3FF (v.toNat % 1024)))) ∧
      ∀ h : Hub, h.rack.role = .standalone → h.rack.pending = none →
        (h.step2 0 [.reg m.req.id 0x100000 0x3FF (v.toNat % 1024)] []).crs.period =
          (h.setReg 0x100000 (mergeBits 0x3FF (h.reg 0x100000) (v.toNat % 1024))).fld 0x100000 9 0) ∧
    (v.toNat % 1024 < 20 ∨ 1000 < v.toNat % 1024 →
      exec (.crsPeriodWrite m v) s = .next (s.hubMap (·.flag 0x100014 1)))

/-- The command bits of write-masked control registers (R95, R301, R313, R332, R365): a privileged master's write of one, with
nothing staged at its register, is staged for the boundary as that bit alone, with no other effect. What the boundary then does
with it: PORT_CTRL.RETRAIN takes an ACTIVE port through a full attempt and FENCE_RELEASE a FENCED or FAILED one to DETECT with
ATTEMPTS 0; CH_CTRL.OFF and ON command the channel, ON taking CMD_OFF to WAIT_SLOT, and RELEASE releases one whose hold has ended;
LEAK_CTRL.CLEAR ends the action of each rope named that has been DRY. -/
def Obligations.ControlBitsStaged : Prop :=
  ∀ (s : State) (m : Master) (x : Fin 8) (c : Fin 10) (mask : BitVec 6), s.dev.hub.up = true →
    s.dev.hub.privileged m = true → s.dev.hub.openTxn m.req = none →
    let h := s.dev.hub
    let clear (a : Nat) : Prop := h.lockedBy a = none ∧ ∀ i ∈ h.rb.staged, i.isRegAt a = false
    let stages (i : Instr) (a v : Nat) : Prop :=
      exec i s = .next (s.hubMap (·.stage (.reg m.req.id a v v)))
    (clear (portReg x 4) → stages (.portCtrlRetrain m x) (portReg x 4) 1 ∧
      stages (.portCtrlFenceRelease m x) (portReg x 4) 2) ∧
    (clear (hsReg c 0xC) → stages (.chCtrlOff m c) (hsReg c 0xC) 1 ∧ stages (.chCtrlOn m c) (hsReg c 0xC) 2 ∧
      stages (.chCtrlRelease m c) (hsReg c 0xC) 4) ∧
    (clear 0xD00004 → mask ≠ 0 → stages (.leakCtrlClear m mask) 0xD00004 mask.toNat) ∧
    ∀ (d : Dev) (who : Nat),
      d.applyReg who (portReg x 4) 1 1 = d.hubMap (·.fullAttempt x) ∧
      ((d.hub.port x).st = .active →
        d.hub.fullAttempt x = ((d.hub.sealAbandon x).dispose x .detect).loseSync x) ∧
      ((d.hub.port x).st ≠ .active → d.hub.fullAttempt x = d.hub) ∧
      ((d.hub.port x).st = .fenced ∨ (d.hub.port x).st = .failed → d.applyReg who (portReg x 4) 2 2 =
        d.hubMap (·.updPort x fun p => { p with st := .detect, attempts := 0 })) ∧
      d.applyReg who (hsReg c 0xC) 1 1 = d.hubMap (·.cmdOff c) ∧
      ((d.hub.hsCh c).st = .cmdOff → d.applyReg who (hsReg c 0xC) 2 2 = d.hubMap fun h =>
        (h.pushAgain c).updHs c fun k => { k with st := if k.seated then .waitSlot else .waitSeat }) ∧
      (d.hub.release? c = .ok [] → d.applyReg who (hsReg c 0xC) 4 4 = d.hubMap fun h =>
        (h.updHs c (fun k => { k with st := if k.seated then .waitSlot else .waitSeat, retries := 0 })).event 0x0B04
          [.u8 c, .u8 who]) ∧
      d.applyReg who 0xD00004 mask.toNat mask.toNat = d.hubMap fun h => (onesBelow 6 mask.toNat).foldl (fun h r =>
        if h.clearable r then h.leakClear r who else if (h.rope r).action then h.flag 0xD00000 0 else h) h

/-- 64-bit pairs and read-clear fields (R362, R363, R364, R366, R514): a LO read by a master that has the register returns the
low half, latches the high half, the wrap flag and the address for that master alone and clears the flag; a HI read at the
latched address returns the latched half and clears STRAY, any other returns the live half and sets it; the HI write of
EVREC.WALL_REF applies all 64 bits where the same master's LO write is held and is ignored with BAD_ACCESS where none is; the
read of a monitor's extremes returns and clears them. -/
def Obligations.PairAccesses : Prop :=
  ∀ (s : State) (m : Master) (a v : Word) (r : RegRow) (priv : Bool), s.dev.hub.up = true → s.dev.hub.right m a.toNat = .has r priv →
    a.toNat % 4 = 0 → a.toNat < 0x1600000 →
    let d := s.dev
    let mask := r.maskFor priv (fun _ => true)
    let sh := d.hub.shadow m
    (r.half = .lo → exec (.pairLoRead m a) s = .next (s.hubMap fun h =>
      ((h.setShadow m fun k => { k with
        hi := (d.pair a.toNat).1 / 2 ^ 32, wrap := (d.pair a.toNat).2, addr := some a.toNat }).clearWrap a.toNat).rdata
          ((d.pair a.toNat).1 % 2 ^ 32 &&& mask))) ∧
    (r.half = .hi → sh.addr = some (a.toNat - 4) → exec (.pairHiRead m a) s = .next (s.hubMap fun h =>
      (h.setShadow m fun k => { k with stray := false }).rdata (sh.hi &&& mask))) ∧
    (r.half = .hi → sh.addr ≠ some (a.toNat - 4) → exec (.pairHiRead m a) s = .next (s.hubMap fun h =>
      (h.setShadow m fun k => { k with stray := true }).rdata ((d.pair (a.toNat - 4)).1 / 2 ^ 32 &&& mask))) ∧
    (∀ lo, priv = true → a = 0x140001C#32 → sh.held = some (0x1400018, lo) →
      exec (.pairHiWrite m a v) s = .next (s.hubMap fun h =>
        (h.setShadow m fun k => { k with held := none }).setWall (v.toNat * 2 ^ 32 + lo) 0) ∧
      exec (.wallRefWrite m v) s = exec (.pairHiWrite m a v) s) ∧
    (priv = true → a = 0x140001C#32 → sh.held = none →
      exec (.pairHiWrite m a v) s = .next (s.hubMap (·.flag 0xF00000 1)) ∧
      exec (.wallRefWrite m v) s = exec (.pairHiWrite m a v) s) ∧
    (∀ k, priv = true → k < 24 → a.toNat = 0xE00780 + 4 * k →
      exec (.rcRead m a) s = .next (s.hubMap fun h =>
        { h with sense := { h.sense with vmon := h.sense.vmon.upd {} k fun v => { v with ext := none } } }.rdata
          (d.view m a.toNat &&& mask)))

/-- Accesses to BAR0 by any master (R360, R361): an unmapped offset sets UNMAPPED and a write that crosses a register, is not
of 4 bytes, or is of 8 bytes out of place sets BAD_ACCESS, with no other effect; an offset that no map lists is ignored in
silence; a master without rights changes nothing but PV_DENY; the write of a plain register by one with rights takes effect at
once. -/
def Obligations.RegisterWriteHandling : Prop :=
  ∀ (s : State) (m : Master) (a : Word) (size : Nat) (v : BitVec 64), s.dev.hub.up = true →
    let h := s.dev.hub
    let mapped := a.toNat < 0x1600000
    let whole := size = 4 ∧ a.toNat % 4 = 0
    (¬ mapped → exec (.registerWrite m a size v) s = .next (s.hubMap (·.flag 0xF00000 0))) ∧
    (mapped → ¬ whole → ¬ (size = 8 ∧ a.toNat % 8 = 0) →
      exec (.registerWrite m a size v) s = .next (s.hubMap (·.flag 0xF00000 1))) ∧
    (mapped → whole → findRow a.toNat = none → exec (.registerWrite m a size v) s = .next s) ∧
    (mapped → whole → h.right m a.toNat = .denied →
      exec (.registerWrite m a size v) s = .next (s.hubMap (·.bump 0xF00040))) ∧
    (∀ r, mapped → whole → h.right m a.toNat = .has r true →
      exec (.registerWrite m a size v) s = .next (s.devMap (·.writeReg m r a.toNat (v.toNat % 2 ^ 32)))) ∧
    (∀ r, mapped → whole → h.right m a.toNat = .has r false → exec (.registerWrite m a size v) s = .next s) ∧
    (mapped → size = 8 → a.toNat % 8 = 0 → exec (.registerWrite m a size v) s = .next (s.devMap fun d =>
      (d.write32 m a.toNat (v.toNat % 2 ^ 32)).write32 m (a.toNat + 4) (v.toNat / 2 ^ 32))) ∧
    (a = 0x401000#32 → size = 4 → h.privileged m = true →
      exec (.registerWrite m a size v) s = .next (s.hubMap (·.setReg 0x401000 (mergeBits 0x1FFFFF (h.reg 0x401000) (v.toNat % 2 ^ 32)))))

/-- Transactions by register (R371, R373, R374): BEGIN by a privileged master that has none OPEN takes a slot and a fresh
nonzero id; COMMIT of the OPEN one puts it behind the commits that arrived before; ABORT drops it; one OPEN for MAX_COURSES
courses is aborted by the hub with event 0x0F03; a staged commit that has waited for STAGE_MAX courses ends with TIMEOUT and
event 0x0F04. The hods of transactions (TXN_BEGIN, TXN_COMMIT, TXN_ABORT, CFG_REF_SET: R369, R371, R373, R374) complete. -/
def Obligations.TransactionsByRegister : Prop :=
  (∀ (s : State) (m : Master) (ref : Bool) (id : BitVec 16) (t : Txn), s.dev.hub.up = true → s.dev.hub.privileged m = true →
      let h := s.dev.hub
      (h.openTxn m.req = none → h.rb.txns.countP (fun t => !t.owner.isVf) < 8 →
        exec (.txnCtrlBegin m) s = .next (s.hubMap (·.updRb fun b => { b with
          txns := b.txns ++ [{ id := h.freshTxnId, owner := m.req }], lastId := h.freshTxnId })) ∧
        (h.rb.txns.length ≤ 16 → 1 ≤ h.freshTxnId ∧ h.freshTxnId ≤ 0xFFFF ∧ ∀ t ∈ h.rb.txns, t.id ≠ h.freshTxnId)) ∧
      (h.openTxn m.req = some t → ref = false → t.brings = false →
        exec (.txnCtrlCommit m ref) s = .next (s.hubMap (·.updRb fun b => { b with
          txns := b.txns.filter (·.id != t.id) ++ [{ t with phase := .commitPending, age := 0, ref := none, commit := none }] }))) ∧
      (h.openTxn m.req = some t → ref = true →
        exec (.txnCtrlCommit m ref) s = .next (s.hubMap fun h => (h.updRb fun b => { b with
          txns := b.txns.filter (·.id != t.id) ++
            [{ t with phase := .commitPending, age := 0, ref := some (Tbl.get 0 h.rb.txnRef m.req.id), commit := none }] }).crcTo .pending)) ∧
      (h.openTxn m.req = some t →
        exec (.txnCtrlAbort m) s = .next (s.hubMap (·.updRb fun b => { b with txns := b.txns.filter (·.id != t.id) }))) ∧
      (h.rb.txns.find? (fun t => t.id == id.toNat && t.phase == .opened) = some t → h.fld 0xF0002C 31 16 ≤ t.age →
        exec (.txnOpenTimeout id) s = .next (s.hubMap fun h =>
          ((h.updRb fun b => { b with txns := b.txns.filter (·.id != t.id) }).flag 0xF00000 2).event 0x0F03
            [.u16 t.id, .u8 t.owner.id, .u8 1])) ∧
      (h.rb.txns.find? (fun t => t.id == id.toNat && t.phase == .staging) = some t → h.fld 0xF0002C 15 0 ≤ t.age →
        exec (.stageMaxTimeout id) s = .next (s.hubMap fun h =>
          (h.commitDone t .timeout 0 none none).event 0x0F04 [.u16 t.id, .u8 t.owner.id, .u32 t.firstReg]))) ∧
  TransactionHodsAct

/-- Control registers that act at once or at the boundary (R323, R369, R376, R455, R466, R476): RESET_CTRL.WARM schedules a warm
reset, the first scheduler being kept; CFG_REF is staged and the reference is outstanding; HEARTBEAT ends host silence where it
comes from PF0 or SMBus; FW.CTRL serves the management core alone, where KICK ends a handover and CONFIRM confirms a trial. -/
def Obligations.ControlRegistersAct : Prop :=
  ∀ (s : State) (m : Master) (v : Word), s.dev.hub.up = true → s.dev.hub.privileged m = true →
    let h := s.dev.hub
    (m ≠ .debug → exec (.resetCtrlWarm m) s = .next (s.hubMap (·.updRb fun b => { b with
      warm := some (b.warm.getD (2, m.req.id)) }))) ∧
    (h.lockedBy 0xF00010 = none → (∀ i ∈ h.rb.staged, i.isRegAt 0xF00010 = false) →
      exec (.cfgRefWrite m v) s = .next (s.hubMap fun h =>
        (h.stage (.reg m.req.id 0xF00010 0xFFFFFFFF v.toNat)).crcTo .pending)) ∧
    (m = .pf0 ∨ m = .smbus → exec (.heartbeatWrite m v) s = .next (s.hubMap fun h => (h.setReg 0xC00008 v.toNat).heartbeat)) ∧
    (m = .core ∨ m = .debug → exec (.heartbeatWrite m v) s = .next (s.hubMap (·.setReg 0xC00008 v.toNat))) ∧
    (m ≠ .core → exec (.fwCtrlKick m) s = .next (s.hubMap (·.flag 0x1200000 0)) ∧
      exec (.fwCtrlConfirm m) s = .next (s.hubMap (·.flag 0x1200000 0))) ∧
    (h.fw.phase = .handover → exec (.fwCtrlKick .core) s = .next (s.devMap fun d => d.firstKick.coreReady)) ∧
    (h.fw.phase = .up → exec (.fwCtrlKick .core) s = .next s) ∧
    (h.fw.trial = true → h.fw.phase = .up →
      let isHub (q : HodReq) : Bool := q.args.head? == some (.u8 1)
      let w := h.writeRecord fun r => { r with hub := h.fw.slot }
      exec (.fwCtrlConfirm .core) s = .next (s.devMap fun d =>
        if w.1 then
          let k := w.2.updFw fun f => { f with trial := false, prev := none, stage := none }
          (({ d with hub := k.event 0x1205 [.u8 1, .u8 (b2n k.fw.slot), .u8 1] } : Dev).advance).hubMap
            (·.finishWaitIf 0x1203 isHub .ok 0 [])
        else { d with hub := w.2.finishWaitIf 0x1203 isHub .media 0 [] }))

/-- Tile-space bricks (R127, R135, R139, R143): the oldest brick of the port on the VC is a READ_REQ or a WRITE. With a lease on a
VALID page of its partition and its bytes within 4 KB, it is served and its buffer is free again: the read answers with the
page's bytes as READ_RESP bricks, poisoned and of free content where the page is poisoned, and the page's access count goes
up. Without one it is refused. An access to a group in RETAIN wakes the group and waits in its buffer. -/
def Obligations.TileAccessesServed : Prop :=
  ∀ (s : State) (x : Fin 8) (vc5 : Bool) (ecc : EccReport) (i : InItem) (rest : List InItem), s.dev.hub.up = true →
    let h := s.dev.hub
    let vc := if vc5 then 5 else 0
    let b := i.brick
    let page := bits b.addr.toNat 36 16
    let o := b.addr.toNat % 65536
    let e := h.pte page
    let g := groupOf (e.frame * 65536 + o)
    let len := leNat (b.payload.take 2)
    let lease := b.addr.toNat < 2 ^ 37 ∧ page < h.tableSize ∧ e.valid = true ∧ e.part = b.part.toNat ∧ e.lessees.testBit x = true
    let readOk := b.grout = 254 ∧ 1 ≤ len ∧ len ≤ 4096 ∧ o % 4096 + len ≤ 4096
    let writeOk := e.writer = some x.val ∧ o % 4096 + (256 - b.grout.toNat) ≤ 4096
    let awake := e.res = true ∨ h.groupPower g = .on
    let taken (h : Hub) : Hub := { h with fab := { h.fab with inbox := rest } }
    let served (h : Hub) : Hub :=
      ({ taken h with tile := { h.tile with wakeWait := h.tile.wakeWait.erase (x.val, vc) } }).owe x vc
    let answer (src : Nat) (poison : Bool) (data : List Byte) (h : Hub) : Hub :=
      let rs := mkBricks .readResp (pairVc b.vc.toNat) b.part.toNat b.stream.toNat x src 0 data
      (h.touch page).sendAll x 0x30 (((List.range rs.length).zip rs).map fun (k, r) =>
        { r with addr := BitVec.ofNat 48 (b.addr.toNat + 256 * k), poison })
    takeFirst (fun i => i.unit == 0x30 && i.port == x && i.brick.vc.toNat == vc) h.fab.inbox = some (i, rest) →
    (b.is .readReq = true →
      (lease → readOk → awake →
        (e.res = false → e.poison = false → ecc = {} → h.ueIn (e.frame * 65536 + o) len = none →
          exec (.readReq x vc5 ecc) s = .next (s.hubMap fun h =>
            answer (0x40 + g) false (s.dev.mem.tile.readN (e.frame * 65536 + o) len) (served h))) ∧
        (e.res = true → e.poison = false → ecc = {} →
          exec (.readReq x vc5 ecc) s = .next (s.hubMap fun h =>
            answer 0x31 false (s.dev.mem.spill.readN (e.frame * 65536 + o) len) (served h))) ∧
        (e.res = true → e.poison = true → ecc = {} →
          exec (.readReq x vc5 ecc) s = .next (s.hubMap fun h =>
            answer 0x31 true ((List.range len).map (Config.badData h.free)) (served h).tick)) ∧
        exec (.readReq x vc5 ecc) s = .next (s.devMap fun d => (d.hubMap served).serveRead x b ecc)) ∧
      (¬ (lease ∧ readOk) → exec (.readReq x vc5 ecc) s = .next (s.hubMap fun h => (taken h).refuseBrick x b))) ∧
    (b.is .write = true →
      (lease → writeOk → awake →
        exec (.write x vc5 ecc) s = .next (s.devMap fun d => (d.hubMap served).serveWrite x b ecc)) ∧
      (¬ (lease ∧ writeOk) → exec (.write x vc5 ecc) s = .next (s.hubMap fun h => (taken h).refuseBrick x b)) ∧
      (lease → writeOk → e.res = false → h.groupPower g = .retained → h.tile.wakeWait.contains (x.val, vc) = false →
        exec (.write x vc5 ecc) s = .next (s.hubMap fun h =>
          ({ h.setGroup g .waking with tile := { (h.setGroup g .waking).tile with
              wakeWait := h.tile.wakeWait ++ [(x.val, vc)] } }).bump 0x400020)))

/-- What a WRITE stores (R127, R139): the bytes of its brick from its address on, in the page's frame. Every other byte of the
tiles and of the spill memory reads as before, and the fuses and the flash are as they were; a poisoned brick stores nothing. -/
def Obligations.TileWriteStoresItsBytes : Prop :=
  ∀ (s : State) (x : Fin 8) (vc5 : Bool) (ecc : EccReport) (i : InItem) (rest : List InItem), s.dev.hub.up = true →
    let h := s.dev.hub
    let b := i.brick
    let e := h.pte (bits b.addr.toNat 36 16)
    let a := e.frame * 65536 + b.addr.toNat % 65536
    takeFirst (fun i => i.unit == 0x30 && i.port == x && i.brick.vc.toNat == (if vc5 then 5 else 0)) h.fab.inbox = some (i, rest) →
    b.is .write = true → h.tileCheck x b = true → (e.res = true ∨ h.groupPower (groupOf a) = .on) →
    s.dev.mem.tile.wf = true → s.dev.mem.spill.wf = true → h.tile.ue = [] → ecc.bad = [] →
    ∃ t, exec (.write x vc5 ecc) s = .next t ∧ t.dev.otp = s.dev.otp ∧ t.dev.mem.flash = s.dev.mem.flash ∧ t.pending = s.pending ∧
      (b.poison = true → t.dev.mem = s.dev.mem) ∧
      (e.res = true → t.dev.mem.tile = s.dev.mem.tile) ∧ (e.res = false → t.dev.mem.spill = s.dev.mem.spill) ∧
      (b.poison = false →
        (e.res = false → t.dev.mem.tile.readN a b.data.length = b.data ∧
          ∀ c, (c < a ∨ a + b.data.length ≤ c) → t.dev.mem.tile.read c = s.dev.mem.tile.read c) ∧
        (e.res = true → t.dev.mem.spill.readN a b.data.length = b.data ∧
          ∀ c, (c < a ∨ a + b.data.length ≤ c) → t.dev.mem.spill.read c = s.dev.mem.spill.read c))

/-- Tests, groups, scrub, ageing and migration (R122, R123, R136, R137, R140 to R143): the end of a test zero-fills the tile
and makes it AVAILABLE, or leaves it waiting for the boundary that gives it to its owner, or it has failed; AVAILABLE tiles
are tested again in rotation, one at a time (log entry 88 for its order); a group set to RETAIN goes there after 10 µs, and a
woken group serves the accesses that waited for it; scrub counts a word's errors, flags a tile past CE_LIMIT and records each
uncorrectable word; access counts halve after DECAY courses; a migration's end switches RES and FRAME. -/
def Obligations.TileUpkeep : Prop :=
  ∀ (s : State) (n : Fin 768) (g : Fin 64), s.dev.hub.up = true →
    let h := s.dev.hub
    let t := h.tileAt n
    (t.st = .testing → t.tested = false → h.ownerReg n = 0xF → exec (.tileTestComplete n true) s =
      .next (s.devMap fun d => (d.zeroTile n).hubMap (·.updTile n fun t => { t with st := .available, tested := false, retest := false }))) ∧
    (t.st = .testing → t.tested = false → h.ownerReg n ≠ 0xF → exec (.tileTestComplete n true) s =
      .next (s.devMap fun d => (d.zeroTile n).hubMap (·.updTile n fun t => { t with st := .testing, tested := true, retest := false }))) ∧
    (t.st = .testing → t.tested = false → h.ownerReg n = 0xF → t.retest = false → exec (.tileTestComplete n false) s =
      .next (s.devMap fun d => (d.zeroTile n).hubMap (·.failTile n))) ∧
    (t.st = .testing → t.tested = false → h.ownerReg n ≠ 0xF → t.retest = false → exec (.tileTestComplete n false) s =
      .next (s.devMap fun d => (d.zeroTile n).hubMap fun h =>
        ((h.setFld (0x400200 + 4 * n) 3 0 0xF).flag 0x400000 0).failTile n)) ∧
    (h.retestNext = some n.val → (∀ e ∈ h.tile.tile, e.2.retest = false) → h.therm.throt = false →
      exec (.tileRetestStart n) s = .next (s.hubMap fun h =>
        let k := (h.wakeNow (tileGroup n)).updTile n fun t => { t with st := .testing, retest := true }
        { k with tile := { k.tile with retestAt := (n + 1) % 768 } })) ∧
    (h.retestNext ≠ some n.val → exec (.tileRetestStart n) s = .next s) ∧
    (∀ m, h.retestNext = some m → (h.tileAt m).st = .available) ∧
    (h.fld (0x400040 + 4 * g) 1 0 = 1 → h.groupPower g = .on →
      exec (.groupRetainTimeout g) s = .next (s.hubMap (·.setGroup g .retained))) ∧
    (h.groupPower g = .waking → exec (.groupWakeComplete g) s = .next (s.devMap fun d =>
      (h.tile.wakeWait.filter fun w => h.waitsFor w == some g.val).foldl (fun d w => d.serveTile w.1 w.2 {} none false)
        (d.hubMap (·.setGroup g .on)))) ∧
    (h.therm.throt = false → (∀ e ∈ h.tile.tile, h.groupAsleep (tileGroup e.1) = false) → ∀ k : Nat, 0 < k →
      let counted := (h.bump 0x400010 k).updTile n fun t => { t with ce := t.ce + k }
      let closed (h : Hub) : Hub := { h with tile := { h.tile with
        tile := h.tile.tile.foldl (fun t e => t.set {} e.1 { e.2 with ce := 0 }) [] } }
      (t.st = .owned ∨ t.st = .hub) →
        (t.ce + k ≤ h.fld 0x400008 23 8 → exec (.scrubPass [(n.val, k)] []) s = .next (s.hubMap fun _ => closed counted)) ∧
        (h.fld 0x400008 23 8 < t.ce + k →
          exec (.scrubPass [(n.val, k)] []) s = .next (s.hubMap fun _ => closed (counted.flagTile n))) ∧
        (∀ a, tileOf a = n.val → exec (.scrubPass [] [a]) s =
          .next (s.hubMap fun h => closed ((h.noteBad [a]).ueRead a 0xFF)))) ∧
    (h.fld 0x500008 23 8 ≤ h.tile.decay → exec .accDecay s = .next (s.hubMap fun h => { h with tile := { h.tile with
      decay := 0, pte := h.tile.pte.foldl (fun t e => t.set {} e.1 { e.2 with acc := e.2.acc / 2 }) [] } })) ∧
    (∀ (m : MoveEnd) mv, h.tile.moves.find? (·.page == m.page) = some mv → (h.pte m.page).valid = true →
      ∃ r, exec (.migrationComplete m) s = .next r ∧ r.pending = s.pending ∧ r.dev.otp = s.dev.otp ∧
        r.dev.mem.flash = s.dev.mem.flash ∧ r.dev.hub.tile.moves = h.tile.moves.filter (·.page != m.page) ∧
        (r.dev.hub.pte m.page).moving = false ∧ (r.dev.hub.pte m.page).res = mv.toSpill ∧
        (r.dev.hub.pte m.page).frame = mv.dst ∧
        (r.dev.hub.pte m.page).gen = (if mv.toSpill then (h.pte m.page).gen + 1 else (h.pte m.page).gen))

/-- BAR4 (R132, R135, R139): an access within the partition's VALID page reads or writes the page's bytes; any other access
reads zero, is discarded where it writes, and is counted; a read of a poisoned page returns free bytes, known to be bad. The
hods of pages (PAGE_ALLOC, PAGE_FREE, LEASE_SET, PAGE_PIN, PTE_READ, PAGE_MOVE: R131, R146) complete: each is staged, and has
its effect at its boundary. -/
def Obligations.HostWindowReachesPages : Prop :=
  (∀ (s : State) (m : Master) (addr n : Nat) (bs : List Byte), s.dev.hub.up = true →
      let h := s.dev.hub
      let e := h.pte (addr / 65536)
      let a := e.frame * 65536 + addr % 65536
      let own := e.valid = true ∧ addr / 65536 < h.tableSize ∧ ∀ v, m = .vf v → e.part = v.val
      let reads (poison : Bool) (bytes : List Byte) (h : Hub) : Hub := { h with rb := { h.rb with
        rdata := BitVec.ofNat 64 (leNat bytes), barPoison := poison } }
      (own → e.res = true →
        (e.poison = false → exec (.bar4Access m { addr } none n) s =
          .next (s.hubMap (reads false (s.dev.mem.spill.readN a n)))) ∧
        (e.poison = true → exec (.bar4Access m { addr } none n) s =
          .next (s.hubMap fun h => reads true ((List.range n).map (Config.badData h.free)) h.tick)) ∧
        exec (.bar4Access m { addr } (some bs) n) s = .next (s.devMap fun d => { d with mem := { d.mem with
          spill := d.mem.spill.writeN a bs } })) ∧
      (own → e.res = false → h.groupAsleep (groupOf a) = false → h.tile.ue = [] →
        (e.poison = false → exec (.bar4Access m { addr } none n) s =
          .next (s.hubMap (reads false (s.dev.mem.tile.readN a n)))) ∧
        exec (.bar4Access m { addr } (some bs) n) s = .next (s.devMap (·.putTile a bs))) ∧
      (¬ own → exec (.bar4Access m { addr } (some bs) n) s = .next (s.hubMap (·.bump 0x400028)) ∧
        exec (.bar4Access m { addr } none n) s = .next (s.hubMap fun h =>
          { h.bump 0x400028 with rb := { (h.bump 0x400028).rb with rdata := 0, barPoison := false } }))) ∧
  PageHodsAct

/-- A collective descriptor (R156, R160, R161, R166, R169): it leaves its buffer and opens a collective, or ends it at once: no
room among 1,024 (0x05), a bad descriptor (0x03 with the failing check), a member whose port is not up (0x02 with its rank), a
reused stochastic sequence number (0x07). For an open collective a second descriptor of one member ends it (0x03), a different
or poisoned one ends it (0x04 with the sender's rank), and so does one from outside PMASK (0x03, check 8). -/
def Obligations.DescriptorOpensCollective : Prop :=
  ∀ (s : State) (x : Fin 8) (b : Brick), s.dev.hub.up = true →
    s.dev.hub.nextMortar x s.dev.hub.fab.inbox = some b → b.is .mortarDesc = true →
    let h := s.dev.hub.dropItem x b
    let d := Desc.of (b.payload.take 64)
    let part := b.part.toNat
    let id := bits b.addr.toNat 43 32
    let down := d.members.find? fun y => !(h.port y).up
    let opened : Coll := { part, id, stream := b.stream.toNat, desc := b.payload.take 64, arrived := 2 ^ x.val }
    (h.coll? part id = none →
      (1024 ≤ h.mortar.colls.length →
        exec (.mortarDesc x) s = .next (s.hubMap fun _ => h.rejectDesc x b 0x05 0xFF 0 true)) ∧
      (h.mortar.colls.length < 1024 →
        (∀ r, h.descCheck x b = some r →
          exec (.mortarDesc x) s = .next (s.hubMap fun _ => h.rejectDesc x b 0x03 0xFF r false)) ∧
        (h.descCheck x b = none →
          (∀ y, down = some y →
            exec (.mortarDesc x) s = .next (s.hubMap fun _ => h.rejectDesc x b 0x02 (d.rank y) 0 false)) ∧
          (down = none → d.stochastic = true → h.srReuse part d.seq = true →
            exec (.mortarDesc x) s = .next (s.hubMap fun _ => h.rejectDesc x b 0x07 0xFF 0 false)) ∧
          (down = none → d.stochastic = false →
            exec (.mortarDesc x) s = .next (s.hubMap fun _ =>
              { h with mortar := { h.mortar with colls := h.mortar.colls ++ [opened] } })) ∧
          (down = none → d.stochastic = true → h.srReuse part d.seq = false →
            exec (.mortarDesc x) s = .next (s.hubMap fun _ =>
              { h with mortar := { h.mortar.mark part d.seq with colls := (h.mortar.mark part d.seq).colls ++ [opened] } }))))) ∧
    (∀ c, h.coll? part id = some c →
      (c.arrived.testBit x = true → exec (.mortarDesc x) s = .next (s.hubMap fun _ => h.endColl c 0x03 0xFF 0)) ∧
      (c.arrived.testBit x = false → (b.payload.take 64 ≠ c.desc ∨ b.poison = true) →
        exec (.mortarDesc x) s = .next (s.hubMap fun _ => h.endColl c 0x04 ((Desc.of c.desc).rank x) 0)) ∧
      (c.arrived.testBit x = false → b.payload.take 64 = c.desc → b.poison = false → d.pmask.testBit x = false →
        exec (.mortarDesc x) s = .next (s.hubMap fun _ => h.endColl c 0x03 0xFF 0x08)) ∧
      (c.arrived.testBit x = false → b.payload.take 64 = c.desc → b.poison = false → d.pmask.testBit x = true →
        exec (.mortarDesc x) s = .next (s.hubMap fun _ =>
          (h.updColl part id fun c => { c with arrived := c.arrived + 2 ^ x.val }).finishColl part id)))

/-- Operands, chunks and the end of a collective (R153, R154, R158, R160): an operand of an open collective whose chunk is
open joins it with its contributor, and one of an unknown collective is an orphan, counted and recorded; a chunk that holds
every contributor's operand is delivered, and one that lacks a contributor's waits; without hub region the tiles' bytes stay
as they were; a collective that passes TIMEOUT_US ends with 0x01 and its lowest stalled rank. -/
def Obligations.OperandsFillChunks : Prop :=
  ∀ (s : State) (x part : Fin 8) (id off : Nat), s.dev.hub.up = true →
    (∀ b, s.dev.hub.nextMortar x s.dev.hub.fab.inbox = some b → b.is .mortarOpnd = true →
      let h := s.dev.hub.dropItem x b
      let ad := b.addr.toNat
      (h.coll? b.part.toNat (bits ad 43 32) = none →
        exec (.mortarOpnd x) s = .next (s.hubMap fun _ => ((h.bump 0x600058).flag 0x600010 1).eventOnce 0x0603 x
          [.u8 x, .u16 (bits ad 43 32), .u32 (bits ad 30 0)])) ∧
      (∀ c, h.coll? b.part.toNat (bits ad 43 32) = some c →
        let d := Desc.of c.desc
        let o := bits ad 30 0
        d.contributors.contains x.val = true → o % d.inFmt.epb = 0 → o < d.count → c.got.contains (x.val, o) = false →
        ad.testBit 31 = false → 256 - b.grout.toNat = d.inFmt.dataLen (d.chunkLen o) → (c.chunks.any (·.off == o)) = true →
        exec (.mortarOpnd x) s = .next (s.hubMap fun _ => h.updColl b.part.toNat (bits ad 43 32) fun c => { c with
          got := (x.val, o) :: c.got
          chunks := c.chunks.map fun k => if k.off == o then
            { k with ops := k.ops ++ [(x.val, b.data)], poison := k.poison || b.poison } else k }))) ∧
    (∀ c k, s.dev.hub.coll? part id = some c → c.chunks.find? (·.off == off) = some k →
      let d := Desc.of c.desc
      ((∀ y ∈ d.contributors, ∃ o ∈ k.ops, o.1 = y) →
        exec (.chunkComplete part id off) s = .next (s.devMap (·.deliver c k)) ∧
        (d.toHub = false → ∃ t, exec (.chunkComplete part id off) s = .next t ∧ t.dev.mem = s.dev.mem)) ∧
      (∀ y ∈ d.contributors, (∀ o ∈ k.ops, o.1 ≠ y) → exec (.chunkComplete part id off) s = .next s)) ∧
    (∀ c, s.dev.hub.coll? part id = some c → exec (.collectiveTimeout part id) s =
      .next (s.hubMap fun h => h.endColl c 0x01 (h.stalledRank c) 0))

/-- The reduction engines' self-test rotation (R172, R544): with ST_EN and every other engine ON and not failed, the engine
whose turn it is drains after ST_INTERVAL courses, or, where it is itself off or failed, passes its turn (log entry 100); empty,
it is tested; a pass moves the turn on, a failure marks the engine failed, raises the flag and records 0x0602; an engine not
empty within 1 ms is skipped and counted. The hods of the mortar (HUB_OPND_WRITE, HUB_OPND_READ, COLL_ABORT: R171, R173)
complete. -/
def Obligations.EngineSelfTestRotation : Prop :=
  (∀ s : State, s.dev.hub.up = true →
      let h := s.dev.hub
      let m := h.mortar.st
      let set (h : Hub) (st : Rotation) : Hub := { h with mortar := { h.mortar with st } }
      let sound (n : Nat) : Prop := h.mortar.on.testBit n = true ∧ h.bitAt 0x600004 n = true ∧ h.mortar.failed.testBit n = false
      (h.bitAt 0x600000 0 = true → m.phase = .none → h.fld 0x600000 31 16 ≤ m.count → h.therm.throt = false →
        (∀ n < 24, n ≠ m.unit → sound n) →
        (sound m.unit → exec .mortarStStart s = .next (s.hubMap fun h => set h { m with phase := .draining, count := 0 })) ∧
        (¬ sound m.unit → exec .mortarStStart s = .next (s.hubMap fun h =>
          (set h { m with unit := (m.unit + 1) % 24, count := 0 }).mortarPause))) ∧
      (m.phase = .draining → h.mortar.engineLoad m.unit = 0 →
        exec .mortarDrainComplete s = .next (s.hubMap fun h => set h { m with phase := .testing })) ∧
      (m.phase = .draining → h.mortar.engineLoad m.unit ≠ 0 →
        exec .mortarDrainTimeout s = .next (s.hubMap fun h =>
          set h { m with phase := .none, skips := sat 255 (m.skips + 1), unit := (m.unit + 1) % 24 })) ∧
      (m.phase = .testing → exec (.mortarStComplete true) s = .next (s.hubMap fun h =>
          set h { m with phase := .none, unit := (m.unit + 1) % 24 })) ∧
      (m.phase = .testing → ∃ t, exec (.mortarStComplete false) s = .next t ∧ t.dev.mem = s.dev.mem ∧ t.pending = s.pending ∧
        t.dev.hub.mortar.failed = setBit h.mortar.failed m.unit true ∧ t.dev.hub.mortar.on = setBit h.mortar.on m.unit false ∧
        t.dev.hub.mortar.st.phase = .none ∧ t.dev.hub.mortar.st.unit = (m.unit + 1) % 24 ∧
        t.dev.hub.mortar.colls = h.mortar.colls)) ∧
  MortarHodsAct

/-- LOGITS (R178 to R181, R201): the oldest brick of the port at the sampler intake that can go on is taken. With no sampler
up it is refused; a brick that opens a step opens it on the sampler chosen; a brick that fits its stream's open step joins it
with its sender; any other is an orphan, counted and recorded with its set and offset. -/
def Obligations.LogitsEnterSteps : Prop :=
  ∀ (s : State) (x : Fin 8) (i : InItem), s.dev.hub.up = true →
    let b := i.brick
    let taken (h : Hub) : Hub := { h with fab := { h.fab with inbox := h.fab.inbox.erase i } }
    let freed (h : Hub) : Hub := (taken h).owe x b.vc.toNat
    (s.dev.lgGo [] s.dev.hub.atSampler).find? (·.port == x.val) = some i →
    (s.dev.hub.smpsUp = [] → exec (.logits x) s = .next (s.hubMap fun h => (taken h).refuseBrick x b)) ∧
    (s.dev.hub.smpsUp ≠ [] →
      (∀ k, s.dev.opens b = true → (freed s.dev.hub).pickSmp (s.dev.slotsFor b) = some k →
        exec (.logits x) s = .next (s.devMap fun d => (d.hubMap freed).openStep x k b)) ∧
      (∀ st, s.dev.opens b = false → (freed s.dev.hub).stepOf b.stream.toNat = some st → lgReserved b = false →
        (freed s.dev.hub).admits b false = true → badLogits (Prog.of st.prog) st.nodes.length st.got b = false →
        exec (.logits x) s = .next (s.hubMap fun h => (freed h).addLogits x b)) ∧
      (s.dev.opens b = false → (freed s.dev.hub).stepOf b.stream.toNat = none →
        exec (.logits x) s = .next (s.hubMap fun h =>
          let k := { freed h with smp := { h.smp with waiting := h.smp.waiting.filter (· != b.stream.toNat) } }
          ((k.bump 0x700020).flag 0x700004 1).eventOnce 0x0703 x
            [.u8 x, .u16 b.stream.toNat, .u8 (bits b.addr.toNat 38 32), .u32 (b.addr.toNat % 2 ^ 20)])))

/-- The end of a step (R179, R188, R197 to R199): an incomplete step waits; a complete one without speculation, mask or
penalty ends with OK and one token, the best or the drawn one of its kept candidates, or with status 5 where no token is
eligible; a poisoned one ends with status 7; a step that passes TIMEOUT_US incomplete ends with status 1 and its first missing
set. Each end hands the stream its TOKEN payload, moves its step counter on, and leaves the tiles as they were. -/
def Obligations.StepEndsWithToken : Prop :=
  ∀ (s : State) (stream : BitVec 13) (st : Step), s.dev.hub.up = true →
    let h := s.dev.hub
    let p := Prog.of st.prog
    h.stepOf stream.toNat = some st →
    (st.missing.isSome = true → exec (.tokenIssue stream) s = .next s) ∧
    (∀ k, st.missing = some k → exec (.stepTimeout stream) s = .next (s.hubMap fun h => h.failStep st 0x01 k)) ∧
    (st.missing = none → st.poison = true → exec (.tokenIssue stream) s = .next (s.hubMap fun h => h.failStep st 0x07 0)) ∧
    (st.missing = none → st.poison = false → p.spec = 0 → p.masked = false → p.penalty = false → st.nodes = [] →
      let set := s.dev.targetSet st p 0 st.counts 0xFFFF
      let tok := if p.greedy then (set.kept.head?.map (·.tok)).getD 0
        else select (st.draw 0) (set.kept.map fun c => (c.tok, c.w))
      (set.cand = [] → exec (.tokenIssue stream) s = .next (s.hubMap fun h => h.endStep st p.dest 5 0 (b2n set.nan) 0xFFFF [])) ∧
      (set.cand ≠ [] → (h.stream st.stream).step ≠ 0xFFFFFFFFFFFFFFFF → st.stream = stream.toNat →
        ∃ t, exec (.tokenIssue stream) s = .next t ∧ t.pending = s.pending ∧ t.dev.mem = s.dev.mem ∧ t.dev.otp = s.dev.otp ∧
          t.dev.hub.smp.steps = h.smp.steps.filter (·.stream != st.stream) ∧
          (t.dev.hub.stream st.stream).last =
            tokenBytes 0 1 0 (b2n set.nan + 4 * b2n st.deferred) 0xFFFF 0 st.ctr.toNat [(tok, 0)] ∧
          (t.dev.hub.stream st.stream).step = (h.stream st.stream).step + 1 ∧
          t.dev.hub.reg = h.reg))

/-- The samplers' self-tests (R201 to R203, R544): with both samplers up they are tested in turn, each drained first and skipped
and counted if it is not empty in time; with one up, at most one slice of 1 µs runs in a course, with no step open, and fifty
make a test; the steps that waited on a slice are deferred ones, and go on at its end; a failed test fails the sampler, raises
its flag, records 0x0702 and ends its steps with ABORTED. The hods of the sampler (SMP_PROG_WRITE, SMP_BIND, SMP_STATE_SET,
SMP_LAST, SMP_TABLE_WRITE: R187, R189, R194, R199, R204) complete. -/
def Obligations.SamplerSelfTests : Prop :=
  (∀ s : State, s.dev.hub.up = true →
      let h := s.dev.hub
      let m := h.smp.st
      let set (h : Hub) (st : Rotation) : Hub := { h with smp := { h.smp with st } }
      (h.bitAt 0x700000 2 = true → m.phase = .none → h.fld 0x700000 31 16 ≤ m.count → h.smpUp 0 = true → h.smpUp 1 = true →
        h.therm.throt = false → exec .smpStStart s = .next (s.hubMap fun h => set h { m with phase := .draining, count := 0 })) ∧
      (m.phase = .draining → h.smp.open_ m.unit = 0 →
        exec .smpDrainComplete s = .next (s.hubMap fun h => set h { m with phase := .testing })) ∧
      (m.phase = .draining → h.smp.open_ m.unit ≠ 0 →
        exec .smpDrainTimeout s = .next (s.hubMap fun h =>
          set h { m with phase := .none, skips := sat 255 (m.skips + 1), unit := (m.unit + 1) % 2 })) ∧
      (m.phase = .testing → exec (.smpStComplete true) s = .next (s.hubMap fun h =>
          set h { m with phase := .none, unit := (m.unit + 1) % 2 })) ∧
      (m.phase = .testing → ∃ t, exec (.smpStComplete false) s = .next t ∧ t.dev.mem = s.dev.mem ∧
        t = s.hubMap fun h =>
          let h := set h { m with phase := .none, unit := (m.unit + 1) % 2 }
          let h := { (h.flag 0x700004 2) with smp := { h.smp with failed := setBit h.smp.failed m.unit true, on := setBit h.smp.on m.unit false } }
          let h := (h.event 0x0702 [.u8 m.unit]).faultMet 9
          ((h.smp.steps.filter (·.smp == m.unit)).foldl (fun h t => h.failStep t 0x06 0) h).noteSamplers) ∧
      (m.phase ≠ .testing → 50 ≤ h.smp.slices →
        exec (.smpStComplete true) s = .next (s.hubMap fun h => { h with smp := { h.smp with slices := 0 } })) ∧
      (∀ k, h.smpsUp = [k] → h.bitAt 0x700000 2 = true → h.smp.inSlice = false → h.smp.sliced = false → h.smp.open_ k = 0 →
        h.smp.slices < 50 → h.therm.throt = false →
        exec .smpSliceStart s = .next (s.hubMap fun h => { h with smp := { h.smp with inSlice := true, sliced := true, hodsHeld := 0 } })) ∧
      (h.smp.inSlice = true → exec .smpSliceEnd s = .next (s.devMap fun d =>
        ((d.hubMap fun h => { h with smp := { h.smp with
          inSlice := false, slices := h.smp.slices + 1, hodsHeld := 0
          waiting := h.smp.waiting ++ ((h.fab.inbox.filter fun i => i.unit == 0xA0 && d.opens i.brick).map
            (·.brick.stream.toNat)) } }).drainLogits).hubMap (·.endDeferred)))) ∧
  SamplerHodsAct

/-- Dispatch and quantum (R216, R218, R219, R223, R224): an enabled throughput-class queue with a running job, its stages up, room
for another running stream and a hot head dispatches it while no latency queue can: the stream is RUNNING on the queue with the
next dispatch number, and each stage is sent DISPATCH; where an ended dispatch awaits it, the switch is counted. A latency queue
dispatches when its turn comes (log entry 105). A queue that cannot dispatch stays as it is. A stream at its quantum yields to a
waiting stream of its queue, and else its count restarts; below the quantum nothing happens. -/
def Obligations.QueueDispatchesItsHead : Prop :=
  ∀ (s : State) (q : Fin 64) (st : Nat), s.dev.hub.up = true →
    let h := s.dev.hub
    let n := h.str.dseq + 1
    let c := h.stream st
    (h.queueLat q = false → h.queueEn q = true → h.jobRunning (h.queuePart q) = true → h.stagesUp q = true →
      (h.queue q).head? = some st → c.hot = true → (h.runningOn q).length ≤ h.fld (queueCfg q) 15 8 →
      (∀ k, k < 64 → h.queueLat k = true → h.dispatchable k = false) → h.bitAt 0x800004 0 = false →
      let runs (h : Hub) : Hub :=
        ({ h with str := { h.str with dseq := n, ready := h.str.ready.upd [] q (fun l => l.erase st) } } : Hub).updStrm st
          fun c => { c with st := .running, reason := 0, onQueue := q, dseq := n, count := 0, acks := 0 }
      let told (h : Hub) : Hub := (onesBelow 8 (h.queueStages q)).foldl
        (fun g x => g.streamMsg x st (h.queuePart q) 0x01 0 q 0 0 (h.quantum q) n c.user) h
      (h.owing q = none → exec (.dispatch q) s = .next (s.hubMap fun h => told (runs h))) ∧
      (∀ k, h.owing q = some k → exec (.dispatch q) s = .next (s.hubMap fun h =>
        told ((({ runs h with str := { (runs h).str with owed := h.str.owed.upd 0 k (· - 1) } } : Hub).bump 0x800010).bump
          0x800018 0)))) ∧
    (h.queueLat q = true → h.latMay q = true →
      exec (.dispatch q) s = .next (s.hubMap fun h => h.dispatchHead q none)) ∧
    (h.dispatchable q = false → exec (.dispatch q) s = .next s) ∧
    (∀ stream : BitVec 13, let c := h.stream stream.toNat
      c.st = .running →
      (h.quantum c.onQueue ≠ 0 → h.quantum c.onQueue ≤ c.count → c.onQueue < 64 → h.queueLat c.onQueue = false →
        (h.queueEn c.onQueue = true → h.queue c.onQueue ≠ [] →
          exec (.quantumEnd stream) s = .next (s.hubMap fun h =>
            (h.enterReady stream.toNat).switchFrom stream.toNat c.onQueue (some 0x04))) ∧
        (h.queue c.onQueue = [] → exec (.quantumEnd stream) s =
          .next (s.hubMap (·.updStrm stream.toNat fun c => { c with count := 0 })))) ∧
      (c.count < h.quantum c.onQueue → exec (.quantumEnd stream) s = .next s))

/-- Messages of accelerators (R213, R215, R222): a well-formed message for a stream of its partition, from a stage of the
stream's queue and in a state that admits it, leaves its buffer and acts: READY queues an IDLE or PARKED stream with its user
bytes, YIELD, PARK and DONE end a running stream's dispatch, FAULT faults it with reason 0x13, REVOKE_ACK counts toward a drain.
A message that fails a check is answered with a NAK that names the first failing one, counted and recorded. A drain that passes
DRAIN_US faults its stream with 0x12 and its lowest silent stage that is not fenced. The hods of streams, jobs and partitions
(STREAM_READY to STREAM_QUERY, JOB_START, JOB_END, PART_SWITCH: R214 to R216, R225 to R228) complete. -/
def Obligations.StreamMessagesAct : Prop :=
  (∀ (s : State) (x : Fin 8) (i : InItem) (rest : List InItem) (k : Nat), s.dev.hub.up = true →
      let b := i.brick
      let st := b.stream.toNat
      let m := dfield b.payload 0 1
      let freed (h : Hub) : Hub := ({ h with fab := { h.fab with inbox := rest } } : Hub).owe x b.vc.toNat
      let h := freed s.dev.hub
      let c := h.stream st
      let formed := b.is .mgmt = true ∧ b.grout = 200 ∧ dfield b.payload 1 1 < 4 ∧ dfield b.payload 6 2 = 0 ∧ dfield b.payload 12 4 = 0
      let mine := h.streamPart st = some b.part.toNat
      takeFirst (fun i => i.unit == 0xC3 && i.port == x.val) s.dev.hub.fab.inbox = some (i, rest) →
      (formed → mine → c.queue = some k →
        ((h.queueStages k).testBit x = true →
          (m = 0x10 → (c.st = .idle ∨ c.st = .parked) → exec (.readyMessage x) s = .next (s.hubMap fun h =>
            ((freed h).updStrm st fun c => { c with user := slice b.payload 24 32 }).enterReady st))) ∧
        ((h.queueStages c.onQueue).testBit x = true → c.st = .running →
          (m = 0x11 → exec (.yieldMessage x) s = .next (s.hubMap fun h => ((freed h).enterReady st).switchFrom st c.onQueue none)) ∧
          (m = 0x12 → exec (.parkMessage x) s = .next (s.hubMap fun h =>
            ((freed h).updStrm st fun c => { c with st := .parked, reason := 0x01 }).switchFrom st c.onQueue none)) ∧
          (m = 0x13 → exec (.doneMessage x) s = .next (s.hubMap fun h =>
            ((freed h).updStrm st fun c => { c with st := .idle, reason := 0 }).switchFrom st c.onQueue none)) ∧
          (m = 0x14 → exec (.faultMessage x) s = .next (s.hubMap fun h => ((freed h).faultStream st 0x13 x).prefetch))) ∧
        ((h.queueStages c.onQueue).testBit x = true → c.st = StreamState.draining → m = 0x15 →
          exec (.revokeAck x) s = .next (s.hubMap fun h =>
            ((freed h).updStrm st fun c => { c with acks := c.acks ||| 2 ^ x.val }).drainCheck st)) ∧
        (c.st = .ready → (h.queueStages k).testBit x = true → m = 0x11 →
          exec (.yieldMessage x) s = .next (s.hubMap fun h => (freed h).streamNak x b 0x01))) ∧
      (formed → m = 0x13 → ¬ mine → exec (.doneMessage x) s = .next (s.hubMap fun h => (freed h).streamNak x b 0x03)) ∧
      (formed → m = 0x13 → mine → c.queue = none → exec (.doneMessage x) s = .next (s.hubMap fun h => (freed h).streamNak x b 0x04)) ∧
      (∀ stream : BitVec 13, let c := s.dev.hub.stream stream.toNat
        let late := (onesBelow 8 (s.dev.hub.queueStages c.onQueue)).find? fun x =>
          !c.acks.testBit x && !(s.dev.hub.port x).fenced
        c.st = StreamState.draining →
          (∀ y, late = some y → exec (.drainTimeout stream) s =
            .next (s.hubMap fun h => (h.faultStream stream.toNat 0x12 y).prefetch)) ∧
          (late = none → exec (.drainTimeout stream) s = .next s))) ∧
  StreamHodsAct

/-- The brick at the head of the sync engine's intake of a port: a well-formed arrival or TALLY operation of kind `k`, its
buffer freed (R242, R247). -/
def SyncHead (s : State) (x : Fin 8) (k : Nat) (b : Brick) (h : Hub) : Prop :=
  ∃ i rest, takeFirst (fun i => i.unit == 0xC1 && i.port == x.val) s.dev.hub.fab.inbox = some (i, rest) ∧ i.brick = b ∧
    syncKind b = some k ∧ malformed b = false ∧
    h = ({ s.dev.hub with fab := { s.dev.hub.fab with inbox := rest } } : Hub).owe x b.vc.toNat

/-- An arrival at a barrier (R237, R246, R247, R249): of a barrier of its partition with every participant available, in the
current phase, from a participant with arrivals left, it is counted, starts the phase where it is the first, and completes it
where it brings the total to EXPECT; the first check it fails names the refusal. TIMEOUT_US after the first arrival, and after
what has already reached the engine (R248), the phase ends: its counts are zeroed, the phase moves on, and every member is told
who was short. The hods of barriers (BAR_SET, BAR_FREE, BAR_RESET, BAR_ARRIVE, BAR_QUERY: R234, R250, R251, R555) complete. -/
def Obligations.BarrierCountsArrivals : Prop :=
  (∀ (s : State) (x : Fin 8) (b : Brick) (h : Hub) (bar : Barrier), s.dev.hub.up = true →
      let p := b.part.toNat
      let id := dfield b.payload 0 2 % 4096
      let phase := dfield b.payload 2 1
      let arrival : Barrier := { bar with
        counts := bar.counts.set x (bar.n x + 1), first := some (bar.first.getD (x.val, dfield b.payload 3 1)) }
      (SyncHead s x 0 b h →
        (h.barPart id ≠ some p → exec (.barrierArrive x) s =
          .next (s.hubMap fun _ => h.refuseSync x p { kind := 0x06, obj := 0, id, phase })) ∧
        (h.barPart id = some p → h.bar id = some bar →
          (bar.e x = 0 → exec (.barrierArrive x) s =
            .next (s.hubMap fun _ => h.refuseSync x p { kind := 0x05, obj := 0, id, phase })) ∧
          (bar.e x ≠ 0 → h.barGone p bar = none →
            (phase ≠ bar.phase.toNat % 256 → exec (.barrierArrive x) s =
              .next (s.hubMap fun _ => h.refuseSync x p { kind := 0x03, obj := 0, id, phase })) ∧
            (phase = bar.phase.toNat % 256 → bar.e x ≤ bar.n x → exec (.barrierArrive x) s =
              .next (s.hubMap fun _ => h.refuseSync x p { kind := 0x04, obj := 0, id, phase })) ∧
            (phase = bar.phase.toNat % 256 → bar.n x < bar.e x →
              (arrival.arrived < arrival.total → exec (.barrierArrive x) s = .next (s.hubMap fun _ => h.setBar id (some arrival))) ∧
              (arrival.total ≤ arrival.arrived → exec (.barrierArrive x) s = .next (s.hubMap fun _ => h.release p id arrival)))))) ∧
      (∀ id p, s.dev.hub.drainSync.bar id = some bar → s.dev.hub.drainSync.barPart id = some p →
        (bar.first = none → exec (.barrierTimeout id) s = .next (s.hubMap (·.drainSync))) ∧
        (bar.first ≠ none → exec (.barrierTimeout id) s = .next (s.hubMap fun h =>
          let h := h.drainSync
          let e := bar.err 0x01 id none
          ((((h.setBar id (some { bar with phase := bar.phase + 1, counts := List.replicate 9 0, first := none })).syncError p
            (onesBelow 8 bar.pmask) e).bump 0x900018).flag 0x900000 2).eventOnce 0x0901 p
              [.u8 p, .u8 0, .u16 id, .u8 e.phase, .u8 e.waiter, .u8 e.short] p)))) ∧
  BarrierHodsAct

/-- R243, whole: an ADD_P that would carry P above 0xFFFF_FFFF is refused with TALLY_OVERFLOW (0x08), an ADD_C that would make
C exceed P with TALLY_UNDERRUN (0x09); each is answered to the sender alone with the tally unchanged; and no ADD makes P − C
negative or wraps a count. -/
def Obligations.TallyAddsNeverWrap : Prop :=
  ∀ (s : State) (x : Fin 8) (b : Brick) (h : Hub) (t : Tally), s.dev.hub.up = true →
    let p := b.part.toNat
    let id := dfield b.payload 0 2 % 16384
    let arg := dfield b.payload 4 4
    h.talPart id = some p → h.tal id = some t → t.error = false → h.unavail t.prod p = false → h.unavail t.cons p = false →
    (SyncHead s x 1 b h → x.val = t.prod → 0xFFFFFFFF < t.p + arg →
      exec (.addP x) s = .next (s.hubMap fun _ =>
        h.refuseSync x p { kind := 0x08, obj := 1, id, value := t.p - t.c }) ∧
      (h.refuseSync x p { kind := 0x08, obj := 1, id, value := t.p - t.c }).tal id = some t) ∧
    (SyncHead s x 2 b h → x.val = t.cons → t.p < t.c + arg →
      exec (.addC x) s = .next (s.hubMap fun _ =>
        h.refuseSync x p { kind := 0x09, obj := 1, id, value := t.p - t.c }) ∧
      (h.refuseSync x p { kind := 0x09, obj := 1, id, value := t.p - t.c }).tal id = some t) ∧
    (t.c ≤ t.p → t.p ≤ 0xFFFFFFFF →
      (SyncHead s x 1 b h → ∃ s' t', exec (.addP x) s = .next s' ∧ s'.dev.hub.tal id = some t' ∧
        t'.c ≤ t'.p ∧ t'.p ≤ 0xFFFFFFFF ∧ t'.c = t.c) ∧
      (SyncHead s x 2 b h → ∃ s' t', exec (.addC x) s = .next s' ∧ s'.dev.hub.tal id = some t' ∧
        t'.c ≤ t'.p ∧ t'.p ≤ 0xFFFFFFFF ∧ t'.p = t.p))

/-- Adds, waits and reads of a tally (R242 to R244, R247): an ADD moves its count and the pending waits whose condition now
holds are answered; a wait whose condition holds is answered at once and otherwise stays pending; a second wait of a kind is
refused with WAIT_BUSY; READ is answered with both counts; a wait that passes TIMEOUT_US, after what has already reached the
engine (R248), is removed and its waiter told. The hods of tallies (TALLY_SET, TALLY_QUERY, TALLY_FREE: R241, R251, R555)
complete. -/
def Obligations.TallyOperationsAct : Prop :=
  (∀ (s : State) (x : Fin 8) (b : Brick) (h : Hub) (t : Tally), s.dev.hub.up = true →
      let p := b.part.toNat
      let id := dfield b.payload 0 2 % 16384
      let core := dfield b.payload 3 1
      let arg := dfield b.payload 4 4
      (h.talPart id = some p → h.tal id = some t → t.error = false → h.unavail t.prod p = false → h.unavail t.cons p = false →
        (SyncHead s x 1 b h → x.val = t.prod → t.p + arg ≤ 0xFFFFFFFF →
          exec (.addP x) s = .next (s.hubMap fun _ => h.settleTally p id { t with p := t.p + arg })) ∧
        (SyncHead s x 2 b h → x.val = t.cons → t.c + arg ≤ t.p →
          exec (.addC x) s = .next (s.hubMap fun _ => h.settleTally p id { t with c := t.c + arg })) ∧
        (SyncHead s x 3 b h → x.val = t.cons →
          (t.ge = none → t.le = none → arg ≤ t.p - t.c → exec (.waitGe x) s =
            .next (s.hubMap fun _ => (h.tallyReply p t.cons id 0x81 core arg { t with ge := some (arg, core) }).setTal id (some t))) ∧
          (t.ge = none → t.le = none → t.p - t.c < arg → exec (.waitGe x) s =
            .next (s.hubMap fun _ => h.setTal id (some { t with ge := some (arg, core) }))) ∧
          (t.ge ≠ none → exec (.waitGe x) s = .next (s.hubMap fun _ =>
            h.refuseSync x p { kind := 0x0A, obj := 1, id, value := t.p - t.c }))) ∧
        (SyncHead s x 4 b h → x.val = t.prod → t.ge = none →
          (t.le = none → t.p - t.c ≤ arg → exec (.waitLe x) s =
            .next (s.hubMap fun _ => (h.tallyReply p t.prod id 0x81 core arg { t with le := some (arg, core) }).setTal id (some t))) ∧
          (t.le = none → arg < t.p - t.c → exec (.waitLe x) s =
            .next (s.hubMap fun _ => h.setTal id (some { t with le := some (arg, core) })))) ∧
        (SyncHead s x 5 b h → (x.val = t.prod ∨ x.val = t.cons) →
          exec (.tallyRead x) s = .next (s.hubMap fun _ => h.tallyReply p x id 0x85 core arg t))) ∧
      (∀ id p w, s.dev.hub.drainSync.tal id = some t → s.dev.hub.drainSync.talPart id = some p →
        (t.ge = none → exec (.tallyWaitTimeout id true) s = .next (s.hubMap (·.drainSync))) ∧
        (t.ge = some w → exec (.tallyWaitTimeout id true) s = .next (s.hubMap fun h =>
          let h := h.drainSync
          let e := t.err 0x01 id true w.2
          ((((h.setTal id (some { t with ge := none })).syncError p [t.cons] e).bump 0x900018).flag 0x900000 2).eventOnce 0x0901 p
            [.u8 p, .u8 1, .u16 id, .u8 0, .u8 t.cons, .u8 t.prod] p)) ∧
        (t.le = some w → exec (.tallyWaitTimeout id false) s = .next (s.hubMap fun h =>
          let h := h.drainSync
          let e := t.err 0x01 id false w.2
          ((((h.setTal id (some { t with le := none })).syncError p [t.prod] e).bump 0x900018).flag 0x900000 2).eventOnce 0x0901 p
            [.u8 p, .u8 1, .u16 id, .u8 0, .u8 t.prod, .u8 t.cons] p)))) ∧
  TallyHodsAct

/-- What reaches the governor, and the last lines of defence (R258, R263, R268, R283, R284, R306): telemetry is taken before the
close where its bytes are valid and replaces earlier telemetry, and is counted as stale input otherwise; VRALERT forces
ACCx_THROT_L, and its release after 10 µs starts the VR_HOLD cap and is recorded with its length; FLOW_LOSS stops the
accelerators until it has been away for 1 s; an expired lease leaves the rack floor, and its record names no one accelerator
(log entry 108). The hods of the governor (PWR_QUERY, PHASE_TABLE_SET, EST_RESET: R287) complete. -/
def Obligations.GovernorInputsAct : Prop :=
  (∀ (s : State) (x : Fin 8), s.dev.hub.up = true →
      let h := s.dev.hub
      (∀ b h', h.takeBrick 0xC2 x .telemetry = some (b, h') →
        ((h'.crs.closed = true ∨ telemOk b = false) → exec (.telemetry x) s =
          .next (s.hubMap fun _ => h'.updAcc x fun g => { g with badTelem := sat 255 (g.badTelem + 1) })) ∧
        (h'.crs.closed = false → telemOk b = true → (leNat (slice b.payload 1 1)).testBit 0 = false → exec (.telemetry x) s =
          .next (s.hubMap fun _ => h'.updAcc x fun g => { g with telem := some (telemOf b), fresh := true })) ∧
        (h'.crs.closed = false → telemOk b = true → (leNat (slice b.payload 1 1)).testBit 0 = true → exec (.telemetry x) s =
          .next (s.hubMap fun _ => (h'.updAcc x fun g => { g with telem := some (telemOf b), fresh := true }).ageing x
            (leNat (slice b.payload 3 1)) (leNat (slice b.payload 4 1))))) ∧
      (h.gov.rounds = 0 → h.gov.lease ≠ 0 → exec .leaseExpiry s = .next (s.hubMap fun h =>
        ({ h with gov := { h.gov with lease := 0 } }.flag 0xA0001C 1).event 0x0A08 [.u8 0xFF, .u32 (h.fld 0xA0000C 15 0)])) ∧
      (h.therm.aux = true →
        ((h.acc x).vrForced = false → exec (.vralertAssert x) s = .next (s.hubMap (·.reasonEdge x fun h =>
          h.updAcc x fun g => { g with vrWire := true, vrForced := true }))) ∧
        ((h.acc x).vrForced = true → exec (.vralertAssert x) s = .next (s.hubMap fun h =>
          (h.event 0x0A01 [.u8 x, .u32 (Config.elapsed h.free).toNat]).tick)) ∧
        ((h.acc x).vrForced = true → exec (.vralertReleaseTimeout x) s = .next (s.hubMap fun h =>
          ((h.reasonEdge x fun h => h.updAcc x fun g =>
            { g with vrWire := false, vrForced := false, vrHold := h.fld 0xA00018 15 8 }).event 0x0A01
              [.u8 x, .u32 (Config.elapsed h.free).toNat]).tick)) ∧
        (h.hs.stop = false → exec .flowLossAssert s = .next (s.hubMap fun h =>
          ({ h with hs := { h.hs with flowLoss := true } }.driveStop true).event 0x0A02 [.u8 1])) ∧
        (h.hs.stop = true → exec .flowLossAssert s = .next (s.hubMap fun h => { h with hs := { h.hs with flowLoss := true } })) ∧
        (h.hs.step ≠ 4 → exec .flowLossDeassert s = .next (s.hubMap fun h => { h with hs := { h.hs with flowLoss := false } })) ∧
        (h.hs.step = 4 → exec .flowLossDeassert s =
          .next (s.hubMap fun h => { h with hs := { h.hs with flowLoss := false, step := 5 } }.seqSettle)) ∧
        (h.hs.stop = true → h.hs.flowLoss = false → exec .flowLossReleaseTimeout s =
          .next (s.hubMap fun h => (h.driveStop false).event 0x0A02 [.u8 0])))) ∧
  GovernorHodsAct

/-- A hot-swap channel (R295 to R304): seating moves it from WAIT_SEAT to WAIT_SLOT; unseating turns its gate off and returns it
to WAIT_SEAT; the startable channel with the slot ramps; power-good turns it ON, and RST_DELAY later its reset is released; a
live channel trips on the fast comparator, the breaker, the SOA energy, the ramp time-out and, unless its SAR path has failed
(R349), lost enhancement: the trip is counted and recorded, and the channel backs off with one more retry, or latches once
RETRY_MAX are used; a back-off ends in WAIT_SLOT, and 60 s ON clear the retries. The hods of the channels (HS_OFF, HS_ON,
HS_RELEASE, HS_QUERY: R301, R310) complete. -/
def Obligations.HotSwapChannelActs : Prop :=
  (∀ (s : State) (x : Fin 8) (c : Fin 10) (cur vds : Nat), s.dev.hub.up = true → s.dev.hub.therm.aux = true →
      let h := s.dev.hub
      let k := h.hsCh c
      let tripped (cause : Nat) (h : Hub) : Hub :=
        let g := ((h.bump (hsReg c 0x18)).eventOnce 0x0B02 c [.u8 c, .u8 cause, .u8 k.retries, .u32 cur, .u32 vds]).faultMet 13
        if h.fld (hsReg c 0) 30 28 ≤ k.retries then (g.gateOff c .latched cause).event 0x0B03 [.u8 c, .u8 cause]
        else (g.gateOff c .backoff cause).updHs c fun k => { k with retries := k.retries + 1 }
      ((h.hsCh x).seated = false → exec (.sledSeated x) s = .next (s.hubMap fun h =>
        ((h.pushAgain x).updHs x fun k => { k with seatA := true, seatB := true, st := if k.st = .waitSeat then .waitSlot else k.st }).event
          0x0B05 [.u8 x, .u8 0, .u8 (h.hsCh x).st.code])) ∧
      ((h.hsCh x).seated = true → (h.hsCh x).st ≠ .disabled → (h.hsCh x).hot = false →
        exec (.sledUnseated x true) s = .next (s.hubMap fun h =>
          (((h.updHs x fun k => { k with seatB := false }).gateOff x .waitSeat 0x9).updHs x
            fun k => { k with retries := 0, hot := false }).event 0x0B05 [.u8 x, .u8 1, .u8 (h.hsCh x).st.code])) ∧
      (h.startable c = true → (8 ≤ c.val ∨ h.nextSlot = some c.val) → exec (.rampStart c) s =
        .next (s.hubMap fun h =>
          (h.updHs c fun k => { k with st := .ramp, rst := decide (c.val < 8), fresh := true }).seqSettle)) ∧
      (k.st = .ramp → (∀ ms peak, exec (.powerGood c ms peak) s = .next (s.hubMap fun h =>
          (h.updHs c fun k => { k with st := .on }).event 0x0B01 [.u8 c, .u32 ms, .u32 peak])) ∧
        exec (.rampTimeout c cur vds) s = .next (s.hubMap (tripped 5))) ∧
      (k.st = .on →
        (c.val < 8 → k.offPend = false → h.hs.down.contains c.val = false → exec (.rstDelayExpiry c) s = .next (s.hubMap (·.updHs c fun k => { k with rst := false }))) ∧
        (k.sarFault = false → exec (.enhLost c cur vds) s = .next (s.hubMap (tripped 6))) ∧
        (k.sarFault = true → exec (.enhLost c cur vds) s = .next s) ∧
        exec (.retryCountReset c) s = .next (s.hubMap (·.updHs c fun k => { k with retries := 0 }))) ∧
      ((k.st = .ramp ∨ k.st = .on) →
        exec (.fastTrip c cur vds) s = .next (s.hubMap (tripped 1)) ∧
        exec (.breakerTimeout c cur vds) s = .next (s.hubMap (tripped 2)) ∧
        ∀ acc, h.fld (hsReg c 8) 27 16 < acc → exec (.soaTrip c acc cur vds) s =
          .next (s.hubMap fun h => tripped 3 (h.updHs c fun k => { k with soa := acc * 10 ^ 9 }))) ∧
      (k.st = .backoff → exec (.backoffEnd c) s = .next (s.hubMap (·.updHs c fun k => { k with st := .waitSlot })))) ∧
  ChannelHodsAct

/-- The tray (R302, R303, R306, R308, R310, R327): a bus out of limits turns every live channel off into WAIT_SLOT with its
cause, and its return is recorded; SYS_SHDN_L low at its pin holds H0 to H7 whatever their state, but for DISABLED ones (log
entry 110), and its rise is recorded for each channel it held; the power-up sequence goes H8 and H9, flow, sleds; FLOW_WAIT_S in
step 4 is flagged; each stage of TRAY_SEQ DOWN, and 1 ms after HS_OFF, turn the next gate off into CMD_OFF. Both forms of
TRAY_SEQ (R308) complete. -/
def Obligations.TraySequenceActs : Prop :=
  (∀ (s : State) (c : Fin 10) (mv : Nat), s.dev.hub.up = true → s.dev.hub.therm.aux = true →
      let h := s.dev.hub
      let uv := h.fld 0xB00004 7 0 * 100
      let ov := h.fld 0xB00004 15 8 * 100
      let live := (List.range 10).filter fun c => (h.hsCh c).live
      let cut := live.foldl (fun (h : Hub) c => h.gateOff c .waitSlot 0x7) { h with hs := { h.hs with vbus := mv } }
      (mv < uv → h.hs.busGood = true → exec (.busOutOfRange mv) s = .next (s.hubMap fun _ =>
        (({ cut with hs := { cut.hs with busGood := false } } : Hub).flag 0xB00000 1).event 0x0B08
          [.u16 mv, .u16 (live.foldl (fun m c => m + 2 ^ c) 0)])) ∧
      (uv ≤ mv → mv ≤ ov → exec (.busOutOfRange mv) s = .next (s.hubMap fun h => { h with hs := { h.hs with vbus := mv } })) ∧
      (uv ≤ mv → mv ≤ ov → h.hs.busGood = false → exec (.busGoodTimeout mv) s = .next (s.hubMap fun h =>
        ({ h with hs := { h.hs with vbus := mv, busGood := true } } : Hub).event 0x0B08 [.u16 mv, .u16 0])) ∧
      let pin (low : Bool) (h : Hub) : Hub := { h with cool := { h.cool with shdnExt := low } }
      (h.shdn = false → exec .sysShdnAssert s = .next (s.hubMap fun h => (List.range 8).foldl (fun h c =>
          if (h.hsCh c).st = .disabled then h
          else (h.gateOff c .held 0xC).event 0x0B0A [.u8 c, .u8 0xC]) ((pin true h).event 0x0C04 [.u8 0xFF, .u16 0]))) ∧
      (h.shdn = true → exec .sysShdnAssert s = .next (s.hubMap (pin true))) ∧
      (h.cool.shdnExt = true → h.cool.shdnCrit = false → h.therm.tripLatch = false →
        exec .sysShdnRelease s = .next (s.hubMap fun h => (List.range 8).foldl (fun h c =>
          if (h.hsCh c).st = .held ∧ (h.hsCh c).cause = 0xC then h.event 0x0B0A [.u8 c, .u8 0xC] else h)
            ((pin false h).event 0x0C04 [.u8 0xFF, .u16 0]))) ∧
      ((h.cool.shdnCrit = true ∨ h.therm.tripLatch = true) → exec .sysShdnRelease s = .next (s.hubMap (pin false))) ∧
      (h.hs.step = 2 → exec .traySeqStep s = .next (s.hubMap fun h => { h with hs := { h.hs with step := 3 } })) ∧
      (h.hs.step = 3 → (h.hsCh 8).st = .on → (h.hsCh 9).st = .on →
        exec .traySeqStep s = .next (s.hubMap fun h => { h with hs := { h.hs with step := 4 } })) ∧
      (h.hs.step = 3 → (h.hsCh 8).st = .ramp → exec .traySeqStep s = .next s) ∧
      (h.hs.step = 4 → (h.cool.liquid = false ∨ h.hs.flowLoss = false) →
        exec .traySeqStep s = .next (s.hubMap fun h => { h with hs := { h.hs with step := 5 } }.seqSettle)) ∧
      (h.hs.up = false → h.seqSettle = h) ∧ ((∀ x < 8, (h.hsCh x).st ≠ .waitSlot) → h.hs.step = 5 → h.seqSettle.hs.up = false) ∧
      (h.hs.step = 4 → h.cool.liquid = true → h.hs.flowLoss = true →
        exec .traySeqStep s = .next s ∧ exec .flowWaitTimeout s = .next (s.hubMap fun h =>
          (h.flag 0xB00000 3).event 0x0B09 [.u8 (h.fld 0xB00004 31 24)])) ∧
      (∀ n rest, h.hs.down = n :: rest → (h.hsCh n).st = .on → exec .seqDownStep s = .next (s.hubMap fun h =>
        ({ h with hs := { h.hs with down := rest } } : Hub).gateOff n .cmdOff 0xD)) ∧
      ((h.hsCh c).offPend = true → (h.hsCh c).st = .on →
        exec (.hsOffGateOff c) s = .next (s.hubMap (·.gateOff c .cmdOff 0xD)))) ∧
  SequenceHodsAct

/-- Zones, fans and inputs (R318, R319, R323, R324, R326 to R328): at an update boundary the zones' loops run and the channels
follow; an AUTO zone's loop takes its hottest valid input and its error, and without a valid input asks for full duty; five
seconds without a heartbeat set HOST_SILENT; slow and recovered tachs change their channel at the next boundary; low flow warns;
an input that reads open or short fails with its code, and is restored after a second in range; a standard input in range at the
critical threshold pulls SYS_SHDN_L low until every comparator has been 5 °C below it for 1 s. COOL_HEARTBEAT and COOL_QUERY
(R323, R333) complete. -/
def Obligations.CoolingResponds : Prop :=
  (∀ (s : State) (c : Fin 14) (i : Fin 26) (v : BitVec 16), s.dev.hub.up = true →
      let h := s.dev.hub
      let k := h.coolCh c
      let tach (h : Hub) : Hub := h.updCool c fun k => { k with tach := v.toNat }
      (h.cool.zoneDue = true → exec .zoneUpdate s =
        .next (s.hubMap fun h => ({ h with cool := { h.cool with zoneDue := false } } : Hub).coolBoundary)) ∧
      (∀ z, h.zoneInputs z h.snapInput = [] →
        ((h.zoneLoop z).zone z).target = fullDuty ∧ ((h.zoneLoop z).zone z).noInput = true) ∧
      (∀ z n t, h.zoneInputs z h.snapInput = [(n, t)] →
        let e : Int := t - (bits (h.reg (zoneReg z 0)) 9 0 : Nat)
        let integ := clampDuty 0 (roundInteg ((h.zone z).integ + (h.fld (zoneReg z 0x20) 15 8 : Nat) * e * 1250))
        ((h.zoneLoop z).zone z).integ = integ ∧ ((h.zoneLoop z).zone z).tz = t ∧
        ((h.zoneLoop z).zone z).target = clampDuty (bits (h.reg (zoneReg z 0)) 19 10 * permille)
          ((h.fld (zoneReg z 0x20) 7 0 : Nat) * e * 12500 + integ)) ∧
      (h.cool.hostSilent = false → exec .hostSilenceTimeout s = .next (s.hubMap fun h =>
        ({ h with cool := { h.cool with hostSilent := true } } : Hub).event 0x0C05 [.u32 5])) ∧
      (h.coolMon c = true → k.st = .ok → (h.hsCh (busOf c)).st = .on → 20000000 ≤ k.cmd →
        5 * v.toNat < h.expected c → exec (.fanFailTimeout c v) s =
          .next (s.hubMap fun h => (tach h).updCool c fun k => { k with pend := some .failed })) ∧
      (k.st = .failed → h.expected c ≤ 2 * v.toNat → exec (.fanRecoverTimeout c v) s =
        .next (s.hubMap fun h => (tach h).updCool c fun k => { k with pend := some .ok })) ∧
      (12 ≤ c.val → h.coolMon c = true → v.toNat < 10 * h.fld (coolReg c 0x20) 31 16 → exec (.pumpFlowLowTimeout c v) s =
        .next (s.hubMap fun h => ((h.updCool c fun k => { k with flow := v.toNat }).flag 0xC00000 4).event 0x0C07
          [.u8 c, .u16 v.toNat])) ∧
      (h.inputFault i = false → (i.val < 8 ∨ (24 ≤ i.val ∧ h.cool.liquid = true)) →
        ((h.adcCh i).last = 4 ∨ (h.adcCh i).last = 5) →
        exec (.sensorFaultTimeout i) s = .next (s.hubMap fun h =>
          ((({ h with cool := { h.cool with fault := h.cool.fault + 2 ^ i.val } } : Hub).flag 0xC00000 3).event 0x0C03
            [.u8 i, .u8 (if i.val < 24 then 0 else 1), .u8 (h.adcCh i).last]).faultMet 11)) ∧
      (h.inputFault i = true → (i.val < 8 ∨ 24 ≤ i.val) → (h.adcCh i).last = 0 →
        exec (.sensorRestoreTimeout i) s = .next (s.hubMap fun h =>
          ({ h with cool := { h.cool with fault := h.cool.fault - 2 ^ i.val } } : Hub).event 0x0C03
            [.u8 i, .u8 (if i.val < 24 then 0 else 1), .u8 0])) ∧
      (h.therm.aux = true →
        (∀ (j : Fin 24) (t : Int), h.shdn = false → h.inputOpen j = false → 8 * (95 + 5 * (h.cool.critSel : Int)) ≤ t →
          exec (.critComparatorTrip j t) s = .next (s.hubMap fun h =>
            (({ h with cool := { h.cool with shdnCrit := true } } : Hub).event 0x0C04 [.u8 j, .u16 (unsigned 16 t)]).shdnFall)) ∧
        (∀ (j : Fin 24) (t : Int), (h.inputOpen j = true ∨ t < 8 * (95 + 5 * (h.cool.critSel : Int))) →
          exec (.critComparatorTrip j t) s = .next s) ∧
        (h.cool.shdnCrit = true → h.cool.shdnExt = false → h.therm.tripLatch = false →
          exec .critReleaseTimeout s = .next (s.hubMap fun h =>
            (({ h with cool := { h.cool with shdnCrit := false } } : Hub).event 0x0C04 [.u8 0xFF, .u16 0]).shdnRise)))) ∧
  CoolingHodsAct

/-- Leak ropes (R329 to R331): each enabled rope is measured; a dry reading ends MOIST, LEAK and OPEN and counts toward the ten
dry seconds; below MOIST_K for a second the rope is MOIST, above 1,500 kΩ or without a reading it is OPEN, below LEAK_K for 50
ms it leaks: its action latches, H8 and the mapped channels are held, the pumps stop in liquid mode, and the leak is counted and
recorded. LEAK_CLEAR and LEAK_QUERY (R332, R333) complete. -/
def Obligations.LeakRopesAct : Prop :=
  (∀ (s : State) (r : Fin 6), s.dev.hub.up = true → s.dev.hub.therm.aux = true →
      let h := s.dev.hub
      let k := h.rope r
      (∀ vs, exec (.ropeMeasure vs) s = .next (s.hubMap fun h =>
        (List.range 6).foldl (fun h r => h.ropeRead r (vs.getD r none)) h)) ∧
      (∀ res, h.ropeEn r = true → h.moistK r < res → res ≤ 1500 →
        (h.ropeRead r (some res)).rope r = { k with
          res, seen := true, known := true, st := 0, dryRun := sat 1000 (k.dryRun + 1) }) ∧
      (∀ res, h.ropeEn r = true → res ≤ h.moistK r → res ≤ 1500 →
        (h.ropeRead r (some res)).rope r = { k with res, seen := true, known := true, dryRun := 0 }) ∧
      (h.ropeEn r = true → k.known = true → k.st = 0 → k.res < h.moistK r → exec (.ropeMoist r) s =
        .next (s.hubMap fun h => (h.updRope r fun k => { k with st := 1, dryRun := 0 }).event 0x0D01 [.u8 r, .u16 k.res])) ∧
      (h.ropeEn r = true → k.st ≠ 3 → (1500 < k.res ∨ k.seen = false) → exec (.ropeOpen r) s =
        .next (s.hubMap fun h => (h.updRope r fun k => { k with st := 3, dryRun := 0 }).event 0x0D03 [.u8 r])) ∧
      (h.ropeEn r = true → k.known = true → k.res < h.leakK r → k.st ≠ 2 → k.action = false →
        exec (.leakAction r) s = .next (s.hubMap fun h =>
          let h := h.updRope r fun k => { k with st := 2, dryRun := 0, action := true }
          let h := (List.range 9).foldl (fun h c => if c = 8 ∨ h.bitAt (ropeCfg r) c then h.holdCh c 0xB else h) h
          let h := if h.cool.liquid then
            (h.updCool 12 fun k => { k with cmd := 0, st := .stopped }).updCool 13 fun k => { k with cmd := 0, st := .stopped } else h
          (h.bump 0xD00050).event 0x0D02 [.u8 r, .u16 k.res, .u8 (h.fld (ropeCfg r) 7 0)]))) ∧
  LeakHodsAct

/-- The scanning ADC and the SAR paths (R341 to R347, R349): a frame visits the enabled channels in ascending order; a
conversion during settling gives an invalid word and otherwise a word with the sample's reason and value, mirrored with the
next sequence number; a calibration outside its tolerance is flagged and recorded; a converter fault of 50 ms fails the inputs;
a SAR path's check is recorded when its outcome changes (log entry 114), while it fails the current counts as the limit and V_DS
as the bus voltage, and an SOA accumulator past SOA_E trips the channel (R304). -/
def Obligations.ScanAndCheck : Prop :=
  ∀ (s : State) (smp : Sample), s.dev.hub.up = true → s.dev.hub.therm.aux = true →
    let h := s.dev.hub
    (∀ k rest, (List.range 48).filter (adcEn h.reg) = k :: rest → exec .scanFrame s = .next (s.hubMap fun h =>
      { h with sense := { h.sense with visit := some (h.visitOf k 0 0), queue := rest, clean := true } })) ∧
    (∀ v, h.sense.visit = some v → h.sense.fault = false → smp.reason ≠ 7 →
      (0 < v.invalid → v.reason ≠ 0 → v.reason < 4 → exec (.adcConversion smp) s = .next (s.hubMap fun h =>
        let h := h.mirrorWord v.ch false v.reason 0
        { h with sense := { h.sense with visit := some { v with invalid := v.invalid - 1 } } })) ∧
      (v.invalid = 0 → (smp.reason < 4 ∨ 6 < smp.reason) → exec (.adcConversion smp) s = .next (s.hubMap fun h =>
        (((h.mirrorWord v.ch true 0 smp.raw.toNat).updAdc v.ch fun c =>
          { c with last := 0, reading := some smp.reading }).useReading v.ch smp.reading).nextVisit v))) ∧
    (∀ k value, let g := h.mirrorWord k true 0 value
      (g.mirrorOf k).valid = 2 ^ 31 + k * 2 ^ 22 + ((h.adcCh k).seq + 1).toNat * 2 ^ 16 + value % 65536 ∧
      (g.mirrorOf k).word = (g.mirrorOf k).valid) ∧
    (∀ ofs gain, h.sense.visit = none → exec (.adcCalibration false ofs gain) s = .next (s.hubMap fun h =>
      ((((h.mirrorWord 46 false 7 0).mirrorWord 47 false 7 0).flag 0xE00000 2).event 0x0E02
        [.u16 (unsigned 16 ofs), .u16 (unsigned 16 gain)]).finishWait 0x0E02 .ok 0 [])) ∧
    (∀ ofs gain, h.sense.visit = none → h.sense.fault = false → exec (.adcCalibration true ofs gain) s = .next (s.hubMap fun h =>
      ((h.mirrorWord 46 false 7 0).mirrorWord 47 false 7 0).finishWait 0x0E02 .ok 0 [])) ∧
    (h.sense.fault = true → h.sense.adcFault = false → exec .adcFaultTimeout s = .next (s.hubMap fun h =>
      (List.range 26).foldl (fun h i => h.loseInput i 7)
        ((({ h with sense := { h.sense with adcFault := true } } : Hub).event 0x0E01 [.u8 1, .u8 0]).faultMet 11))) ∧
    (∀ (c : Fin 10) (cur vsrc vds : Nat),
      let soa (i v : Nat) : Nat := soaStep (h.hsCh c).soa i v (h.fld (hsReg c 8) 15 8)
      let energy := h.fld (hsReg c 8) 27 16 * 10 ^ 9
      let limit := h.fld (hsReg c 4) 8 0 * 125000 / Config.shunt c
      let shown (ok : Bool) (i v : Nat) (h : Hub) : Hub := h.updHs c fun k => { k with
        cur := if ok then i / 10 else 0xFFFF, vsrc := if ok then vsrc / 10 else 0xFFFF, sarFault := !ok, soa := soa i v }
      ((h.hsCh c).sarFault = false →
        (soa cur vds ≤ energy → exec (.sarCheck c true cur vsrc vds) s = .next (s.hubMap (shown true cur vds))) ∧
        (energy < soa cur vds →
          exec (.sarCheck c true cur vsrc vds) s = .next (s.hubMap fun h => (shown true cur vds h).trip c 0x3 cur vds)) ∧
        (soa limit (h.hs.vbus * 10) ≤ energy → exec (.sarCheck c false cur vsrc vds) s = .next (s.hubMap fun h =>
          ((shown false limit (h.hs.vbus * 10) h).flag 0xE00000 6).event 0x0E06 [.u8 c, .u8 0, .u8 0]))) ∧
      ((h.hsCh c).sarFault = true → soa cur vds ≤ energy → exec (.sarCheck c true cur vsrc vds) s =
        .next (s.hubMap fun h => (shown true cur vds h).event 0x0E06 [.u8 c, .u8 0, .u8 1])))

/-- The die monitors (R350 to R352, R544): the sensors' update may start self-throttle or trip; a failed sensor is flagged,
recorded and counts as the hottest; a voltage outside its window for 100 µs is flagged and recorded once a course with the limit
it crossed; process monitors are counted and warn past their threshold, and their daily average is stored with its trend.
SENSE_READ, SENSE_CAL and MON_READ (R346, R353) complete. -/
def Obligations.DieMonitorsAct : Prop :=
  (∀ (s : State) (m : Fin 32) (v : Fin 24), s.dev.hub.up = true →
      let h := s.dev.hub
      (∀ rs back, exec (.dtsUpdate rs back) s =
        .next (s.devMap fun d => (d.hubMap fun h => (h.dtsUpdate rs back.toNat).throtCheck).thermTrip)) ∧
      (∀ rs back, (∀ n < 32, ((h.dtsUpdate rs back.toNat).dts n).reading < 800 ∧ ((h.dtsUpdate rs back.toNat).dts n).fail = false) →
        exec (.dtsUpdate rs back) s = .next (s.hubMap fun h => h.dtsUpdate rs back.toNat)) ∧
      ((h.dts m).fail = false → h.inputFault 26 = false → ∀ cause, exec (.dtsFail m cause) s = .next (s.hubMap fun h =>
        ((({ ((((h.updDts m fun d => { d with fail := true }).flag 0xE00000 3).event 0x0E04 [.u8 m, .u8 (cause.val + 1)]).faultMet 11) with
          cool := { h.cool with fault := h.cool.fault + 2 ^ 26 } } : Hub).flag 0xC00000 3).event 0x0C03
            [.u8 26, .u8 1, .u8 7]).throtCheck)) ∧
      (∀ rs, exec (.vmonSample rs) s = .next (s.hubMap fun h => (List.range 24).foldl (fun h v =>
        let lim := h.vmonLim v
        { h with sense := { h.sense with vmon := h.sense.vmon.upd {} v (fun k =>
          let mv := rs.getD v k.mv % 65536
          { mv, ext := some (match k.ext with | none => (mv, mv) | some e => (min e.1 mv, max e.2 mv))
            out := k.out && (decide (mv < lim.1) || decide (lim.2 < mv)) }) } }) h)) ∧
      ((h.vmon v).out = false →
        let low := h.fld (0xE00700 + 4 * v) 15 0
        let high := h.fld (0xE00700 + 4 * v) 31 16
        let out (h : Hub) (limit : Nat) : Hub :=
          (({ h with sense := { h.sense with vmon := h.sense.vmon.upd {} v fun k => { k with out := true } } } : Hub).flag
            0xE00000 4).eventOnce 0x0E03 v [.u8 v, .u16 (h.vmon v).mv, .u16 limit]
        ((h.vmon v).mv < low → exec (.vmonExcursion v) s = .next (s.hubMap fun h => out h low)) ∧
        (low ≤ (h.vmon v).mv → high < (h.vmon v).mv → exec (.vmonExcursion v) s = .next (s.hubMap fun h => out h high)) ∧
        (low ≤ (h.vmon v).mv → (h.vmon v).mv ≤ high → exec (.vmonExcursion v) s = .next s)) ∧
      (∀ cs, ∃ t, exec (.pmCount cs) s = .next t ∧ t.pending = s.pending ∧ t.dev.mem = s.dev.mem ∧ t.dev.otp = s.dev.otp ∧
        t.dev.hub.hs = h.hs ∧ t.dev.hub.cool = h.cool ∧ t.dev.hub.sense.dts = h.sense.dts) ∧
      (∃ t, exec .pmDailyStore s = .next t ∧ t.pending = s.pending ∧ t.dev.mem = s.dev.mem ∧ t.dev.otp = s.dev.otp ∧
        t.dev.hub.reg = h.reg ∧ ∀ n < 16, (h.pmon n).days.length < 64 →
          (t.dev.hub.pmon n).days = (h.pmon n).days ++ [(h.pmon n).age])) ∧
  SensingHodsAct

/-- A request's payload reads back (R388): whatever fields a row has, the arguments laid out at their alignments are read as
those arguments, and the payload has the length that its fields add up to. -/
def Obligations.HodArgumentsReadBack : Prop :=
  ∀ (fs : List Fld) (as : List Arg), Fits fs as → readArgs fs (encodeArgs as) = (as, (encodeArgs as).length)

/-- The commands that send a hod request, each with its opcode and its arguments (R399). -/
inductive HodRow (c : Call) : Instr → Nat → List Arg → Prop
  | pageAlloc (part : Byte) (n : BitVec 16) (pin : Byte) :
      HodRow c (.pageAlloc c part n pin) 0x0401 [.u8 part.toNat, .u16 n.toNat, .u8 pin.toNat]
  | pageFree (pages : List Word) :
      HodRow c (.pageFree c pages) 0x0402 [.list 4 (pages.map BitVec.toNat)]
  | leaseSet (page : Word) (lessees : Byte) (writer : Byte) :
      HodRow c (.leaseSet c page lessees writer) 0x0403 [.u32 page.toNat, .u8 lessees.toNat, .u8 writer.toNat]
  | pagePin (page : Word) (unpin : Byte) :
      HodRow c (.pagePin c page unpin) 0x0404 [.u32 page.toNat, .u8 unpin.toNat]
  | pteRead (page : Word) :
      HodRow c (.pteRead c page) 0x0405 [.u32 page.toNat]
  | pageMove (page : Word) (demote : Byte) :
      HodRow c (.pageMove c page demote) 0x0501 [.u32 page.toNat, .u8 demote.toNat]
  | hubOpndWrite (tile : BitVec 16) (offset : Word) (len : Word) (bytes : List Byte) :
      HodRow c (.hubOpndWrite c tile offset len bytes) 0x0601 [.u16 tile.toNat, .u32 offset.toNat, .u32 len.toNat, .block bytes]
  | hubOpndRead (tile : BitVec 16) (offset : Word) (len : Word) :
      HodRow c (.hubOpndRead c tile offset len) 0x0602 [.u16 tile.toNat, .u32 offset.toNat, .u32 len.toNat]
  | collAbort (part : Byte) (coll : BitVec 16) :
      HodRow c (.collAbort c part coll) 0x0603 [.u8 part.toNat, .u16 coll.toNat]
  | smpProgWrite (tile : BitVec 16) (offset : Word) (record : List Byte) :
      HodRow c (.smpProgWrite c tile offset record) 0x0701 [.u16 tile.toNat, .u32 offset.toNat, .record record]
  | smpBind (stream : BitVec 16) (tile : BitVec 16) (offset : Word) (seed : Option (BitVec 64)) :
      HodRow c (.smpBind c stream tile offset seed) 0x0702 [.u16 stream.toNat, .u16 tile.toNat, .u32 offset.toNat, .u8 (b2n seed.isSome), .u64 ((seed.map BitVec.toNat).getD 0)]
  | smpStateSet (stream : BitVec 16) (aut : Option Word) (clear : Byte) (tokens : List Word) :
      HodRow c (.smpStateSet c stream aut clear tokens) 0x0703 [.u16 stream.toNat, .u8 (b2n aut.isSome), .u32 ((aut.map BitVec.toNat).getD 0), .u8 clear.toNat, .list 4 (tokens.map BitVec.toNat)]
  | smpLast (stream : BitVec 16) :
      HodRow c (.smpLast c stream) 0x0704 [.u16 stream.toNat]
  | smpTableWrite (tile : BitVec 16) (offset : Word) (bytes : List Byte) :
      HodRow c (.smpTableWrite c tile offset bytes) 0x0705 [.u16 tile.toNat, .u32 offset.toNat, .block bytes]
  | streamReady (stream : BitVec 16) (user : List Byte) :
      HodRow c (.streamReady c stream user) 0x0801 [.u16 stream.toNat, .record user]
  | streamPark (stream : BitVec 16) :
      HodRow c (.streamPark c stream) 0x0802 [.u16 stream.toNat]
  | streamStop (stream : BitVec 16) :
      HodRow c (.streamStop c stream) 0x0803 [.u16 stream.toNat]
  | streamReset (stream : BitVec 16) :
      HodRow c (.streamReset c stream) 0x0804 [.u16 stream.toNat]
  | streamSetQueue (stream : BitVec 16) (queue : Byte) :
      HodRow c (.streamSetQueue c stream queue) 0x0805 [.u16 stream.toNat, .u8 queue.toNat]
  | streamQuery (stream : BitVec 16) :
      HodRow c (.streamQuery c stream) 0x0806 [.u16 stream.toNat]
  | jobStart (part : Byte) (seed : BitVec 64) :
      HodRow c (.jobStart c part seed) 0x0807 [.u8 part.toNat, .u64 seed.toNat]
  | jobEnd (part : Byte) :
      HodRow c (.jobEnd c part) 0x0808 [.u8 part.toNat]
  | partSwitch (part : Byte) :
      HodRow c (.partSwitch c part) 0x0809 [.u8 part.toNat]
  | barSet (bar : BitVec 16) (record : List Byte) :
      HodRow c (.barSet c bar record) 0x0901 [.u16 bar.toNat, .record record]
  | barFree (bar : BitVec 16) :
      HodRow c (.barFree c bar) 0x0902 [.u16 bar.toNat]
  | barReset (bar : BitVec 16) :
      HodRow c (.barReset c bar) 0x0903 [.u16 bar.toNat]
  | barArrive (bar : BitVec 16) (phase : Byte) :
      HodRow c (.barArrive c bar phase) 0x0904 [.u16 bar.toNat, .u8 phase.toNat]
  | barQuery (bar : BitVec 16) :
      HodRow c (.barQuery c bar) 0x0905 [.u16 bar.toNat]
  | tallySet (tally : BitVec 16) (record : List Byte) :
      HodRow c (.tallySet c tally record) 0x0906 [.u16 tally.toNat, .record record]
  | tallyQuery (tally : BitVec 16) :
      HodRow c (.tallyQuery c tally) 0x0907 [.u16 tally.toNat]
  | tallyFree (tally : BitVec 16) :
      HodRow c (.tallyFree c tally) 0x0908 [.u16 tally.toNat]
  | pwrQuery (acc : Byte) :
      HodRow c (.pwrQuery c acc) 0x0A01 [.u8 acc.toNat]
  | phaseTableSet (acc : Byte) (record : List Byte) :
      HodRow c (.phaseTableSet c acc record) 0x0A02 [.u8 acc.toNat, .record record]
  | estReset (acc : Byte) (which : Byte) :
      HodRow c (.estReset c acc which) 0x0A03 [.u8 acc.toNat, .u8 which.toNat]
  | hsOff (mask : BitVec 16) :
      HodRow c (.hsOff c mask) 0x0B01 [.u16 mask.toNat]
  | hsOn (mask : BitVec 16) :
      HodRow c (.hsOn c mask) 0x0B02 [.u16 mask.toNat]
  | hsRelease (ch : Byte) :
      HodRow c (.hsRelease c ch) 0x0B03 [.u8 ch.toNat]
  | hsQuery (ch : Byte) :
      HodRow c (.hsQuery c ch) 0x0B04 [.u8 ch.toNat]
  | traySeqUp :
      HodRow c (.traySeqUp c) 0x0B05 [.u8 0]
  | traySeqDown :
      HodRow c (.traySeqDown c) 0x0B05 [.u8 1]
  | coolHeartbeat :
      HodRow c (.coolHeartbeat c) 0x0C01 []
  | coolQuery (what : Byte) (index : Byte) :
      HodRow c (.coolQuery c what index) 0x0C02 [.u8 what.toNat, .u8 index.toNat]
  | leakClear (mask : Byte) :
      HodRow c (.leakClear c mask) 0x0D01 [.u8 mask.toNat]
  | leakQuery :
      HodRow c (.leakQuery c) 0x0D02 []
  | senseRead (mask : BitVec 64) :
      HodRow c (.senseRead c mask) 0x0E01 [.u64 mask.toNat]
  | senseCal :
      HodRow c (.senseCal c) 0x0E02 []
  | monRead :
      HodRow c (.monRead c) 0x0E03 []
  | txnBegin :
      HodRow c (.txnBegin c) 0x0F01 []
  | txnCommit (id : BitVec 16) (ref : Option Word) :
      HodRow c (.txnCommit c id ref) 0x0F02 [.u16 id.toNat, .u8 (b2n ref.isSome), .u32 ((ref.map BitVec.toNat).getD 0)]
  | txnAbort (id : BitVec 16) :
      HodRow c (.txnAbort c id) 0x0F03 [.u16 id.toNat]
  | cfgRefSet (ref : Word) :
      HodRow c (.cfgRefSet c ref) 0x0F04 [.u32 ref.toNat]
  | warmReset :
      HodRow c (.warmReset c) 0x0F05 []
  | hodEcho (bytes : List Byte) :
      HodRow c (.hodEcho c bytes) 0x0F06 [.block bytes]
  | hodCaps :
      HodRow c (.hodCaps c) 0x0F07 []
  | idRead (bus : Byte) (addr : Byte) (offset : Word) (len : Word) :
      HodRow c (.idRead c bus addr offset len) 0x1001 [.u8 bus.toNat, .u8 addr.toNat, .u32 offset.toNat, .u32 len.toNat]
  | smbStatus :
      HodRow c (.smbStatus c) 0x1002 []
  | rackQuery (pos : Byte) :
      HodRow c (.rackQuery c pos) 0x1101 [.u8 pos.toNat]
  | rackRoleRequest :
      HodRow c (.rackRoleRequest c) 0x1102 []
  | rackSleep :
      HodRow c (.rackSleep c) 0x1103 []
  | fwWrite (flags : Byte) (offset : Word) (bytes : List Byte) :
      HodRow c (.fwWrite c flags offset bytes) 0x1201 [.u8 flags.toNat, .u32 offset.toNat, .block bytes]
  | fwVerify (kind : Byte) (target : Byte) :
      HodRow c (.fwVerify c kind target) 0x1202 [.u8 kind.toNat, .u8 target.toNat]
  | fwActivate (kind : Byte) (target : Byte) (copy : Byte) :
      HodRow c (.fwActivate c kind target copy) 0x1203 [.u8 kind.toNat, .u8 target.toNat, .u8 copy.toNat]
  | fwActivateCancel :
      HodRow c (.fwActivateCancel c) 0x1203 [.u8 0, .u8 0xFF, .u8 0]
  | fwQuery :
      HodRow c (.fwQuery c) 0x1204 []
  | jobplaneLoad (flags : Byte) (offset : Word) (bytes : List Byte) :
      HodRow c (.jobplaneLoad c flags offset bytes) 0x1205 [.u8 flags.toNat, .u32 offset.toNat, .block bytes]
  | accImageWrite (target : Byte) (offset : Word) (bytes : List Byte) :
      HodRow c (.accImageWrite c target offset bytes) 0x1206 [.u8 target.toNat, .u32 offset.toNat, .block bytes]
  | secQuery :
      HodRow c (.secQuery c) 0x1301 []
  | jtagUnlockChallenge :
      HodRow c (.jtagUnlockChallenge c) 0x1302 [.u8 0, .u8 0, .u32 0, .block []]
  | jtagUnlockLevel (level : Byte) (duration : Word) (token : List Byte) :
      HodRow c (.jtagUnlockLevel c level duration token) 0x1302 [.u8 1, .u8 level.toNat, .u32 duration.toNat, .block token]
  | jtagRelock :
      HodRow c (.jtagRelock c) 0x1302 [.u8 2, .u8 0, .u32 0, .block []]
  | logRead (index : Word) (count : BitVec 16) :
      HodRow c (.logRead c index count) 0x1401 [.u32 index.toNat, .u16 count.toNat]
  | logClear :
      HodRow c (.logClear c) 0x1402 []
  | logStatus :
      HodRow c (.logStatus c) 0x1403 []
  | safetyQuery :
      HodRow c (.safetyQuery c) 0x1501 []

/-- Every hod request of a ready requester is executed (R386, R388 to R390, R396): outside a transaction, an opcode whose effect
takes place at a boundary is staged for the next one, any other is served at once; within its open transaction it is staged
there. -/
def Obligations.HodRequestsExecute : Prop :=
  ∀ (s : State) (c : Call) (i : Instr) (op : Nat) (args : List Arg) (r : OpRow),
    HodRow c i op args → findOp op = some r → HodReady s c r args →
    let q := hodReq s.dev.hub c op args
    let taken (d : Dev) : Dev := hodTaken d q (hodMsg c op args)
    (c.txn = 0 → r.bnd = true → exec i s = .next (s.devMap fun d => (taken d).hubMap (·.conclude q false .boundary))) ∧
    (c.txn = 0 → r.bnd = false → exec i s = .next (s.devMap fun d =>
      let a := (taken d).serveNow q
      a.1.hubMap (·.conclude q false a.2))) ∧
    (∀ t, c.txn ≠ 0 → s.dev.hub.openTxn c.who = some t → exec i s = .next (s.devMap fun d => (taken d).hubMap fun h =>
      let a := h.stageHod t q
      a.1.conclude q false a.2))

/-- What a requester sees of a request staged for the next boundary (R385, R386, R396): the request is the last of what is
staged, it stays outstanding, its window reads WAITING with code 0x15 and its tag, or DEFERRED with 0x1B for a sampler hod
during a self-test slice, and the memories and the fuses are as they were. -/
def Obligations.StagedHodsWait : Prop :=
  ∀ (s : State) (c : Call) (i : Instr) (op : Nat) (args : List Arg) (r : OpRow),
    HodRow c i op args → findOp op = some r → HodReady s c r args → r.bnd = true → c.txn = 0 → c.who ≠ .rack →
    let q := hodReq s.dev.hub c op args
    ∃ t, exec i s = .next t ∧ t.pending = s.pending ∧ t.dev.mem = s.dev.mem ∧ t.dev.otp = s.dev.otp ∧
      t.dev.hub.rb.staged = s.dev.hub.rb.staged ++ [.hod q] ∧ t.dev.hub.rb.txns = s.dev.hub.rb.txns ∧
      (let k := t.dev.hub.hod c.who.id
       k.out = some q ∧ k.tag = c.tag ∧ k.tags = (s.dev.hub.hod c.who.id).tags ∧
       (op / 256 ≠ 0x07 ∨ s.dev.hub.smp.inSlice = false → k.phase = .waiting ∧ k.code = 0x15) ∧
       (op / 256 = 0x07 → s.dev.hub.smp.inSlice = true → s.dev.hub.timed q = false → k.phase = .deferred ∧ k.code = 0x1B))

/-- The window and its doorbell (R383 to R386, R394, R397, R463): the buffer takes bytes while it is free and is locked while
its request is in progress; a RING of a free window hands the message to the hub, of a busy one it is only flagged; HOD.CTRL
holds the interrupt enable; the rack chain has no window. A message of another header version, or longer than its buffer, is
turned away first. Completions whose boundary has passed are released with the VF interrupts that are due. WARM_RESET, HOD_ECHO
and HOD_CAPS (R376, R378, R400) complete. -/
def Obligations.WindowAndDoorbell : Prop :=
  (∀ (s : State) (who : Requester) (ofs : Nat) (bs : List Byte), s.dev.hub.up = true →
      let h := s.dev.hub
      let k := h.hod who.id
      let msg := k.buf.readN 0 16 ++ k.buf.readN 16 (min 4080 (leNat (slice (k.buf.readN 0 16) 4 2)))
      let pend (h : Hub) : Hub := h.updHod who.id fun k => { k with phase := .pending, code := 0, tag := leNat (slice (k.buf.readN 0 16) 2 2) }
      (ofs < 0x1000 → k.locked = false → exec (.hodBufWrite who ofs bs) s = .next (s.hubMap (·.updHod who.id fun k =>
        { k with buf := k.buf.writeN ofs (bs.take (4096 - ofs)) }))) ∧
      (ofs < 0x1000 → k.locked = true → exec (.hodBufWrite who ofs bs) s = .next (s.hubMap (·.flag 0xF01000 1))) ∧
      (bs.length = 4 → exec (.hodBufWrite who 0x1008 bs) s = .next (s.hubMap (·.updHod who.id fun k =>
        { k with intrEn := (leNat bs).testBit 0 }))) ∧
      (bs.length = 4 → (leNat bs).testBit 16 = true → (leNat bs).testBit 0 = true →
        exec (.hodBufWrite who 0x1000 bs) s = exec (.hodRing who) s) ∧
      (who = .rack → exec (.hodRing who) s = .next s) ∧
      (who ≠ .rack →
        (k.locked = true → exec (.hodRing who) s = .next (s.hubMap (·.flag 0xF01000 2))) ∧
        (k.locked = false → exec (.hodRing who) s = .next (s.devMap fun d => (d.hubMap pend).intake who .window msg)) ∧
        (k.locked = false → k.out = none → k.stale = [] → leNat (slice msg 7 1) ≠ 1 → ∃ t, exec (.hodRing who) s = .next t ∧
          t.dev.mem = s.dev.mem ∧ t.dev.otp = s.dev.otp ∧ t.pending = s.pending ∧ t.dev.hub.rb = h.rb ∧
          (t.dev.hub.hod who.id).phase = .done ∧ (t.dev.hub.hod who.id).code = Status.version.code)) ∧
      exec .vfCompletionRelease s = .next (s.hubMap fun h =>
        let g := (h.hods.held.filter (·.due)).foldl (fun (h : Hub) c => h.releaseRsp c)
          { h with hods := { h.hods with held := h.hods.held.filter (!·.due) } }
        (onesBelow 8 g.bus.vfDue).foldl (fun h p => h.irq (p + 1) 1) { g with bus := { g.bus with vfDue := 0 } })) ∧
  SystemHodsAct

/-- What some requests do once their time comes (R146, R171, R225, R226, R228, R301, R310, R369, R371, R400): LEASE_SET sets a
VALID page's lessees and writer; COLL_ABORT ends an open collective with ABORTED; STREAM_PARK parks a READY stream; JOB_START
starts the next numbered job with a fresh rounding key, and only where none is; HS_OFF turns gates off, and a VF is refused;
HS_RELEASE returns a latched, seated channel without an active hold to WAIT_SLOT; CFG_REF_SET leaves its reference for the CRC;
TXN_BEGIN opens the requester's one transaction; HOD_ECHO answers with its bytes. -/
def Obligations.HodEffects : Prop :=
  ∀ (d : Dev) (q : HodReq) (a b c : Nat),
    let h := d.hub
    (q.op = 0x0403 → q.args = [.u32 a, .u8 b, .u8 c] → q.who.isVf = false → h.validPage a = true →
      (c.testBit 3 = true → b.testBit (c % 8) = true) → h.leaseUsed < 65536 →
      d.effect q = (d.hubMap (·.updPte a fun e => { e with
        lessees := b, writer := if c.testBit 3 then some (c % 8) else none }), .ok [])) ∧
    (∀ col, q.op = 0x0603 → q.args = [.u8 a, .u16 b] → q.who.isVf = false → h.coll? a b = some col →
      d.effect q = (d.hubMap fun h => h.endColl col 0x06 0xFF 0, .ok [])) ∧
    (q.op = 0x0802 → q.args = [.u16 a] → h.streamRight q a = none → h.stateAtClose a = .ready →
      d.effect q = (d.hubMap (·.leaveReady a .parked 0x02), .ok [])) ∧
    (q.op = 0x0807 → q.args = [.u8 a, .u64 b] → q.who.isVf = false → a < 8 → h.partEn a = true → h.fw.jp ≠ none →
      (h.jobState a ≠ .none → d.effect q = (d, .fail .busy)) ∧
      (h.jobState a = .none → Tbl.get 0 h.str.jobNum a ≠ 0xFFFFFFFF →
        d.effect q = (d.hubMap fun h => ({ h with
          str := { h.str with
            job := h.str.job.set .none a .running, jobNum := h.str.jobNum.set 0 a (Tbl.get 0 h.str.jobNum a + 1)
            srKey := h.str.srKey.set 0 a (seedKey srkLabel b), drainFaults := h.str.drainFaults.set 0 a 0 }
          mortar := h.mortar.clearWindow a } : Hub).event 0x0802 [.u8 a, .u32 (Tbl.get 0 h.str.jobNum a + 1)] a, .ok []))) ∧
    (q.op = 0x0B01 → q.args = [.u16 a] →
      (q.who.isVf = true → d.effect q = (d, .refused)) ∧
      (q.who.isVf = false → d.effect q = (d.hubMap fun h => (onesBelow 10 a).foldl (fun h c => h.hsOff c) h, .ok []))) ∧
    (q.op = 0x0B03 → q.args = [.u8 a] → q.who.isVf = false → a < 10 → (h.hsCh a).st = .latched → (h.hsCh a).seated = true →
      h.holdActive a = false → d.effect q = (d.hubMap fun h =>
        (h.updHs a fun k => { k with st := .waitSlot, retries := 0 }).event 0x0B04 [.u8 a, .u8 q.who.id], .ok [])) ∧
    (q.op = 0x0F04 → q.args = [.u32 a] →
      d.effect q = (d.hubMap (·.updRb fun b => { b with refDue := some a }), .ok [])) ∧
    (q.op = 0x0F01 → q.who.isVf = false → h.openTxn q.who = none → h.rb.txns.countP (fun t => !t.owner.isVf) < 8 →
      d.serveNow q = (d.hubMap (·.updRb fun b => { b with
        txns := b.txns ++ [{ id := h.freshTxnId, owner := q.who }], lastId := h.freshTxnId }), .ok [.u16 h.freshTxnId])) ∧
    (q.op = 0x0F01 → h.openTxn q.who ≠ none → d.serveNow q = (d, .fail .busy)) ∧
    (∀ bs, q.op = 0x0F06 → q.args = [.block bs] → d.serveNow q = (d, .ok [.block bs]))

/-- Emulated writes, packets and MCTP control (R401, R402, R404): an emulated write is ignored beyond EMU.SIZE, else queued,
or dropped, flagged and counted when 256 wait; firmware applies the oldest. The first packet of a message starts its assembly, one of its source that follows in
sequence joins it, a later one out of sequence or after 100 ms discards it. Each control request is answered on its binding
(the codes and layouts of the bodies are the model's, log 34); a command outside the set is answered with 0x05. -/
def Obligations.MctpControlAnswers : Prop :=
  ∀ (s : State) (c : CtlFrom) (m : Master) (ofs : Nat) (v : Word), s.dev.hub.up = true →
    let h := s.dev.hub
    let reply (cmd code : Nat) (body : List Byte) (h : Hub) : Hub := h.mctpSend c.pcie c.eid c.tag
      (leBytes 1 0 ++ leBytes 1 (c.inst % 32) ++ leBytes 1 cmd ++ leBytes 1 code ++ body)
    ((m = .pf0 ∨ m = .core) → ofs % 4 = 0 → 8 ≤ ofs → h.hods.emuQueue.length < 256 →
      exec (.emuWrite m ofs v) s = .next (if h.emuSize ≤ ofs then s else s.hubMap fun h =>
        { h with hods := { h.hods with emuQueue := h.hods.emuQueue ++ [(ofs, v.toNat)] } })) ∧
    ((m = .pf0 ∨ m = .core) → ofs % 4 = 0 → 8 ≤ ofs → 256 ≤ h.hods.emuQueue.length →
      ∃ t, exec (.emuWrite m ofs v) s = .next t ∧ t.dev.hub.hods.emuQueue = h.hods.emuQueue ∧ t.dev.hub.hods.emu = h.hods.emu ∧
        (if h.emuSize ≤ ofs then t = s else t.dev.hub.ctr 0xF01028 = (h.bump 0xF01028).ctr 0xF01028)) ∧
    (∀ o w rest, h.hods.emuQueue = (o, w) :: rest → h.fw.phase = .up → exec .emuWriteApply s = .next (s.hubMap fun h =>
      { h with hods := { h.hods with emuQueue := rest, emu := h.hods.emu.set 0 o w } })) ∧
    (∀ pcie (p : List Byte), 5 ≤ p.length → p.length ≤ 68 →
      let f (i : Nat) : Nat := leNat (slice p i 1)
      f 0 % 16 = 1 → (f 1 = 0 ∨ f 1 = 255 ∨ f 1 = h.eid pcie) → (f 3).testBit 6 = false →
      ((f 3).testBit 7 = true → h.asmOf pcie (f 2) = none → exec (.mctpPacketReceived pcie false p) s =
        .next (s.hubMap fun h => { h.dropAsm pcie (f 2) with hods := { (h.dropAsm pcie (f 2)).hods with
          asm := (h.dropAsm pcie (f 2)).hods.asm ++ [{ pcie, src := f 2, tag := f 3 % 8, owner := (f 3).testBit 3
                                                       seq := (f 3 / 16 % 4 + 1) % 4, bytes := p.drop 4 }] } })) ∧
      (∀ a, (f 3).testBit 7 = false → h.asmOf pcie (f 2) = some a → a.seq ≠ f 3 / 16 % 4 →
        exec (.mctpPacketReceived pcie false p) s =
          .next (s.hubMap fun h => (h.dropAsm pcie (f 2)).mctpDrop pcie (f 2) 3))) ∧
    (∀ p, exec (.mctpPacketReceived true true p) s = .next s) ∧
    (∀ pcie (src : Byte) a, h.asmOf pcie src.toNat = some a → exec (.mctpAssemblyTimeout pcie src) s =
      .next (s.hubMap fun h => (h.dropAsm pcie src.toNat).mctpDrop pcie src.toNat 5)) ∧
    (∀ (op e : Byte), op.toNat % 4 < 2 → 0 < e.toNat → e.toNat < 255 → c.pcie = true → exec (.setEndpointId c op e) s =
      .next (s.hubMap fun h => reply 0x01 0 (leBytes 1 0 ++ leBytes 1 e.toNat ++ leBytes 1 0)
        { h with hods := { h.hods with eidPcie := e.toNat } })) ∧
    (∀ (op e : Byte), op.toNat % 4 < 2 → 0 < e.toNat → e.toNat < 255 → c.pcie = false → exec (.setEndpointId c op e) s =
      .next (s.hubMap fun h => reply 0x01 0 (leBytes 1 0 ++ leBytes 1 e.toNat ++ leBytes 1 0)
        { h with hods := { h.hods with eidSmb := e.toNat }, bus := { h.bus with owner := c.slave / 2 } })) ∧
    exec (.getEndpointId c) s = .next (s.hubMap (reply 0x02 0 (leBytes 1 (h.eid c.pcie) ++ leBytes 1 0 ++ leBytes 1 0))) ∧
    exec (.getEndpointUuid c) s = .next (s.hubMap (reply 0x03 0 ((List.range 16).map Config.uuid))) ∧
    (∀ typ : Byte, (typ = 0xFF ∨ typ = 0) → exec (.getMctpVersionSupport c typ) s =
      .next (s.hubMap (reply 0x04 0 (leBytes 1 1 ++ [0xF1, 0xF3, 0xFF, 0x00])))) ∧
    exec (.getMessageTypeSupport c) s = .next (s.hubMap (reply 0x05 0 (leBytes 1 2 ++ leBytes 1 0x05 ++ leBytes 1 0x7E))) ∧
    exec (.getVdmSupport c 0) s = .next (s.hubMap (reply 0x06 0 (leBytes 1 0xFF ++ leBytes 1 0 ++ [0x48, 0x56] ++ leBytes 2 0))) ∧
    (∀ cmd : Byte, (cmd.toNat = 0 ∨ 6 < cmd.toNat) →
      exec (.mctpUnsupportedControl c cmd) s = .next (s.hubMap (reply cmd.toNat 0x05 [])))

/-- The SPDM responder (R403, R404, R482, R483, R489): discarded until the binding has an endpoint id; Busy while no firmware
runs; else counted and answered on its binding with the request's tag. Version, capabilities and algorithms are negotiated in
that order, and what needs the connection comes after them; a fifth session is refused, and so is one while the random generator
is stopped; FINISH opens its session, and the session's requests act in it, each taking the next sequence number of its keys, the
last of which ends the session; any other code, another slot, and the options that are not listed are answered with
UnsupportedRequest, and another version with VersionMismatch (codes and layouts are the model's, logs 12 and 118). The hods of
security complete. -/
def Obligations.SpdmResponds : Prop :=
  (∀ (s : State) (m : SpdmMsg), s.dev.hub.up = true →
      let d := s.dev.hubMap (·.bump 0x1300030)
      let h := d.hub
      let req (code : Byte) : SpdmMsg := { m with bytes := [0x13, code] ++ m.bytes }
      let gives (f : Hub → Hub) (r : List Byte) : Host.Outcome State Fault Refusal := .next (s.hubMap fun h =>
        ((f (h.bump 0x1300030)).sessionUsed m).mctpSend m.pcie m.eid m.tag (leBytes 1 0x05 ++ r))
      (h.eid m.pcie = 0 → exec (.getDigests m) s = .next (s.hubMap (·.mctpDrop m.pcie m.eid 4))) ∧
      (h.eid m.pcie ≠ 0 → (h.fw.phase = .off ∨ h.fw.phase = .kiln) → exec (.getDigests m) s = gives id (spdmError 0x03 0)) ∧
      (h.eid m.pcie ≠ 0 → h.fw.phase = .up →
        exec (.getVersion m) s = gives (·.setConn m.pcie 1) [0x10, 0x04, 0, 0, 0, 1, 0x00, 0x13] ∧
        (1 ≤ h.conn m.pcie → ∃ r, exec (.getCapabilities m) s = gives (·.setConn m.pcie 2) r ∧ r.take 2 = [0x13, 0x61]) ∧
        (h.conn m.pcie = 0 → exec (.getCapabilities m) s = gives id (spdmError 0x04 0)) ∧
        (2 ≤ h.conn m.pcie → exec (.negotiateAlgorithms m) s = gives (·.setConn m.pcie 3) (req 0xE3).algorithms) ∧
        (3 ≤ h.conn m.pcie →
          exec (.getDigests m) s = gives id (spdmRsp 0x01 1 1 (sha384 h.spdmChain)) ∧
          ((req 0x82).at_ 2 1 % 16 = 0 → exec (.getCertificate m) s = gives id (h.certificate (req 0x82))) ∧
          ((req 0x82).at_ 2 1 % 16 ≠ 0 → exec (.getCertificate m) s = gives id (spdmRsp 0x7F 0x07 0x82 [])) ∧
          ((req 0x83).at_ 2 1 % 16 = 0 → exec (.challenge m) s = gives (·.tick) (d.challengeAuth (req 0x83))) ∧
          ((req 0x83).at_ 2 1 % 16 ≠ 0 → exec (.challenge m) s = gives (·.tick) (spdmRsp 0x7F 0x07 0x83 [])) ∧
          ((req 0xE0).at_ 3 1 = 0xFD ∨ (req 0xE0).at_ 3 1 = 0xFE →
            exec (.getMeasurements m) s = gives (·.tick) (spdmRsp 0x7F 0x07 0xE0 [])) ∧
          ((req 0xE4).at_ 3 1 ≠ 0 → exec (.keyExchange m) s = gives id (spdmRsp 0x7F 0x07 0xE4 [])) ∧
          exec (.getMeasurements m) s = gives (·.tick) (d.measurements (req 0xE0)) ∧
          ((req 0xE4).at_ 3 1 = 0 →
            (h.sec.rng = false → exec (.keyExchange m) s = gives id (spdmError 0x05 0)) ∧
            (h.sec.rng = true → 4 ≤ h.sec.sessions.length → exec (.keyExchange m) s = gives id (spdmError 0x0A 0)) ∧
            (h.sec.rng = true → h.sec.sessions.length < 4 → m.sid = none → onCurve (pointOf (slice (req 0xE4).bytes 40 96)) = true →
              ∃ t, exec (.keyExchange m) s = .next t ∧ t.dev.mem = s.dev.mem ∧ t.dev.otp = s.dev.otp ∧
                t.dev.hub.sec.sessions = h.sec.sessions ++
                  [{ id := (h.sec.sessionId + 1) % 65536 * 65536 + (req 0xE4).at_ 4 2, pcie := m.pcie }]))) ∧
        (∀ x, h.session m = some x →
          (x.open_ = false →
            (m.macOk = true → exec (.finish m) s = gives (fun h => (h.updSession x fun s => { s with open_ := true }).event 0x1301
              [.u8 (b2n (!x.pcie)), .u32 x.id, .u8 0]) (spdmRsp 0x65 0 0 [])) ∧
            (m.macOk = false → exec (.finish m) s = gives (·.dropSession x) (spdmError 0x06 0))) ∧
          (x.open_ = true →
            exec (.heartbeat m) s = gives id (spdmRsp 0x68 0 0 []) ∧
            exec (.keyUpdate m) s = gives (·.updSession x fun s => { s with keys := s.keys + 1, seq := 0 })
              (spdmRsp 0x69 ((req 0xE9).at_ 2 1) ((req 0xE9).at_ 3 1) []) ∧
            exec (.endSession m) s = gives (fun h => (h.dropSession x).event 0x1301
              [.u8 (b2n (!x.pcie)), .u32 x.id, .u8 1]) (spdmRsp 0x6C 0 0 []))) ∧
        (∀ code : Byte, code.toNat ∉ spdmCodes →
          exec (.spdmUnsupportedRequest code m) s = gives id (spdmRsp 0x7F 0x07 code.toNat [])))) ∧
  (∀ (d : Dev) (m : SpdmMsg), m.at_ 0 1 ≠ (if m.at_ 1 1 = 0x84 then 0x10 else 0x13) → d.spdm m = (d, spdmRsp 0x7F 0x41 0 [])) ∧
  (∀ (h : Hub) (m : SpdmMsg) x, h.session m = some x →
    (x.seq + 1 < 2 ^ 64 → h.sessionUsed m = h.updSession x fun s => { s with seq := s.seq + 1 }) ∧
    (2 ^ 64 ≤ x.seq + 1 → h.sessionUsed m = (h.dropSession x).event 0x1301 [.u8 (b2n (!x.pcie)), .u32 x.id, .u8 1])) ∧
  SecurityHodsAct

/-- PCIe and the identity buses (R376, R411, R426 to R429, R433): link-up and the loss of the link are recorded with rate and
width; a function-level reset returns the function's window to IDLE with an empty buffer and aborts its open transaction; a sled
that is present is read while the governor uses the default values, its record is used if its fields and its signature are
right and recorded as failed with its result otherwise; its absence invalidates what was read; a transfer is retried three times;
a stuck bus is marked and recorded, what stands on it counts as unreadable (R59), and it is recorded again when it recovers, a sled
that is still there being read again. ID_READ and SMB_STATUS complete. -/
def Obligations.PcieAndIdentity : Prop :=
  (∀ (s : State) (x : Fin 8), s.dev.hub.up = true →
      let h := s.dev.hub
      let failed (n : Nat) (h : Hub) : Hub :=
        ((((h.updId x 0x50 fun m => { m with st := 3, bytes := if n = 1 then [] else m.bytes }).setIdent x {}).flag 0xA0001C 2).event 0x0A06 [.u8 x, .u8 n]).event 0x1001 [.u8 x, .u8 n]
      (∀ rate width : Byte, h.bus.sleep = .awake → exec (.pcieLinkUp rate width) s = .next (s.hubMap fun h =>
        ({ h with bus := { h.bus with linkUp := true, rate := rate.toNat, width := width.toNat } } : Hub).event 0x1007
          [.u8 rate.toNat, .u8 width.toNat])) ∧
      (∃ t, exec .pcieReset s = .next t ∧ t.dev.mem = s.dev.mem ∧ t.dev.otp = s.dev.otp ∧ t.dev.hub.bus.linkUp = false ∧
        t.dev.hub.bus.rate = 0 ∧ t.dev.hub.bus.width = 0 ∧ t.dev.hub.tile = h.tile ∧ t.dev.hub.hs = h.hs ∧
        ((∀ n, h.openTxn (.vf n) = none) → ∀ u, h.openTxn .pf0 = some u →
          t.dev.hub.rb.txns = h.rb.txns.filter (·.id != u.id))) ∧
      (∀ n : Fin 8, ∃ t, exec (.flr (some n)) s = .next t ∧ t.dev.mem = s.dev.mem ∧ t.dev.otp = s.dev.otp ∧
        t.dev.hub.hods.hod = (h.updHod (n.val + 1) fun k =>
          let cut := k.out.any (·.path = .window)
          { k with phase := .idle, code := 0, tag := 0, buf := []
                   stale := if cut then k.stale ++ k.out.toList else k.stale, out := if cut then none else k.out }).hods.hod ∧
        (∀ u, h.openTxn (.vf n) = some u → t.dev.hub.rb.txns = h.rb.txns.filter (·.id != u.id)) ∧
        (h.openTxn (.vf n) = none → t.dev.hub.rb.txns = h.rb.txns)) ∧
      (h.bus.idFault.testBit x = true → exec (.sledPresent x) s = .next (s.hubMap fun h =>
        failed 1 { h with bus := { h.bus with sled := setBit h.bus.sled x true } })) ∧
      (h.bus.idFault.testBit x = false → exec (.sledPresent x) s = .next (s.hubMap fun h =>
        (({ h with bus := { h.bus with sled := setBit h.bus.sled x true } } : Hub).updId x 0x50 fun _ => { st := 1 }).setIdent x {})) ∧
      ((h.idMem x 0x50).st = 1 →
        exec (.sledIdReadComplete x none) s = .next (s.hubMap (failed 1)) ∧
        (∀ bs, let r := slice bs 0x800 512
          let cached (h : Hub) : Hub := h.updId x 0x50 fun m => { m with bytes := bs }
          let signed := anyKey (s.dev.otp.keys true) (r.take 416) (r.drop 416)
          (recordOk r = false → exec (.sledIdReadComplete x (some bs)) s = .next (s.hubMap fun h => failed 2 (cached h))) ∧
          (recordOk r = true → exec (.sledIdReadComplete x (some bs)) s = .next (s.hubMap fun h =>
            if signed then ((cached h).updId x 0x50 fun m => { m with st := 2 }).setIdent x (identOf r) |>.event 0x1001 [.u8 x, .u8 0]
            else failed 3 ((cached h).flag 0x1300000 2))))) ∧
      exec (.sledPresenceLost x) s = .next (s.hubMap fun h =>
        ((({ h with bus := { h.bus with sled := setBit h.bus.sled x false } } : Hub).updId x 0x50 fun _ => {}).setIdent x {}).event
          0x1001 [.u8 x, .u8 4]) ∧
      (∀ bus addr : Byte, bus.toNat < 8 → (h.idMem bus.toNat addr.toNat).st = 1 →
        ((h.idMem bus.toNat addr.toNat).retries < 3 → exec (.idRetryTimeout bus addr) s =
          .next (s.hubMap (·.updId bus.toNat addr.toNat fun m => { m with retries := m.retries + 1 }))) ∧
        (3 ≤ (h.idMem bus.toNat addr.toNat).retries → addr = 0x50 → bus.toNat = x.val →
          exec (.idRetryTimeout bus addr) s = .next (s.hubMap (failed 1))) ∧
        (3 ≤ (h.idMem bus.toNat addr.toNat).retries → (addr = 0x54 ∨ addr = 0x55) → exec (.idRetryTimeout bus addr) s =
          .next (s.hubMap fun h => (h.updId bus.toNat addr.toNat fun _ => { st := 3 }).event 0x020B
            [.u8 bus.toNat, .u8 (2 * bus.toNat + b2n (addr == 0x55)), .u8 2]))) ∧
      (let stuck (b : Nat) (h : Hub) : Hub :=
        (({ h with bus := { h.bus with idFault := setBit h.bus.idFault b true } } : Hub).event 0x1003 [.u8 b]).faultMet 15
       let back (b : Nat) (h : Hub) : Hub :=
        ({ h with bus := { h.bus with idFault := setBit h.bus.idFault b false } } : Hub).event 0x1003 [.u8 b]
       let unread (c : Nat) (h : Hub) : Hub := if (h.idMem x (0x54 + c)).st = 0 then h
        else (h.updId x (0x54 + c) fun _ => { st := 3 }).event 0x020B [.u8 x, .u8 (2 * x + c), .u8 2]
       (∀ b : Fin 10, h.bus.idFault.testBit b = true → exec (.idBusStuck b) s = .next s) ∧
       (∀ b : Fin 10, b.val = x.val → h.bus.idFault.testBit b = false → exec (.idBusStuck b) s = .next (s.hubMap fun h =>
          let h := unread 1 (unread 0 (stuck x h))
          if (h.idMem x 0x50).st ≠ 0 then failed 1 h else h)) ∧
       (h.bus.idFault.testBit 8 = false → exec (.idBusStuck 8) s =
          .next (s.hubMap fun h => (stuck 8 h).updId 8 0x50 fun _ => { st := 3 })) ∧
       (h.bus.idFault.testBit 9 = false → exec (.idBusStuck 9) s = .next (s.hubMap (stuck 9))) ∧
       (∀ (b : Fin 10) ca cb, h.bus.idFault.testBit b = true →
          (8 ≤ b.val → exec (.idBusRetry b ca cb) s = .next (s.hubMap (back b))) ∧
          (b.val = x.val → h.bus.cable.testBit (2 * x) = false → h.bus.cable.testBit (2 * x + 1) = false →
            (h.bus.sled.testBit x = false → exec (.idBusRetry b ca cb) s = .next (s.hubMap (back x))) ∧
            (h.bus.sled.testBit x = true → exec (.idBusRetry b ca cb) s = .next (s.hubMap fun h =>
              ((back x h).updId x 0x50 fun _ => { st := 1 }).setIdent x {})))))) ∧
  IdentityHodsAct

/-- The conditions under which the SMBus target serves a transfer at once: the base die runs, SMB_RST_L is high, the target's
clocks run, the hub is awake and no sleep agreement stands that an address match would end (R413, R422, R423, R449). -/
def SmbReady (h : Hub) : Prop :=
  h.up = true ∧ h.bus.smbRst = false ∧ h.bus.clocks = true ∧ h.bus.sleep = .awake ∧ h.rack.state ≠ 1 ∧ h.rack.state ≠ 2

/-- The SMBus commands (R414 to R421): a write whose PEC byte is right, or that carries none where none is required, has the
effect of its command; a wrong PEC byte is NACKed, counted and recorded, a missing one discards the write with PEC_ERR; a count
or value that the command does not allow, and a code that the table does not have, are NACKed with CMD_ERR; a block that ends
short of its count is discarded. A read returns its bytes, and a PEC byte over the whole transfer where the controller asks. Every
transfer to the hub's own address is counted in SMBUS.XFER (R431). -/
def Obligations.SmbusCommandsServed : Prop :=
  ∀ (s : State) (pec : Option Byte) (rd : Bool), SmbReady s.dev.hub →
    let h := s.dev.hub
    let sum (bs : List Byte) : Nat := crc8 (leBytes 1 (2 * h.bus.smbAddr) ++ bs)
    let right (bs : List Byte) : Prop :=
      (∃ p, pec = some p ∧ p.toNat = sum bs) ∨ (pec = none ∧ h.bitAt 0x1000000 0 = false)
    let ack (h : Hub) : Hub := { h with bus := { h.bus with nack := false, rsp := [] } }
    let refuse (h : Hub) : Hub := { h with bus := { h.bus with nack := true, cmdErr := true, rsp := [] } }
    let rsp (code : Nat) (bs : List Byte) (h : Hub) : Hub := { h with bus := { h.bus with
      nack := false
      rsp := if rd then bs ++ leBytes 1 (crc8 (leBytes 1 (2 * h.bus.smbAddr) ++ leBytes 1 code ++
        leBytes 1 (2 * h.bus.smbAddr + 1) ++ bs)) else bs } }
    let met (h : Hub) : Hub := h.bump 0x1000010
    let run (f : Hub → Hub) : Host.Outcome State Fault Refusal := .next (s.hubMap fun h => f (met h))
    (∀ v : Byte,
      (right [1, v] → exec (.statusClear v pec) s = run fun h => { ack h with bus := { (ack h).bus with
        hodDone := h.bus.hodDone && !v.toNat.testBit 4, pecErr := h.bus.pecErr && !v.toNat.testBit 3
        cmdErr := h.bus.cmdErr && !v.toNat.testBit 2 } }) ∧
      (∀ p, pec = some p → p.toNat ≠ sum [1, v] → exec (.statusClear v pec) s = run fun h =>
        (({ h with bus := { h.bus with nack := true, pecErr := true, rsp := [] } } : Hub).bump 0x1000018).eventOnce 0x1004 0 [.u8 1]) ∧
      (pec = none → h.bitAt 0x1000000 0 = true → exec (.statusClear v pec) s = run fun h =>
        { ack h with bus := { (ack h).bus with pecErr := true } }) ∧
      (right [2, v] → exec (.alertMaskWrite v pec) s = run fun h => (ack h).setReg 0x100000C (v.toNat &&& 0x7E)) ∧
      (v ≠ 1 → right [0x22, v] → exec (.smbHodRing v pec) s = run refuse) ∧
      (v = 1 → right [0x22, v] → exec (.smbHodRing v pec) s = .next (s.devMap fun d => (d.hubMap fun h => ack (met h)).ring .smbus))) ∧
    (∀ v : BitVec 16, right ([0x20] ++ leBytes 2 v.toNat) →
      (v.toNat < 4096 → exec (.hodPtr v pec) s = run fun h => { ack h with bus := { (ack h).bus with hodPtr := v.toNat } }) ∧
      (4096 ≤ v.toNat → exec (.hodPtr v pec) s = run refuse)) ∧
    (∀ (n : Byte) (data : List Byte),
      (n.toNat ≠ 4 → exec (.regAddr n data pec) s = run refuse) ∧
      (n.toNat = 4 → data.length < 4 → exec (.regAddr n data pec) s = run ack) ∧
      (n.toNat = 4 → 4 ≤ data.length → right ([0x10, 4] ++ data.take 4) → exec (.regAddr n data pec) s = run fun h =>
        { ack h with bus := { (ack h).bus with regAddr := leNat (data.take 4) } }) ∧
      ((n.toNat < 4 ∨ 252 < n.toNat ∨ n.toNat % 4 ≠ 0) → exec (.regDataWrite n data pec) s = run refuse ∧
        exec (.regDataRead n rd) s = run refuse) ∧
      (4 ≤ n.toNat → n.toNat ≤ 252 → n.toNat % 4 = 0 →
        (n.toNat ≤ data.length → right ([0x11, n] ++ data.take n.toNat) → exec (.regDataWrite n data pec) s =
          .next (s.devMap fun d => ((d.hubMap fun h => ack (met h)).writeRun h.bus.regAddr data (n.toNat / 4)).hubMap (·.advance n.toNat))) ∧
        exec (.regDataRead n rd) s = .next (s.devMap fun d =>
          let (d', bs) := (d.hubMap met).readRun h.bus.regAddr (n.toNat / 4)
          d'.hubMap fun h => rsp 0x11 (leBytes 1 bs.length ++ bs) (h.advance n.toNat))) ∧
      ((n.toNat = 0 ∨ 4096 < h.bus.hodPtr + n.toNat) → exec (.hodDataRead n rd) s = run refuse ∧
        exec (.hodDataWrite n data pec) s = run refuse) ∧
      (n.toNat ≠ 0 → h.bus.hodPtr + n.toNat ≤ 4096 →
        exec (.hodDataRead n rd) s = run (fun h => rsp 0x21
          (leBytes 1 ((h.hod 9).buf.readN h.bus.hodPtr n.toNat).length ++ (h.hod 9).buf.readN h.bus.hodPtr n.toNat) (h.hodMove n.toNat)) ∧
        (n.toNat ≤ data.length → right ([0x21, n] ++ data.take n.toNat) → exec (.hodDataWrite n data pec) s =
          run fun h => ((ack h).bufWrite .smbus h.bus.hodPtr (data.take n.toNat)).hodMove n.toNat))) ∧
    exec (.smbCmdStatus rd) s = run (fun h => rsp 0x00 (leBytes 1 h.statusByte) h) ∧
    exec (.alertMaskRead rd) s = run (fun h => rsp 0x02 (leBytes 1 (h.reg 0x100000C)) h) ∧
    exec (.deviceId rd) s = run (rsp 0x03 (leBytes 1 16 ++
      (leBytes 4 Config.device ++ leBytes 4 Config.variant.toNat ++ leBytes 8 Config.serial.toNat))) ∧
    exec (.course rd) s = run (fun h => rsp 0x04 (leBytes 1 8 ++ leBytes 8 h.stamp) h.tick) ∧
    exec (.hodStatus rd) s = run (fun h => rsp 0x23 (leBytes 1 4 ++ leBytes 4 (h.hod 9).statusWord) h) ∧
    (h.bus.out = [] → exec (.mctpBlockRead rd) s = run (rsp 0x0F (leBytes 1 0))) ∧
    (∀ p rest, h.bus.out = p :: rest → exec (.mctpBlockRead rd) s = run fun h =>
      rsp 0x0F (leBytes 1 p.length ++ p) { h with bus := { h.bus with out := rest } }) ∧
    (∀ data : List Byte, data ≠ [] → data.length ≤ 255 →
      (∀ p, pec = some p → p.toNat = sum ([0x0F] ++ leBytes 1 data.length ++ data) → exec (.mctpBlockWrite data pec) s =
        .next (s.devMap fun d => (d.hubMap fun h => ack (met h)).mctpPacket false (leNat (data.take 1)) (data.drop 1))) ∧
      (pec = none → exec (.mctpBlockWrite data pec) s = run fun h =>
        ({ ack h with bus := { (ack h).bus with pecErr := h.bus.pecErr || h.bitAt 0x1000000 0 } } : Hub).mctpDrop false
          (leNat (slice data 3 1)) 1)) ∧
    exec (.alertResponse rd) s = .next (s.hubMap fun h => { h with bus := { h.bus with
      nack := false
      rsp := if rd then leBytes 1 (2 * h.bus.smbAddr) ++ leBytes 1 (crc8 ([0x19] ++ leBytes 1 (2 * h.bus.smbAddr)))
             else leBytes 1 (2 * h.bus.smbAddr) } }) ∧
    (∀ code : Byte, code.toNat ∉ smbCodes → exec (.smbUnknownCommand code) s = run refuse)

/-- SMBus time-outs, SMB_RST_L and hub sleep (R412, R413, R418, R422, R423, R449): a 30 ms time-out ends the transfer; a stretch
of 2 ms ends a read in 0xFF bytes under a PEC that does not match and NACKs a write; SMB_RST_L discards the transfer and the
SMBus assemblies, and no transfer is accepted until it is released. Sleep is entered, completed and left in its steps; an
address match in sleep starts exit and does nothing else, one during entry starts it when entry completes, one while a sleep is
being agreed abandons the agreement; the other hubs of a chain are told of a wake that is not theirs, and a hub that follows a
manager comes out of sleep on its local counter (R448). -/
def Obligations.SmbusResetsAndHubSleep : Prop :=
  ∀ s : State, s.dev.hub.up = true →
    let h := s.dev.hub
    let run (f : Hub → Hub) : Host.Outcome State Fault Refusal := .next (s.hubMap f)
    let tell (src : Nat) (h : Hub) : Hub := if src = 2 ∨ h.rack.pos = 0 then h else h.frame 0x06 0 []
    let wakes (src : Nat) (h : Hub) : Hub := tell src (({ h with bus := { h.bus with sleep := .exiting, wake := false } } : Hub).event 0x1106
      [.u8 h.rack.state, .u64 h.rack.sleepK, .u8 src])
    let slept (h : Hub) : Hub := { h with bus := { h.bus with
      sleep := .asleep, clocks := false, linkUp := false, rate := 0, width := 0 } }
    exec .smbSclTimeout s = run (fun h => ({ h with bus := { h.bus with nack := false, rsp := [] } } : Hub).faultMet 14) ∧
    (∀ (code n : Byte) (read : Bool), h.bus.smbRst = false → ∃ t, exec (.smbStretchTimeout code read n) s = .next t ∧
      t.dev.mem = s.dev.mem ∧ t.dev.otp = s.dev.otp ∧ t.dev.hub.bus.cmdErr = true ∧ t.dev.hub.bus.nack = !read ∧
      (read = true → t.dev.hub.bus.rsp.take n.toNat = List.replicate n.toNat 0xFF ∧ t.dev.hub.bus.rsp.length = n.toNat + 1) ∧
      t.dev.hub.ctr 0x1000010 = (h.bump 0x1000010).ctr 0x1000010 ∧
      t.dev.hub.ctr 0x1000020 = (h.bump 0x1000020).ctr 0x1000020 ∧ t.dev.hub.tile = h.tile ∧ t.dev.hub.hods = h.hods) ∧
    (h.bus.smbRst = false → ∀ busy, exec (.smbRstAssert busy) s = run fun h =>
      let h := if busy then h.bump 0x1000010 else h
      (({ h with bus := { h.bus with nack := false, rsp := [], smbRst := true }
                 hods := { h.hods with asm := h.hods.asm.filter (·.pcie) } } : Hub).event 0x1006 [.u8 (b2n busy)]).faultMet 14) ∧
    (h.bus.smbRst = true → (∀ busy, exec (.smbRstAssert busy) s = .next s) ∧ exec .smbWakeMatch s = .next s ∧
      ∀ rd, exec (.smbCmdStatus rd) s = .next s) ∧
    exec .smbRstDeassert s = run (fun h => { h with bus := { h.bus with smbRst := false } }) ∧
    (h.bus.sleep = .awake →
      exec .hubSleepEntry s = run (fun h => { h with bus := { h.bus with sleep := .entering, wake := false } }) ∧
      (h.bus.smbRst = false → h.rack.state = 1 ∨ h.rack.state = 2 → exec .smbWakeMatch s = run fun h =>
        ((tell 0 { h with rack := { h.rack with state := 3 } }).event 0x1106 [.u8 3, .u64 h.rack.sleepK, .u8 0]).finishWait
          0x1103 .busy 0 [])) ∧
    (h.bus.sleep = .entering →
      (h.bus.wake = false → exec .sleepEntryComplete s = run slept) ∧
      (h.bus.wake = true → exec .sleepEntryComplete s = run fun h => wakes 0 (slept h)) ∧
      (h.bus.smbRst = false → exec .smbWakeMatch s = run fun h => { h with bus := { h.bus with wake := true } })) ∧
    (h.bus.sleep = .asleep →
      exec .hubSleepExit s = run (wakes 1) ∧
      (h.bus.smbRst = false → h.bus.clocks = false → exec .smbWakeMatch s = run (wakes 0) ∧
        ∀ rd, exec (.smbCmdStatus rd) s = run (wakes 0))) ∧
    (h.bus.sleep = .exiting →
      exec .targetClocksRun s = run (fun h => { h with bus := { h.bus with clocks := true } }) ∧
      exec .sleepExitComplete s = run (fun h => { h with
        bus := { h.bus with sleep := .awake, clocks := true, wake := false }
        rack := if h.rack.role = .worker ∨ h.rack.role = .standby then { h.rack with local_ := true, aligned := false } else h.rack }))

/-- The rack chain (R434 to R450). A frame that fails its CRC is discarded, counted and flagged, and a disabled hub only forwards.
A link that changes starts enumeration: the first hub takes position 1 and the walk goes down the chain, its end sending the
count back. The manager sends its round at every 20th course and keeps the reports to it; no set of budgets exceeds the rack's.
A worker that meets a round which agrees with it renews its lease, one whose epoch is wrong goes to its floor and its local
counter, and so does one whose boundary is more than 1,000 ns off. The role is asked for, given up to a lower position, and
taken after 20 courses; a wake ends sleep; the commit point enters it; a forwarded request is served, answered or timed out. At a
hub's own boundary ROUNDS_LEFT falls where the number is a multiple of 20, a pulse that did not come ends the alignment, and a
hub that has heard no round for 16 rounds goes on by its local counter. The hods of the rack complete. -/
def Obligations.RackChainActs : Prop :=
  (∀ (s : State) (f : Frame) (hop : Nat), s.dev.hub.up = true →
      let h := s.dev.hub
      let run (g : Hub → Hub) : Host.Outcome State Fault Refusal := .next (s.hubMap g)
      let bad (h : Hub) : Hub := (h.bump 0x1100038).flag 0x1100004 1
      let onward (typ : Nat) (h : Hub) : Hub :=
        if (if f.up then h.rack.dn else h.rack.up) then
          { h with rack := { h.rack with sent := h.rack.sent ++ [(f.up, typ, f.dst, f.payload)] } } else h
      let alone : Prop := f.ok = true ∧ h.bitAt 0x1100000 0 = true ∧ f.dst = h.rack.pos ∧ f.dst ≠ 0
      let toAll : Prop := f.ok = true ∧ h.bitAt 0x1100000 0 = true ∧ f.dst = 0
      let field (o n : Nat) : Nat := leNat (slice f.payload o n)
      let first : Nat := leNat (f.payload.take 1)
      let start (h : Hub) : Hub :=
        if h.bitAt 0x1100000 0 = false then { h with rack := { h.rack with enumerating := false, pos := 0 } }.setRole .standalone 0
        else if h.rack.up then { h with rack := { h.rack with enumerating := true, pos := 0 } }
        else if h.rack.dn then { h with rack := { h.rack with
          enumerating := true, pos := 1, sent := h.rack.sent ++ [(true, 0x01, 0, [1])] } }
        else { h with rack := { h.rack with enumerating := true, pos := 1 } }.enumerated 1
      let toLocal (h : Hub) : Hub := { h with
        gov := { h.gov with rounds := 0, lease := 0, rc := h.fld 0xA0000C 15 0 }
        rack := { h.rack with local_ := true, aligned := false } }
      (f.ok = false → exec (.enum f hop) s = run bad ∧ exec (.enumDone f hop) s = run bad ∧ exec (.report f) s = run bad ∧
        exec (.roleReq f) s = run bad ∧ exec (.wake f) s = run bad ∧ exec (.hodRsp f) s = run bad ∧ exec (.hod f) s = run bad ∧
        ∀ l2, exec (.round f l2) s = run bad) ∧
      (f.ok = true → h.bitAt 0x1100000 0 = false → exec (.enum f hop) s = run (onward 0x01) ∧
        exec (.enumDone f hop) s = run (onward 0x02) ∧ exec (.report f) s = run (onward 0x04) ∧
        exec (.roleReq f) s = run (onward 0x05) ∧ exec (.wake f) s = run (onward 0x06) ∧ exec (.hodRsp f) s = run (onward 0x08) ∧
        exec (.hod f) s = run (onward 0x07) ∧ ∀ l2, exec (.round f l2) s = run (onward 0x03)) ∧
      (h.rack.dn = false → exec (.chainLinkUp true hop) s = run fun h =>
        start (({ h with rack := { h.rack with dn := true, hopDn := hop } } : Hub).event 0x1107 [.u8 3])) ∧
      (h.rack.up = false → exec (.chainLinkUp false hop) s = run fun h =>
        start (({ h with rack := { h.rack with up := true, hopUp := hop } } : Hub).event 0x1107 [.u8 1])) ∧
      (h.rack.dn = true → exec (.chainLinkDown true) s = run fun h => start
        ((((({ h with rack := { h.rack with
            dn := false, hopDn := 0, aligned := if h.rack.pos < h.rack.mgrPos then false else h.rack.aligned } } : Hub).flag 0x1100004 7).event
          0x1107 [.u8 2]).faultMet 17).finishWait 0x1101 .timeout 0 [])) ∧
      (h.rack.up = true → exec (.chainLinkDown false) s = run fun h => start
        ((((({ h with rack := { h.rack with
            up := false, hopUp := 0, aligned := if h.rack.pos < h.rack.mgrPos then h.rack.aligned else false } } : Hub).flag 0x1100004 7).event
          0x1107 [.u8 0]).faultMet 17).finishWait 0x1101 .timeout 0 [])) ∧
      (f.ok = true → h.bitAt 0x1100000 0 = true → f.up = true → first < 32 →
        (h.rack.dn = true → exec (.enum f hop) s = run fun h => { h with rack := { h.rack with
          hopUp := hop, enumerating := true, pos := first + 1
          sent := h.rack.sent ++ [(true, 0x01, 0, leBytes 1 (first + 1))] } }) ∧
        (h.rack.dn = false → h.rack.up = true → exec (.enum f hop) s = run fun h => { h with rack := { h.rack with
          hopUp := hop, enumerating := true, pos := first + 1
          sent := h.rack.sent ++ [(false, 0x02, 0, leBytes 1 (first + 1))] } }.enumerated (first + 1))) ∧
      (f.ok = true → h.bitAt 0x1100000 0 = true → f.up = false → h.rack.pos ≠ 0 → h.rack.role = .manager → h.rack.dn = true →
        exec (.enumDone f hop) s = run fun h =>
          ({ onward 0x02 h with rack := { (onward 0x02 h).rack with
               hopDn := hop, count := first, enumerating := false } } : Hub).event 0x1101
            [.u8 h.rack.pos, .u8 (first), .u8 0]) ∧
      (∀ l2, (h.rack.role ≠ .manager ∨ h.rack.enumerating = true ∨ h.crs.count.toNat % 20 ≠ 0) →
        exec (.roundSend l2) s = .next s) ∧
      (∀ l2, h.rack.role = .manager → h.rack.enumerating = false → h.crs.count.toNat % 20 = 0 →
        h.rack.course ≠ h.crs.count.toNat → h.rack.state = 0 → h.rack.propose = false → h.rack.handover = 0 →
        ∃ t, exec (.roundSend l2) s = .next t ∧ t.dev.hub.rack.course = h.crs.count.toNat ∧ t.dev.hub.rack.mgrPos = h.rack.pos ∧
          t.dev.hub.rack.role = .manager ∧ t.dev.hub.rack.pos = h.rack.pos ∧ t.dev.hub.crs = h.crs ∧ t.dev.mem = s.dev.mem ∧
          t.dev.otp = s.dev.otp ∧ t.dev.hub.hods = h.hods ∧ t.dev.hub.hs = h.hs) ∧
      (∀ b (hubs : List (Nat × Nat × Nat)), (∀ e ∈ hubs, e.2.2 ≤ e.2.1) → ((budgets b hubs).map (·.2)).sum ≤ b) ∧
      (toAll → h.rack.pos ≠ 0 → h.rack.enumerating = false → (h.rack.role = .worker ∨ h.rack.role = .standby) →
        h.rack.epochMis = false → field 30 1 ≠ h.rack.pos →
        (h.rack.timeLost = false → h.rack.cfgMis = false → h.rack.local_ = false → h.epoch.2 ≤ field 20 2 → field 20 2 ≤ h.epoch.1 →
          h.rack.ofs.natAbs ≤ 1000 → field 0 6 = h.crs.count.toNat → field 16 4 = h.reg 0x110000C → h.rack.differs f.payload = false →
          field (32 + 2 * (h.rack.pos - 1)) 2 ≠ 0 → ∀ l2, ∃ t, exec (.round f l2) s = .next t ∧ t.dev.hub.gov.rounds = 16 ∧
            t.dev.hub.gov.lease = field (32 + 2 * (h.rack.pos - 1)) 2 ∧
            t.dev.hub.gov.rc = field (32 + 2 * (h.rack.pos - 1)) 2 ∧ t.dev.hub.rack.course = field 0 6 ∧
            t.dev.hub.rack.heard = h.crs.count.toNat ∧
            t.dev.hub.rack.mgrPos = field 23 1 ∧ t.dev.hub.rack.role = h.rack.role ∧ t.dev.hub.rack.local_ = false ∧
            t.dev.hub.ev = h.ev ∧ t.dev.mem = s.dev.mem ∧ t.dev.otp = s.dev.otp ∧ t.dev.hub.hods = h.hods) ∧
        (h.epoch.2 ≤ field 20 2 → field 20 2 ≤ h.epoch.1 → h.rack.ofs.natAbs ≤ 1000 → field 0 6 = h.crs.count.toNat →
          field 16 4 ≠ h.reg 0x110000C → h.gov.lease ≠ 0 → ∀ l2, ∃ t, exec (.round f l2) s = .next t ∧
            t.dev.hub.gov.lease = h.gov.lease ∧ t.dev.hub.rack.fell = false ∧ t.dev.hub.rack.cfgMis = true ∧
            t.dev.hub.gov.rounds = h.gov.rounds + (if h.rack.fell then 1 else 0)) ∧
        (field 20 2 < h.epoch.2 ∨ h.epoch.1 < field 20 2 → ∀ l2, ∃ t, exec (.round f l2) s = .next t ∧ t.dev.hub.gov.rounds = 0 ∧
          t.dev.hub.gov.lease = 0 ∧ t.dev.hub.gov.rc = h.fld 0xA0000C 15 0 ∧ t.dev.hub.rack.local_ = true ∧ t.dev.hub.rack.epochMis = true ∧
          t.dev.mem = s.dev.mem ∧ t.dev.otp = s.dev.otp ∧ t.dev.hub.hods = h.hods)) ∧
      (alone → h.rack.role = .manager → field 0 6 = h.rack.course → h.crs.count.toNat < h.rack.course + 10 →
        exec (.report f) s = run fun h => { h with rack := { h.rack with
          reports := { pos := f.src, course := field 0 6, demand := field 6 2, floor := field 8 2, vote := field 16 1 } ::
            h.rack.reports.filter (·.pos != f.src) } }) ∧
      (∀ ofs : Int, (h.rack.role = .worker ∨ h.rack.role = .standby) →
        (ofs.natAbs ≤ 1000 → exec (.syncPulse ofs) s = run fun h =>
          { h with rack := { h.rack with ofs, pulsed := true, aligned := decide (ofs.natAbs ≤ 50) && !h.rack.local_ } }) ∧
        (1000 < ofs.natAbs → h.rack.local_ = false → h.rack.timeLost = false → exec (.syncPulse ofs) s = run fun h =>
          toLocal (({ h with rack := { h.rack with ofs, pulsed := true, aligned := false, timeLost := true } } : Hub).event 0x1105
            [.u32 (unsigned 32 ofs), .u64 h.crs.count.toNat, .u64 h.crs.count.toNat]))) ∧
      (toAll → first ≠ 0 →
        (h.rack.role = .manager → h.rack.handover = 0 → exec (.roleReq f) s = run fun h =>
          { onward 0x05 h with rack := { (onward 0x05 h).rack with handover := first } }) ∧
        (h.rack.role ≠ .manager → h.rack.asking = true → first < h.rack.pos → exec (.roleReq f) s = run fun h =>
          ({ onward 0x05 h with rack := { (onward 0x05 h).rack with asking := false } } : Hub).finishWait 0x1102 .busy 0 [])) ∧
      (h.rack.role = .standby → h.gov.rounds = 0 → h.rack.heard + 320 ≤ h.crs.count.toNat → h.rack.asking = false → h.rack.enumerating = false →
        exec .managerLost s = run fun h =>
          ({ h with rack := { h.rack with asking := true } } : Hub).frame 0x05 0 (leBytes 1 h.rack.pos)) ∧
      (h.rack.asking = true → h.rack.role ≠ .manager → exec .roleReqTimeout s = run fun h =>
        (({ h with rack := { h.rack with
            asking := false, role := .manager, local_ := false, aligned := false, ofs := 0 } } : Hub).event 0x1102
          [.u8 h.rack.role.code, .u8 Role.manager.code, .u8 (if h.hods.waiting.any (·.op == 0x1102) then 1 else 2)]).finishWait
            0x1102 .ok 0 []) ∧
      (toAll → h.bus.sleep = .asleep → exec (.wake f) s = run fun h =>
        ({ onward 0x06 h with bus := { h.bus with sleep := .exiting, wake := false } } : Hub).event 0x1106
          [.u8 h.rack.state, .u64 h.rack.sleepK, .u8 2]) ∧
      (h.rack.state = 2 → h.rack.sleepK = h.crs.count.toNat → h.bus.sleep = .awake → exec .sleepCommit s = run fun h =>
        (({ h with bus := { h.bus with sleep := .entering, wake := false } } : Hub).event 0x1106
          [.u8 2, .u64 h.rack.sleepK, .u8 0xFF]).finishWait 0x1103 .ok 0 []) ∧
      (alone → exec (.hod f) s = .next (s.devMap fun d => d.intake .rack (.frame f.src) f.payload)) ∧
      (alone → ∀ q, h.hods.waiting = [q] → q.op = 0x1101 → q.args.head? = some (.u8 f.src) → exec (.hodRsp f) s = run fun h =>
        ({ h with hods := { h.hods with waiting := [] } } : Hub).finish
          { req := q, status := field 10 1, detail := field 11 1, len := (f.payload.drop 16).length
            payload := f.payload.drop 16, enter := !q.idem, due := false }) ∧
      (let t := h.leaseBoundary
       let lost := (h.rack.role = .worker ∨ h.rack.role = .standby) ∧ h.rack.heard + 320 ≤ h.crs.count.toNat
       t.gov.rounds = (if h.crs.count.toNat % 20 = 0 then h.gov.rounds - 1 else h.gov.rounds) ∧ t.rack.pulsed = false ∧
       t.gov.lease = h.gov.lease ∧ (t.rack.local_ = true ↔ h.rack.local_ = true ∨ lost) ∧
       (t.rack.aligned = true ↔ h.rack.aligned = true ∧ h.rack.pulsed = true ∧ ¬ lost) ∧
       t.crs = h.crs ∧ t.regs = h.regs ∧ t.tile = h.tile ∧ t.hods = h.hods ∧ t.ev = h.ev) ∧
      (∀ pos q, h.hods.waiting = [q] → q.op = 0x1101 → q.args.head? = some (.u8 pos) → exec (.rackQueryTimeout pos) s = run fun h =>
        ({ h with hods := { h.hods with waiting := [] } } : Hub).finish (completion q .timeout 0 [] false))) ∧
  RackHodsAct

/-- The management core, the pushes, the debug port and the recorder's medium (R455, R456, R466, R470 to R472, R480, R489, R492,
R504, R509, R514). A restart for each of its reasons hands over to the running region, counted, and leaves the memories, the
fuses, the tiles and the power path alone; in a trial it goes back to the previous region; with RESTARTS at CRASH_MAX the core
is off, and, with no request held, the other slot is tried once. A push ends as IMAGE_DONE, its time-out and its retries say.
Fuses and keys are written at debug level 2 only and never cleared; an instruction that the level does not permit selects
BYPASS. Draining moves the shadow's records to the log in order; a clear ends in the pair alone. The hods of firmware (FW_WRITE
to JOBPLANE_LOAD, ACC_IMAGE_WRITE: R465, R467, R468, R470, R474), of the recorder and of safety (LOG_READ, LOG_CLEAR,
LOG_STATUS, SAFETY_QUERY: R507, R509, R517, R530) complete. -/
def Obligations.CoreImagesAndRecorderAct : Prop :=
  (∀ (s : State) (aged : Nat) (x : Fin 8), s.dev.hub.up = true →
      let h := s.dev.hub
      let run (g : Hub → Hub) : Host.Outcome State Fault Refusal := .next (s.hubMap g)
      let restarts := sat 255 (h.fw.restarts - aged + 1)
      let again (cause : Nat) (i : Option Image) (o : Host.Outcome State Fault Refusal) : Prop :=
        ∃ t, o = .next t ∧ t.dev.mem = s.dev.mem ∧ t.dev.otp = s.dev.otp ∧ t.dev.hub.tile = h.tile ∧ t.dev.hub.hs = h.hs ∧
          t.dev.hub.sec.alias_ = h.sec.level ∧ t.dev.hub.fw.run = i ∧ t.dev.hub.fw.trial = false ∧
          t.dev.hub.fw.cause = cause ∧ t.dev.hub.fw.restarts = restarts ∧ t.dev.hub.fw.bcr0 = h.fw.bcr0 ∧
          t.dev.hub.fw.bcr1 = h.fw.bcr1 ∧ t.dev.hub.fw.phase = (if h.crashMax ≤ restarts then .off else .handover)
      let told (cause : Nat) : List Arg := [.u8 x, .u8 (b2n (h.bitAt 0x120001C x)), .u8 (b2n (h.push x).copy), .u8 cause]
      let retry (cause : Nat) (reset : Bool) (h : Hub) : Hub :=
        (h.updPush x fun p => { p with st := 1, retries := p.retries + 1, pulse := reset }).event 0x1207 (told cause)
      let failed (cause : Nat) (h : Hub) : Hub :=
        ((h.updPush x fun p => { p with st := 5, pulse := false }).flag 0x1200000 6).event 0x1207 (told cause)
      let tdo : Nat := Config.variant.toNat % 16 * 2 ^ 28 + 0x0A08 * 2 ^ 12 + 0x2B5 * 2 + 1
      let scan (i : JtagInstr) (out : Nat) (h : Hub) : Hub :=
        { h with free := h.free + 1, sec := { h.sec with jtag := i, tdo := out } }
      (h.fw.trial = false →
        (h.fw.phase = .up → again 2 h.fw.run (exec (.watchdogExpiry aged) s)) ∧
        (h.fw.phase = .up ∨ h.fw.phase = .handover → again 3 h.fw.run (exec (.coreTrap aged) s)) ∧
        (h.fw.phase = .handover → again 3 h.fw.run (exec (.firstKickTimeout aged) s)) ∧
        exec (.trialTimeout aged) s = .next s) ∧
      (h.fw.trial = true →
        again 5 h.fw.prev (exec (.trialTimeout aged) s) ∧
        (h.fw.phase = .up → again 5 h.fw.prev (exec (.watchdogExpiry aged) s))) ∧
      (h.fw.phase = .off → h.fw.run ≠ none → h.crashMax ≤ h.fw.restarts → h.hods.parked = [] → h.hods.afterBoot = [] →
        let falls : Bool := !h.fw.fellBack && (s.dev.verify 1 (b2n !h.fw.slot)).1 == 0
        ∃ t, exec .crashLoop s = .next t ∧ t.dev.hub.fw.phase = (if falls then .handover else .kiln) ∧
          t.dev.hub.fw.kilnCause = (if falls then 0 else 3) ∧ t.dev.hub.fw.slot = (if falls then !h.fw.slot else h.fw.slot) ∧
          t.dev.hub.fw.restarts = (if falls then 0 else h.fw.restarts) ∧
          (falls = true → t.dev.hub.bitAt 0x1200000 4 = true)) ∧
      (h.fw.phase ≠ .up → exec .accPushStart s = .next s) ∧
      (h.fw.phase = .up → h.fw.checked = true → h.nextPush = none → exec .accPushStart s = .next s) ∧
      (h.fw.phase = .up → h.fw.checked = true → h.nextPush = some x.val →
        let t := 4 + 2 * b2n (h.bitAt 0x120001C x) + b2n (h.fw.accActive (b2n (h.bitAt 0x120001C x)))
        (h.fw.verdict.get 0 t ≠ 0 → h.fw.verdict.get 0 t ≠ 1 →
          exec .accPushStart s = run fun h => h.updPush x fun p => { p with st := 6 }) ∧
        (h.fw.verdict.get 0 t = 0 → (s.dev.verify 2 t).1 ≠ 0 → exec .accPushStart s =
          .next (s.devMap fun d => (d.verify 2 t).2.2.hubMap (·.updPush x fun p => { p with st := 6 }))) ∧
        (h.fw.verdict.get 0 t = 1 → ∃ u, exec .accPushStart s = .next u ∧ u.dev.mem = s.dev.mem ∧ u.dev.otp = s.dev.otp ∧
          (u.dev.hub.push x).st = 2 ∧ (u.dev.hub.push x).retries = (h.push x).retries)) ∧
      (∀ b h', h.takeMgmt x (· == 0x30) = some (b, h') → ((h'.push x).st = 2 ∨ (h'.push x).st = 3) →
        let p := h'.push x
        let right : Bool := p.st == 3 && !b.poison && b.data.length == 16 && leNat ((b.data.drop 4).take 4) == p.len &&
          leNat ((b.data.drop 8).take 4) == p.crc && zeroBytes b.data 1 4 && zeroBytes b.data 12 16
        (right = true → ∃ t, exec (.imageDone x) s = .next t ∧ t.dev.mem = s.dev.mem ∧
          (t.dev.hub.push x).st = 4 ∧ t.dev.hub.sec.image.get [] x = p.digest) ∧
        (right = false → p.retries < h'.fld 0x1200010 2 0 → ∃ t, exec (.imageDone x) s = .next t ∧
          t.dev.mem = s.dev.mem ∧ (t.dev.hub.push x).st = 1 ∧ (t.dev.hub.push x).retries = p.retries + 1) ∧
        (right = false → h'.fld 0x1200010 2 0 ≤ p.retries → ∃ t, exec (.imageDone x) s = .next t ∧
          t.dev.mem = s.dev.mem ∧ (t.dev.hub.push x).st = 5)) ∧
      ((h.push x).good = true → h.imageRead x = h.updPush x fun p => { p with st := 3 }) ∧
      ((h.push x).good = false → ((h.imageRead x).push x).st = 6) ∧
      (h.takeMgmt x (· == 0x30) = none → exec (.imageDone x) s = .next s) ∧
      ((h.push x).st = 3 →
        ((h.push x).retries < h.fld 0x1200010 2 0 → exec (.imageDoneTimeout x) s = run (retry 2 true)) ∧
        (h.fld 0x1200010 2 0 ≤ (h.push x).retries → exec (.imageDoneTimeout x) s = run (failed 2))) ∧
      exec (.accResetPulseEnd x) s = run (·.updPush x fun p => { p with pulse := false }) ∧
      (h.sec.level ≠ 0 → h.sec.next = none → exec .debugLevelExpiry s = run fun h =>
        { h with sec := { h.sec with next := some (0, 0, 0xFF, 0xFF) } }) ∧
      (∀ test : Byte, h.sec.rng = true → exec (.drbgHealthFail test) s = run fun h =>
        ({ h with sec := { h.sec with rng := false } } : Hub).event 0x1306 [.u8 test.toNat]) ∧
      (h.sec.rng = true → 2 ^ 20 ≤ h.sec.drawn → exec .drbgReseed s = run fun h => { h with sec := { h.sec with drawn := 0 } }) ∧
      (∀ w, h.sec.level ≠ 2 → exec (.otpFuseProgram w) s = .next s) ∧
      (h.sec.level = 2 →
        (∀ k, exec (.otpFuseProgram (.revoke k)) s = .next (s.devMap fun d =>
          { d with otp := { d.otp with revoked := d.otp.revoked ||| 2 ^ k.val } })) ∧
        (∀ key, s.dev.otp.dk = none → exec (.otpFuseProgram (.dk key)) s = .next (s.devMap fun d =>
          { d with otp := { d.otp with dk := some (padTo 96 key) } })) ∧
        (∀ key, s.dev.otp.ok0 = none → exec (.otpFuseProgram (.ok0 key)) s = .next (s.devMap fun d =>
          { d with otp := { d.otp with ok0 := some (padTo 96 key) } })) ∧
        (∀ key, s.dev.otp.ok1 = none → exec (.otpFuseProgram (.ok1 key)) s = .next (s.devMap fun d =>
          { d with otp := { d.otp with ok1 := some (padTo 96 key) } })) ∧
        (∀ key, s.dev.otp.dk ≠ none → exec (.otpFuseProgram (.dk key)) s = .next s)) ∧
      exec (.jtagInstruction .bypass) s = run (scan .bypass 0) ∧
      exec (.jtagInstruction .idcode) s = run (scan .idcode tdo) ∧
      exec (.jtagInstruction .other) s = run (scan .bypass 0) ∧
      (h.sec.level = 0 → exec (.jtagInstruction .extest) s = run (scan .bypass 0) ∧
        exec (.jtagInstruction .intest) s = run (scan .bypass 0)) ∧
      (h.sec.level ≠ 2 → exec (.jtagInstruction .debug) s = run (scan .bypass 0)) ∧
      (h.sec.level = 2 → exec (.jtagInstruction .debug) s = run (scan .debug 0)) ∧
      (h.fw.phase ≠ .up → exec (.logDrain none) s = .next s) ∧
      (h.fw.phase = .up → h.ev.full = false → h.ev.mediaFail = false → h.ev.clearing = false →
        h.ev.log.length + h.ev.shadow.length < 131072 → exec (.logDrain none) s = run fun h =>
          { h with ev := { h.ev with log := h.ev.log ++ h.ev.shadow, shadow := []
                                     footCount := h.ev.footCount.map (· - h.ev.shadow.length) } }) ∧
      (h.ev.clearing = true → h.hods.waiting = [] → h.ev.mediaFail = false →
        ∃ t, exec (.logEraseComplete true) s = .next t ∧ t.dev.mem = s.dev.mem ∧ t.dev.hub.ev = { h.ev with
          log := h.ev.clearPair, clearing := false, clearPair := [], dropsAt := [] }) ∧
      (h.ev.clearing = false → ∀ ok, exec (.logEraseComplete ok) s = .next s) ∧
      (∀ v, h.ev.wallRef = some v → exec .wallOfsWrap s = run fun h =>
        ({ h with free := h.free + 1, ev := { h.ev with wallRef := some (BitVec.ofNat 64 ((v.toNat + 2 ^ 31) % 2 ^ 64)) } } : Hub).event
          0x1404 [.u64 ((v.toNat + 2 ^ 31) % 2 ^ 64), .u8 1])) ∧
  FirmwareHodsAct ∧ RecorderHodsAct

/-- The events of the supplies, the clocks and the resets: they act whichever die has power (R376, R541, R549). -/
def SupplyCommand : Instr → Bool
  | .footingPowerOn .. | .powerOnReset .. | .hubRstDeassert .. | .crystalLost | .vinAuxLoss | .baseSupplyLoss
  | .crystalRestored .. | .thermtripLatchRelease => true
  | _ => false

/-- The events at the footing die's pins, sensors and clocks (R24). -/
def FootingCommand : Instr → Bool
  | .vralertAssert .. | .vralertReleaseTimeout .. | .flowLossAssert | .flowLossDeassert | .flowLossReleaseTimeout
  | .sledSeated .. | .sledUnseated .. | .rampStart .. | .powerGood .. | .rstDelayExpiry .. | .rampTimeout ..
  | .enhLost .. | .fastTrip .. | .breakerTimeout .. | .soaTrip .. | .backoffEnd .. | .retryCountReset ..
  | .busOutOfRange .. | .busGoodTimeout .. | .sysShdnAssert | .sysShdnRelease | .critComparatorTrip ..
  | .critReleaseTimeout | .ropeMeasure .. | .ropeMoist .. | .ropeOpen .. | .leakAction .. | .scanFrame
  | .adcConversion .. | .adcCalibration .. | .adcFaultTimeout | .sarCheck .. | .hsOffGateOff .. => true
  | _ => false

/-- The commands that reach neither the tiles, the spill memory, the boot flash nor the fuses. -/
def LeavesMemories : Instr → Bool
  | .telemetryClose .. | .grantPoint .. | .crcComplete | .txnOpenTimeout .. | .stageMaxTimeout .. | .cableInserted ..
  | .cableRemoved .. | .signalDetected .. | .pollLocked .. | .pollTimeout .. | .equalizeDone .. | .equalizeTimeout ..
  | .configExchange .. | .configTimeout .. | .sealSyncDone .. | .sealSyncTimeout .. | .laneLockLost ..
  | .uncorrectableRun .. | .retrainDone .. | .retrainTimeout .. | .fenceReentryTimeout .. | .brickReceived ..
  | .nakReceived .. | .nakRepeatTimeout .. | .ackTimer .. | .replayTimeout .. | .retryLimit .. | .creditTimeout ..
  | .brickTransmit .. | .rekeyRequest .. | .rekeySwitch .. | .sealCounterExhausted .. | .sealAccept ..
  | .sealRejectReceived .. | .sealExchangeTimeout .. | .groupRetainTimeout .. | .tileRetestStart .. | .scrubPass ..
  | .accDecay | .mortarDesc .. | .mortarOpnd .. | .collectiveTimeout .. | .mortarStStart | .mortarDrainComplete
  | .mortarDrainTimeout | .mortarStComplete .. | .stepTimeout .. | .smpStStart | .smpDrainComplete | .smpDrainTimeout
  | .smpStComplete .. | .smpSliceStart | .dispatch .. | .quantumEnd .. | .readyMessage .. | .yieldMessage ..
  | .parkMessage .. | .doneMessage .. | .faultMessage .. | .revokeAck .. | .drainTimeout .. | .barrierArrive ..
  | .barrierTimeout .. | .addP .. | .addC .. | .waitGe .. | .waitLe .. | .tallyRead .. | .tallyWaitTimeout ..
  | .telemetry .. | .vralertAssert .. | .vralertReleaseTimeout .. | .flowLossAssert | .flowLossDeassert
  | .flowLossReleaseTimeout | .leaseExpiry | .sledSeated .. | .sledUnseated .. | .rampStart .. | .powerGood ..
  | .rstDelayExpiry .. | .rampTimeout .. | .enhLost .. | .fastTrip .. | .breakerTimeout .. | .soaTrip ..
  | .backoffEnd .. | .retryCountReset .. | .busOutOfRange .. | .busGoodTimeout .. | .sysShdnAssert | .sysShdnRelease
  | .traySeqStep | .flowWaitTimeout | .seqDownStep | .zoneUpdate | .hostSilenceTimeout | .fanFailTimeout ..
  | .fanRecoverTimeout .. | .pumpFlowLowTimeout .. | .sensorFaultTimeout .. | .sensorRestoreTimeout ..
  | .critComparatorTrip .. | .critReleaseTimeout | .ropeMeasure .. | .ropeMoist .. | .ropeOpen .. | .leakAction ..
  | .scanFrame | .adcConversion .. | .adcCalibration .. | .adcFaultTimeout | .sarCheck .. | .dtsFail ..
  | .hubVralertAssert | .hubThrottleExit | .vmonSample .. | .vmonExcursion .. | .pmCount .. | .pmDailyStore
  | .refclkSdLost | .clk32kLost | .vfCompletionRelease | .debugLevelExpiry | .logEraseComplete .. | .emuWrite ..
  | .emuWriteApply | .mctpAssemblyTimeout .. | .setEndpointId .. | .getEndpointId .. | .getEndpointUuid ..
  | .getMctpVersionSupport .. | .getMessageTypeSupport .. | .getVdmSupport .. | .smbSclTimeout | .smbStretchTimeout ..
  | .smbRstAssert .. | .hubSleepEntry | .hubSleepExit | .pcieReset | .flr .. | .pcieLinkUp .. | .sledPresent ..
  | .sledPresenceLost .. | .idRetryTimeout .. | .idBusStuck .. | .idBusRetry .. | .chainLinkUp .. | .chainLinkDown ..
  | .enum .. | .enumDone .. | .roundSend .. | .round .. | .report .. | .syncPulse .. | .roleReq .. | .managerLost
  | .roleReqTimeout | .wake .. | .sleepCommit | .hodRsp .. | .rackQueryTimeout .. | .watchdogExpiry .. | .coreTrap ..
  | .trialTimeout .. | .imageDone .. | .imageDoneTimeout .. | .drbgHealthFail .. | .drbgReseed | .logDrain ..
  | .wallOfsWrap | .refclkSdRestored | .clk32kRestored | .smbRstDeassert | .firstKickTimeout .. | .accResetPulseEnd ..
  | .hsOffGateOff .. | .domainSwitchOnComplete .. | .sleepEntryComplete | .targetClocksRun | .sleepExitComplete
  | .jtagInstruction .. | .mctpUnsupportedControl .. => true
  | _ => false

/-- A step takes the command at the front of the queue and is `exec` of it on the state with the rest; on an empty queue the
block idles (the model's choice, log 3). -/
def Obligations.StepRunsTheFrontCommand : Prop :=
  ∀ s : State,
    (∀ c rest, s.pending = c :: rest → step s = exec c { s with pending := rest }) ∧ (s.pending = [] → step s = .next s)

/-- Every command completes: it answers a next state in every state, and leaves the commands that wait as they are. While the
base die is held in reset a command of it changes nothing (R376; that it has no effect is the model's reading, log 4), and
without VIN_AUX one of the footing die changes nothing. No byte of the memories and no fuse changes under a command that reaches
none of them. -/
def Obligations.EveryCommandCompletes : Prop :=
  ∀ (c : Instr) (s : State), ∃ t, exec c s = .next t ∧ t.pending = s.pending ∧
    (s.dev.hub.up = false → SupplyCommand c = false → FootingCommand c = false → t = s) ∧
    (s.dev.hub.therm.aux = false → FootingCommand c = true → t = s) ∧
    (LeavesMemories c = true → t.dev.mem = s.dev.mem ∧ t.dev.otp = s.dev.otp)

/-- The memories are in canonical form: addresses strictly rising, and no byte listed that equals what an unlisted one reads. -/
def MemoriesCanonical (s : State) : Prop :=
  s.dev.mem.tile.wf = true ∧ s.dev.mem.spill.wf = true ∧ s.dev.mem.flash.wf = true

/-- Right after the footing die's power-on no command waits, the base die is in power-on reset with its core off, no memory
lists a byte, every 64-bit counter and the course counter are zero, every port is in DETECT, every sled channel is in its reset
state, and the registers hold the reset values of their field tables (R376, R51, R52, R114, R149, R306, R441, R451, R476, R497,
R519); the fuses are those of an unprogrammed part (the model's choice, log 5). -/
def Obligations.ResetState : Prop :=
  let h := State.reset.dev.hub
  State.reset.pending = [] ∧ h.up = false ∧ h.fw.phase = .off ∧ MemoriesCanonical State.reset ∧
  State.reset.dev.mem.tile = [] ∧ State.reset.dev.mem.spill = [] ∧ State.reset.dev.mem.flash = [] ∧
  State.reset.dev.otp = { revoked := 0, ok0 := none, ok1 := none, dk := none, arb := 0 } ∧
  (∀ a, h.ctr a = { val := 0, wrap := false }) ∧ h.crs.count = 0 ∧ h.crs.period = 50 ∧
  (∀ x : Fin 8, (h.port x).st = .detect ∧ h.hsCh x = {} ∧ (h.push x).st = 0) ∧ (h.hsCh 8).st = .waitSeat ∧ (h.hsCh 9).st = .waitSeat ∧
  h.reg 0x100000 = 50 ∧ h.reg 0x300000 = 9796 ∧ h.reg 0x500000 = 255 ∧ h.reg 0xA00008 = 15000 ∧ h.reg 0xA0000C = 8000 ∧
  h.reg 0x1100000 = 1 ∧ h.fld 0x1200010 31 16 = 2000 ∧ h.fld 0x1200010 15 8 = 8 ∧ h.fld 0x1200010 2 0 = 2 ∧
  h.reg 0x1300004 = 2 ∧ h.reg 0x1400004 = 1 ∧ h.rack.role = .standalone ∧ h.rack.pos = 0 ∧ h.sec.level = 0

/-- Whatever the state, a step that starts with the memories in canonical form ends with them so, and no step undoes a fuse: a
revoked key stays revoked, a programmed key stays as it is, and the anti-rollback count never falls (R480, R481). -/
def Obligations.StepsKeepMemoriesAndFuses : Prop :=
  ∀ s t : State, step s = .next t →
    (MemoriesCanonical s → MemoriesCanonical t) ∧
    (∀ k, s.dev.otp.revoked.testBit k = true → t.dev.otp.revoked.testBit k = true) ∧
    (∀ key, (s.dev.otp.ok0 = some key → t.dev.otp.ok0 = some key) ∧ (s.dev.otp.ok1 = some key → t.dev.otp.ok1 = some key) ∧
      (s.dev.otp.dk = some key → t.dev.otp.dk = some key)) ∧
    s.dev.otp.arb ≤ t.dev.otp.arb
end

