-- ==== Sys2Proof/Laws/State.lean ====
section
/-!
SUPPORT. Laws/State.lean: one lemma for each field and each update of it: what the named updates of the hub leave alone.
-/
namespace Sys2Proof.Machine

/-! ### The device in the state -/

@[simp] theorem State.devMap_pending (s : State) (f : Dev → Dev) : (s.devMap f).pending = s.pending := rfl
@[simp] theorem State.devMap_dev (s : State) (f : Dev → Dev) : (s.devMap f).dev = f s.dev := rfl
@[simp] theorem State.hubMap_pending (s : State) (f : Hub → Hub) : (s.hubMap f).pending = s.pending := rfl
@[simp] theorem State.hubMap_hub (s : State) (f : Hub → Hub) : (s.hubMap f).dev.hub = f s.dev.hub := rfl
@[simp] theorem State.hubMap_mem (s : State) (f : Hub → Hub) : (s.hubMap f).dev.mem = s.dev.mem := rfl
@[simp] theorem State.hubMap_otp (s : State) (f : Hub → Hub) : (s.hubMap f).dev.otp = s.dev.otp := rfl
@[simp] theorem Dev.hubMap_hub (d : Dev) (f : Hub → Hub) : (d.hubMap f).hub = f d.hub := rfl
@[simp] theorem Dev.hubMap_mem (d : Dev) (f : Hub → Hub) : (d.hubMap f).mem = d.mem := rfl
@[simp] theorem Dev.hubMap_otp (d : Dev) (f : Hub → Hub) : (d.hubMap f).otp = d.otp := rfl

/-! ### Updates of one block -/

@[simp] theorem Hub.setReg_ctrs (h : Hub) (r v : Nat) : (h.setReg r v).ctrs = h.ctrs := rfl
@[simp] theorem Hub.setReg_free (h : Hub) (r v : Nat) : (h.setReg r v).free = h.free := rfl
@[simp] theorem Hub.setReg_up (h : Hub) (r v : Nat) : (h.setReg r v).up = h.up := rfl
@[simp] theorem Hub.setReg_crs (h : Hub) (r v : Nat) : (h.setReg r v).crs = h.crs := rfl
@[simp] theorem Hub.setReg_ev (h : Hub) (r v : Nat) : (h.setReg r v).ev = h.ev := rfl
@[simp] theorem Hub.setReg_hods (h : Hub) (r v : Nat) : (h.setReg r v).hods = h.hods := rfl
@[simp] theorem Hub.setReg_rb (h : Hub) (r v : Nat) : (h.setReg r v).rb = h.rb := rfl
@[simp] theorem Hub.setReg_fab (h : Hub) (r v : Nat) : (h.setReg r v).fab = h.fab := rfl
@[simp] theorem Hub.setReg_tile (h : Hub) (r v : Nat) : (h.setReg r v).tile = h.tile := rfl
@[simp] theorem Hub.setReg_mortar (h : Hub) (r v : Nat) : (h.setReg r v).mortar = h.mortar := rfl
@[simp] theorem Hub.setReg_smp (h : Hub) (r v : Nat) : (h.setReg r v).smp = h.smp := rfl
@[simp] theorem Hub.setReg_str (h : Hub) (r v : Nat) : (h.setReg r v).str = h.str := rfl
@[simp] theorem Hub.setReg_sync (h : Hub) (r v : Nat) : (h.setReg r v).sync = h.sync := rfl
@[simp] theorem Hub.setReg_hs (h : Hub) (r v : Nat) : (h.setReg r v).hs = h.hs := rfl
@[simp] theorem Hub.setReg_cool (h : Hub) (r v : Nat) : (h.setReg r v).cool = h.cool := rfl
@[simp] theorem Hub.setReg_sense (h : Hub) (r v : Nat) : (h.setReg r v).sense = h.sense := rfl
@[simp] theorem Hub.setReg_gov (h : Hub) (r v : Nat) : (h.setReg r v).gov = h.gov := rfl
@[simp] theorem Hub.setReg_bus (h : Hub) (r v : Nat) : (h.setReg r v).bus = h.bus := rfl
@[simp] theorem Hub.setReg_rack (h : Hub) (r v : Nat) : (h.setReg r v).rack = h.rack := rfl
@[simp] theorem Hub.setReg_fw (h : Hub) (r v : Nat) : (h.setReg r v).fw = h.fw := rfl
@[simp] theorem Hub.setReg_sec (h : Hub) (r v : Nat) : (h.setReg r v).sec = h.sec := rfl
@[simp] theorem Hub.setReg_safety (h : Hub) (r v : Nat) : (h.setReg r v).safety = h.safety := rfl
@[simp] theorem Hub.setReg_therm (h : Hub) (r v : Nat) : (h.setReg r v).therm = h.therm := rfl
@[simp] theorem Hub.setFld_ctrs (h : Hub) (r i j v : Nat) : (h.setFld r i j v).ctrs = h.ctrs := rfl
@[simp] theorem Hub.setFld_free (h : Hub) (r i j v : Nat) : (h.setFld r i j v).free = h.free := rfl
@[simp] theorem Hub.setFld_up (h : Hub) (r i j v : Nat) : (h.setFld r i j v).up = h.up := rfl
@[simp] theorem Hub.setFld_crs (h : Hub) (r i j v : Nat) : (h.setFld r i j v).crs = h.crs := rfl
@[simp] theorem Hub.setFld_ev (h : Hub) (r i j v : Nat) : (h.setFld r i j v).ev = h.ev := rfl
@[simp] theorem Hub.setFld_hods (h : Hub) (r i j v : Nat) : (h.setFld r i j v).hods = h.hods := rfl
@[simp] theorem Hub.setFld_rb (h : Hub) (r i j v : Nat) : (h.setFld r i j v).rb = h.rb := rfl
@[simp] theorem Hub.setFld_fab (h : Hub) (r i j v : Nat) : (h.setFld r i j v).fab = h.fab := rfl
@[simp] theorem Hub.setFld_tile (h : Hub) (r i j v : Nat) : (h.setFld r i j v).tile = h.tile := rfl
@[simp] theorem Hub.setFld_mortar (h : Hub) (r i j v : Nat) : (h.setFld r i j v).mortar = h.mortar := rfl
@[simp] theorem Hub.setFld_smp (h : Hub) (r i j v : Nat) : (h.setFld r i j v).smp = h.smp := rfl
@[simp] theorem Hub.setFld_str (h : Hub) (r i j v : Nat) : (h.setFld r i j v).str = h.str := rfl
@[simp] theorem Hub.setFld_sync (h : Hub) (r i j v : Nat) : (h.setFld r i j v).sync = h.sync := rfl
@[simp] theorem Hub.setFld_hs (h : Hub) (r i j v : Nat) : (h.setFld r i j v).hs = h.hs := rfl
@[simp] theorem Hub.setFld_cool (h : Hub) (r i j v : Nat) : (h.setFld r i j v).cool = h.cool := rfl
@[simp] theorem Hub.setFld_sense (h : Hub) (r i j v : Nat) : (h.setFld r i j v).sense = h.sense := rfl
@[simp] theorem Hub.setFld_gov (h : Hub) (r i j v : Nat) : (h.setFld r i j v).gov = h.gov := rfl
@[simp] theorem Hub.setFld_bus (h : Hub) (r i j v : Nat) : (h.setFld r i j v).bus = h.bus := rfl
@[simp] theorem Hub.setFld_rack (h : Hub) (r i j v : Nat) : (h.setFld r i j v).rack = h.rack := rfl
@[simp] theorem Hub.setFld_fw (h : Hub) (r i j v : Nat) : (h.setFld r i j v).fw = h.fw := rfl
@[simp] theorem Hub.setFld_sec (h : Hub) (r i j v : Nat) : (h.setFld r i j v).sec = h.sec := rfl
@[simp] theorem Hub.setFld_safety (h : Hub) (r i j v : Nat) : (h.setFld r i j v).safety = h.safety := rfl
@[simp] theorem Hub.setFld_therm (h : Hub) (r i j v : Nat) : (h.setFld r i j v).therm = h.therm := rfl
@[simp] theorem Hub.flag_ctrs (h : Hub) (r i : Nat) : (h.flag r i).ctrs = h.ctrs := rfl
@[simp] theorem Hub.flag_free (h : Hub) (r i : Nat) : (h.flag r i).free = h.free := rfl
@[simp] theorem Hub.flag_up (h : Hub) (r i : Nat) : (h.flag r i).up = h.up := rfl
@[simp] theorem Hub.flag_crs (h : Hub) (r i : Nat) : (h.flag r i).crs = h.crs := rfl
@[simp] theorem Hub.flag_ev (h : Hub) (r i : Nat) : (h.flag r i).ev = h.ev := rfl
@[simp] theorem Hub.flag_hods (h : Hub) (r i : Nat) : (h.flag r i).hods = h.hods := rfl
@[simp] theorem Hub.flag_rb (h : Hub) (r i : Nat) : (h.flag r i).rb = h.rb := rfl
@[simp] theorem Hub.flag_fab (h : Hub) (r i : Nat) : (h.flag r i).fab = h.fab := rfl
@[simp] theorem Hub.flag_tile (h : Hub) (r i : Nat) : (h.flag r i).tile = h.tile := rfl
@[simp] theorem Hub.flag_mortar (h : Hub) (r i : Nat) : (h.flag r i).mortar = h.mortar := rfl
@[simp] theorem Hub.flag_smp (h : Hub) (r i : Nat) : (h.flag r i).smp = h.smp := rfl
@[simp] theorem Hub.flag_str (h : Hub) (r i : Nat) : (h.flag r i).str = h.str := rfl
@[simp] theorem Hub.flag_sync (h : Hub) (r i : Nat) : (h.flag r i).sync = h.sync := rfl
@[simp] theorem Hub.flag_hs (h : Hub) (r i : Nat) : (h.flag r i).hs = h.hs := rfl
@[simp] theorem Hub.flag_cool (h : Hub) (r i : Nat) : (h.flag r i).cool = h.cool := rfl
@[simp] theorem Hub.flag_sense (h : Hub) (r i : Nat) : (h.flag r i).sense = h.sense := rfl
@[simp] theorem Hub.flag_gov (h : Hub) (r i : Nat) : (h.flag r i).gov = h.gov := rfl
@[simp] theorem Hub.flag_bus (h : Hub) (r i : Nat) : (h.flag r i).bus = h.bus := rfl
@[simp] theorem Hub.flag_rack (h : Hub) (r i : Nat) : (h.flag r i).rack = h.rack := rfl
@[simp] theorem Hub.flag_fw (h : Hub) (r i : Nat) : (h.flag r i).fw = h.fw := rfl
@[simp] theorem Hub.flag_sec (h : Hub) (r i : Nat) : (h.flag r i).sec = h.sec := rfl
@[simp] theorem Hub.flag_safety (h : Hub) (r i : Nat) : (h.flag r i).safety = h.safety := rfl
@[simp] theorem Hub.flag_therm (h : Hub) (r i : Nat) : (h.flag r i).therm = h.therm := rfl
@[simp] theorem Hub.bump_regs (h : Hub) (r n : Nat) : (h.bump r n).regs = h.regs := rfl
@[simp] theorem Hub.bump_free (h : Hub) (r n : Nat) : (h.bump r n).free = h.free := rfl
@[simp] theorem Hub.bump_up (h : Hub) (r n : Nat) : (h.bump r n).up = h.up := rfl
@[simp] theorem Hub.bump_crs (h : Hub) (r n : Nat) : (h.bump r n).crs = h.crs := rfl
@[simp] theorem Hub.bump_ev (h : Hub) (r n : Nat) : (h.bump r n).ev = h.ev := rfl
@[simp] theorem Hub.bump_hods (h : Hub) (r n : Nat) : (h.bump r n).hods = h.hods := rfl
@[simp] theorem Hub.bump_rb (h : Hub) (r n : Nat) : (h.bump r n).rb = h.rb := rfl
@[simp] theorem Hub.bump_fab (h : Hub) (r n : Nat) : (h.bump r n).fab = h.fab := rfl
@[simp] theorem Hub.bump_tile (h : Hub) (r n : Nat) : (h.bump r n).tile = h.tile := rfl
@[simp] theorem Hub.bump_mortar (h : Hub) (r n : Nat) : (h.bump r n).mortar = h.mortar := rfl
@[simp] theorem Hub.bump_smp (h : Hub) (r n : Nat) : (h.bump r n).smp = h.smp := rfl
@[simp] theorem Hub.bump_str (h : Hub) (r n : Nat) : (h.bump r n).str = h.str := rfl
@[simp] theorem Hub.bump_sync (h : Hub) (r n : Nat) : (h.bump r n).sync = h.sync := rfl
@[simp] theorem Hub.bump_hs (h : Hub) (r n : Nat) : (h.bump r n).hs = h.hs := rfl
@[simp] theorem Hub.bump_cool (h : Hub) (r n : Nat) : (h.bump r n).cool = h.cool := rfl
@[simp] theorem Hub.bump_sense (h : Hub) (r n : Nat) : (h.bump r n).sense = h.sense := rfl
@[simp] theorem Hub.bump_gov (h : Hub) (r n : Nat) : (h.bump r n).gov = h.gov := rfl
@[simp] theorem Hub.bump_bus (h : Hub) (r n : Nat) : (h.bump r n).bus = h.bus := rfl
@[simp] theorem Hub.bump_rack (h : Hub) (r n : Nat) : (h.bump r n).rack = h.rack := rfl
@[simp] theorem Hub.bump_fw (h : Hub) (r n : Nat) : (h.bump r n).fw = h.fw := rfl
@[simp] theorem Hub.bump_sec (h : Hub) (r n : Nat) : (h.bump r n).sec = h.sec := rfl
@[simp] theorem Hub.bump_safety (h : Hub) (r n : Nat) : (h.bump r n).safety = h.safety := rfl
@[simp] theorem Hub.bump_therm (h : Hub) (r n : Nat) : (h.bump r n).therm = h.therm := rfl
@[simp] theorem Hub.zeroCtr_regs (h : Hub) (r : Nat) : (h.zeroCtr r).regs = h.regs := rfl
@[simp] theorem Hub.zeroCtr_free (h : Hub) (r : Nat) : (h.zeroCtr r).free = h.free := rfl
@[simp] theorem Hub.zeroCtr_up (h : Hub) (r : Nat) : (h.zeroCtr r).up = h.up := rfl
@[simp] theorem Hub.zeroCtr_crs (h : Hub) (r : Nat) : (h.zeroCtr r).crs = h.crs := rfl
@[simp] theorem Hub.zeroCtr_ev (h : Hub) (r : Nat) : (h.zeroCtr r).ev = h.ev := rfl
@[simp] theorem Hub.zeroCtr_hods (h : Hub) (r : Nat) : (h.zeroCtr r).hods = h.hods := rfl
@[simp] theorem Hub.zeroCtr_rb (h : Hub) (r : Nat) : (h.zeroCtr r).rb = h.rb := rfl
@[simp] theorem Hub.zeroCtr_fab (h : Hub) (r : Nat) : (h.zeroCtr r).fab = h.fab := rfl
@[simp] theorem Hub.zeroCtr_tile (h : Hub) (r : Nat) : (h.zeroCtr r).tile = h.tile := rfl
@[simp] theorem Hub.zeroCtr_mortar (h : Hub) (r : Nat) : (h.zeroCtr r).mortar = h.mortar := rfl
@[simp] theorem Hub.zeroCtr_smp (h : Hub) (r : Nat) : (h.zeroCtr r).smp = h.smp := rfl
@[simp] theorem Hub.zeroCtr_str (h : Hub) (r : Nat) : (h.zeroCtr r).str = h.str := rfl
@[simp] theorem Hub.zeroCtr_sync (h : Hub) (r : Nat) : (h.zeroCtr r).sync = h.sync := rfl
@[simp] theorem Hub.zeroCtr_hs (h : Hub) (r : Nat) : (h.zeroCtr r).hs = h.hs := rfl
@[simp] theorem Hub.zeroCtr_cool (h : Hub) (r : Nat) : (h.zeroCtr r).cool = h.cool := rfl
@[simp] theorem Hub.zeroCtr_sense (h : Hub) (r : Nat) : (h.zeroCtr r).sense = h.sense := rfl
@[simp] theorem Hub.zeroCtr_gov (h : Hub) (r : Nat) : (h.zeroCtr r).gov = h.gov := rfl
@[simp] theorem Hub.zeroCtr_bus (h : Hub) (r : Nat) : (h.zeroCtr r).bus = h.bus := rfl
@[simp] theorem Hub.zeroCtr_rack (h : Hub) (r : Nat) : (h.zeroCtr r).rack = h.rack := rfl
@[simp] theorem Hub.zeroCtr_fw (h : Hub) (r : Nat) : (h.zeroCtr r).fw = h.fw := rfl
@[simp] theorem Hub.zeroCtr_sec (h : Hub) (r : Nat) : (h.zeroCtr r).sec = h.sec := rfl
@[simp] theorem Hub.zeroCtr_safety (h : Hub) (r : Nat) : (h.zeroCtr r).safety = h.safety := rfl
@[simp] theorem Hub.zeroCtr_therm (h : Hub) (r : Nat) : (h.zeroCtr r).therm = h.therm := rfl
@[simp] theorem Hub.tick_regs (h : Hub) : (h.tick).regs = h.regs := rfl
@[simp] theorem Hub.tick_ctrs (h : Hub) : (h.tick).ctrs = h.ctrs := rfl
@[simp] theorem Hub.tick_up (h : Hub) : (h.tick).up = h.up := rfl
@[simp] theorem Hub.tick_crs (h : Hub) : (h.tick).crs = h.crs := rfl
@[simp] theorem Hub.tick_ev (h : Hub) : (h.tick).ev = h.ev := rfl
@[simp] theorem Hub.tick_hods (h : Hub) : (h.tick).hods = h.hods := rfl
@[simp] theorem Hub.tick_rb (h : Hub) : (h.tick).rb = h.rb := rfl
@[simp] theorem Hub.tick_fab (h : Hub) : (h.tick).fab = h.fab := rfl
@[simp] theorem Hub.tick_tile (h : Hub) : (h.tick).tile = h.tile := rfl
@[simp] theorem Hub.tick_mortar (h : Hub) : (h.tick).mortar = h.mortar := rfl
@[simp] theorem Hub.tick_smp (h : Hub) : (h.tick).smp = h.smp := rfl
@[simp] theorem Hub.tick_str (h : Hub) : (h.tick).str = h.str := rfl
@[simp] theorem Hub.tick_sync (h : Hub) : (h.tick).sync = h.sync := rfl
@[simp] theorem Hub.tick_hs (h : Hub) : (h.tick).hs = h.hs := rfl
@[simp] theorem Hub.tick_cool (h : Hub) : (h.tick).cool = h.cool := rfl
@[simp] theorem Hub.tick_sense (h : Hub) : (h.tick).sense = h.sense := rfl
@[simp] theorem Hub.tick_gov (h : Hub) : (h.tick).gov = h.gov := rfl
@[simp] theorem Hub.tick_bus (h : Hub) : (h.tick).bus = h.bus := rfl
@[simp] theorem Hub.tick_rack (h : Hub) : (h.tick).rack = h.rack := rfl
@[simp] theorem Hub.tick_fw (h : Hub) : (h.tick).fw = h.fw := rfl
@[simp] theorem Hub.tick_sec (h : Hub) : (h.tick).sec = h.sec := rfl
@[simp] theorem Hub.tick_safety (h : Hub) : (h.tick).safety = h.safety := rfl
@[simp] theorem Hub.tick_therm (h : Hub) : (h.tick).therm = h.therm := rfl
@[simp] theorem Hub.irq_regs (h : Hub) (f v : Nat) : (h.irq f v).regs = h.regs := rfl
@[simp] theorem Hub.irq_ctrs (h : Hub) (f v : Nat) : (h.irq f v).ctrs = h.ctrs := rfl
@[simp] theorem Hub.irq_free (h : Hub) (f v : Nat) : (h.irq f v).free = h.free := rfl
@[simp] theorem Hub.irq_up (h : Hub) (f v : Nat) : (h.irq f v).up = h.up := rfl
@[simp] theorem Hub.irq_crs (h : Hub) (f v : Nat) : (h.irq f v).crs = h.crs := rfl
@[simp] theorem Hub.irq_ev (h : Hub) (f v : Nat) : (h.irq f v).ev = h.ev := rfl
@[simp] theorem Hub.irq_hods (h : Hub) (f v : Nat) : (h.irq f v).hods = h.hods := rfl
@[simp] theorem Hub.irq_rb (h : Hub) (f v : Nat) : (h.irq f v).rb = h.rb := rfl
@[simp] theorem Hub.irq_fab (h : Hub) (f v : Nat) : (h.irq f v).fab = h.fab := rfl
@[simp] theorem Hub.irq_tile (h : Hub) (f v : Nat) : (h.irq f v).tile = h.tile := rfl
@[simp] theorem Hub.irq_mortar (h : Hub) (f v : Nat) : (h.irq f v).mortar = h.mortar := rfl
@[simp] theorem Hub.irq_smp (h : Hub) (f v : Nat) : (h.irq f v).smp = h.smp := rfl
@[simp] theorem Hub.irq_str (h : Hub) (f v : Nat) : (h.irq f v).str = h.str := rfl
@[simp] theorem Hub.irq_sync (h : Hub) (f v : Nat) : (h.irq f v).sync = h.sync := rfl
@[simp] theorem Hub.irq_hs (h : Hub) (f v : Nat) : (h.irq f v).hs = h.hs := rfl
@[simp] theorem Hub.irq_cool (h : Hub) (f v : Nat) : (h.irq f v).cool = h.cool := rfl
@[simp] theorem Hub.irq_sense (h : Hub) (f v : Nat) : (h.irq f v).sense = h.sense := rfl
@[simp] theorem Hub.irq_gov (h : Hub) (f v : Nat) : (h.irq f v).gov = h.gov := rfl
@[simp] theorem Hub.irq_rack (h : Hub) (f v : Nat) : (h.irq f v).rack = h.rack := rfl
@[simp] theorem Hub.irq_fw (h : Hub) (f v : Nat) : (h.irq f v).fw = h.fw := rfl
@[simp] theorem Hub.irq_sec (h : Hub) (f v : Nat) : (h.irq f v).sec = h.sec := rfl
@[simp] theorem Hub.irq_safety (h : Hub) (f v : Nat) : (h.irq f v).safety = h.safety := rfl
@[simp] theorem Hub.irq_therm (h : Hub) (f v : Nat) : (h.irq f v).therm = h.therm := rfl
@[simp] theorem Hub.updPort_regs (h : Hub) (x : Nat) (f : Port → Port) : (h.updPort x f).regs = h.regs := rfl
@[simp] theorem Hub.updPort_ctrs (h : Hub) (x : Nat) (f : Port → Port) : (h.updPort x f).ctrs = h.ctrs := rfl
@[simp] theorem Hub.updPort_free (h : Hub) (x : Nat) (f : Port → Port) : (h.updPort x f).free = h.free := rfl
@[simp] theorem Hub.updPort_up (h : Hub) (x : Nat) (f : Port → Port) : (h.updPort x f).up = h.up := rfl
@[simp] theorem Hub.updPort_crs (h : Hub) (x : Nat) (f : Port → Port) : (h.updPort x f).crs = h.crs := rfl
@[simp] theorem Hub.updPort_ev (h : Hub) (x : Nat) (f : Port → Port) : (h.updPort x f).ev = h.ev := rfl
@[simp] theorem Hub.updPort_hods (h : Hub) (x : Nat) (f : Port → Port) : (h.updPort x f).hods = h.hods := rfl
@[simp] theorem Hub.updPort_rb (h : Hub) (x : Nat) (f : Port → Port) : (h.updPort x f).rb = h.rb := rfl
@[simp] theorem Hub.updPort_tile (h : Hub) (x : Nat) (f : Port → Port) : (h.updPort x f).tile = h.tile := rfl
@[simp] theorem Hub.updPort_mortar (h : Hub) (x : Nat) (f : Port → Port) : (h.updPort x f).mortar = h.mortar := rfl
@[simp] theorem Hub.updPort_smp (h : Hub) (x : Nat) (f : Port → Port) : (h.updPort x f).smp = h.smp := rfl
@[simp] theorem Hub.updPort_str (h : Hub) (x : Nat) (f : Port → Port) : (h.updPort x f).str = h.str := rfl
@[simp] theorem Hub.updPort_sync (h : Hub) (x : Nat) (f : Port → Port) : (h.updPort x f).sync = h.sync := rfl
@[simp] theorem Hub.updPort_hs (h : Hub) (x : Nat) (f : Port → Port) : (h.updPort x f).hs = h.hs := rfl
@[simp] theorem Hub.updPort_cool (h : Hub) (x : Nat) (f : Port → Port) : (h.updPort x f).cool = h.cool := rfl
@[simp] theorem Hub.updPort_sense (h : Hub) (x : Nat) (f : Port → Port) : (h.updPort x f).sense = h.sense := rfl
@[simp] theorem Hub.updPort_gov (h : Hub) (x : Nat) (f : Port → Port) : (h.updPort x f).gov = h.gov := rfl
@[simp] theorem Hub.updPort_bus (h : Hub) (x : Nat) (f : Port → Port) : (h.updPort x f).bus = h.bus := rfl
@[simp] theorem Hub.updPort_rack (h : Hub) (x : Nat) (f : Port → Port) : (h.updPort x f).rack = h.rack := rfl
@[simp] theorem Hub.updPort_fw (h : Hub) (x : Nat) (f : Port → Port) : (h.updPort x f).fw = h.fw := rfl
@[simp] theorem Hub.updPort_sec (h : Hub) (x : Nat) (f : Port → Port) : (h.updPort x f).sec = h.sec := rfl
@[simp] theorem Hub.updPort_safety (h : Hub) (x : Nat) (f : Port → Port) : (h.updPort x f).safety = h.safety := rfl
@[simp] theorem Hub.updPort_therm (h : Hub) (x : Nat) (f : Port → Port) : (h.updPort x f).therm = h.therm := rfl
@[simp] theorem Hub.enqueue_regs (h : Hub) (x n : Nat) (b : Brick) : (h.enqueue x n b).regs = h.regs := rfl
@[simp] theorem Hub.enqueue_ctrs (h : Hub) (x n : Nat) (b : Brick) : (h.enqueue x n b).ctrs = h.ctrs := rfl
@[simp] theorem Hub.enqueue_free (h : Hub) (x n : Nat) (b : Brick) : (h.enqueue x n b).free = h.free := rfl
@[simp] theorem Hub.enqueue_up (h : Hub) (x n : Nat) (b : Brick) : (h.enqueue x n b).up = h.up := rfl
@[simp] theorem Hub.enqueue_crs (h : Hub) (x n : Nat) (b : Brick) : (h.enqueue x n b).crs = h.crs := rfl
@[simp] theorem Hub.enqueue_ev (h : Hub) (x n : Nat) (b : Brick) : (h.enqueue x n b).ev = h.ev := rfl
@[simp] theorem Hub.enqueue_hods (h : Hub) (x n : Nat) (b : Brick) : (h.enqueue x n b).hods = h.hods := rfl
@[simp] theorem Hub.enqueue_rb (h : Hub) (x n : Nat) (b : Brick) : (h.enqueue x n b).rb = h.rb := rfl
@[simp] theorem Hub.enqueue_tile (h : Hub) (x n : Nat) (b : Brick) : (h.enqueue x n b).tile = h.tile := rfl
@[simp] theorem Hub.enqueue_mortar (h : Hub) (x n : Nat) (b : Brick) : (h.enqueue x n b).mortar = h.mortar := rfl
@[simp] theorem Hub.enqueue_smp (h : Hub) (x n : Nat) (b : Brick) : (h.enqueue x n b).smp = h.smp := rfl
@[simp] theorem Hub.enqueue_str (h : Hub) (x n : Nat) (b : Brick) : (h.enqueue x n b).str = h.str := rfl
@[simp] theorem Hub.enqueue_sync (h : Hub) (x n : Nat) (b : Brick) : (h.enqueue x n b).sync = h.sync := rfl
@[simp] theorem Hub.enqueue_hs (h : Hub) (x n : Nat) (b : Brick) : (h.enqueue x n b).hs = h.hs := rfl
@[simp] theorem Hub.enqueue_cool (h : Hub) (x n : Nat) (b : Brick) : (h.enqueue x n b).cool = h.cool := rfl
@[simp] theorem Hub.enqueue_sense (h : Hub) (x n : Nat) (b : Brick) : (h.enqueue x n b).sense = h.sense := rfl
@[simp] theorem Hub.enqueue_gov (h : Hub) (x n : Nat) (b : Brick) : (h.enqueue x n b).gov = h.gov := rfl
@[simp] theorem Hub.enqueue_bus (h : Hub) (x n : Nat) (b : Brick) : (h.enqueue x n b).bus = h.bus := rfl
@[simp] theorem Hub.enqueue_rack (h : Hub) (x n : Nat) (b : Brick) : (h.enqueue x n b).rack = h.rack := rfl
@[simp] theorem Hub.enqueue_fw (h : Hub) (x n : Nat) (b : Brick) : (h.enqueue x n b).fw = h.fw := rfl
@[simp] theorem Hub.enqueue_sec (h : Hub) (x n : Nat) (b : Brick) : (h.enqueue x n b).sec = h.sec := rfl
@[simp] theorem Hub.enqueue_safety (h : Hub) (x n : Nat) (b : Brick) : (h.enqueue x n b).safety = h.safety := rfl
@[simp] theorem Hub.enqueue_therm (h : Hub) (x n : Nat) (b : Brick) : (h.enqueue x n b).therm = h.therm := rfl
@[simp] theorem Hub.owe_regs (h : Hub) (x v : Nat) : (h.owe x v).regs = h.regs := rfl
@[simp] theorem Hub.owe_ctrs (h : Hub) (x v : Nat) : (h.owe x v).ctrs = h.ctrs := rfl
@[simp] theorem Hub.owe_free (h : Hub) (x v : Nat) : (h.owe x v).free = h.free := rfl
@[simp] theorem Hub.owe_up (h : Hub) (x v : Nat) : (h.owe x v).up = h.up := rfl
@[simp] theorem Hub.owe_crs (h : Hub) (x v : Nat) : (h.owe x v).crs = h.crs := rfl
@[simp] theorem Hub.owe_ev (h : Hub) (x v : Nat) : (h.owe x v).ev = h.ev := rfl
@[simp] theorem Hub.owe_hods (h : Hub) (x v : Nat) : (h.owe x v).hods = h.hods := rfl
@[simp] theorem Hub.owe_rb (h : Hub) (x v : Nat) : (h.owe x v).rb = h.rb := rfl
@[simp] theorem Hub.owe_tile (h : Hub) (x v : Nat) : (h.owe x v).tile = h.tile := rfl
@[simp] theorem Hub.owe_mortar (h : Hub) (x v : Nat) : (h.owe x v).mortar = h.mortar := rfl
@[simp] theorem Hub.owe_smp (h : Hub) (x v : Nat) : (h.owe x v).smp = h.smp := rfl
@[simp] theorem Hub.owe_str (h : Hub) (x v : Nat) : (h.owe x v).str = h.str := rfl
@[simp] theorem Hub.owe_sync (h : Hub) (x v : Nat) : (h.owe x v).sync = h.sync := rfl
@[simp] theorem Hub.owe_hs (h : Hub) (x v : Nat) : (h.owe x v).hs = h.hs := rfl
@[simp] theorem Hub.owe_cool (h : Hub) (x v : Nat) : (h.owe x v).cool = h.cool := rfl
@[simp] theorem Hub.owe_sense (h : Hub) (x v : Nat) : (h.owe x v).sense = h.sense := rfl
@[simp] theorem Hub.owe_gov (h : Hub) (x v : Nat) : (h.owe x v).gov = h.gov := rfl
@[simp] theorem Hub.owe_bus (h : Hub) (x v : Nat) : (h.owe x v).bus = h.bus := rfl
@[simp] theorem Hub.owe_rack (h : Hub) (x v : Nat) : (h.owe x v).rack = h.rack := rfl
@[simp] theorem Hub.owe_fw (h : Hub) (x v : Nat) : (h.owe x v).fw = h.fw := rfl
@[simp] theorem Hub.owe_sec (h : Hub) (x v : Nat) : (h.owe x v).sec = h.sec := rfl
@[simp] theorem Hub.owe_safety (h : Hub) (x v : Nat) : (h.owe x v).safety = h.safety := rfl
@[simp] theorem Hub.owe_therm (h : Hub) (x v : Nat) : (h.owe x v).therm = h.therm := rfl
@[simp] theorem Hub.updHs_regs (h : Hub) (c : Nat) (f : HsCh → HsCh) : (h.updHs c f).regs = h.regs := rfl
@[simp] theorem Hub.updHs_ctrs (h : Hub) (c : Nat) (f : HsCh → HsCh) : (h.updHs c f).ctrs = h.ctrs := rfl
@[simp] theorem Hub.updHs_free (h : Hub) (c : Nat) (f : HsCh → HsCh) : (h.updHs c f).free = h.free := rfl
@[simp] theorem Hub.updHs_up (h : Hub) (c : Nat) (f : HsCh → HsCh) : (h.updHs c f).up = h.up := rfl
@[simp] theorem Hub.updHs_crs (h : Hub) (c : Nat) (f : HsCh → HsCh) : (h.updHs c f).crs = h.crs := rfl
@[simp] theorem Hub.updHs_ev (h : Hub) (c : Nat) (f : HsCh → HsCh) : (h.updHs c f).ev = h.ev := rfl
@[simp] theorem Hub.updHs_hods (h : Hub) (c : Nat) (f : HsCh → HsCh) : (h.updHs c f).hods = h.hods := rfl
@[simp] theorem Hub.updHs_rb (h : Hub) (c : Nat) (f : HsCh → HsCh) : (h.updHs c f).rb = h.rb := rfl
@[simp] theorem Hub.updHs_fab (h : Hub) (c : Nat) (f : HsCh → HsCh) : (h.updHs c f).fab = h.fab := rfl
@[simp] theorem Hub.updHs_tile (h : Hub) (c : Nat) (f : HsCh → HsCh) : (h.updHs c f).tile = h.tile := rfl
@[simp] theorem Hub.updHs_mortar (h : Hub) (c : Nat) (f : HsCh → HsCh) : (h.updHs c f).mortar = h.mortar := rfl
@[simp] theorem Hub.updHs_smp (h : Hub) (c : Nat) (f : HsCh → HsCh) : (h.updHs c f).smp = h.smp := rfl
@[simp] theorem Hub.updHs_str (h : Hub) (c : Nat) (f : HsCh → HsCh) : (h.updHs c f).str = h.str := rfl
@[simp] theorem Hub.updHs_sync (h : Hub) (c : Nat) (f : HsCh → HsCh) : (h.updHs c f).sync = h.sync := rfl
@[simp] theorem Hub.updHs_cool (h : Hub) (c : Nat) (f : HsCh → HsCh) : (h.updHs c f).cool = h.cool := rfl
@[simp] theorem Hub.updHs_sense (h : Hub) (c : Nat) (f : HsCh → HsCh) : (h.updHs c f).sense = h.sense := rfl
@[simp] theorem Hub.updHs_gov (h : Hub) (c : Nat) (f : HsCh → HsCh) : (h.updHs c f).gov = h.gov := rfl
@[simp] theorem Hub.updHs_bus (h : Hub) (c : Nat) (f : HsCh → HsCh) : (h.updHs c f).bus = h.bus := rfl
@[simp] theorem Hub.updHs_rack (h : Hub) (c : Nat) (f : HsCh → HsCh) : (h.updHs c f).rack = h.rack := rfl
@[simp] theorem Hub.updHs_fw (h : Hub) (c : Nat) (f : HsCh → HsCh) : (h.updHs c f).fw = h.fw := rfl
@[simp] theorem Hub.updHs_sec (h : Hub) (c : Nat) (f : HsCh → HsCh) : (h.updHs c f).sec = h.sec := rfl
@[simp] theorem Hub.updHs_safety (h : Hub) (c : Nat) (f : HsCh → HsCh) : (h.updHs c f).safety = h.safety := rfl
@[simp] theorem Hub.updHs_therm (h : Hub) (c : Nat) (f : HsCh → HsCh) : (h.updHs c f).therm = h.therm := rfl
@[simp] theorem Hub.updAcc_regs (h : Hub) (x : Nat) (f : GovAcc → GovAcc) : (h.updAcc x f).regs = h.regs := rfl
@[simp] theorem Hub.updAcc_ctrs (h : Hub) (x : Nat) (f : GovAcc → GovAcc) : (h.updAcc x f).ctrs = h.ctrs := rfl
@[simp] theorem Hub.updAcc_free (h : Hub) (x : Nat) (f : GovAcc → GovAcc) : (h.updAcc x f).free = h.free := rfl
@[simp] theorem Hub.updAcc_up (h : Hub) (x : Nat) (f : GovAcc → GovAcc) : (h.updAcc x f).up = h.up := rfl
@[simp] theorem Hub.updAcc_crs (h : Hub) (x : Nat) (f : GovAcc → GovAcc) : (h.updAcc x f).crs = h.crs := rfl
@[simp] theorem Hub.updAcc_ev (h : Hub) (x : Nat) (f : GovAcc → GovAcc) : (h.updAcc x f).ev = h.ev := rfl
@[simp] theorem Hub.updAcc_hods (h : Hub) (x : Nat) (f : GovAcc → GovAcc) : (h.updAcc x f).hods = h.hods := rfl
@[simp] theorem Hub.updAcc_rb (h : Hub) (x : Nat) (f : GovAcc → GovAcc) : (h.updAcc x f).rb = h.rb := rfl
@[simp] theorem Hub.updAcc_fab (h : Hub) (x : Nat) (f : GovAcc → GovAcc) : (h.updAcc x f).fab = h.fab := rfl
@[simp] theorem Hub.updAcc_tile (h : Hub) (x : Nat) (f : GovAcc → GovAcc) : (h.updAcc x f).tile = h.tile := rfl
@[simp] theorem Hub.updAcc_mortar (h : Hub) (x : Nat) (f : GovAcc → GovAcc) : (h.updAcc x f).mortar = h.mortar := rfl
@[simp] theorem Hub.updAcc_smp (h : Hub) (x : Nat) (f : GovAcc → GovAcc) : (h.updAcc x f).smp = h.smp := rfl
@[simp] theorem Hub.updAcc_str (h : Hub) (x : Nat) (f : GovAcc → GovAcc) : (h.updAcc x f).str = h.str := rfl
@[simp] theorem Hub.updAcc_sync (h : Hub) (x : Nat) (f : GovAcc → GovAcc) : (h.updAcc x f).sync = h.sync := rfl
@[simp] theorem Hub.updAcc_hs (h : Hub) (x : Nat) (f : GovAcc → GovAcc) : (h.updAcc x f).hs = h.hs := rfl
@[simp] theorem Hub.updAcc_cool (h : Hub) (x : Nat) (f : GovAcc → GovAcc) : (h.updAcc x f).cool = h.cool := rfl
@[simp] theorem Hub.updAcc_sense (h : Hub) (x : Nat) (f : GovAcc → GovAcc) : (h.updAcc x f).sense = h.sense := rfl
@[simp] theorem Hub.updAcc_bus (h : Hub) (x : Nat) (f : GovAcc → GovAcc) : (h.updAcc x f).bus = h.bus := rfl
@[simp] theorem Hub.updAcc_rack (h : Hub) (x : Nat) (f : GovAcc → GovAcc) : (h.updAcc x f).rack = h.rack := rfl
@[simp] theorem Hub.updAcc_fw (h : Hub) (x : Nat) (f : GovAcc → GovAcc) : (h.updAcc x f).fw = h.fw := rfl
@[simp] theorem Hub.updAcc_sec (h : Hub) (x : Nat) (f : GovAcc → GovAcc) : (h.updAcc x f).sec = h.sec := rfl
@[simp] theorem Hub.updAcc_safety (h : Hub) (x : Nat) (f : GovAcc → GovAcc) : (h.updAcc x f).safety = h.safety := rfl
@[simp] theorem Hub.updAcc_therm (h : Hub) (x : Nat) (f : GovAcc → GovAcc) : (h.updAcc x f).therm = h.therm := rfl
@[simp] theorem Hub.updPush_regs (h : Hub) (x : Nat) (f : Push → Push) : (h.updPush x f).regs = h.regs := rfl
@[simp] theorem Hub.updPush_ctrs (h : Hub) (x : Nat) (f : Push → Push) : (h.updPush x f).ctrs = h.ctrs := rfl
@[simp] theorem Hub.updPush_free (h : Hub) (x : Nat) (f : Push → Push) : (h.updPush x f).free = h.free := rfl
@[simp] theorem Hub.updPush_up (h : Hub) (x : Nat) (f : Push → Push) : (h.updPush x f).up = h.up := rfl
@[simp] theorem Hub.updPush_crs (h : Hub) (x : Nat) (f : Push → Push) : (h.updPush x f).crs = h.crs := rfl
@[simp] theorem Hub.updPush_ev (h : Hub) (x : Nat) (f : Push → Push) : (h.updPush x f).ev = h.ev := rfl
@[simp] theorem Hub.updPush_hods (h : Hub) (x : Nat) (f : Push → Push) : (h.updPush x f).hods = h.hods := rfl
@[simp] theorem Hub.updPush_rb (h : Hub) (x : Nat) (f : Push → Push) : (h.updPush x f).rb = h.rb := rfl
@[simp] theorem Hub.updPush_fab (h : Hub) (x : Nat) (f : Push → Push) : (h.updPush x f).fab = h.fab := rfl
@[simp] theorem Hub.updPush_tile (h : Hub) (x : Nat) (f : Push → Push) : (h.updPush x f).tile = h.tile := rfl
@[simp] theorem Hub.updPush_mortar (h : Hub) (x : Nat) (f : Push → Push) : (h.updPush x f).mortar = h.mortar := rfl
@[simp] theorem Hub.updPush_smp (h : Hub) (x : Nat) (f : Push → Push) : (h.updPush x f).smp = h.smp := rfl
@[simp] theorem Hub.updPush_str (h : Hub) (x : Nat) (f : Push → Push) : (h.updPush x f).str = h.str := rfl
@[simp] theorem Hub.updPush_sync (h : Hub) (x : Nat) (f : Push → Push) : (h.updPush x f).sync = h.sync := rfl
@[simp] theorem Hub.updPush_hs (h : Hub) (x : Nat) (f : Push → Push) : (h.updPush x f).hs = h.hs := rfl
@[simp] theorem Hub.updPush_cool (h : Hub) (x : Nat) (f : Push → Push) : (h.updPush x f).cool = h.cool := rfl
@[simp] theorem Hub.updPush_sense (h : Hub) (x : Nat) (f : Push → Push) : (h.updPush x f).sense = h.sense := rfl
@[simp] theorem Hub.updPush_gov (h : Hub) (x : Nat) (f : Push → Push) : (h.updPush x f).gov = h.gov := rfl
@[simp] theorem Hub.updPush_bus (h : Hub) (x : Nat) (f : Push → Push) : (h.updPush x f).bus = h.bus := rfl
@[simp] theorem Hub.updPush_rack (h : Hub) (x : Nat) (f : Push → Push) : (h.updPush x f).rack = h.rack := rfl
@[simp] theorem Hub.updPush_sec (h : Hub) (x : Nat) (f : Push → Push) : (h.updPush x f).sec = h.sec := rfl
@[simp] theorem Hub.updPush_safety (h : Hub) (x : Nat) (f : Push → Push) : (h.updPush x f).safety = h.safety := rfl
@[simp] theorem Hub.updPush_therm (h : Hub) (x : Nat) (f : Push → Push) : (h.updPush x f).therm = h.therm := rfl
@[simp] theorem Hub.updId_regs (h : Hub) (u v : Nat) (f : IdMem → IdMem) : (h.updId u v f).regs = h.regs := rfl
@[simp] theorem Hub.updId_ctrs (h : Hub) (u v : Nat) (f : IdMem → IdMem) : (h.updId u v f).ctrs = h.ctrs := rfl
@[simp] theorem Hub.updId_free (h : Hub) (u v : Nat) (f : IdMem → IdMem) : (h.updId u v f).free = h.free := rfl
@[simp] theorem Hub.updId_up (h : Hub) (u v : Nat) (f : IdMem → IdMem) : (h.updId u v f).up = h.up := rfl
@[simp] theorem Hub.updId_crs (h : Hub) (u v : Nat) (f : IdMem → IdMem) : (h.updId u v f).crs = h.crs := rfl
@[simp] theorem Hub.updId_ev (h : Hub) (u v : Nat) (f : IdMem → IdMem) : (h.updId u v f).ev = h.ev := rfl
@[simp] theorem Hub.updId_hods (h : Hub) (u v : Nat) (f : IdMem → IdMem) : (h.updId u v f).hods = h.hods := rfl
@[simp] theorem Hub.updId_rb (h : Hub) (u v : Nat) (f : IdMem → IdMem) : (h.updId u v f).rb = h.rb := rfl
@[simp] theorem Hub.updId_fab (h : Hub) (u v : Nat) (f : IdMem → IdMem) : (h.updId u v f).fab = h.fab := rfl
@[simp] theorem Hub.updId_tile (h : Hub) (u v : Nat) (f : IdMem → IdMem) : (h.updId u v f).tile = h.tile := rfl
@[simp] theorem Hub.updId_mortar (h : Hub) (u v : Nat) (f : IdMem → IdMem) : (h.updId u v f).mortar = h.mortar := rfl
@[simp] theorem Hub.updId_smp (h : Hub) (u v : Nat) (f : IdMem → IdMem) : (h.updId u v f).smp = h.smp := rfl
@[simp] theorem Hub.updId_str (h : Hub) (u v : Nat) (f : IdMem → IdMem) : (h.updId u v f).str = h.str := rfl
@[simp] theorem Hub.updId_sync (h : Hub) (u v : Nat) (f : IdMem → IdMem) : (h.updId u v f).sync = h.sync := rfl
@[simp] theorem Hub.updId_hs (h : Hub) (u v : Nat) (f : IdMem → IdMem) : (h.updId u v f).hs = h.hs := rfl
@[simp] theorem Hub.updId_cool (h : Hub) (u v : Nat) (f : IdMem → IdMem) : (h.updId u v f).cool = h.cool := rfl
@[simp] theorem Hub.updId_sense (h : Hub) (u v : Nat) (f : IdMem → IdMem) : (h.updId u v f).sense = h.sense := rfl
@[simp] theorem Hub.updId_gov (h : Hub) (u v : Nat) (f : IdMem → IdMem) : (h.updId u v f).gov = h.gov := rfl
@[simp] theorem Hub.updId_rack (h : Hub) (u v : Nat) (f : IdMem → IdMem) : (h.updId u v f).rack = h.rack := rfl
@[simp] theorem Hub.updId_fw (h : Hub) (u v : Nat) (f : IdMem → IdMem) : (h.updId u v f).fw = h.fw := rfl
@[simp] theorem Hub.updId_sec (h : Hub) (u v : Nat) (f : IdMem → IdMem) : (h.updId u v f).sec = h.sec := rfl
@[simp] theorem Hub.updId_safety (h : Hub) (u v : Nat) (f : IdMem → IdMem) : (h.updId u v f).safety = h.safety := rfl
@[simp] theorem Hub.updId_therm (h : Hub) (u v : Nat) (f : IdMem → IdMem) : (h.updId u v f).therm = h.therm := rfl
@[simp] theorem Hub.updHod_regs (h : Hub) (r : Nat) (f : Hod → Hod) : (h.updHod r f).regs = h.regs := rfl
@[simp] theorem Hub.updHod_ctrs (h : Hub) (r : Nat) (f : Hod → Hod) : (h.updHod r f).ctrs = h.ctrs := rfl
@[simp] theorem Hub.updHod_free (h : Hub) (r : Nat) (f : Hod → Hod) : (h.updHod r f).free = h.free := rfl
@[simp] theorem Hub.updHod_up (h : Hub) (r : Nat) (f : Hod → Hod) : (h.updHod r f).up = h.up := rfl
@[simp] theorem Hub.updHod_crs (h : Hub) (r : Nat) (f : Hod → Hod) : (h.updHod r f).crs = h.crs := rfl
@[simp] theorem Hub.updHod_ev (h : Hub) (r : Nat) (f : Hod → Hod) : (h.updHod r f).ev = h.ev := rfl
@[simp] theorem Hub.updHod_rb (h : Hub) (r : Nat) (f : Hod → Hod) : (h.updHod r f).rb = h.rb := rfl
@[simp] theorem Hub.updHod_fab (h : Hub) (r : Nat) (f : Hod → Hod) : (h.updHod r f).fab = h.fab := rfl
@[simp] theorem Hub.updHod_tile (h : Hub) (r : Nat) (f : Hod → Hod) : (h.updHod r f).tile = h.tile := rfl
@[simp] theorem Hub.updHod_mortar (h : Hub) (r : Nat) (f : Hod → Hod) : (h.updHod r f).mortar = h.mortar := rfl
@[simp] theorem Hub.updHod_smp (h : Hub) (r : Nat) (f : Hod → Hod) : (h.updHod r f).smp = h.smp := rfl
@[simp] theorem Hub.updHod_str (h : Hub) (r : Nat) (f : Hod → Hod) : (h.updHod r f).str = h.str := rfl
@[simp] theorem Hub.updHod_sync (h : Hub) (r : Nat) (f : Hod → Hod) : (h.updHod r f).sync = h.sync := rfl
@[simp] theorem Hub.updHod_hs (h : Hub) (r : Nat) (f : Hod → Hod) : (h.updHod r f).hs = h.hs := rfl
@[simp] theorem Hub.updHod_cool (h : Hub) (r : Nat) (f : Hod → Hod) : (h.updHod r f).cool = h.cool := rfl
@[simp] theorem Hub.updHod_sense (h : Hub) (r : Nat) (f : Hod → Hod) : (h.updHod r f).sense = h.sense := rfl
@[simp] theorem Hub.updHod_gov (h : Hub) (r : Nat) (f : Hod → Hod) : (h.updHod r f).gov = h.gov := rfl
@[simp] theorem Hub.updHod_bus (h : Hub) (r : Nat) (f : Hod → Hod) : (h.updHod r f).bus = h.bus := rfl
@[simp] theorem Hub.updHod_rack (h : Hub) (r : Nat) (f : Hod → Hod) : (h.updHod r f).rack = h.rack := rfl
@[simp] theorem Hub.updHod_fw (h : Hub) (r : Nat) (f : Hod → Hod) : (h.updHod r f).fw = h.fw := rfl
@[simp] theorem Hub.updHod_sec (h : Hub) (r : Nat) (f : Hod → Hod) : (h.updHod r f).sec = h.sec := rfl
@[simp] theorem Hub.updHod_safety (h : Hub) (r : Nat) (f : Hod → Hod) : (h.updHod r f).safety = h.safety := rfl
@[simp] theorem Hub.updHod_therm (h : Hub) (r : Nat) (f : Hod → Hod) : (h.updHod r f).therm = h.therm := rfl
@[simp] theorem Hub.updRb_regs (h : Hub) (f : RegBlock → RegBlock) : (h.updRb f).regs = h.regs := rfl
@[simp] theorem Hub.updRb_ctrs (h : Hub) (f : RegBlock → RegBlock) : (h.updRb f).ctrs = h.ctrs := rfl
@[simp] theorem Hub.updRb_free (h : Hub) (f : RegBlock → RegBlock) : (h.updRb f).free = h.free := rfl
@[simp] theorem Hub.updRb_up (h : Hub) (f : RegBlock → RegBlock) : (h.updRb f).up = h.up := rfl
@[simp] theorem Hub.updRb_crs (h : Hub) (f : RegBlock → RegBlock) : (h.updRb f).crs = h.crs := rfl
@[simp] theorem Hub.updRb_ev (h : Hub) (f : RegBlock → RegBlock) : (h.updRb f).ev = h.ev := rfl
@[simp] theorem Hub.updRb_hods (h : Hub) (f : RegBlock → RegBlock) : (h.updRb f).hods = h.hods := rfl
@[simp] theorem Hub.updRb_fab (h : Hub) (f : RegBlock → RegBlock) : (h.updRb f).fab = h.fab := rfl
@[simp] theorem Hub.updRb_tile (h : Hub) (f : RegBlock → RegBlock) : (h.updRb f).tile = h.tile := rfl
@[simp] theorem Hub.updRb_mortar (h : Hub) (f : RegBlock → RegBlock) : (h.updRb f).mortar = h.mortar := rfl
@[simp] theorem Hub.updRb_smp (h : Hub) (f : RegBlock → RegBlock) : (h.updRb f).smp = h.smp := rfl
@[simp] theorem Hub.updRb_str (h : Hub) (f : RegBlock → RegBlock) : (h.updRb f).str = h.str := rfl
@[simp] theorem Hub.updRb_sync (h : Hub) (f : RegBlock → RegBlock) : (h.updRb f).sync = h.sync := rfl
@[simp] theorem Hub.updRb_hs (h : Hub) (f : RegBlock → RegBlock) : (h.updRb f).hs = h.hs := rfl
@[simp] theorem Hub.updRb_cool (h : Hub) (f : RegBlock → RegBlock) : (h.updRb f).cool = h.cool := rfl
@[simp] theorem Hub.updRb_sense (h : Hub) (f : RegBlock → RegBlock) : (h.updRb f).sense = h.sense := rfl
@[simp] theorem Hub.updRb_gov (h : Hub) (f : RegBlock → RegBlock) : (h.updRb f).gov = h.gov := rfl
@[simp] theorem Hub.updRb_bus (h : Hub) (f : RegBlock → RegBlock) : (h.updRb f).bus = h.bus := rfl
@[simp] theorem Hub.updRb_rack (h : Hub) (f : RegBlock → RegBlock) : (h.updRb f).rack = h.rack := rfl
@[simp] theorem Hub.updRb_fw (h : Hub) (f : RegBlock → RegBlock) : (h.updRb f).fw = h.fw := rfl
@[simp] theorem Hub.updRb_sec (h : Hub) (f : RegBlock → RegBlock) : (h.updRb f).sec = h.sec := rfl
@[simp] theorem Hub.updRb_safety (h : Hub) (f : RegBlock → RegBlock) : (h.updRb f).safety = h.safety := rfl
@[simp] theorem Hub.updRb_therm (h : Hub) (f : RegBlock → RegBlock) : (h.updRb f).therm = h.therm := rfl
@[simp] theorem Hub.updTile_regs (h : Hub) (n : Nat) (f : Tile → Tile) : (h.updTile n f).regs = h.regs := rfl
@[simp] theorem Hub.updTile_ctrs (h : Hub) (n : Nat) (f : Tile → Tile) : (h.updTile n f).ctrs = h.ctrs := rfl
@[simp] theorem Hub.updTile_free (h : Hub) (n : Nat) (f : Tile → Tile) : (h.updTile n f).free = h.free := rfl
@[simp] theorem Hub.updTile_up (h : Hub) (n : Nat) (f : Tile → Tile) : (h.updTile n f).up = h.up := rfl
@[simp] theorem Hub.updTile_crs (h : Hub) (n : Nat) (f : Tile → Tile) : (h.updTile n f).crs = h.crs := rfl
@[simp] theorem Hub.updTile_ev (h : Hub) (n : Nat) (f : Tile → Tile) : (h.updTile n f).ev = h.ev := rfl
@[simp] theorem Hub.updTile_hods (h : Hub) (n : Nat) (f : Tile → Tile) : (h.updTile n f).hods = h.hods := rfl
@[simp] theorem Hub.updTile_rb (h : Hub) (n : Nat) (f : Tile → Tile) : (h.updTile n f).rb = h.rb := rfl
@[simp] theorem Hub.updTile_fab (h : Hub) (n : Nat) (f : Tile → Tile) : (h.updTile n f).fab = h.fab := rfl
@[simp] theorem Hub.updTile_mortar (h : Hub) (n : Nat) (f : Tile → Tile) : (h.updTile n f).mortar = h.mortar := rfl
@[simp] theorem Hub.updTile_smp (h : Hub) (n : Nat) (f : Tile → Tile) : (h.updTile n f).smp = h.smp := rfl
@[simp] theorem Hub.updTile_str (h : Hub) (n : Nat) (f : Tile → Tile) : (h.updTile n f).str = h.str := rfl
@[simp] theorem Hub.updTile_sync (h : Hub) (n : Nat) (f : Tile → Tile) : (h.updTile n f).sync = h.sync := rfl
@[simp] theorem Hub.updTile_hs (h : Hub) (n : Nat) (f : Tile → Tile) : (h.updTile n f).hs = h.hs := rfl
@[simp] theorem Hub.updTile_cool (h : Hub) (n : Nat) (f : Tile → Tile) : (h.updTile n f).cool = h.cool := rfl
@[simp] theorem Hub.updTile_sense (h : Hub) (n : Nat) (f : Tile → Tile) : (h.updTile n f).sense = h.sense := rfl
@[simp] theorem Hub.updTile_gov (h : Hub) (n : Nat) (f : Tile → Tile) : (h.updTile n f).gov = h.gov := rfl
@[simp] theorem Hub.updTile_bus (h : Hub) (n : Nat) (f : Tile → Tile) : (h.updTile n f).bus = h.bus := rfl
@[simp] theorem Hub.updTile_rack (h : Hub) (n : Nat) (f : Tile → Tile) : (h.updTile n f).rack = h.rack := rfl
@[simp] theorem Hub.updTile_fw (h : Hub) (n : Nat) (f : Tile → Tile) : (h.updTile n f).fw = h.fw := rfl
@[simp] theorem Hub.updTile_sec (h : Hub) (n : Nat) (f : Tile → Tile) : (h.updTile n f).sec = h.sec := rfl
@[simp] theorem Hub.updTile_safety (h : Hub) (n : Nat) (f : Tile → Tile) : (h.updTile n f).safety = h.safety := rfl
@[simp] theorem Hub.updTile_therm (h : Hub) (n : Nat) (f : Tile → Tile) : (h.updTile n f).therm = h.therm := rfl
@[simp] theorem Hub.updPte_regs (h : Hub) (n : Nat) (f : Pte → Pte) : (h.updPte n f).regs = h.regs := rfl
@[simp] theorem Hub.updPte_ctrs (h : Hub) (n : Nat) (f : Pte → Pte) : (h.updPte n f).ctrs = h.ctrs := rfl
@[simp] theorem Hub.updPte_free (h : Hub) (n : Nat) (f : Pte → Pte) : (h.updPte n f).free = h.free := rfl
@[simp] theorem Hub.updPte_up (h : Hub) (n : Nat) (f : Pte → Pte) : (h.updPte n f).up = h.up := rfl
@[simp] theorem Hub.updPte_crs (h : Hub) (n : Nat) (f : Pte → Pte) : (h.updPte n f).crs = h.crs := rfl
@[simp] theorem Hub.updPte_ev (h : Hub) (n : Nat) (f : Pte → Pte) : (h.updPte n f).ev = h.ev := rfl
@[simp] theorem Hub.updPte_hods (h : Hub) (n : Nat) (f : Pte → Pte) : (h.updPte n f).hods = h.hods := rfl
@[simp] theorem Hub.updPte_rb (h : Hub) (n : Nat) (f : Pte → Pte) : (h.updPte n f).rb = h.rb := rfl
@[simp] theorem Hub.updPte_fab (h : Hub) (n : Nat) (f : Pte → Pte) : (h.updPte n f).fab = h.fab := rfl
@[simp] theorem Hub.updPte_mortar (h : Hub) (n : Nat) (f : Pte → Pte) : (h.updPte n f).mortar = h.mortar := rfl
@[simp] theorem Hub.updPte_smp (h : Hub) (n : Nat) (f : Pte → Pte) : (h.updPte n f).smp = h.smp := rfl
@[simp] theorem Hub.updPte_str (h : Hub) (n : Nat) (f : Pte → Pte) : (h.updPte n f).str = h.str := rfl
@[simp] theorem Hub.updPte_sync (h : Hub) (n : Nat) (f : Pte → Pte) : (h.updPte n f).sync = h.sync := rfl
@[simp] theorem Hub.updPte_hs (h : Hub) (n : Nat) (f : Pte → Pte) : (h.updPte n f).hs = h.hs := rfl
@[simp] theorem Hub.updPte_cool (h : Hub) (n : Nat) (f : Pte → Pte) : (h.updPte n f).cool = h.cool := rfl
@[simp] theorem Hub.updPte_sense (h : Hub) (n : Nat) (f : Pte → Pte) : (h.updPte n f).sense = h.sense := rfl
@[simp] theorem Hub.updPte_gov (h : Hub) (n : Nat) (f : Pte → Pte) : (h.updPte n f).gov = h.gov := rfl
@[simp] theorem Hub.updPte_bus (h : Hub) (n : Nat) (f : Pte → Pte) : (h.updPte n f).bus = h.bus := rfl
@[simp] theorem Hub.updPte_rack (h : Hub) (n : Nat) (f : Pte → Pte) : (h.updPte n f).rack = h.rack := rfl
@[simp] theorem Hub.updPte_fw (h : Hub) (n : Nat) (f : Pte → Pte) : (h.updPte n f).fw = h.fw := rfl
@[simp] theorem Hub.updPte_sec (h : Hub) (n : Nat) (f : Pte → Pte) : (h.updPte n f).sec = h.sec := rfl
@[simp] theorem Hub.updPte_safety (h : Hub) (n : Nat) (f : Pte → Pte) : (h.updPte n f).safety = h.safety := rfl
@[simp] theorem Hub.updPte_therm (h : Hub) (n : Nat) (f : Pte → Pte) : (h.updPte n f).therm = h.therm := rfl
@[simp] theorem Hub.updStrm_regs (h : Hub) (n : Nat) (f : Strm → Strm) : (h.updStrm n f).regs = h.regs := rfl
@[simp] theorem Hub.updStrm_ctrs (h : Hub) (n : Nat) (f : Strm → Strm) : (h.updStrm n f).ctrs = h.ctrs := rfl
@[simp] theorem Hub.updStrm_free (h : Hub) (n : Nat) (f : Strm → Strm) : (h.updStrm n f).free = h.free := rfl
@[simp] theorem Hub.updStrm_up (h : Hub) (n : Nat) (f : Strm → Strm) : (h.updStrm n f).up = h.up := rfl
@[simp] theorem Hub.updStrm_crs (h : Hub) (n : Nat) (f : Strm → Strm) : (h.updStrm n f).crs = h.crs := rfl
@[simp] theorem Hub.updStrm_ev (h : Hub) (n : Nat) (f : Strm → Strm) : (h.updStrm n f).ev = h.ev := rfl
@[simp] theorem Hub.updStrm_hods (h : Hub) (n : Nat) (f : Strm → Strm) : (h.updStrm n f).hods = h.hods := rfl
@[simp] theorem Hub.updStrm_rb (h : Hub) (n : Nat) (f : Strm → Strm) : (h.updStrm n f).rb = h.rb := rfl
@[simp] theorem Hub.updStrm_fab (h : Hub) (n : Nat) (f : Strm → Strm) : (h.updStrm n f).fab = h.fab := rfl
@[simp] theorem Hub.updStrm_tile (h : Hub) (n : Nat) (f : Strm → Strm) : (h.updStrm n f).tile = h.tile := rfl
@[simp] theorem Hub.updStrm_mortar (h : Hub) (n : Nat) (f : Strm → Strm) : (h.updStrm n f).mortar = h.mortar := rfl
@[simp] theorem Hub.updStrm_smp (h : Hub) (n : Nat) (f : Strm → Strm) : (h.updStrm n f).smp = h.smp := rfl
@[simp] theorem Hub.updStrm_sync (h : Hub) (n : Nat) (f : Strm → Strm) : (h.updStrm n f).sync = h.sync := rfl
@[simp] theorem Hub.updStrm_hs (h : Hub) (n : Nat) (f : Strm → Strm) : (h.updStrm n f).hs = h.hs := rfl
@[simp] theorem Hub.updStrm_cool (h : Hub) (n : Nat) (f : Strm → Strm) : (h.updStrm n f).cool = h.cool := rfl
@[simp] theorem Hub.updStrm_sense (h : Hub) (n : Nat) (f : Strm → Strm) : (h.updStrm n f).sense = h.sense := rfl
@[simp] theorem Hub.updStrm_gov (h : Hub) (n : Nat) (f : Strm → Strm) : (h.updStrm n f).gov = h.gov := rfl
@[simp] theorem Hub.updStrm_bus (h : Hub) (n : Nat) (f : Strm → Strm) : (h.updStrm n f).bus = h.bus := rfl
@[simp] theorem Hub.updStrm_rack (h : Hub) (n : Nat) (f : Strm → Strm) : (h.updStrm n f).rack = h.rack := rfl
@[simp] theorem Hub.updStrm_fw (h : Hub) (n : Nat) (f : Strm → Strm) : (h.updStrm n f).fw = h.fw := rfl
@[simp] theorem Hub.updStrm_sec (h : Hub) (n : Nat) (f : Strm → Strm) : (h.updStrm n f).sec = h.sec := rfl
@[simp] theorem Hub.updStrm_safety (h : Hub) (n : Nat) (f : Strm → Strm) : (h.updStrm n f).safety = h.safety := rfl
@[simp] theorem Hub.updStrm_therm (h : Hub) (n : Nat) (f : Strm → Strm) : (h.updStrm n f).therm = h.therm := rfl
@[simp] theorem Hub.updZone_regs (h : Hub) (n : Nat) (f : Zone → Zone) : (h.updZone n f).regs = h.regs := rfl
@[simp] theorem Hub.updZone_ctrs (h : Hub) (n : Nat) (f : Zone → Zone) : (h.updZone n f).ctrs = h.ctrs := rfl
@[simp] theorem Hub.updZone_free (h : Hub) (n : Nat) (f : Zone → Zone) : (h.updZone n f).free = h.free := rfl
@[simp] theorem Hub.updZone_up (h : Hub) (n : Nat) (f : Zone → Zone) : (h.updZone n f).up = h.up := rfl
@[simp] theorem Hub.updZone_crs (h : Hub) (n : Nat) (f : Zone → Zone) : (h.updZone n f).crs = h.crs := rfl
@[simp] theorem Hub.updZone_ev (h : Hub) (n : Nat) (f : Zone → Zone) : (h.updZone n f).ev = h.ev := rfl
@[simp] theorem Hub.updZone_hods (h : Hub) (n : Nat) (f : Zone → Zone) : (h.updZone n f).hods = h.hods := rfl
@[simp] theorem Hub.updZone_rb (h : Hub) (n : Nat) (f : Zone → Zone) : (h.updZone n f).rb = h.rb := rfl
@[simp] theorem Hub.updZone_fab (h : Hub) (n : Nat) (f : Zone → Zone) : (h.updZone n f).fab = h.fab := rfl
@[simp] theorem Hub.updZone_tile (h : Hub) (n : Nat) (f : Zone → Zone) : (h.updZone n f).tile = h.tile := rfl
@[simp] theorem Hub.updZone_mortar (h : Hub) (n : Nat) (f : Zone → Zone) : (h.updZone n f).mortar = h.mortar := rfl
@[simp] theorem Hub.updZone_smp (h : Hub) (n : Nat) (f : Zone → Zone) : (h.updZone n f).smp = h.smp := rfl
@[simp] theorem Hub.updZone_str (h : Hub) (n : Nat) (f : Zone → Zone) : (h.updZone n f).str = h.str := rfl
@[simp] theorem Hub.updZone_sync (h : Hub) (n : Nat) (f : Zone → Zone) : (h.updZone n f).sync = h.sync := rfl
@[simp] theorem Hub.updZone_hs (h : Hub) (n : Nat) (f : Zone → Zone) : (h.updZone n f).hs = h.hs := rfl
@[simp] theorem Hub.updZone_sense (h : Hub) (n : Nat) (f : Zone → Zone) : (h.updZone n f).sense = h.sense := rfl
@[simp] theorem Hub.updZone_gov (h : Hub) (n : Nat) (f : Zone → Zone) : (h.updZone n f).gov = h.gov := rfl
@[simp] theorem Hub.updZone_bus (h : Hub) (n : Nat) (f : Zone → Zone) : (h.updZone n f).bus = h.bus := rfl
@[simp] theorem Hub.updZone_rack (h : Hub) (n : Nat) (f : Zone → Zone) : (h.updZone n f).rack = h.rack := rfl
@[simp] theorem Hub.updZone_fw (h : Hub) (n : Nat) (f : Zone → Zone) : (h.updZone n f).fw = h.fw := rfl
@[simp] theorem Hub.updZone_sec (h : Hub) (n : Nat) (f : Zone → Zone) : (h.updZone n f).sec = h.sec := rfl
@[simp] theorem Hub.updZone_safety (h : Hub) (n : Nat) (f : Zone → Zone) : (h.updZone n f).safety = h.safety := rfl
@[simp] theorem Hub.updZone_therm (h : Hub) (n : Nat) (f : Zone → Zone) : (h.updZone n f).therm = h.therm := rfl
@[simp] theorem Hub.updCool_regs (h : Hub) (n : Nat) (f : CoolCh → CoolCh) : (h.updCool n f).regs = h.regs := rfl
@[simp] theorem Hub.updCool_ctrs (h : Hub) (n : Nat) (f : CoolCh → CoolCh) : (h.updCool n f).ctrs = h.ctrs := rfl
@[simp] theorem Hub.updCool_free (h : Hub) (n : Nat) (f : CoolCh → CoolCh) : (h.updCool n f).free = h.free := rfl
@[simp] theorem Hub.updCool_up (h : Hub) (n : Nat) (f : CoolCh → CoolCh) : (h.updCool n f).up = h.up := rfl
@[simp] theorem Hub.updCool_crs (h : Hub) (n : Nat) (f : CoolCh → CoolCh) : (h.updCool n f).crs = h.crs := rfl
@[simp] theorem Hub.updCool_ev (h : Hub) (n : Nat) (f : CoolCh → CoolCh) : (h.updCool n f).ev = h.ev := rfl
@[simp] theorem Hub.updCool_hods (h : Hub) (n : Nat) (f : CoolCh → CoolCh) : (h.updCool n f).hods = h.hods := rfl
@[simp] theorem Hub.updCool_rb (h : Hub) (n : Nat) (f : CoolCh → CoolCh) : (h.updCool n f).rb = h.rb := rfl
@[simp] theorem Hub.updCool_fab (h : Hub) (n : Nat) (f : CoolCh → CoolCh) : (h.updCool n f).fab = h.fab := rfl
@[simp] theorem Hub.updCool_tile (h : Hub) (n : Nat) (f : CoolCh → CoolCh) : (h.updCool n f).tile = h.tile := rfl
@[simp] theorem Hub.updCool_mortar (h : Hub) (n : Nat) (f : CoolCh → CoolCh) : (h.updCool n f).mortar = h.mortar := rfl
@[simp] theorem Hub.updCool_smp (h : Hub) (n : Nat) (f : CoolCh → CoolCh) : (h.updCool n f).smp = h.smp := rfl
@[simp] theorem Hub.updCool_str (h : Hub) (n : Nat) (f : CoolCh → CoolCh) : (h.updCool n f).str = h.str := rfl
@[simp] theorem Hub.updCool_sync (h : Hub) (n : Nat) (f : CoolCh → CoolCh) : (h.updCool n f).sync = h.sync := rfl
@[simp] theorem Hub.updCool_hs (h : Hub) (n : Nat) (f : CoolCh → CoolCh) : (h.updCool n f).hs = h.hs := rfl
@[simp] theorem Hub.updCool_sense (h : Hub) (n : Nat) (f : CoolCh → CoolCh) : (h.updCool n f).sense = h.sense := rfl
@[simp] theorem Hub.updCool_gov (h : Hub) (n : Nat) (f : CoolCh → CoolCh) : (h.updCool n f).gov = h.gov := rfl
@[simp] theorem Hub.updCool_bus (h : Hub) (n : Nat) (f : CoolCh → CoolCh) : (h.updCool n f).bus = h.bus := rfl
@[simp] theorem Hub.updCool_rack (h : Hub) (n : Nat) (f : CoolCh → CoolCh) : (h.updCool n f).rack = h.rack := rfl
@[simp] theorem Hub.updCool_fw (h : Hub) (n : Nat) (f : CoolCh → CoolCh) : (h.updCool n f).fw = h.fw := rfl
@[simp] theorem Hub.updCool_sec (h : Hub) (n : Nat) (f : CoolCh → CoolCh) : (h.updCool n f).sec = h.sec := rfl
@[simp] theorem Hub.updCool_safety (h : Hub) (n : Nat) (f : CoolCh → CoolCh) : (h.updCool n f).safety = h.safety := rfl
@[simp] theorem Hub.updCool_therm (h : Hub) (n : Nat) (f : CoolCh → CoolCh) : (h.updCool n f).therm = h.therm := rfl
@[simp] theorem Hub.updRope_regs (h : Hub) (n : Nat) (f : Rope → Rope) : (h.updRope n f).regs = h.regs := rfl
@[simp] theorem Hub.updRope_ctrs (h : Hub) (n : Nat) (f : Rope → Rope) : (h.updRope n f).ctrs = h.ctrs := rfl
@[simp] theorem Hub.updRope_free (h : Hub) (n : Nat) (f : Rope → Rope) : (h.updRope n f).free = h.free := rfl
@[simp] theorem Hub.updRope_up (h : Hub) (n : Nat) (f : Rope → Rope) : (h.updRope n f).up = h.up := rfl
@[simp] theorem Hub.updRope_crs (h : Hub) (n : Nat) (f : Rope → Rope) : (h.updRope n f).crs = h.crs := rfl
@[simp] theorem Hub.updRope_ev (h : Hub) (n : Nat) (f : Rope → Rope) : (h.updRope n f).ev = h.ev := rfl
@[simp] theorem Hub.updRope_hods (h : Hub) (n : Nat) (f : Rope → Rope) : (h.updRope n f).hods = h.hods := rfl
@[simp] theorem Hub.updRope_rb (h : Hub) (n : Nat) (f : Rope → Rope) : (h.updRope n f).rb = h.rb := rfl
@[simp] theorem Hub.updRope_fab (h : Hub) (n : Nat) (f : Rope → Rope) : (h.updRope n f).fab = h.fab := rfl
@[simp] theorem Hub.updRope_tile (h : Hub) (n : Nat) (f : Rope → Rope) : (h.updRope n f).tile = h.tile := rfl
@[simp] theorem Hub.updRope_mortar (h : Hub) (n : Nat) (f : Rope → Rope) : (h.updRope n f).mortar = h.mortar := rfl
@[simp] theorem Hub.updRope_smp (h : Hub) (n : Nat) (f : Rope → Rope) : (h.updRope n f).smp = h.smp := rfl
@[simp] theorem Hub.updRope_str (h : Hub) (n : Nat) (f : Rope → Rope) : (h.updRope n f).str = h.str := rfl
@[simp] theorem Hub.updRope_sync (h : Hub) (n : Nat) (f : Rope → Rope) : (h.updRope n f).sync = h.sync := rfl
@[simp] theorem Hub.updRope_hs (h : Hub) (n : Nat) (f : Rope → Rope) : (h.updRope n f).hs = h.hs := rfl
@[simp] theorem Hub.updRope_sense (h : Hub) (n : Nat) (f : Rope → Rope) : (h.updRope n f).sense = h.sense := rfl
@[simp] theorem Hub.updRope_gov (h : Hub) (n : Nat) (f : Rope → Rope) : (h.updRope n f).gov = h.gov := rfl
@[simp] theorem Hub.updRope_bus (h : Hub) (n : Nat) (f : Rope → Rope) : (h.updRope n f).bus = h.bus := rfl
@[simp] theorem Hub.updRope_rack (h : Hub) (n : Nat) (f : Rope → Rope) : (h.updRope n f).rack = h.rack := rfl
@[simp] theorem Hub.updRope_fw (h : Hub) (n : Nat) (f : Rope → Rope) : (h.updRope n f).fw = h.fw := rfl
@[simp] theorem Hub.updRope_sec (h : Hub) (n : Nat) (f : Rope → Rope) : (h.updRope n f).sec = h.sec := rfl
@[simp] theorem Hub.updRope_safety (h : Hub) (n : Nat) (f : Rope → Rope) : (h.updRope n f).safety = h.safety := rfl
@[simp] theorem Hub.updRope_therm (h : Hub) (n : Nat) (f : Rope → Rope) : (h.updRope n f).therm = h.therm := rfl
@[simp] theorem Hub.updAdc_regs (h : Hub) (n : Nat) (f : AdcCh → AdcCh) : (h.updAdc n f).regs = h.regs := rfl
@[simp] theorem Hub.updAdc_ctrs (h : Hub) (n : Nat) (f : AdcCh → AdcCh) : (h.updAdc n f).ctrs = h.ctrs := rfl
@[simp] theorem Hub.updAdc_free (h : Hub) (n : Nat) (f : AdcCh → AdcCh) : (h.updAdc n f).free = h.free := rfl
@[simp] theorem Hub.updAdc_up (h : Hub) (n : Nat) (f : AdcCh → AdcCh) : (h.updAdc n f).up = h.up := rfl
@[simp] theorem Hub.updAdc_crs (h : Hub) (n : Nat) (f : AdcCh → AdcCh) : (h.updAdc n f).crs = h.crs := rfl
@[simp] theorem Hub.updAdc_ev (h : Hub) (n : Nat) (f : AdcCh → AdcCh) : (h.updAdc n f).ev = h.ev := rfl
@[simp] theorem Hub.updAdc_hods (h : Hub) (n : Nat) (f : AdcCh → AdcCh) : (h.updAdc n f).hods = h.hods := rfl
@[simp] theorem Hub.updAdc_rb (h : Hub) (n : Nat) (f : AdcCh → AdcCh) : (h.updAdc n f).rb = h.rb := rfl
@[simp] theorem Hub.updAdc_fab (h : Hub) (n : Nat) (f : AdcCh → AdcCh) : (h.updAdc n f).fab = h.fab := rfl
@[simp] theorem Hub.updAdc_tile (h : Hub) (n : Nat) (f : AdcCh → AdcCh) : (h.updAdc n f).tile = h.tile := rfl
@[simp] theorem Hub.updAdc_mortar (h : Hub) (n : Nat) (f : AdcCh → AdcCh) : (h.updAdc n f).mortar = h.mortar := rfl
@[simp] theorem Hub.updAdc_smp (h : Hub) (n : Nat) (f : AdcCh → AdcCh) : (h.updAdc n f).smp = h.smp := rfl
@[simp] theorem Hub.updAdc_str (h : Hub) (n : Nat) (f : AdcCh → AdcCh) : (h.updAdc n f).str = h.str := rfl
@[simp] theorem Hub.updAdc_sync (h : Hub) (n : Nat) (f : AdcCh → AdcCh) : (h.updAdc n f).sync = h.sync := rfl
@[simp] theorem Hub.updAdc_hs (h : Hub) (n : Nat) (f : AdcCh → AdcCh) : (h.updAdc n f).hs = h.hs := rfl
@[simp] theorem Hub.updAdc_cool (h : Hub) (n : Nat) (f : AdcCh → AdcCh) : (h.updAdc n f).cool = h.cool := rfl
@[simp] theorem Hub.updAdc_gov (h : Hub) (n : Nat) (f : AdcCh → AdcCh) : (h.updAdc n f).gov = h.gov := rfl
@[simp] theorem Hub.updAdc_bus (h : Hub) (n : Nat) (f : AdcCh → AdcCh) : (h.updAdc n f).bus = h.bus := rfl
@[simp] theorem Hub.updAdc_rack (h : Hub) (n : Nat) (f : AdcCh → AdcCh) : (h.updAdc n f).rack = h.rack := rfl
@[simp] theorem Hub.updAdc_fw (h : Hub) (n : Nat) (f : AdcCh → AdcCh) : (h.updAdc n f).fw = h.fw := rfl
@[simp] theorem Hub.updAdc_sec (h : Hub) (n : Nat) (f : AdcCh → AdcCh) : (h.updAdc n f).sec = h.sec := rfl
@[simp] theorem Hub.updAdc_safety (h : Hub) (n : Nat) (f : AdcCh → AdcCh) : (h.updAdc n f).safety = h.safety := rfl
@[simp] theorem Hub.updAdc_therm (h : Hub) (n : Nat) (f : AdcCh → AdcCh) : (h.updAdc n f).therm = h.therm := rfl
@[simp] theorem Hub.updDts_regs (h : Hub) (n : Nat) (f : Dts → Dts) : (h.updDts n f).regs = h.regs := rfl
@[simp] theorem Hub.updDts_ctrs (h : Hub) (n : Nat) (f : Dts → Dts) : (h.updDts n f).ctrs = h.ctrs := rfl
@[simp] theorem Hub.updDts_free (h : Hub) (n : Nat) (f : Dts → Dts) : (h.updDts n f).free = h.free := rfl
@[simp] theorem Hub.updDts_up (h : Hub) (n : Nat) (f : Dts → Dts) : (h.updDts n f).up = h.up := rfl
@[simp] theorem Hub.updDts_crs (h : Hub) (n : Nat) (f : Dts → Dts) : (h.updDts n f).crs = h.crs := rfl
@[simp] theorem Hub.updDts_ev (h : Hub) (n : Nat) (f : Dts → Dts) : (h.updDts n f).ev = h.ev := rfl
@[simp] theorem Hub.updDts_hods (h : Hub) (n : Nat) (f : Dts → Dts) : (h.updDts n f).hods = h.hods := rfl
@[simp] theorem Hub.updDts_rb (h : Hub) (n : Nat) (f : Dts → Dts) : (h.updDts n f).rb = h.rb := rfl
@[simp] theorem Hub.updDts_fab (h : Hub) (n : Nat) (f : Dts → Dts) : (h.updDts n f).fab = h.fab := rfl
@[simp] theorem Hub.updDts_tile (h : Hub) (n : Nat) (f : Dts → Dts) : (h.updDts n f).tile = h.tile := rfl
@[simp] theorem Hub.updDts_mortar (h : Hub) (n : Nat) (f : Dts → Dts) : (h.updDts n f).mortar = h.mortar := rfl
@[simp] theorem Hub.updDts_smp (h : Hub) (n : Nat) (f : Dts → Dts) : (h.updDts n f).smp = h.smp := rfl
@[simp] theorem Hub.updDts_str (h : Hub) (n : Nat) (f : Dts → Dts) : (h.updDts n f).str = h.str := rfl
@[simp] theorem Hub.updDts_sync (h : Hub) (n : Nat) (f : Dts → Dts) : (h.updDts n f).sync = h.sync := rfl
@[simp] theorem Hub.updDts_hs (h : Hub) (n : Nat) (f : Dts → Dts) : (h.updDts n f).hs = h.hs := rfl
@[simp] theorem Hub.updDts_cool (h : Hub) (n : Nat) (f : Dts → Dts) : (h.updDts n f).cool = h.cool := rfl
@[simp] theorem Hub.updDts_gov (h : Hub) (n : Nat) (f : Dts → Dts) : (h.updDts n f).gov = h.gov := rfl
@[simp] theorem Hub.updDts_bus (h : Hub) (n : Nat) (f : Dts → Dts) : (h.updDts n f).bus = h.bus := rfl
@[simp] theorem Hub.updDts_rack (h : Hub) (n : Nat) (f : Dts → Dts) : (h.updDts n f).rack = h.rack := rfl
@[simp] theorem Hub.updDts_fw (h : Hub) (n : Nat) (f : Dts → Dts) : (h.updDts n f).fw = h.fw := rfl
@[simp] theorem Hub.updDts_sec (h : Hub) (n : Nat) (f : Dts → Dts) : (h.updDts n f).sec = h.sec := rfl
@[simp] theorem Hub.updDts_safety (h : Hub) (n : Nat) (f : Dts → Dts) : (h.updDts n f).safety = h.safety := rfl
@[simp] theorem Hub.updDts_therm (h : Hub) (n : Nat) (f : Dts → Dts) : (h.updDts n f).therm = h.therm := rfl
@[simp] theorem Hub.updPm_regs (h : Hub) (n : Nat) (f : Pmon → Pmon) : (h.updPm n f).regs = h.regs := rfl
@[simp] theorem Hub.updPm_ctrs (h : Hub) (n : Nat) (f : Pmon → Pmon) : (h.updPm n f).ctrs = h.ctrs := rfl
@[simp] theorem Hub.updPm_free (h : Hub) (n : Nat) (f : Pmon → Pmon) : (h.updPm n f).free = h.free := rfl
@[simp] theorem Hub.updPm_up (h : Hub) (n : Nat) (f : Pmon → Pmon) : (h.updPm n f).up = h.up := rfl
@[simp] theorem Hub.updPm_crs (h : Hub) (n : Nat) (f : Pmon → Pmon) : (h.updPm n f).crs = h.crs := rfl
@[simp] theorem Hub.updPm_ev (h : Hub) (n : Nat) (f : Pmon → Pmon) : (h.updPm n f).ev = h.ev := rfl
@[simp] theorem Hub.updPm_hods (h : Hub) (n : Nat) (f : Pmon → Pmon) : (h.updPm n f).hods = h.hods := rfl
@[simp] theorem Hub.updPm_rb (h : Hub) (n : Nat) (f : Pmon → Pmon) : (h.updPm n f).rb = h.rb := rfl
@[simp] theorem Hub.updPm_fab (h : Hub) (n : Nat) (f : Pmon → Pmon) : (h.updPm n f).fab = h.fab := rfl
@[simp] theorem Hub.updPm_tile (h : Hub) (n : Nat) (f : Pmon → Pmon) : (h.updPm n f).tile = h.tile := rfl
@[simp] theorem Hub.updPm_mortar (h : Hub) (n : Nat) (f : Pmon → Pmon) : (h.updPm n f).mortar = h.mortar := rfl
@[simp] theorem Hub.updPm_smp (h : Hub) (n : Nat) (f : Pmon → Pmon) : (h.updPm n f).smp = h.smp := rfl
@[simp] theorem Hub.updPm_str (h : Hub) (n : Nat) (f : Pmon → Pmon) : (h.updPm n f).str = h.str := rfl
@[simp] theorem Hub.updPm_sync (h : Hub) (n : Nat) (f : Pmon → Pmon) : (h.updPm n f).sync = h.sync := rfl
@[simp] theorem Hub.updPm_hs (h : Hub) (n : Nat) (f : Pmon → Pmon) : (h.updPm n f).hs = h.hs := rfl
@[simp] theorem Hub.updPm_cool (h : Hub) (n : Nat) (f : Pmon → Pmon) : (h.updPm n f).cool = h.cool := rfl
@[simp] theorem Hub.updPm_gov (h : Hub) (n : Nat) (f : Pmon → Pmon) : (h.updPm n f).gov = h.gov := rfl
@[simp] theorem Hub.updPm_bus (h : Hub) (n : Nat) (f : Pmon → Pmon) : (h.updPm n f).bus = h.bus := rfl
@[simp] theorem Hub.updPm_rack (h : Hub) (n : Nat) (f : Pmon → Pmon) : (h.updPm n f).rack = h.rack := rfl
@[simp] theorem Hub.updPm_fw (h : Hub) (n : Nat) (f : Pmon → Pmon) : (h.updPm n f).fw = h.fw := rfl
@[simp] theorem Hub.updPm_sec (h : Hub) (n : Nat) (f : Pmon → Pmon) : (h.updPm n f).sec = h.sec := rfl
@[simp] theorem Hub.updPm_safety (h : Hub) (n : Nat) (f : Pmon → Pmon) : (h.updPm n f).safety = h.safety := rfl
@[simp] theorem Hub.updPm_therm (h : Hub) (n : Nat) (f : Pmon → Pmon) : (h.updPm n f).therm = h.therm := rfl
@[simp] theorem Hub.updFw_regs (h : Hub) (f : Fw → Fw) : (h.updFw f).regs = h.regs := rfl
@[simp] theorem Hub.updFw_ctrs (h : Hub) (f : Fw → Fw) : (h.updFw f).ctrs = h.ctrs := rfl
@[simp] theorem Hub.updFw_free (h : Hub) (f : Fw → Fw) : (h.updFw f).free = h.free := rfl
@[simp] theorem Hub.updFw_up (h : Hub) (f : Fw → Fw) : (h.updFw f).up = h.up := rfl
@[simp] theorem Hub.updFw_crs (h : Hub) (f : Fw → Fw) : (h.updFw f).crs = h.crs := rfl
@[simp] theorem Hub.updFw_ev (h : Hub) (f : Fw → Fw) : (h.updFw f).ev = h.ev := rfl
@[simp] theorem Hub.updFw_hods (h : Hub) (f : Fw → Fw) : (h.updFw f).hods = h.hods := rfl
@[simp] theorem Hub.updFw_rb (h : Hub) (f : Fw → Fw) : (h.updFw f).rb = h.rb := rfl
@[simp] theorem Hub.updFw_fab (h : Hub) (f : Fw → Fw) : (h.updFw f).fab = h.fab := rfl
@[simp] theorem Hub.updFw_tile (h : Hub) (f : Fw → Fw) : (h.updFw f).tile = h.tile := rfl
@[simp] theorem Hub.updFw_mortar (h : Hub) (f : Fw → Fw) : (h.updFw f).mortar = h.mortar := rfl
@[simp] theorem Hub.updFw_smp (h : Hub) (f : Fw → Fw) : (h.updFw f).smp = h.smp := rfl
@[simp] theorem Hub.updFw_str (h : Hub) (f : Fw → Fw) : (h.updFw f).str = h.str := rfl
@[simp] theorem Hub.updFw_sync (h : Hub) (f : Fw → Fw) : (h.updFw f).sync = h.sync := rfl
@[simp] theorem Hub.updFw_hs (h : Hub) (f : Fw → Fw) : (h.updFw f).hs = h.hs := rfl
@[simp] theorem Hub.updFw_cool (h : Hub) (f : Fw → Fw) : (h.updFw f).cool = h.cool := rfl
@[simp] theorem Hub.updFw_sense (h : Hub) (f : Fw → Fw) : (h.updFw f).sense = h.sense := rfl
@[simp] theorem Hub.updFw_gov (h : Hub) (f : Fw → Fw) : (h.updFw f).gov = h.gov := rfl
@[simp] theorem Hub.updFw_bus (h : Hub) (f : Fw → Fw) : (h.updFw f).bus = h.bus := rfl
@[simp] theorem Hub.updFw_rack (h : Hub) (f : Fw → Fw) : (h.updFw f).rack = h.rack := rfl
@[simp] theorem Hub.updFw_sec (h : Hub) (f : Fw → Fw) : (h.updFw f).sec = h.sec := rfl
@[simp] theorem Hub.updFw_safety (h : Hub) (f : Fw → Fw) : (h.updFw f).safety = h.safety := rfl
@[simp] theorem Hub.updFw_therm (h : Hub) (f : Fw → Fw) : (h.updFw f).therm = h.therm := rfl
@[simp] theorem Hub.updRack_regs (h : Hub) (f : Rack → Rack) : (h.updRack f).regs = h.regs := rfl
@[simp] theorem Hub.updRack_ctrs (h : Hub) (f : Rack → Rack) : (h.updRack f).ctrs = h.ctrs := rfl
@[simp] theorem Hub.updRack_free (h : Hub) (f : Rack → Rack) : (h.updRack f).free = h.free := rfl
@[simp] theorem Hub.updRack_up (h : Hub) (f : Rack → Rack) : (h.updRack f).up = h.up := rfl
@[simp] theorem Hub.updRack_crs (h : Hub) (f : Rack → Rack) : (h.updRack f).crs = h.crs := rfl
@[simp] theorem Hub.updRack_ev (h : Hub) (f : Rack → Rack) : (h.updRack f).ev = h.ev := rfl
@[simp] theorem Hub.updRack_hods (h : Hub) (f : Rack → Rack) : (h.updRack f).hods = h.hods := rfl
@[simp] theorem Hub.updRack_rb (h : Hub) (f : Rack → Rack) : (h.updRack f).rb = h.rb := rfl
@[simp] theorem Hub.updRack_fab (h : Hub) (f : Rack → Rack) : (h.updRack f).fab = h.fab := rfl
@[simp] theorem Hub.updRack_tile (h : Hub) (f : Rack → Rack) : (h.updRack f).tile = h.tile := rfl
@[simp] theorem Hub.updRack_mortar (h : Hub) (f : Rack → Rack) : (h.updRack f).mortar = h.mortar := rfl
@[simp] theorem Hub.updRack_smp (h : Hub) (f : Rack → Rack) : (h.updRack f).smp = h.smp := rfl
@[simp] theorem Hub.updRack_str (h : Hub) (f : Rack → Rack) : (h.updRack f).str = h.str := rfl
@[simp] theorem Hub.updRack_sync (h : Hub) (f : Rack → Rack) : (h.updRack f).sync = h.sync := rfl
@[simp] theorem Hub.updRack_hs (h : Hub) (f : Rack → Rack) : (h.updRack f).hs = h.hs := rfl
@[simp] theorem Hub.updRack_cool (h : Hub) (f : Rack → Rack) : (h.updRack f).cool = h.cool := rfl
@[simp] theorem Hub.updRack_sense (h : Hub) (f : Rack → Rack) : (h.updRack f).sense = h.sense := rfl
@[simp] theorem Hub.updRack_gov (h : Hub) (f : Rack → Rack) : (h.updRack f).gov = h.gov := rfl
@[simp] theorem Hub.updRack_bus (h : Hub) (f : Rack → Rack) : (h.updRack f).bus = h.bus := rfl
@[simp] theorem Hub.updRack_fw (h : Hub) (f : Rack → Rack) : (h.updRack f).fw = h.fw := rfl
@[simp] theorem Hub.updRack_sec (h : Hub) (f : Rack → Rack) : (h.updRack f).sec = h.sec := rfl
@[simp] theorem Hub.updRack_safety (h : Hub) (f : Rack → Rack) : (h.updRack f).safety = h.safety := rfl
@[simp] theorem Hub.updRack_therm (h : Hub) (f : Rack → Rack) : (h.updRack f).therm = h.therm := rfl
@[simp] theorem Hub.updEv_regs (h : Hub) (f : Evrec → Evrec) : (h.updEv f).regs = h.regs := rfl
@[simp] theorem Hub.updEv_ctrs (h : Hub) (f : Evrec → Evrec) : (h.updEv f).ctrs = h.ctrs := rfl
@[simp] theorem Hub.updEv_free (h : Hub) (f : Evrec → Evrec) : (h.updEv f).free = h.free := rfl
@[simp] theorem Hub.updEv_up (h : Hub) (f : Evrec → Evrec) : (h.updEv f).up = h.up := rfl
@[simp] theorem Hub.updEv_crs (h : Hub) (f : Evrec → Evrec) : (h.updEv f).crs = h.crs := rfl
@[simp] theorem Hub.updEv_hods (h : Hub) (f : Evrec → Evrec) : (h.updEv f).hods = h.hods := rfl
@[simp] theorem Hub.updEv_rb (h : Hub) (f : Evrec → Evrec) : (h.updEv f).rb = h.rb := rfl
@[simp] theorem Hub.updEv_fab (h : Hub) (f : Evrec → Evrec) : (h.updEv f).fab = h.fab := rfl
@[simp] theorem Hub.updEv_tile (h : Hub) (f : Evrec → Evrec) : (h.updEv f).tile = h.tile := rfl
@[simp] theorem Hub.updEv_mortar (h : Hub) (f : Evrec → Evrec) : (h.updEv f).mortar = h.mortar := rfl
@[simp] theorem Hub.updEv_smp (h : Hub) (f : Evrec → Evrec) : (h.updEv f).smp = h.smp := rfl
@[simp] theorem Hub.updEv_str (h : Hub) (f : Evrec → Evrec) : (h.updEv f).str = h.str := rfl
@[simp] theorem Hub.updEv_sync (h : Hub) (f : Evrec → Evrec) : (h.updEv f).sync = h.sync := rfl
@[simp] theorem Hub.updEv_hs (h : Hub) (f : Evrec → Evrec) : (h.updEv f).hs = h.hs := rfl
@[simp] theorem Hub.updEv_cool (h : Hub) (f : Evrec → Evrec) : (h.updEv f).cool = h.cool := rfl
@[simp] theorem Hub.updEv_sense (h : Hub) (f : Evrec → Evrec) : (h.updEv f).sense = h.sense := rfl
@[simp] theorem Hub.updEv_gov (h : Hub) (f : Evrec → Evrec) : (h.updEv f).gov = h.gov := rfl
@[simp] theorem Hub.updEv_bus (h : Hub) (f : Evrec → Evrec) : (h.updEv f).bus = h.bus := rfl
@[simp] theorem Hub.updEv_rack (h : Hub) (f : Evrec → Evrec) : (h.updEv f).rack = h.rack := rfl
@[simp] theorem Hub.updEv_fw (h : Hub) (f : Evrec → Evrec) : (h.updEv f).fw = h.fw := rfl
@[simp] theorem Hub.updEv_sec (h : Hub) (f : Evrec → Evrec) : (h.updEv f).sec = h.sec := rfl
@[simp] theorem Hub.updEv_safety (h : Hub) (f : Evrec → Evrec) : (h.updEv f).safety = h.safety := rfl
@[simp] theorem Hub.updEv_therm (h : Hub) (f : Evrec → Evrec) : (h.updEv f).therm = h.therm := rfl
@[simp] theorem Hub.updSec_regs (h : Hub) (f : Sec → Sec) : (h.updSec f).regs = h.regs := rfl
@[simp] theorem Hub.updSec_ctrs (h : Hub) (f : Sec → Sec) : (h.updSec f).ctrs = h.ctrs := rfl
@[simp] theorem Hub.updSec_free (h : Hub) (f : Sec → Sec) : (h.updSec f).free = h.free := rfl
@[simp] theorem Hub.updSec_up (h : Hub) (f : Sec → Sec) : (h.updSec f).up = h.up := rfl
@[simp] theorem Hub.updSec_crs (h : Hub) (f : Sec → Sec) : (h.updSec f).crs = h.crs := rfl
@[simp] theorem Hub.updSec_ev (h : Hub) (f : Sec → Sec) : (h.updSec f).ev = h.ev := rfl
@[simp] theorem Hub.updSec_hods (h : Hub) (f : Sec → Sec) : (h.updSec f).hods = h.hods := rfl
@[simp] theorem Hub.updSec_rb (h : Hub) (f : Sec → Sec) : (h.updSec f).rb = h.rb := rfl
@[simp] theorem Hub.updSec_fab (h : Hub) (f : Sec → Sec) : (h.updSec f).fab = h.fab := rfl
@[simp] theorem Hub.updSec_tile (h : Hub) (f : Sec → Sec) : (h.updSec f).tile = h.tile := rfl
@[simp] theorem Hub.updSec_mortar (h : Hub) (f : Sec → Sec) : (h.updSec f).mortar = h.mortar := rfl
@[simp] theorem Hub.updSec_smp (h : Hub) (f : Sec → Sec) : (h.updSec f).smp = h.smp := rfl
@[simp] theorem Hub.updSec_str (h : Hub) (f : Sec → Sec) : (h.updSec f).str = h.str := rfl
@[simp] theorem Hub.updSec_sync (h : Hub) (f : Sec → Sec) : (h.updSec f).sync = h.sync := rfl
@[simp] theorem Hub.updSec_hs (h : Hub) (f : Sec → Sec) : (h.updSec f).hs = h.hs := rfl
@[simp] theorem Hub.updSec_cool (h : Hub) (f : Sec → Sec) : (h.updSec f).cool = h.cool := rfl
@[simp] theorem Hub.updSec_sense (h : Hub) (f : Sec → Sec) : (h.updSec f).sense = h.sense := rfl
@[simp] theorem Hub.updSec_gov (h : Hub) (f : Sec → Sec) : (h.updSec f).gov = h.gov := rfl
@[simp] theorem Hub.updSec_bus (h : Hub) (f : Sec → Sec) : (h.updSec f).bus = h.bus := rfl
@[simp] theorem Hub.updSec_rack (h : Hub) (f : Sec → Sec) : (h.updSec f).rack = h.rack := rfl
@[simp] theorem Hub.updSec_fw (h : Hub) (f : Sec → Sec) : (h.updSec f).fw = h.fw := rfl
@[simp] theorem Hub.updSec_safety (h : Hub) (f : Sec → Sec) : (h.updSec f).safety = h.safety := rfl
@[simp] theorem Hub.updSec_therm (h : Hub) (f : Sec → Sec) : (h.updSec f).therm = h.therm := rfl
@[simp] theorem Hub.updBus_regs (h : Hub) (f : Bus → Bus) : (h.updBus f).regs = h.regs := rfl
@[simp] theorem Hub.updBus_ctrs (h : Hub) (f : Bus → Bus) : (h.updBus f).ctrs = h.ctrs := rfl
@[simp] theorem Hub.updBus_free (h : Hub) (f : Bus → Bus) : (h.updBus f).free = h.free := rfl
@[simp] theorem Hub.updBus_up (h : Hub) (f : Bus → Bus) : (h.updBus f).up = h.up := rfl
@[simp] theorem Hub.updBus_crs (h : Hub) (f : Bus → Bus) : (h.updBus f).crs = h.crs := rfl
@[simp] theorem Hub.updBus_ev (h : Hub) (f : Bus → Bus) : (h.updBus f).ev = h.ev := rfl
@[simp] theorem Hub.updBus_hods (h : Hub) (f : Bus → Bus) : (h.updBus f).hods = h.hods := rfl
@[simp] theorem Hub.updBus_rb (h : Hub) (f : Bus → Bus) : (h.updBus f).rb = h.rb := rfl
@[simp] theorem Hub.updBus_fab (h : Hub) (f : Bus → Bus) : (h.updBus f).fab = h.fab := rfl
@[simp] theorem Hub.updBus_tile (h : Hub) (f : Bus → Bus) : (h.updBus f).tile = h.tile := rfl
@[simp] theorem Hub.updBus_mortar (h : Hub) (f : Bus → Bus) : (h.updBus f).mortar = h.mortar := rfl
@[simp] theorem Hub.updBus_smp (h : Hub) (f : Bus → Bus) : (h.updBus f).smp = h.smp := rfl
@[simp] theorem Hub.updBus_str (h : Hub) (f : Bus → Bus) : (h.updBus f).str = h.str := rfl
@[simp] theorem Hub.updBus_sync (h : Hub) (f : Bus → Bus) : (h.updBus f).sync = h.sync := rfl
@[simp] theorem Hub.updBus_hs (h : Hub) (f : Bus → Bus) : (h.updBus f).hs = h.hs := rfl
@[simp] theorem Hub.updBus_cool (h : Hub) (f : Bus → Bus) : (h.updBus f).cool = h.cool := rfl
@[simp] theorem Hub.updBus_sense (h : Hub) (f : Bus → Bus) : (h.updBus f).sense = h.sense := rfl
@[simp] theorem Hub.updBus_gov (h : Hub) (f : Bus → Bus) : (h.updBus f).gov = h.gov := rfl
@[simp] theorem Hub.updBus_rack (h : Hub) (f : Bus → Bus) : (h.updBus f).rack = h.rack := rfl
@[simp] theorem Hub.updBus_fw (h : Hub) (f : Bus → Bus) : (h.updBus f).fw = h.fw := rfl
@[simp] theorem Hub.updBus_sec (h : Hub) (f : Bus → Bus) : (h.updBus f).sec = h.sec := rfl
@[simp] theorem Hub.updBus_safety (h : Hub) (f : Bus → Bus) : (h.updBus f).safety = h.safety := rfl
@[simp] theorem Hub.updBus_therm (h : Hub) (f : Bus → Bus) : (h.updBus f).therm = h.therm := rfl

/-! ### What the reading functions read -/

theorem Hub.reg_congr {h k : Hub} (e : h.regs = k.regs) (a : Nat) : h.reg a = k.reg a := by
  simp only [Hub.reg, e]
theorem Hub.fld_congr {h k : Hub} (e : h.regs = k.regs) (a i2 j2 : Nat) : h.fld a i2 j2 = k.fld a i2 j2 := by
  simp only [Hub.fld, Hub.reg, e]
theorem Hub.bitAt_congr {h k : Hub} (e : h.regs = k.regs) (a i2 : Nat) : h.bitAt a i2 = k.bitAt a i2 := by
  simp only [Hub.bitAt, Hub.reg, e]
theorem Hub.ctr_congr {h k : Hub} (e : h.ctrs = k.ctrs) (a : Nat) : h.ctr a = k.ctr a := by
  simp only [Hub.ctr, e]
theorem Hub.port_congr {h k : Hub} (e : h.fab = k.fab) (a : Nat) : h.port a = k.port a := by
  simp only [Hub.port, e]
theorem Hub.hsCh_congr {h k : Hub} (e : h.hs = k.hs) (a : Nat) : h.hsCh a = k.hsCh a := by
  simp only [Hub.hsCh, e]
theorem Hub.hod_congr {h k : Hub} (e : h.hods = k.hods) (a : Nat) : h.hod a = k.hod a := by
  simp only [Hub.hod, e]
theorem Hub.acc_congr {h k : Hub} (e : h.gov = k.gov) (a : Nat) : h.acc a = k.acc a := by
  simp only [Hub.acc, e]
theorem Hub.push_congr {h k : Hub} (e : h.fw = k.fw) (a : Nat) : h.push a = k.push a := by
  simp only [Hub.push, e]
theorem Hub.stream_congr {h k : Hub} (e : h.str = k.str) (a : Nat) : h.stream a = k.stream a := by
  simp only [Hub.stream, e]
theorem Hub.tileAt_congr {h k : Hub} (e : h.tile = k.tile) (a : Nat) : h.tileAt a = k.tileAt a := by
  simp only [Hub.tileAt, e]
theorem Hub.pte_congr {h k : Hub} (e : h.tile = k.tile) (a : Nat) : h.pte a = k.pte a := by
  simp only [Hub.pte, e]
theorem Hub.rope_congr {h k : Hub} (e : h.cool = k.cool) (a : Nat) : h.rope a = k.rope a := by
  simp only [Hub.rope, e]
theorem Hub.zone_congr {h k : Hub} (e : h.cool = k.cool) (a : Nat) : h.zone a = k.zone a := by
  simp only [Hub.zone, e]
theorem Hub.coolCh_congr {h k : Hub} (e : h.cool = k.cool) (a : Nat) : h.coolCh a = k.coolCh a := by
  simp only [Hub.coolCh, e]
theorem Hub.idMem_congr {h k : Hub} (e : h.bus = k.bus) (a a2 : Nat) : h.idMem a a2 = k.idMem a a2 := by
  simp only [Hub.idMem, e]
theorem Hub.adcCh_congr {h k : Hub} (e : h.sense = k.sense) (a : Nat) : h.adcCh a = k.adcCh a := by
  simp only [Hub.adcCh, e]
theorem Hub.dts_congr {h k : Hub} (e : h.sense = k.sense) (a : Nat) : h.dts a = k.dts a := by
  simp only [Hub.dts, e]

@[simp] theorem Hub.setReg_ctr (h : Hub) (r v : Nat) (a : Nat) : (h.setReg r v).ctr a = h.ctr a := rfl
@[simp] theorem Hub.setReg_port (h : Hub) (r v : Nat) (a : Nat) : (h.setReg r v).port a = h.port a := rfl
@[simp] theorem Hub.setReg_hsCh (h : Hub) (r v : Nat) (a : Nat) : (h.setReg r v).hsCh a = h.hsCh a := rfl
@[simp] theorem Hub.setReg_hod (h : Hub) (r v : Nat) (a : Nat) : (h.setReg r v).hod a = h.hod a := rfl
@[simp] theorem Hub.setReg_acc (h : Hub) (r v : Nat) (a : Nat) : (h.setReg r v).acc a = h.acc a := rfl
@[simp] theorem Hub.setReg_push (h : Hub) (r v : Nat) (a : Nat) : (h.setReg r v).push a = h.push a := rfl
@[simp] theorem Hub.setReg_stream (h : Hub) (r v : Nat) (a : Nat) : (h.setReg r v).stream a = h.stream a := rfl
@[simp] theorem Hub.setReg_tileAt (h : Hub) (r v : Nat) (a : Nat) : (h.setReg r v).tileAt a = h.tileAt a := rfl
@[simp] theorem Hub.setReg_pte (h : Hub) (r v : Nat) (a : Nat) : (h.setReg r v).pte a = h.pte a := rfl
@[simp] theorem Hub.setReg_rope (h : Hub) (r v : Nat) (a : Nat) : (h.setReg r v).rope a = h.rope a := rfl
@[simp] theorem Hub.setReg_zone (h : Hub) (r v : Nat) (a : Nat) : (h.setReg r v).zone a = h.zone a := rfl
@[simp] theorem Hub.setReg_coolCh (h : Hub) (r v : Nat) (a : Nat) : (h.setReg r v).coolCh a = h.coolCh a := rfl
@[simp] theorem Hub.setReg_idMem (h : Hub) (r v : Nat) (a a2 : Nat) : (h.setReg r v).idMem a a2 = h.idMem a a2 := rfl
@[simp] theorem Hub.setReg_adcCh (h : Hub) (r v : Nat) (a : Nat) : (h.setReg r v).adcCh a = h.adcCh a := rfl
@[simp] theorem Hub.setReg_dts (h : Hub) (r v : Nat) (a : Nat) : (h.setReg r v).dts a = h.dts a := rfl
@[simp] theorem Hub.setFld_ctr (h : Hub) (r i j v : Nat) (a : Nat) : (h.setFld r i j v).ctr a = h.ctr a := rfl
@[simp] theorem Hub.setFld_port (h : Hub) (r i j v : Nat) (a : Nat) : (h.setFld r i j v).port a = h.port a := rfl
@[simp] theorem Hub.setFld_hsCh (h : Hub) (r i j v : Nat) (a : Nat) : (h.setFld r i j v).hsCh a = h.hsCh a := rfl
@[simp] theorem Hub.setFld_hod (h : Hub) (r i j v : Nat) (a : Nat) : (h.setFld r i j v).hod a = h.hod a := rfl
@[simp] theorem Hub.setFld_acc (h : Hub) (r i j v : Nat) (a : Nat) : (h.setFld r i j v).acc a = h.acc a := rfl
@[simp] theorem Hub.setFld_push (h : Hub) (r i j v : Nat) (a : Nat) : (h.setFld r i j v).push a = h.push a := rfl
@[simp] theorem Hub.setFld_stream (h : Hub) (r i j v : Nat) (a : Nat) : (h.setFld r i j v).stream a = h.stream a := rfl
@[simp] theorem Hub.setFld_tileAt (h : Hub) (r i j v : Nat) (a : Nat) : (h.setFld r i j v).tileAt a = h.tileAt a := rfl
@[simp] theorem Hub.setFld_pte (h : Hub) (r i j v : Nat) (a : Nat) : (h.setFld r i j v).pte a = h.pte a := rfl
@[simp] theorem Hub.setFld_rope (h : Hub) (r i j v : Nat) (a : Nat) : (h.setFld r i j v).rope a = h.rope a := rfl
@[simp] theorem Hub.setFld_zone (h : Hub) (r i j v : Nat) (a : Nat) : (h.setFld r i j v).zone a = h.zone a := rfl
@[simp] theorem Hub.setFld_coolCh (h : Hub) (r i j v : Nat) (a : Nat) : (h.setFld r i j v).coolCh a = h.coolCh a := rfl
@[simp] theorem Hub.setFld_idMem (h : Hub) (r i j v : Nat) (a a2 : Nat) : (h.setFld r i j v).idMem a a2 = h.idMem a a2 := rfl
@[simp] theorem Hub.setFld_adcCh (h : Hub) (r i j v : Nat) (a : Nat) : (h.setFld r i j v).adcCh a = h.adcCh a := rfl
@[simp] theorem Hub.setFld_dts (h : Hub) (r i j v : Nat) (a : Nat) : (h.setFld r i j v).dts a = h.dts a := rfl
@[simp] theorem Hub.flag_ctr (h : Hub) (r i : Nat) (a : Nat) : (h.flag r i).ctr a = h.ctr a := rfl
@[simp] theorem Hub.flag_port (h : Hub) (r i : Nat) (a : Nat) : (h.flag r i).port a = h.port a := rfl
@[simp] theorem Hub.flag_hsCh (h : Hub) (r i : Nat) (a : Nat) : (h.flag r i).hsCh a = h.hsCh a := rfl
@[simp] theorem Hub.flag_hod (h : Hub) (r i : Nat) (a : Nat) : (h.flag r i).hod a = h.hod a := rfl
@[simp] theorem Hub.flag_acc (h : Hub) (r i : Nat) (a : Nat) : (h.flag r i).acc a = h.acc a := rfl
@[simp] theorem Hub.flag_push (h : Hub) (r i : Nat) (a : Nat) : (h.flag r i).push a = h.push a := rfl
@[simp] theorem Hub.flag_stream (h : Hub) (r i : Nat) (a : Nat) : (h.flag r i).stream a = h.stream a := rfl
@[simp] theorem Hub.flag_tileAt (h : Hub) (r i : Nat) (a : Nat) : (h.flag r i).tileAt a = h.tileAt a := rfl
@[simp] theorem Hub.flag_pte (h : Hub) (r i : Nat) (a : Nat) : (h.flag r i).pte a = h.pte a := rfl
@[simp] theorem Hub.flag_rope (h : Hub) (r i : Nat) (a : Nat) : (h.flag r i).rope a = h.rope a := rfl
@[simp] theorem Hub.flag_zone (h : Hub) (r i : Nat) (a : Nat) : (h.flag r i).zone a = h.zone a := rfl
@[simp] theorem Hub.flag_coolCh (h : Hub) (r i : Nat) (a : Nat) : (h.flag r i).coolCh a = h.coolCh a := rfl
@[simp] theorem Hub.flag_idMem (h : Hub) (r i : Nat) (a a2 : Nat) : (h.flag r i).idMem a a2 = h.idMem a a2 := rfl
@[simp] theorem Hub.flag_adcCh (h : Hub) (r i : Nat) (a : Nat) : (h.flag r i).adcCh a = h.adcCh a := rfl
@[simp] theorem Hub.flag_dts (h : Hub) (r i : Nat) (a : Nat) : (h.flag r i).dts a = h.dts a := rfl
@[simp] theorem Hub.bump_reg (h : Hub) (r n : Nat) (a : Nat) : (h.bump r n).reg a = h.reg a := rfl
@[simp] theorem Hub.bump_fld (h : Hub) (r n : Nat) (a i2 j2 : Nat) : (h.bump r n).fld a i2 j2 = h.fld a i2 j2 := rfl
@[simp] theorem Hub.bump_bitAt (h : Hub) (r n : Nat) (a i2 : Nat) : (h.bump r n).bitAt a i2 = h.bitAt a i2 := rfl
@[simp] theorem Hub.bump_port (h : Hub) (r n : Nat) (a : Nat) : (h.bump r n).port a = h.port a := rfl
@[simp] theorem Hub.bump_hsCh (h : Hub) (r n : Nat) (a : Nat) : (h.bump r n).hsCh a = h.hsCh a := rfl
@[simp] theorem Hub.bump_hod (h : Hub) (r n : Nat) (a : Nat) : (h.bump r n).hod a = h.hod a := rfl
@[simp] theorem Hub.bump_acc (h : Hub) (r n : Nat) (a : Nat) : (h.bump r n).acc a = h.acc a := rfl
@[simp] theorem Hub.bump_push (h : Hub) (r n : Nat) (a : Nat) : (h.bump r n).push a = h.push a := rfl
@[simp] theorem Hub.bump_stream (h : Hub) (r n : Nat) (a : Nat) : (h.bump r n).stream a = h.stream a := rfl
@[simp] theorem Hub.bump_tileAt (h : Hub) (r n : Nat) (a : Nat) : (h.bump r n).tileAt a = h.tileAt a := rfl
@[simp] theorem Hub.bump_pte (h : Hub) (r n : Nat) (a : Nat) : (h.bump r n).pte a = h.pte a := rfl
@[simp] theorem Hub.bump_rope (h : Hub) (r n : Nat) (a : Nat) : (h.bump r n).rope a = h.rope a := rfl
@[simp] theorem Hub.bump_zone (h : Hub) (r n : Nat) (a : Nat) : (h.bump r n).zone a = h.zone a := rfl
@[simp] theorem Hub.bump_coolCh (h : Hub) (r n : Nat) (a : Nat) : (h.bump r n).coolCh a = h.coolCh a := rfl
@[simp] theorem Hub.bump_idMem (h : Hub) (r n : Nat) (a a2 : Nat) : (h.bump r n).idMem a a2 = h.idMem a a2 := rfl
@[simp] theorem Hub.bump_adcCh (h : Hub) (r n : Nat) (a : Nat) : (h.bump r n).adcCh a = h.adcCh a := rfl
@[simp] theorem Hub.bump_dts (h : Hub) (r n : Nat) (a : Nat) : (h.bump r n).dts a = h.dts a := rfl
@[simp] theorem Hub.zeroCtr_reg (h : Hub) (r : Nat) (a : Nat) : (h.zeroCtr r).reg a = h.reg a := rfl
@[simp] theorem Hub.zeroCtr_fld (h : Hub) (r : Nat) (a i2 j2 : Nat) : (h.zeroCtr r).fld a i2 j2 = h.fld a i2 j2 := rfl
@[simp] theorem Hub.zeroCtr_bitAt (h : Hub) (r : Nat) (a i2 : Nat) : (h.zeroCtr r).bitAt a i2 = h.bitAt a i2 := rfl
@[simp] theorem Hub.zeroCtr_port (h : Hub) (r : Nat) (a : Nat) : (h.zeroCtr r).port a = h.port a := rfl
@[simp] theorem Hub.zeroCtr_hsCh (h : Hub) (r : Nat) (a : Nat) : (h.zeroCtr r).hsCh a = h.hsCh a := rfl
@[simp] theorem Hub.zeroCtr_hod (h : Hub) (r : Nat) (a : Nat) : (h.zeroCtr r).hod a = h.hod a := rfl
@[simp] theorem Hub.zeroCtr_acc (h : Hub) (r : Nat) (a : Nat) : (h.zeroCtr r).acc a = h.acc a := rfl
@[simp] theorem Hub.zeroCtr_push (h : Hub) (r : Nat) (a : Nat) : (h.zeroCtr r).push a = h.push a := rfl
@[simp] theorem Hub.zeroCtr_stream (h : Hub) (r : Nat) (a : Nat) : (h.zeroCtr r).stream a = h.stream a := rfl
@[simp] theorem Hub.zeroCtr_tileAt (h : Hub) (r : Nat) (a : Nat) : (h.zeroCtr r).tileAt a = h.tileAt a := rfl
@[simp] theorem Hub.zeroCtr_pte (h : Hub) (r : Nat) (a : Nat) : (h.zeroCtr r).pte a = h.pte a := rfl
@[simp] theorem Hub.zeroCtr_rope (h : Hub) (r : Nat) (a : Nat) : (h.zeroCtr r).rope a = h.rope a := rfl
@[simp] theorem Hub.zeroCtr_zone (h : Hub) (r : Nat) (a : Nat) : (h.zeroCtr r).zone a = h.zone a := rfl
@[simp] theorem Hub.zeroCtr_coolCh (h : Hub) (r : Nat) (a : Nat) : (h.zeroCtr r).coolCh a = h.coolCh a := rfl
@[simp] theorem Hub.zeroCtr_idMem (h : Hub) (r : Nat) (a a2 : Nat) : (h.zeroCtr r).idMem a a2 = h.idMem a a2 := rfl
@[simp] theorem Hub.zeroCtr_adcCh (h : Hub) (r : Nat) (a : Nat) : (h.zeroCtr r).adcCh a = h.adcCh a := rfl
@[simp] theorem Hub.zeroCtr_dts (h : Hub) (r : Nat) (a : Nat) : (h.zeroCtr r).dts a = h.dts a := rfl
@[simp] theorem Hub.tick_reg (h : Hub) (a : Nat) : (h.tick).reg a = h.reg a := rfl
@[simp] theorem Hub.tick_fld (h : Hub) (a i2 j2 : Nat) : (h.tick).fld a i2 j2 = h.fld a i2 j2 := rfl
@[simp] theorem Hub.tick_bitAt (h : Hub) (a i2 : Nat) : (h.tick).bitAt a i2 = h.bitAt a i2 := rfl
@[simp] theorem Hub.tick_ctr (h : Hub) (a : Nat) : (h.tick).ctr a = h.ctr a := rfl
@[simp] theorem Hub.tick_port (h : Hub) (a : Nat) : (h.tick).port a = h.port a := rfl
@[simp] theorem Hub.tick_hsCh (h : Hub) (a : Nat) : (h.tick).hsCh a = h.hsCh a := rfl
@[simp] theorem Hub.tick_hod (h : Hub) (a : Nat) : (h.tick).hod a = h.hod a := rfl
@[simp] theorem Hub.tick_acc (h : Hub) (a : Nat) : (h.tick).acc a = h.acc a := rfl
@[simp] theorem Hub.tick_push (h : Hub) (a : Nat) : (h.tick).push a = h.push a := rfl
@[simp] theorem Hub.tick_stream (h : Hub) (a : Nat) : (h.tick).stream a = h.stream a := rfl
@[simp] theorem Hub.tick_tileAt (h : Hub) (a : Nat) : (h.tick).tileAt a = h.tileAt a := rfl
@[simp] theorem Hub.tick_pte (h : Hub) (a : Nat) : (h.tick).pte a = h.pte a := rfl
@[simp] theorem Hub.tick_rope (h : Hub) (a : Nat) : (h.tick).rope a = h.rope a := rfl
@[simp] theorem Hub.tick_zone (h : Hub) (a : Nat) : (h.tick).zone a = h.zone a := rfl
@[simp] theorem Hub.tick_coolCh (h : Hub) (a : Nat) : (h.tick).coolCh a = h.coolCh a := rfl
@[simp] theorem Hub.tick_idMem (h : Hub) (a a2 : Nat) : (h.tick).idMem a a2 = h.idMem a a2 := rfl
@[simp] theorem Hub.tick_adcCh (h : Hub) (a : Nat) : (h.tick).adcCh a = h.adcCh a := rfl
@[simp] theorem Hub.tick_dts (h : Hub) (a : Nat) : (h.tick).dts a = h.dts a := rfl
@[simp] theorem Hub.irq_reg (h : Hub) (f v : Nat) (a : Nat) : (h.irq f v).reg a = h.reg a := rfl
@[simp] theorem Hub.irq_fld (h : Hub) (f v : Nat) (a i2 j2 : Nat) : (h.irq f v).fld a i2 j2 = h.fld a i2 j2 := rfl
@[simp] theorem Hub.irq_bitAt (h : Hub) (f v : Nat) (a i2 : Nat) : (h.irq f v).bitAt a i2 = h.bitAt a i2 := rfl
@[simp] theorem Hub.irq_ctr (h : Hub) (f v : Nat) (a : Nat) : (h.irq f v).ctr a = h.ctr a := rfl
@[simp] theorem Hub.irq_port (h : Hub) (f v : Nat) (a : Nat) : (h.irq f v).port a = h.port a := rfl
@[simp] theorem Hub.irq_hsCh (h : Hub) (f v : Nat) (a : Nat) : (h.irq f v).hsCh a = h.hsCh a := rfl
@[simp] theorem Hub.irq_hod (h : Hub) (f v : Nat) (a : Nat) : (h.irq f v).hod a = h.hod a := rfl
@[simp] theorem Hub.irq_acc (h : Hub) (f v : Nat) (a : Nat) : (h.irq f v).acc a = h.acc a := rfl
@[simp] theorem Hub.irq_push (h : Hub) (f v : Nat) (a : Nat) : (h.irq f v).push a = h.push a := rfl
@[simp] theorem Hub.irq_stream (h : Hub) (f v : Nat) (a : Nat) : (h.irq f v).stream a = h.stream a := rfl
@[simp] theorem Hub.irq_tileAt (h : Hub) (f v : Nat) (a : Nat) : (h.irq f v).tileAt a = h.tileAt a := rfl
@[simp] theorem Hub.irq_pte (h : Hub) (f v : Nat) (a : Nat) : (h.irq f v).pte a = h.pte a := rfl
@[simp] theorem Hub.irq_rope (h : Hub) (f v : Nat) (a : Nat) : (h.irq f v).rope a = h.rope a := rfl
@[simp] theorem Hub.irq_zone (h : Hub) (f v : Nat) (a : Nat) : (h.irq f v).zone a = h.zone a := rfl
@[simp] theorem Hub.irq_coolCh (h : Hub) (f v : Nat) (a : Nat) : (h.irq f v).coolCh a = h.coolCh a := rfl
@[simp] theorem Hub.irq_adcCh (h : Hub) (f v : Nat) (a : Nat) : (h.irq f v).adcCh a = h.adcCh a := rfl
@[simp] theorem Hub.irq_dts (h : Hub) (f v : Nat) (a : Nat) : (h.irq f v).dts a = h.dts a := rfl
@[simp] theorem Hub.updPort_reg (h : Hub) (x : Nat) (f : Port → Port) (a : Nat) : (h.updPort x f).reg a = h.reg a := rfl
@[simp] theorem Hub.updPort_fld (h : Hub) (x : Nat) (f : Port → Port) (a i2 j2 : Nat) : (h.updPort x f).fld a i2 j2 = h.fld a i2 j2 := rfl
@[simp] theorem Hub.updPort_bitAt (h : Hub) (x : Nat) (f : Port → Port) (a i2 : Nat) : (h.updPort x f).bitAt a i2 = h.bitAt a i2 := rfl
@[simp] theorem Hub.updPort_ctr (h : Hub) (x : Nat) (f : Port → Port) (a : Nat) : (h.updPort x f).ctr a = h.ctr a := rfl
@[simp] theorem Hub.updPort_hsCh (h : Hub) (x : Nat) (f : Port → Port) (a : Nat) : (h.updPort x f).hsCh a = h.hsCh a := rfl
@[simp] theorem Hub.updPort_hod (h : Hub) (x : Nat) (f : Port → Port) (a : Nat) : (h.updPort x f).hod a = h.hod a := rfl
@[simp] theorem Hub.updPort_acc (h : Hub) (x : Nat) (f : Port → Port) (a : Nat) : (h.updPort x f).acc a = h.acc a := rfl
@[simp] theorem Hub.updPort_push (h : Hub) (x : Nat) (f : Port → Port) (a : Nat) : (h.updPort x f).push a = h.push a := rfl
@[simp] theorem Hub.updPort_stream (h : Hub) (x : Nat) (f : Port → Port) (a : Nat) : (h.updPort x f).stream a = h.stream a := rfl
@[simp] theorem Hub.updPort_tileAt (h : Hub) (x : Nat) (f : Port → Port) (a : Nat) : (h.updPort x f).tileAt a = h.tileAt a := rfl
@[simp] theorem Hub.updPort_pte (h : Hub) (x : Nat) (f : Port → Port) (a : Nat) : (h.updPort x f).pte a = h.pte a := rfl
@[simp] theorem Hub.updPort_rope (h : Hub) (x : Nat) (f : Port → Port) (a : Nat) : (h.updPort x f).rope a = h.rope a := rfl
@[simp] theorem Hub.updPort_zone (h : Hub) (x : Nat) (f : Port → Port) (a : Nat) : (h.updPort x f).zone a = h.zone a := rfl
@[simp] theorem Hub.updPort_coolCh (h : Hub) (x : Nat) (f : Port → Port) (a : Nat) : (h.updPort x f).coolCh a = h.coolCh a := rfl
@[simp] theorem Hub.updPort_idMem (h : Hub) (x : Nat) (f : Port → Port) (a a2 : Nat) : (h.updPort x f).idMem a a2 = h.idMem a a2 := rfl
@[simp] theorem Hub.updPort_adcCh (h : Hub) (x : Nat) (f : Port → Port) (a : Nat) : (h.updPort x f).adcCh a = h.adcCh a := rfl
@[simp] theorem Hub.updPort_dts (h : Hub) (x : Nat) (f : Port → Port) (a : Nat) : (h.updPort x f).dts a = h.dts a := rfl
@[simp] theorem Hub.enqueue_reg (h : Hub) (x n : Nat) (b : Brick) (a : Nat) : (h.enqueue x n b).reg a = h.reg a := rfl
@[simp] theorem Hub.enqueue_fld (h : Hub) (x n : Nat) (b : Brick) (a i2 j2 : Nat) : (h.enqueue x n b).fld a i2 j2 = h.fld a i2 j2 := rfl
@[simp] theorem Hub.enqueue_bitAt (h : Hub) (x n : Nat) (b : Brick) (a i2 : Nat) : (h.enqueue x n b).bitAt a i2 = h.bitAt a i2 := rfl
@[simp] theorem Hub.enqueue_ctr (h : Hub) (x n : Nat) (b : Brick) (a : Nat) : (h.enqueue x n b).ctr a = h.ctr a := rfl
@[simp] theorem Hub.enqueue_hsCh (h : Hub) (x n : Nat) (b : Brick) (a : Nat) : (h.enqueue x n b).hsCh a = h.hsCh a := rfl
@[simp] theorem Hub.enqueue_hod (h : Hub) (x n : Nat) (b : Brick) (a : Nat) : (h.enqueue x n b).hod a = h.hod a := rfl
@[simp] theorem Hub.enqueue_acc (h : Hub) (x n : Nat) (b : Brick) (a : Nat) : (h.enqueue x n b).acc a = h.acc a := rfl
@[simp] theorem Hub.enqueue_push (h : Hub) (x n : Nat) (b : Brick) (a : Nat) : (h.enqueue x n b).push a = h.push a := rfl
@[simp] theorem Hub.enqueue_stream (h : Hub) (x n : Nat) (b : Brick) (a : Nat) : (h.enqueue x n b).stream a = h.stream a := rfl
@[simp] theorem Hub.enqueue_tileAt (h : Hub) (x n : Nat) (b : Brick) (a : Nat) : (h.enqueue x n b).tileAt a = h.tileAt a := rfl
@[simp] theorem Hub.enqueue_pte (h : Hub) (x n : Nat) (b : Brick) (a : Nat) : (h.enqueue x n b).pte a = h.pte a := rfl
@[simp] theorem Hub.enqueue_rope (h : Hub) (x n : Nat) (b : Brick) (a : Nat) : (h.enqueue x n b).rope a = h.rope a := rfl
@[simp] theorem Hub.enqueue_zone (h : Hub) (x n : Nat) (b : Brick) (a : Nat) : (h.enqueue x n b).zone a = h.zone a := rfl
@[simp] theorem Hub.enqueue_coolCh (h : Hub) (x n : Nat) (b : Brick) (a : Nat) : (h.enqueue x n b).coolCh a = h.coolCh a := rfl
@[simp] theorem Hub.enqueue_idMem (h : Hub) (x n : Nat) (b : Brick) (a a2 : Nat) : (h.enqueue x n b).idMem a a2 = h.idMem a a2 := rfl
@[simp] theorem Hub.enqueue_adcCh (h : Hub) (x n : Nat) (b : Brick) (a : Nat) : (h.enqueue x n b).adcCh a = h.adcCh a := rfl
@[simp] theorem Hub.enqueue_dts (h : Hub) (x n : Nat) (b : Brick) (a : Nat) : (h.enqueue x n b).dts a = h.dts a := rfl
@[simp] theorem Hub.owe_reg (h : Hub) (x v : Nat) (a : Nat) : (h.owe x v).reg a = h.reg a := rfl
@[simp] theorem Hub.owe_fld (h : Hub) (x v : Nat) (a i2 j2 : Nat) : (h.owe x v).fld a i2 j2 = h.fld a i2 j2 := rfl
@[simp] theorem Hub.owe_bitAt (h : Hub) (x v : Nat) (a i2 : Nat) : (h.owe x v).bitAt a i2 = h.bitAt a i2 := rfl
@[simp] theorem Hub.owe_ctr (h : Hub) (x v : Nat) (a : Nat) : (h.owe x v).ctr a = h.ctr a := rfl
@[simp] theorem Hub.owe_hsCh (h : Hub) (x v : Nat) (a : Nat) : (h.owe x v).hsCh a = h.hsCh a := rfl
@[simp] theorem Hub.owe_hod (h : Hub) (x v : Nat) (a : Nat) : (h.owe x v).hod a = h.hod a := rfl
@[simp] theorem Hub.owe_acc (h : Hub) (x v : Nat) (a : Nat) : (h.owe x v).acc a = h.acc a := rfl
@[simp] theorem Hub.owe_push (h : Hub) (x v : Nat) (a : Nat) : (h.owe x v).push a = h.push a := rfl
@[simp] theorem Hub.owe_stream (h : Hub) (x v : Nat) (a : Nat) : (h.owe x v).stream a = h.stream a := rfl
@[simp] theorem Hub.owe_tileAt (h : Hub) (x v : Nat) (a : Nat) : (h.owe x v).tileAt a = h.tileAt a := rfl
@[simp] theorem Hub.owe_pte (h : Hub) (x v : Nat) (a : Nat) : (h.owe x v).pte a = h.pte a := rfl
@[simp] theorem Hub.owe_rope (h : Hub) (x v : Nat) (a : Nat) : (h.owe x v).rope a = h.rope a := rfl
@[simp] theorem Hub.owe_zone (h : Hub) (x v : Nat) (a : Nat) : (h.owe x v).zone a = h.zone a := rfl
@[simp] theorem Hub.owe_coolCh (h : Hub) (x v : Nat) (a : Nat) : (h.owe x v).coolCh a = h.coolCh a := rfl
@[simp] theorem Hub.owe_idMem (h : Hub) (x v : Nat) (a a2 : Nat) : (h.owe x v).idMem a a2 = h.idMem a a2 := rfl
@[simp] theorem Hub.owe_adcCh (h : Hub) (x v : Nat) (a : Nat) : (h.owe x v).adcCh a = h.adcCh a := rfl
@[simp] theorem Hub.owe_dts (h : Hub) (x v : Nat) (a : Nat) : (h.owe x v).dts a = h.dts a := rfl
@[simp] theorem Hub.updHs_reg (h : Hub) (c : Nat) (f : HsCh → HsCh) (a : Nat) : (h.updHs c f).reg a = h.reg a := rfl
@[simp] theorem Hub.updHs_fld (h : Hub) (c : Nat) (f : HsCh → HsCh) (a i2 j2 : Nat) : (h.updHs c f).fld a i2 j2 = h.fld a i2 j2 := rfl
@[simp] theorem Hub.updHs_bitAt (h : Hub) (c : Nat) (f : HsCh → HsCh) (a i2 : Nat) : (h.updHs c f).bitAt a i2 = h.bitAt a i2 := rfl
@[simp] theorem Hub.updHs_ctr (h : Hub) (c : Nat) (f : HsCh → HsCh) (a : Nat) : (h.updHs c f).ctr a = h.ctr a := rfl
@[simp] theorem Hub.updHs_port (h : Hub) (c : Nat) (f : HsCh → HsCh) (a : Nat) : (h.updHs c f).port a = h.port a := rfl
@[simp] theorem Hub.updHs_hod (h : Hub) (c : Nat) (f : HsCh → HsCh) (a : Nat) : (h.updHs c f).hod a = h.hod a := rfl
@[simp] theorem Hub.updHs_acc (h : Hub) (c : Nat) (f : HsCh → HsCh) (a : Nat) : (h.updHs c f).acc a = h.acc a := rfl
@[simp] theorem Hub.updHs_push (h : Hub) (c : Nat) (f : HsCh → HsCh) (a : Nat) : (h.updHs c f).push a = h.push a := rfl
@[simp] theorem Hub.updHs_stream (h : Hub) (c : Nat) (f : HsCh → HsCh) (a : Nat) : (h.updHs c f).stream a = h.stream a := rfl
@[simp] theorem Hub.updHs_tileAt (h : Hub) (c : Nat) (f : HsCh → HsCh) (a : Nat) : (h.updHs c f).tileAt a = h.tileAt a := rfl
@[simp] theorem Hub.updHs_pte (h : Hub) (c : Nat) (f : HsCh → HsCh) (a : Nat) : (h.updHs c f).pte a = h.pte a := rfl
@[simp] theorem Hub.updHs_rope (h : Hub) (c : Nat) (f : HsCh → HsCh) (a : Nat) : (h.updHs c f).rope a = h.rope a := rfl
@[simp] theorem Hub.updHs_zone (h : Hub) (c : Nat) (f : HsCh → HsCh) (a : Nat) : (h.updHs c f).zone a = h.zone a := rfl
@[simp] theorem Hub.updHs_coolCh (h : Hub) (c : Nat) (f : HsCh → HsCh) (a : Nat) : (h.updHs c f).coolCh a = h.coolCh a := rfl
@[simp] theorem Hub.updHs_idMem (h : Hub) (c : Nat) (f : HsCh → HsCh) (a a2 : Nat) : (h.updHs c f).idMem a a2 = h.idMem a a2 := rfl
@[simp] theorem Hub.updHs_adcCh (h : Hub) (c : Nat) (f : HsCh → HsCh) (a : Nat) : (h.updHs c f).adcCh a = h.adcCh a := rfl
@[simp] theorem Hub.updHs_dts (h : Hub) (c : Nat) (f : HsCh → HsCh) (a : Nat) : (h.updHs c f).dts a = h.dts a := rfl
@[simp] theorem Hub.updAcc_reg (h : Hub) (x : Nat) (f : GovAcc → GovAcc) (a : Nat) : (h.updAcc x f).reg a = h.reg a := rfl
@[simp] theorem Hub.updAcc_fld (h : Hub) (x : Nat) (f : GovAcc → GovAcc) (a i2 j2 : Nat) : (h.updAcc x f).fld a i2 j2 = h.fld a i2 j2 := rfl
@[simp] theorem Hub.updAcc_bitAt (h : Hub) (x : Nat) (f : GovAcc → GovAcc) (a i2 : Nat) : (h.updAcc x f).bitAt a i2 = h.bitAt a i2 := rfl
@[simp] theorem Hub.updAcc_ctr (h : Hub) (x : Nat) (f : GovAcc → GovAcc) (a : Nat) : (h.updAcc x f).ctr a = h.ctr a := rfl
@[simp] theorem Hub.updAcc_port (h : Hub) (x : Nat) (f : GovAcc → GovAcc) (a : Nat) : (h.updAcc x f).port a = h.port a := rfl
@[simp] theorem Hub.updAcc_hsCh (h : Hub) (x : Nat) (f : GovAcc → GovAcc) (a : Nat) : (h.updAcc x f).hsCh a = h.hsCh a := rfl
@[simp] theorem Hub.updAcc_hod (h : Hub) (x : Nat) (f : GovAcc → GovAcc) (a : Nat) : (h.updAcc x f).hod a = h.hod a := rfl
@[simp] theorem Hub.updAcc_push (h : Hub) (x : Nat) (f : GovAcc → GovAcc) (a : Nat) : (h.updAcc x f).push a = h.push a := rfl
@[simp] theorem Hub.updAcc_stream (h : Hub) (x : Nat) (f : GovAcc → GovAcc) (a : Nat) : (h.updAcc x f).stream a = h.stream a := rfl
@[simp] theorem Hub.updAcc_tileAt (h : Hub) (x : Nat) (f : GovAcc → GovAcc) (a : Nat) : (h.updAcc x f).tileAt a = h.tileAt a := rfl
@[simp] theorem Hub.updAcc_pte (h : Hub) (x : Nat) (f : GovAcc → GovAcc) (a : Nat) : (h.updAcc x f).pte a = h.pte a := rfl
@[simp] theorem Hub.updAcc_rope (h : Hub) (x : Nat) (f : GovAcc → GovAcc) (a : Nat) : (h.updAcc x f).rope a = h.rope a := rfl
@[simp] theorem Hub.updAcc_zone (h : Hub) (x : Nat) (f : GovAcc → GovAcc) (a : Nat) : (h.updAcc x f).zone a = h.zone a := rfl
@[simp] theorem Hub.updAcc_coolCh (h : Hub) (x : Nat) (f : GovAcc → GovAcc) (a : Nat) : (h.updAcc x f).coolCh a = h.coolCh a := rfl
@[simp] theorem Hub.updAcc_idMem (h : Hub) (x : Nat) (f : GovAcc → GovAcc) (a a2 : Nat) : (h.updAcc x f).idMem a a2 = h.idMem a a2 := rfl
@[simp] theorem Hub.updAcc_adcCh (h : Hub) (x : Nat) (f : GovAcc → GovAcc) (a : Nat) : (h.updAcc x f).adcCh a = h.adcCh a := rfl
@[simp] theorem Hub.updAcc_dts (h : Hub) (x : Nat) (f : GovAcc → GovAcc) (a : Nat) : (h.updAcc x f).dts a = h.dts a := rfl
@[simp] theorem Hub.updPush_reg (h : Hub) (x : Nat) (f : Push → Push) (a : Nat) : (h.updPush x f).reg a = h.reg a := rfl
@[simp] theorem Hub.updPush_fld (h : Hub) (x : Nat) (f : Push → Push) (a i2 j2 : Nat) : (h.updPush x f).fld a i2 j2 = h.fld a i2 j2 := rfl
@[simp] theorem Hub.updPush_bitAt (h : Hub) (x : Nat) (f : Push → Push) (a i2 : Nat) : (h.updPush x f).bitAt a i2 = h.bitAt a i2 := rfl
@[simp] theorem Hub.updPush_ctr (h : Hub) (x : Nat) (f : Push → Push) (a : Nat) : (h.updPush x f).ctr a = h.ctr a := rfl
@[simp] theorem Hub.updPush_port (h : Hub) (x : Nat) (f : Push → Push) (a : Nat) : (h.updPush x f).port a = h.port a := rfl
@[simp] theorem Hub.updPush_hsCh (h : Hub) (x : Nat) (f : Push → Push) (a : Nat) : (h.updPush x f).hsCh a = h.hsCh a := rfl
@[simp] theorem Hub.updPush_hod (h : Hub) (x : Nat) (f : Push → Push) (a : Nat) : (h.updPush x f).hod a = h.hod a := rfl
@[simp] theorem Hub.updPush_acc (h : Hub) (x : Nat) (f : Push → Push) (a : Nat) : (h.updPush x f).acc a = h.acc a := rfl
@[simp] theorem Hub.updPush_stream (h : Hub) (x : Nat) (f : Push → Push) (a : Nat) : (h.updPush x f).stream a = h.stream a := rfl
@[simp] theorem Hub.updPush_tileAt (h : Hub) (x : Nat) (f : Push → Push) (a : Nat) : (h.updPush x f).tileAt a = h.tileAt a := rfl
@[simp] theorem Hub.updPush_pte (h : Hub) (x : Nat) (f : Push → Push) (a : Nat) : (h.updPush x f).pte a = h.pte a := rfl
@[simp] theorem Hub.updPush_rope (h : Hub) (x : Nat) (f : Push → Push) (a : Nat) : (h.updPush x f).rope a = h.rope a := rfl
@[simp] theorem Hub.updPush_zone (h : Hub) (x : Nat) (f : Push → Push) (a : Nat) : (h.updPush x f).zone a = h.zone a := rfl
@[simp] theorem Hub.updPush_coolCh (h : Hub) (x : Nat) (f : Push → Push) (a : Nat) : (h.updPush x f).coolCh a = h.coolCh a := rfl
@[simp] theorem Hub.updPush_idMem (h : Hub) (x : Nat) (f : Push → Push) (a a2 : Nat) : (h.updPush x f).idMem a a2 = h.idMem a a2 := rfl
@[simp] theorem Hub.updPush_adcCh (h : Hub) (x : Nat) (f : Push → Push) (a : Nat) : (h.updPush x f).adcCh a = h.adcCh a := rfl
@[simp] theorem Hub.updPush_dts (h : Hub) (x : Nat) (f : Push → Push) (a : Nat) : (h.updPush x f).dts a = h.dts a := rfl
@[simp] theorem Hub.updId_reg (h : Hub) (u v : Nat) (f : IdMem → IdMem) (a : Nat) : (h.updId u v f).reg a = h.reg a := rfl
@[simp] theorem Hub.updId_fld (h : Hub) (u v : Nat) (f : IdMem → IdMem) (a i2 j2 : Nat) : (h.updId u v f).fld a i2 j2 = h.fld a i2 j2 := rfl
@[simp] theorem Hub.updId_bitAt (h : Hub) (u v : Nat) (f : IdMem → IdMem) (a i2 : Nat) : (h.updId u v f).bitAt a i2 = h.bitAt a i2 := rfl
@[simp] theorem Hub.updId_ctr (h : Hub) (u v : Nat) (f : IdMem → IdMem) (a : Nat) : (h.updId u v f).ctr a = h.ctr a := rfl
@[simp] theorem Hub.updId_port (h : Hub) (u v : Nat) (f : IdMem → IdMem) (a : Nat) : (h.updId u v f).port a = h.port a := rfl
@[simp] theorem Hub.updId_hsCh (h : Hub) (u v : Nat) (f : IdMem → IdMem) (a : Nat) : (h.updId u v f).hsCh a = h.hsCh a := rfl
@[simp] theorem Hub.updId_hod (h : Hub) (u v : Nat) (f : IdMem → IdMem) (a : Nat) : (h.updId u v f).hod a = h.hod a := rfl
@[simp] theorem Hub.updId_acc (h : Hub) (u v : Nat) (f : IdMem → IdMem) (a : Nat) : (h.updId u v f).acc a = h.acc a := rfl
@[simp] theorem Hub.updId_push (h : Hub) (u v : Nat) (f : IdMem → IdMem) (a : Nat) : (h.updId u v f).push a = h.push a := rfl
@[simp] theorem Hub.updId_stream (h : Hub) (u v : Nat) (f : IdMem → IdMem) (a : Nat) : (h.updId u v f).stream a = h.stream a := rfl
@[simp] theorem Hub.updId_tileAt (h : Hub) (u v : Nat) (f : IdMem → IdMem) (a : Nat) : (h.updId u v f).tileAt a = h.tileAt a := rfl
@[simp] theorem Hub.updId_pte (h : Hub) (u v : Nat) (f : IdMem → IdMem) (a : Nat) : (h.updId u v f).pte a = h.pte a := rfl
@[simp] theorem Hub.updId_rope (h : Hub) (u v : Nat) (f : IdMem → IdMem) (a : Nat) : (h.updId u v f).rope a = h.rope a := rfl
@[simp] theorem Hub.updId_zone (h : Hub) (u v : Nat) (f : IdMem → IdMem) (a : Nat) : (h.updId u v f).zone a = h.zone a := rfl
@[simp] theorem Hub.updId_coolCh (h : Hub) (u v : Nat) (f : IdMem → IdMem) (a : Nat) : (h.updId u v f).coolCh a = h.coolCh a := rfl
@[simp] theorem Hub.updId_adcCh (h : Hub) (u v : Nat) (f : IdMem → IdMem) (a : Nat) : (h.updId u v f).adcCh a = h.adcCh a := rfl
@[simp] theorem Hub.updId_dts (h : Hub) (u v : Nat) (f : IdMem → IdMem) (a : Nat) : (h.updId u v f).dts a = h.dts a := rfl
@[simp] theorem Hub.updHod_reg (h : Hub) (r : Nat) (f : Hod → Hod) (a : Nat) : (h.updHod r f).reg a = h.reg a := rfl
@[simp] theorem Hub.updHod_fld (h : Hub) (r : Nat) (f : Hod → Hod) (a i2 j2 : Nat) : (h.updHod r f).fld a i2 j2 = h.fld a i2 j2 := rfl
@[simp] theorem Hub.updHod_bitAt (h : Hub) (r : Nat) (f : Hod → Hod) (a i2 : Nat) : (h.updHod r f).bitAt a i2 = h.bitAt a i2 := rfl
@[simp] theorem Hub.updHod_ctr (h : Hub) (r : Nat) (f : Hod → Hod) (a : Nat) : (h.updHod r f).ctr a = h.ctr a := rfl
@[simp] theorem Hub.updHod_port (h : Hub) (r : Nat) (f : Hod → Hod) (a : Nat) : (h.updHod r f).port a = h.port a := rfl
@[simp] theorem Hub.updHod_hsCh (h : Hub) (r : Nat) (f : Hod → Hod) (a : Nat) : (h.updHod r f).hsCh a = h.hsCh a := rfl
@[simp] theorem Hub.updHod_acc (h : Hub) (r : Nat) (f : Hod → Hod) (a : Nat) : (h.updHod r f).acc a = h.acc a := rfl
@[simp] theorem Hub.updHod_push (h : Hub) (r : Nat) (f : Hod → Hod) (a : Nat) : (h.updHod r f).push a = h.push a := rfl
@[simp] theorem Hub.updHod_stream (h : Hub) (r : Nat) (f : Hod → Hod) (a : Nat) : (h.updHod r f).stream a = h.stream a := rfl
@[simp] theorem Hub.updHod_tileAt (h : Hub) (r : Nat) (f : Hod → Hod) (a : Nat) : (h.updHod r f).tileAt a = h.tileAt a := rfl
@[simp] theorem Hub.updHod_pte (h : Hub) (r : Nat) (f : Hod → Hod) (a : Nat) : (h.updHod r f).pte a = h.pte a := rfl
@[simp] theorem Hub.updHod_rope (h : Hub) (r : Nat) (f : Hod → Hod) (a : Nat) : (h.updHod r f).rope a = h.rope a := rfl
@[simp] theorem Hub.updHod_zone (h : Hub) (r : Nat) (f : Hod → Hod) (a : Nat) : (h.updHod r f).zone a = h.zone a := rfl
@[simp] theorem Hub.updHod_coolCh (h : Hub) (r : Nat) (f : Hod → Hod) (a : Nat) : (h.updHod r f).coolCh a = h.coolCh a := rfl
@[simp] theorem Hub.updHod_idMem (h : Hub) (r : Nat) (f : Hod → Hod) (a a2 : Nat) : (h.updHod r f).idMem a a2 = h.idMem a a2 := rfl
@[simp] theorem Hub.updHod_adcCh (h : Hub) (r : Nat) (f : Hod → Hod) (a : Nat) : (h.updHod r f).adcCh a = h.adcCh a := rfl
@[simp] theorem Hub.updHod_dts (h : Hub) (r : Nat) (f : Hod → Hod) (a : Nat) : (h.updHod r f).dts a = h.dts a := rfl
@[simp] theorem Hub.updRb_reg (h : Hub) (f : RegBlock → RegBlock) (a : Nat) : (h.updRb f).reg a = h.reg a := rfl
@[simp] theorem Hub.updRb_fld (h : Hub) (f : RegBlock → RegBlock) (a i2 j2 : Nat) : (h.updRb f).fld a i2 j2 = h.fld a i2 j2 := rfl
@[simp] theorem Hub.updRb_bitAt (h : Hub) (f : RegBlock → RegBlock) (a i2 : Nat) : (h.updRb f).bitAt a i2 = h.bitAt a i2 := rfl
@[simp] theorem Hub.updRb_ctr (h : Hub) (f : RegBlock → RegBlock) (a : Nat) : (h.updRb f).ctr a = h.ctr a := rfl
@[simp] theorem Hub.updRb_port (h : Hub) (f : RegBlock → RegBlock) (a : Nat) : (h.updRb f).port a = h.port a := rfl
@[simp] theorem Hub.updRb_hsCh (h : Hub) (f : RegBlock → RegBlock) (a : Nat) : (h.updRb f).hsCh a = h.hsCh a := rfl
@[simp] theorem Hub.updRb_hod (h : Hub) (f : RegBlock → RegBlock) (a : Nat) : (h.updRb f).hod a = h.hod a := rfl
@[simp] theorem Hub.updRb_acc (h : Hub) (f : RegBlock → RegBlock) (a : Nat) : (h.updRb f).acc a = h.acc a := rfl
@[simp] theorem Hub.updRb_push (h : Hub) (f : RegBlock → RegBlock) (a : Nat) : (h.updRb f).push a = h.push a := rfl
@[simp] theorem Hub.updRb_stream (h : Hub) (f : RegBlock → RegBlock) (a : Nat) : (h.updRb f).stream a = h.stream a := rfl
@[simp] theorem Hub.updRb_tileAt (h : Hub) (f : RegBlock → RegBlock) (a : Nat) : (h.updRb f).tileAt a = h.tileAt a := rfl
@[simp] theorem Hub.updRb_pte (h : Hub) (f : RegBlock → RegBlock) (a : Nat) : (h.updRb f).pte a = h.pte a := rfl
@[simp] theorem Hub.updRb_rope (h : Hub) (f : RegBlock → RegBlock) (a : Nat) : (h.updRb f).rope a = h.rope a := rfl
@[simp] theorem Hub.updRb_zone (h : Hub) (f : RegBlock → RegBlock) (a : Nat) : (h.updRb f).zone a = h.zone a := rfl
@[simp] theorem Hub.updRb_coolCh (h : Hub) (f : RegBlock → RegBlock) (a : Nat) : (h.updRb f).coolCh a = h.coolCh a := rfl
@[simp] theorem Hub.updRb_idMem (h : Hub) (f : RegBlock → RegBlock) (a a2 : Nat) : (h.updRb f).idMem a a2 = h.idMem a a2 := rfl
@[simp] theorem Hub.updRb_adcCh (h : Hub) (f : RegBlock → RegBlock) (a : Nat) : (h.updRb f).adcCh a = h.adcCh a := rfl
@[simp] theorem Hub.updRb_dts (h : Hub) (f : RegBlock → RegBlock) (a : Nat) : (h.updRb f).dts a = h.dts a := rfl
@[simp] theorem Hub.updTile_reg (h : Hub) (n : Nat) (f : Tile → Tile) (a : Nat) : (h.updTile n f).reg a = h.reg a := rfl
@[simp] theorem Hub.updTile_fld (h : Hub) (n : Nat) (f : Tile → Tile) (a i2 j2 : Nat) : (h.updTile n f).fld a i2 j2 = h.fld a i2 j2 := rfl
@[simp] theorem Hub.updTile_bitAt (h : Hub) (n : Nat) (f : Tile → Tile) (a i2 : Nat) : (h.updTile n f).bitAt a i2 = h.bitAt a i2 := rfl
@[simp] theorem Hub.updTile_ctr (h : Hub) (n : Nat) (f : Tile → Tile) (a : Nat) : (h.updTile n f).ctr a = h.ctr a := rfl
@[simp] theorem Hub.updTile_port (h : Hub) (n : Nat) (f : Tile → Tile) (a : Nat) : (h.updTile n f).port a = h.port a := rfl
@[simp] theorem Hub.updTile_hsCh (h : Hub) (n : Nat) (f : Tile → Tile) (a : Nat) : (h.updTile n f).hsCh a = h.hsCh a := rfl
@[simp] theorem Hub.updTile_hod (h : Hub) (n : Nat) (f : Tile → Tile) (a : Nat) : (h.updTile n f).hod a = h.hod a := rfl
@[simp] theorem Hub.updTile_acc (h : Hub) (n : Nat) (f : Tile → Tile) (a : Nat) : (h.updTile n f).acc a = h.acc a := rfl
@[simp] theorem Hub.updTile_push (h : Hub) (n : Nat) (f : Tile → Tile) (a : Nat) : (h.updTile n f).push a = h.push a := rfl
@[simp] theorem Hub.updTile_stream (h : Hub) (n : Nat) (f : Tile → Tile) (a : Nat) : (h.updTile n f).stream a = h.stream a := rfl
@[simp] theorem Hub.updTile_rope (h : Hub) (n : Nat) (f : Tile → Tile) (a : Nat) : (h.updTile n f).rope a = h.rope a := rfl
@[simp] theorem Hub.updTile_zone (h : Hub) (n : Nat) (f : Tile → Tile) (a : Nat) : (h.updTile n f).zone a = h.zone a := rfl
@[simp] theorem Hub.updTile_coolCh (h : Hub) (n : Nat) (f : Tile → Tile) (a : Nat) : (h.updTile n f).coolCh a = h.coolCh a := rfl
@[simp] theorem Hub.updTile_idMem (h : Hub) (n : Nat) (f : Tile → Tile) (a a2 : Nat) : (h.updTile n f).idMem a a2 = h.idMem a a2 := rfl
@[simp] theorem Hub.updTile_adcCh (h : Hub) (n : Nat) (f : Tile → Tile) (a : Nat) : (h.updTile n f).adcCh a = h.adcCh a := rfl
@[simp] theorem Hub.updTile_dts (h : Hub) (n : Nat) (f : Tile → Tile) (a : Nat) : (h.updTile n f).dts a = h.dts a := rfl
@[simp] theorem Hub.updPte_reg (h : Hub) (n : Nat) (f : Pte → Pte) (a : Nat) : (h.updPte n f).reg a = h.reg a := rfl
@[simp] theorem Hub.updPte_fld (h : Hub) (n : Nat) (f : Pte → Pte) (a i2 j2 : Nat) : (h.updPte n f).fld a i2 j2 = h.fld a i2 j2 := rfl
@[simp] theorem Hub.updPte_bitAt (h : Hub) (n : Nat) (f : Pte → Pte) (a i2 : Nat) : (h.updPte n f).bitAt a i2 = h.bitAt a i2 := rfl
@[simp] theorem Hub.updPte_ctr (h : Hub) (n : Nat) (f : Pte → Pte) (a : Nat) : (h.updPte n f).ctr a = h.ctr a := rfl
@[simp] theorem Hub.updPte_port (h : Hub) (n : Nat) (f : Pte → Pte) (a : Nat) : (h.updPte n f).port a = h.port a := rfl
@[simp] theorem Hub.updPte_hsCh (h : Hub) (n : Nat) (f : Pte → Pte) (a : Nat) : (h.updPte n f).hsCh a = h.hsCh a := rfl
@[simp] theorem Hub.updPte_hod (h : Hub) (n : Nat) (f : Pte → Pte) (a : Nat) : (h.updPte n f).hod a = h.hod a := rfl
@[simp] theorem Hub.updPte_acc (h : Hub) (n : Nat) (f : Pte → Pte) (a : Nat) : (h.updPte n f).acc a = h.acc a := rfl
@[simp] theorem Hub.updPte_push (h : Hub) (n : Nat) (f : Pte → Pte) (a : Nat) : (h.updPte n f).push a = h.push a := rfl
@[simp] theorem Hub.updPte_stream (h : Hub) (n : Nat) (f : Pte → Pte) (a : Nat) : (h.updPte n f).stream a = h.stream a := rfl
@[simp] theorem Hub.updPte_rope (h : Hub) (n : Nat) (f : Pte → Pte) (a : Nat) : (h.updPte n f).rope a = h.rope a := rfl
@[simp] theorem Hub.updPte_zone (h : Hub) (n : Nat) (f : Pte → Pte) (a : Nat) : (h.updPte n f).zone a = h.zone a := rfl
@[simp] theorem Hub.updPte_coolCh (h : Hub) (n : Nat) (f : Pte → Pte) (a : Nat) : (h.updPte n f).coolCh a = h.coolCh a := rfl
@[simp] theorem Hub.updPte_idMem (h : Hub) (n : Nat) (f : Pte → Pte) (a a2 : Nat) : (h.updPte n f).idMem a a2 = h.idMem a a2 := rfl
@[simp] theorem Hub.updPte_adcCh (h : Hub) (n : Nat) (f : Pte → Pte) (a : Nat) : (h.updPte n f).adcCh a = h.adcCh a := rfl
@[simp] theorem Hub.updPte_dts (h : Hub) (n : Nat) (f : Pte → Pte) (a : Nat) : (h.updPte n f).dts a = h.dts a := rfl
@[simp] theorem Hub.updStrm_reg (h : Hub) (n : Nat) (f : Strm → Strm) (a : Nat) : (h.updStrm n f).reg a = h.reg a := rfl
@[simp] theorem Hub.updStrm_fld (h : Hub) (n : Nat) (f : Strm → Strm) (a i2 j2 : Nat) : (h.updStrm n f).fld a i2 j2 = h.fld a i2 j2 := rfl
@[simp] theorem Hub.updStrm_bitAt (h : Hub) (n : Nat) (f : Strm → Strm) (a i2 : Nat) : (h.updStrm n f).bitAt a i2 = h.bitAt a i2 := rfl
@[simp] theorem Hub.updStrm_ctr (h : Hub) (n : Nat) (f : Strm → Strm) (a : Nat) : (h.updStrm n f).ctr a = h.ctr a := rfl
@[simp] theorem Hub.updStrm_port (h : Hub) (n : Nat) (f : Strm → Strm) (a : Nat) : (h.updStrm n f).port a = h.port a := rfl
@[simp] theorem Hub.updStrm_hsCh (h : Hub) (n : Nat) (f : Strm → Strm) (a : Nat) : (h.updStrm n f).hsCh a = h.hsCh a := rfl
@[simp] theorem Hub.updStrm_hod (h : Hub) (n : Nat) (f : Strm → Strm) (a : Nat) : (h.updStrm n f).hod a = h.hod a := rfl
@[simp] theorem Hub.updStrm_acc (h : Hub) (n : Nat) (f : Strm → Strm) (a : Nat) : (h.updStrm n f).acc a = h.acc a := rfl
@[simp] theorem Hub.updStrm_push (h : Hub) (n : Nat) (f : Strm → Strm) (a : Nat) : (h.updStrm n f).push a = h.push a := rfl
@[simp] theorem Hub.updStrm_tileAt (h : Hub) (n : Nat) (f : Strm → Strm) (a : Nat) : (h.updStrm n f).tileAt a = h.tileAt a := rfl
@[simp] theorem Hub.updStrm_pte (h : Hub) (n : Nat) (f : Strm → Strm) (a : Nat) : (h.updStrm n f).pte a = h.pte a := rfl
@[simp] theorem Hub.updStrm_rope (h : Hub) (n : Nat) (f : Strm → Strm) (a : Nat) : (h.updStrm n f).rope a = h.rope a := rfl
@[simp] theorem Hub.updStrm_zone (h : Hub) (n : Nat) (f : Strm → Strm) (a : Nat) : (h.updStrm n f).zone a = h.zone a := rfl
@[simp] theorem Hub.updStrm_coolCh (h : Hub) (n : Nat) (f : Strm → Strm) (a : Nat) : (h.updStrm n f).coolCh a = h.coolCh a := rfl
@[simp] theorem Hub.updStrm_idMem (h : Hub) (n : Nat) (f : Strm → Strm) (a a2 : Nat) : (h.updStrm n f).idMem a a2 = h.idMem a a2 := rfl
@[simp] theorem Hub.updStrm_adcCh (h : Hub) (n : Nat) (f : Strm → Strm) (a : Nat) : (h.updStrm n f).adcCh a = h.adcCh a := rfl
@[simp] theorem Hub.updStrm_dts (h : Hub) (n : Nat) (f : Strm → Strm) (a : Nat) : (h.updStrm n f).dts a = h.dts a := rfl
@[simp] theorem Hub.updZone_reg (h : Hub) (n : Nat) (f : Zone → Zone) (a : Nat) : (h.updZone n f).reg a = h.reg a := rfl
@[simp] theorem Hub.updZone_fld (h : Hub) (n : Nat) (f : Zone → Zone) (a i2 j2 : Nat) : (h.updZone n f).fld a i2 j2 = h.fld a i2 j2 := rfl
@[simp] theorem Hub.updZone_bitAt (h : Hub) (n : Nat) (f : Zone → Zone) (a i2 : Nat) : (h.updZone n f).bitAt a i2 = h.bitAt a i2 := rfl
@[simp] theorem Hub.updZone_ctr (h : Hub) (n : Nat) (f : Zone → Zone) (a : Nat) : (h.updZone n f).ctr a = h.ctr a := rfl
@[simp] theorem Hub.updZone_port (h : Hub) (n : Nat) (f : Zone → Zone) (a : Nat) : (h.updZone n f).port a = h.port a := rfl
@[simp] theorem Hub.updZone_hsCh (h : Hub) (n : Nat) (f : Zone → Zone) (a : Nat) : (h.updZone n f).hsCh a = h.hsCh a := rfl
@[simp] theorem Hub.updZone_hod (h : Hub) (n : Nat) (f : Zone → Zone) (a : Nat) : (h.updZone n f).hod a = h.hod a := rfl
@[simp] theorem Hub.updZone_acc (h : Hub) (n : Nat) (f : Zone → Zone) (a : Nat) : (h.updZone n f).acc a = h.acc a := rfl
@[simp] theorem Hub.updZone_push (h : Hub) (n : Nat) (f : Zone → Zone) (a : Nat) : (h.updZone n f).push a = h.push a := rfl
@[simp] theorem Hub.updZone_stream (h : Hub) (n : Nat) (f : Zone → Zone) (a : Nat) : (h.updZone n f).stream a = h.stream a := rfl
@[simp] theorem Hub.updZone_tileAt (h : Hub) (n : Nat) (f : Zone → Zone) (a : Nat) : (h.updZone n f).tileAt a = h.tileAt a := rfl
@[simp] theorem Hub.updZone_pte (h : Hub) (n : Nat) (f : Zone → Zone) (a : Nat) : (h.updZone n f).pte a = h.pte a := rfl
@[simp] theorem Hub.updZone_idMem (h : Hub) (n : Nat) (f : Zone → Zone) (a a2 : Nat) : (h.updZone n f).idMem a a2 = h.idMem a a2 := rfl
@[simp] theorem Hub.updZone_adcCh (h : Hub) (n : Nat) (f : Zone → Zone) (a : Nat) : (h.updZone n f).adcCh a = h.adcCh a := rfl
@[simp] theorem Hub.updZone_dts (h : Hub) (n : Nat) (f : Zone → Zone) (a : Nat) : (h.updZone n f).dts a = h.dts a := rfl
@[simp] theorem Hub.updCool_reg (h : Hub) (n : Nat) (f : CoolCh → CoolCh) (a : Nat) : (h.updCool n f).reg a = h.reg a := rfl
@[simp] theorem Hub.updCool_fld (h : Hub) (n : Nat) (f : CoolCh → CoolCh) (a i2 j2 : Nat) : (h.updCool n f).fld a i2 j2 = h.fld a i2 j2 := rfl
@[simp] theorem Hub.updCool_bitAt (h : Hub) (n : Nat) (f : CoolCh → CoolCh) (a i2 : Nat) : (h.updCool n f).bitAt a i2 = h.bitAt a i2 := rfl
@[simp] theorem Hub.updCool_ctr (h : Hub) (n : Nat) (f : CoolCh → CoolCh) (a : Nat) : (h.updCool n f).ctr a = h.ctr a := rfl
@[simp] theorem Hub.updCool_port (h : Hub) (n : Nat) (f : CoolCh → CoolCh) (a : Nat) : (h.updCool n f).port a = h.port a := rfl
@[simp] theorem Hub.updCool_hsCh (h : Hub) (n : Nat) (f : CoolCh → CoolCh) (a : Nat) : (h.updCool n f).hsCh a = h.hsCh a := rfl
@[simp] theorem Hub.updCool_hod (h : Hub) (n : Nat) (f : CoolCh → CoolCh) (a : Nat) : (h.updCool n f).hod a = h.hod a := rfl
@[simp] theorem Hub.updCool_acc (h : Hub) (n : Nat) (f : CoolCh → CoolCh) (a : Nat) : (h.updCool n f).acc a = h.acc a := rfl
@[simp] theorem Hub.updCool_push (h : Hub) (n : Nat) (f : CoolCh → CoolCh) (a : Nat) : (h.updCool n f).push a = h.push a := rfl
@[simp] theorem Hub.updCool_stream (h : Hub) (n : Nat) (f : CoolCh → CoolCh) (a : Nat) : (h.updCool n f).stream a = h.stream a := rfl
@[simp] theorem Hub.updCool_tileAt (h : Hub) (n : Nat) (f : CoolCh → CoolCh) (a : Nat) : (h.updCool n f).tileAt a = h.tileAt a := rfl
@[simp] theorem Hub.updCool_pte (h : Hub) (n : Nat) (f : CoolCh → CoolCh) (a : Nat) : (h.updCool n f).pte a = h.pte a := rfl
@[simp] theorem Hub.updCool_idMem (h : Hub) (n : Nat) (f : CoolCh → CoolCh) (a a2 : Nat) : (h.updCool n f).idMem a a2 = h.idMem a a2 := rfl
@[simp] theorem Hub.updCool_adcCh (h : Hub) (n : Nat) (f : CoolCh → CoolCh) (a : Nat) : (h.updCool n f).adcCh a = h.adcCh a := rfl
@[simp] theorem Hub.updCool_dts (h : Hub) (n : Nat) (f : CoolCh → CoolCh) (a : Nat) : (h.updCool n f).dts a = h.dts a := rfl
@[simp] theorem Hub.updRope_reg (h : Hub) (n : Nat) (f : Rope → Rope) (a : Nat) : (h.updRope n f).reg a = h.reg a := rfl
@[simp] theorem Hub.updRope_fld (h : Hub) (n : Nat) (f : Rope → Rope) (a i2 j2 : Nat) : (h.updRope n f).fld a i2 j2 = h.fld a i2 j2 := rfl
@[simp] theorem Hub.updRope_bitAt (h : Hub) (n : Nat) (f : Rope → Rope) (a i2 : Nat) : (h.updRope n f).bitAt a i2 = h.bitAt a i2 := rfl
@[simp] theorem Hub.updRope_ctr (h : Hub) (n : Nat) (f : Rope → Rope) (a : Nat) : (h.updRope n f).ctr a = h.ctr a := rfl
@[simp] theorem Hub.updRope_port (h : Hub) (n : Nat) (f : Rope → Rope) (a : Nat) : (h.updRope n f).port a = h.port a := rfl
@[simp] theorem Hub.updRope_hsCh (h : Hub) (n : Nat) (f : Rope → Rope) (a : Nat) : (h.updRope n f).hsCh a = h.hsCh a := rfl
@[simp] theorem Hub.updRope_hod (h : Hub) (n : Nat) (f : Rope → Rope) (a : Nat) : (h.updRope n f).hod a = h.hod a := rfl
@[simp] theorem Hub.updRope_acc (h : Hub) (n : Nat) (f : Rope → Rope) (a : Nat) : (h.updRope n f).acc a = h.acc a := rfl
@[simp] theorem Hub.updRope_push (h : Hub) (n : Nat) (f : Rope → Rope) (a : Nat) : (h.updRope n f).push a = h.push a := rfl
@[simp] theorem Hub.updRope_stream (h : Hub) (n : Nat) (f : Rope → Rope) (a : Nat) : (h.updRope n f).stream a = h.stream a := rfl
@[simp] theorem Hub.updRope_tileAt (h : Hub) (n : Nat) (f : Rope → Rope) (a : Nat) : (h.updRope n f).tileAt a = h.tileAt a := rfl
@[simp] theorem Hub.updRope_pte (h : Hub) (n : Nat) (f : Rope → Rope) (a : Nat) : (h.updRope n f).pte a = h.pte a := rfl
@[simp] theorem Hub.updRope_idMem (h : Hub) (n : Nat) (f : Rope → Rope) (a a2 : Nat) : (h.updRope n f).idMem a a2 = h.idMem a a2 := rfl
@[simp] theorem Hub.updRope_adcCh (h : Hub) (n : Nat) (f : Rope → Rope) (a : Nat) : (h.updRope n f).adcCh a = h.adcCh a := rfl
@[simp] theorem Hub.updRope_dts (h : Hub) (n : Nat) (f : Rope → Rope) (a : Nat) : (h.updRope n f).dts a = h.dts a := rfl
@[simp] theorem Hub.updAdc_reg (h : Hub) (n : Nat) (f : AdcCh → AdcCh) (a : Nat) : (h.updAdc n f).reg a = h.reg a := rfl
@[simp] theorem Hub.updAdc_fld (h : Hub) (n : Nat) (f : AdcCh → AdcCh) (a i2 j2 : Nat) : (h.updAdc n f).fld a i2 j2 = h.fld a i2 j2 := rfl
@[simp] theorem Hub.updAdc_bitAt (h : Hub) (n : Nat) (f : AdcCh → AdcCh) (a i2 : Nat) : (h.updAdc n f).bitAt a i2 = h.bitAt a i2 := rfl
@[simp] theorem Hub.updAdc_ctr (h : Hub) (n : Nat) (f : AdcCh → AdcCh) (a : Nat) : (h.updAdc n f).ctr a = h.ctr a := rfl
@[simp] theorem Hub.updAdc_port (h : Hub) (n : Nat) (f : AdcCh → AdcCh) (a : Nat) : (h.updAdc n f).port a = h.port a := rfl
@[simp] theorem Hub.updAdc_hsCh (h : Hub) (n : Nat) (f : AdcCh → AdcCh) (a : Nat) : (h.updAdc n f).hsCh a = h.hsCh a := rfl
@[simp] theorem Hub.updAdc_hod (h : Hub) (n : Nat) (f : AdcCh → AdcCh) (a : Nat) : (h.updAdc n f).hod a = h.hod a := rfl
@[simp] theorem Hub.updAdc_acc (h : Hub) (n : Nat) (f : AdcCh → AdcCh) (a : Nat) : (h.updAdc n f).acc a = h.acc a := rfl
@[simp] theorem Hub.updAdc_push (h : Hub) (n : Nat) (f : AdcCh → AdcCh) (a : Nat) : (h.updAdc n f).push a = h.push a := rfl
@[simp] theorem Hub.updAdc_stream (h : Hub) (n : Nat) (f : AdcCh → AdcCh) (a : Nat) : (h.updAdc n f).stream a = h.stream a := rfl
@[simp] theorem Hub.updAdc_tileAt (h : Hub) (n : Nat) (f : AdcCh → AdcCh) (a : Nat) : (h.updAdc n f).tileAt a = h.tileAt a := rfl
@[simp] theorem Hub.updAdc_pte (h : Hub) (n : Nat) (f : AdcCh → AdcCh) (a : Nat) : (h.updAdc n f).pte a = h.pte a := rfl
@[simp] theorem Hub.updAdc_rope (h : Hub) (n : Nat) (f : AdcCh → AdcCh) (a : Nat) : (h.updAdc n f).rope a = h.rope a := rfl
@[simp] theorem Hub.updAdc_zone (h : Hub) (n : Nat) (f : AdcCh → AdcCh) (a : Nat) : (h.updAdc n f).zone a = h.zone a := rfl
@[simp] theorem Hub.updAdc_coolCh (h : Hub) (n : Nat) (f : AdcCh → AdcCh) (a : Nat) : (h.updAdc n f).coolCh a = h.coolCh a := rfl
@[simp] theorem Hub.updAdc_idMem (h : Hub) (n : Nat) (f : AdcCh → AdcCh) (a a2 : Nat) : (h.updAdc n f).idMem a a2 = h.idMem a a2 := rfl
@[simp] theorem Hub.updDts_reg (h : Hub) (n : Nat) (f : Dts → Dts) (a : Nat) : (h.updDts n f).reg a = h.reg a := rfl
@[simp] theorem Hub.updDts_fld (h : Hub) (n : Nat) (f : Dts → Dts) (a i2 j2 : Nat) : (h.updDts n f).fld a i2 j2 = h.fld a i2 j2 := rfl
@[simp] theorem Hub.updDts_bitAt (h : Hub) (n : Nat) (f : Dts → Dts) (a i2 : Nat) : (h.updDts n f).bitAt a i2 = h.bitAt a i2 := rfl
@[simp] theorem Hub.updDts_ctr (h : Hub) (n : Nat) (f : Dts → Dts) (a : Nat) : (h.updDts n f).ctr a = h.ctr a := rfl
@[simp] theorem Hub.updDts_port (h : Hub) (n : Nat) (f : Dts → Dts) (a : Nat) : (h.updDts n f).port a = h.port a := rfl
@[simp] theorem Hub.updDts_hsCh (h : Hub) (n : Nat) (f : Dts → Dts) (a : Nat) : (h.updDts n f).hsCh a = h.hsCh a := rfl
@[simp] theorem Hub.updDts_hod (h : Hub) (n : Nat) (f : Dts → Dts) (a : Nat) : (h.updDts n f).hod a = h.hod a := rfl
@[simp] theorem Hub.updDts_acc (h : Hub) (n : Nat) (f : Dts → Dts) (a : Nat) : (h.updDts n f).acc a = h.acc a := rfl
@[simp] theorem Hub.updDts_push (h : Hub) (n : Nat) (f : Dts → Dts) (a : Nat) : (h.updDts n f).push a = h.push a := rfl
@[simp] theorem Hub.updDts_stream (h : Hub) (n : Nat) (f : Dts → Dts) (a : Nat) : (h.updDts n f).stream a = h.stream a := rfl
@[simp] theorem Hub.updDts_tileAt (h : Hub) (n : Nat) (f : Dts → Dts) (a : Nat) : (h.updDts n f).tileAt a = h.tileAt a := rfl
@[simp] theorem Hub.updDts_pte (h : Hub) (n : Nat) (f : Dts → Dts) (a : Nat) : (h.updDts n f).pte a = h.pte a := rfl
@[simp] theorem Hub.updDts_rope (h : Hub) (n : Nat) (f : Dts → Dts) (a : Nat) : (h.updDts n f).rope a = h.rope a := rfl
@[simp] theorem Hub.updDts_zone (h : Hub) (n : Nat) (f : Dts → Dts) (a : Nat) : (h.updDts n f).zone a = h.zone a := rfl
@[simp] theorem Hub.updDts_coolCh (h : Hub) (n : Nat) (f : Dts → Dts) (a : Nat) : (h.updDts n f).coolCh a = h.coolCh a := rfl
@[simp] theorem Hub.updDts_idMem (h : Hub) (n : Nat) (f : Dts → Dts) (a a2 : Nat) : (h.updDts n f).idMem a a2 = h.idMem a a2 := rfl
@[simp] theorem Hub.updPm_reg (h : Hub) (n : Nat) (f : Pmon → Pmon) (a : Nat) : (h.updPm n f).reg a = h.reg a := rfl
@[simp] theorem Hub.updPm_fld (h : Hub) (n : Nat) (f : Pmon → Pmon) (a i2 j2 : Nat) : (h.updPm n f).fld a i2 j2 = h.fld a i2 j2 := rfl
@[simp] theorem Hub.updPm_bitAt (h : Hub) (n : Nat) (f : Pmon → Pmon) (a i2 : Nat) : (h.updPm n f).bitAt a i2 = h.bitAt a i2 := rfl
@[simp] theorem Hub.updPm_ctr (h : Hub) (n : Nat) (f : Pmon → Pmon) (a : Nat) : (h.updPm n f).ctr a = h.ctr a := rfl
@[simp] theorem Hub.updPm_port (h : Hub) (n : Nat) (f : Pmon → Pmon) (a : Nat) : (h.updPm n f).port a = h.port a := rfl
@[simp] theorem Hub.updPm_hsCh (h : Hub) (n : Nat) (f : Pmon → Pmon) (a : Nat) : (h.updPm n f).hsCh a = h.hsCh a := rfl
@[simp] theorem Hub.updPm_hod (h : Hub) (n : Nat) (f : Pmon → Pmon) (a : Nat) : (h.updPm n f).hod a = h.hod a := rfl
@[simp] theorem Hub.updPm_acc (h : Hub) (n : Nat) (f : Pmon → Pmon) (a : Nat) : (h.updPm n f).acc a = h.acc a := rfl
@[simp] theorem Hub.updPm_push (h : Hub) (n : Nat) (f : Pmon → Pmon) (a : Nat) : (h.updPm n f).push a = h.push a := rfl
@[simp] theorem Hub.updPm_stream (h : Hub) (n : Nat) (f : Pmon → Pmon) (a : Nat) : (h.updPm n f).stream a = h.stream a := rfl
@[simp] theorem Hub.updPm_tileAt (h : Hub) (n : Nat) (f : Pmon → Pmon) (a : Nat) : (h.updPm n f).tileAt a = h.tileAt a := rfl
@[simp] theorem Hub.updPm_pte (h : Hub) (n : Nat) (f : Pmon → Pmon) (a : Nat) : (h.updPm n f).pte a = h.pte a := rfl
@[simp] theorem Hub.updPm_rope (h : Hub) (n : Nat) (f : Pmon → Pmon) (a : Nat) : (h.updPm n f).rope a = h.rope a := rfl
@[simp] theorem Hub.updPm_zone (h : Hub) (n : Nat) (f : Pmon → Pmon) (a : Nat) : (h.updPm n f).zone a = h.zone a := rfl
@[simp] theorem Hub.updPm_coolCh (h : Hub) (n : Nat) (f : Pmon → Pmon) (a : Nat) : (h.updPm n f).coolCh a = h.coolCh a := rfl
@[simp] theorem Hub.updPm_idMem (h : Hub) (n : Nat) (f : Pmon → Pmon) (a a2 : Nat) : (h.updPm n f).idMem a a2 = h.idMem a a2 := rfl
@[simp] theorem Hub.updFw_reg (h : Hub) (f : Fw → Fw) (a : Nat) : (h.updFw f).reg a = h.reg a := rfl
@[simp] theorem Hub.updFw_fld (h : Hub) (f : Fw → Fw) (a i2 j2 : Nat) : (h.updFw f).fld a i2 j2 = h.fld a i2 j2 := rfl
@[simp] theorem Hub.updFw_bitAt (h : Hub) (f : Fw → Fw) (a i2 : Nat) : (h.updFw f).bitAt a i2 = h.bitAt a i2 := rfl
@[simp] theorem Hub.updFw_ctr (h : Hub) (f : Fw → Fw) (a : Nat) : (h.updFw f).ctr a = h.ctr a := rfl
@[simp] theorem Hub.updFw_port (h : Hub) (f : Fw → Fw) (a : Nat) : (h.updFw f).port a = h.port a := rfl
@[simp] theorem Hub.updFw_hsCh (h : Hub) (f : Fw → Fw) (a : Nat) : (h.updFw f).hsCh a = h.hsCh a := rfl
@[simp] theorem Hub.updFw_hod (h : Hub) (f : Fw → Fw) (a : Nat) : (h.updFw f).hod a = h.hod a := rfl
@[simp] theorem Hub.updFw_acc (h : Hub) (f : Fw → Fw) (a : Nat) : (h.updFw f).acc a = h.acc a := rfl
@[simp] theorem Hub.updFw_stream (h : Hub) (f : Fw → Fw) (a : Nat) : (h.updFw f).stream a = h.stream a := rfl
@[simp] theorem Hub.updFw_tileAt (h : Hub) (f : Fw → Fw) (a : Nat) : (h.updFw f).tileAt a = h.tileAt a := rfl
@[simp] theorem Hub.updFw_pte (h : Hub) (f : Fw → Fw) (a : Nat) : (h.updFw f).pte a = h.pte a := rfl
@[simp] theorem Hub.updFw_rope (h : Hub) (f : Fw → Fw) (a : Nat) : (h.updFw f).rope a = h.rope a := rfl
@[simp] theorem Hub.updFw_zone (h : Hub) (f : Fw → Fw) (a : Nat) : (h.updFw f).zone a = h.zone a := rfl
@[simp] theorem Hub.updFw_coolCh (h : Hub) (f : Fw → Fw) (a : Nat) : (h.updFw f).coolCh a = h.coolCh a := rfl
@[simp] theorem Hub.updFw_idMem (h : Hub) (f : Fw → Fw) (a a2 : Nat) : (h.updFw f).idMem a a2 = h.idMem a a2 := rfl
@[simp] theorem Hub.updFw_adcCh (h : Hub) (f : Fw → Fw) (a : Nat) : (h.updFw f).adcCh a = h.adcCh a := rfl
@[simp] theorem Hub.updFw_dts (h : Hub) (f : Fw → Fw) (a : Nat) : (h.updFw f).dts a = h.dts a := rfl
@[simp] theorem Hub.updRack_reg (h : Hub) (f : Rack → Rack) (a : Nat) : (h.updRack f).reg a = h.reg a := rfl
@[simp] theorem Hub.updRack_fld (h : Hub) (f : Rack → Rack) (a i2 j2 : Nat) : (h.updRack f).fld a i2 j2 = h.fld a i2 j2 := rfl
@[simp] theorem Hub.updRack_bitAt (h : Hub) (f : Rack → Rack) (a i2 : Nat) : (h.updRack f).bitAt a i2 = h.bitAt a i2 := rfl
@[simp] theorem Hub.updRack_ctr (h : Hub) (f : Rack → Rack) (a : Nat) : (h.updRack f).ctr a = h.ctr a := rfl
@[simp] theorem Hub.updRack_port (h : Hub) (f : Rack → Rack) (a : Nat) : (h.updRack f).port a = h.port a := rfl
@[simp] theorem Hub.updRack_hsCh (h : Hub) (f : Rack → Rack) (a : Nat) : (h.updRack f).hsCh a = h.hsCh a := rfl
@[simp] theorem Hub.updRack_hod (h : Hub) (f : Rack → Rack) (a : Nat) : (h.updRack f).hod a = h.hod a := rfl
@[simp] theorem Hub.updRack_acc (h : Hub) (f : Rack → Rack) (a : Nat) : (h.updRack f).acc a = h.acc a := rfl
@[simp] theorem Hub.updRack_push (h : Hub) (f : Rack → Rack) (a : Nat) : (h.updRack f).push a = h.push a := rfl
@[simp] theorem Hub.updRack_stream (h : Hub) (f : Rack → Rack) (a : Nat) : (h.updRack f).stream a = h.stream a := rfl
@[simp] theorem Hub.updRack_tileAt (h : Hub) (f : Rack → Rack) (a : Nat) : (h.updRack f).tileAt a = h.tileAt a := rfl
@[simp] theorem Hub.updRack_pte (h : Hub) (f : Rack → Rack) (a : Nat) : (h.updRack f).pte a = h.pte a := rfl
@[simp] theorem Hub.updRack_rope (h : Hub) (f : Rack → Rack) (a : Nat) : (h.updRack f).rope a = h.rope a := rfl
@[simp] theorem Hub.updRack_zone (h : Hub) (f : Rack → Rack) (a : Nat) : (h.updRack f).zone a = h.zone a := rfl
@[simp] theorem Hub.updRack_coolCh (h : Hub) (f : Rack → Rack) (a : Nat) : (h.updRack f).coolCh a = h.coolCh a := rfl
@[simp] theorem Hub.updRack_idMem (h : Hub) (f : Rack → Rack) (a a2 : Nat) : (h.updRack f).idMem a a2 = h.idMem a a2 := rfl
@[simp] theorem Hub.updRack_adcCh (h : Hub) (f : Rack → Rack) (a : Nat) : (h.updRack f).adcCh a = h.adcCh a := rfl
@[simp] theorem Hub.updRack_dts (h : Hub) (f : Rack → Rack) (a : Nat) : (h.updRack f).dts a = h.dts a := rfl
@[simp] theorem Hub.updEv_reg (h : Hub) (f : Evrec → Evrec) (a : Nat) : (h.updEv f).reg a = h.reg a := rfl
@[simp] theorem Hub.updEv_fld (h : Hub) (f : Evrec → Evrec) (a i2 j2 : Nat) : (h.updEv f).fld a i2 j2 = h.fld a i2 j2 := rfl
@[simp] theorem Hub.updEv_bitAt (h : Hub) (f : Evrec → Evrec) (a i2 : Nat) : (h.updEv f).bitAt a i2 = h.bitAt a i2 := rfl
@[simp] theorem Hub.updEv_ctr (h : Hub) (f : Evrec → Evrec) (a : Nat) : (h.updEv f).ctr a = h.ctr a := rfl
@[simp] theorem Hub.updEv_port (h : Hub) (f : Evrec → Evrec) (a : Nat) : (h.updEv f).port a = h.port a := rfl
@[simp] theorem Hub.updEv_hsCh (h : Hub) (f : Evrec → Evrec) (a : Nat) : (h.updEv f).hsCh a = h.hsCh a := rfl
@[simp] theorem Hub.updEv_hod (h : Hub) (f : Evrec → Evrec) (a : Nat) : (h.updEv f).hod a = h.hod a := rfl
@[simp] theorem Hub.updEv_acc (h : Hub) (f : Evrec → Evrec) (a : Nat) : (h.updEv f).acc a = h.acc a := rfl
@[simp] theorem Hub.updEv_push (h : Hub) (f : Evrec → Evrec) (a : Nat) : (h.updEv f).push a = h.push a := rfl
@[simp] theorem Hub.updEv_stream (h : Hub) (f : Evrec → Evrec) (a : Nat) : (h.updEv f).stream a = h.stream a := rfl
@[simp] theorem Hub.updEv_tileAt (h : Hub) (f : Evrec → Evrec) (a : Nat) : (h.updEv f).tileAt a = h.tileAt a := rfl
@[simp] theorem Hub.updEv_pte (h : Hub) (f : Evrec → Evrec) (a : Nat) : (h.updEv f).pte a = h.pte a := rfl
@[simp] theorem Hub.updEv_rope (h : Hub) (f : Evrec → Evrec) (a : Nat) : (h.updEv f).rope a = h.rope a := rfl
@[simp] theorem Hub.updEv_zone (h : Hub) (f : Evrec → Evrec) (a : Nat) : (h.updEv f).zone a = h.zone a := rfl
@[simp] theorem Hub.updEv_coolCh (h : Hub) (f : Evrec → Evrec) (a : Nat) : (h.updEv f).coolCh a = h.coolCh a := rfl
@[simp] theorem Hub.updEv_idMem (h : Hub) (f : Evrec → Evrec) (a a2 : Nat) : (h.updEv f).idMem a a2 = h.idMem a a2 := rfl
@[simp] theorem Hub.updEv_adcCh (h : Hub) (f : Evrec → Evrec) (a : Nat) : (h.updEv f).adcCh a = h.adcCh a := rfl
@[simp] theorem Hub.updEv_dts (h : Hub) (f : Evrec → Evrec) (a : Nat) : (h.updEv f).dts a = h.dts a := rfl
@[simp] theorem Hub.updSec_reg (h : Hub) (f : Sec → Sec) (a : Nat) : (h.updSec f).reg a = h.reg a := rfl
@[simp] theorem Hub.updSec_fld (h : Hub) (f : Sec → Sec) (a i2 j2 : Nat) : (h.updSec f).fld a i2 j2 = h.fld a i2 j2 := rfl
@[simp] theorem Hub.updSec_bitAt (h : Hub) (f : Sec → Sec) (a i2 : Nat) : (h.updSec f).bitAt a i2 = h.bitAt a i2 := rfl
@[simp] theorem Hub.updSec_ctr (h : Hub) (f : Sec → Sec) (a : Nat) : (h.updSec f).ctr a = h.ctr a := rfl
@[simp] theorem Hub.updSec_port (h : Hub) (f : Sec → Sec) (a : Nat) : (h.updSec f).port a = h.port a := rfl
@[simp] theorem Hub.updSec_hsCh (h : Hub) (f : Sec → Sec) (a : Nat) : (h.updSec f).hsCh a = h.hsCh a := rfl
@[simp] theorem Hub.updSec_hod (h : Hub) (f : Sec → Sec) (a : Nat) : (h.updSec f).hod a = h.hod a := rfl
@[simp] theorem Hub.updSec_acc (h : Hub) (f : Sec → Sec) (a : Nat) : (h.updSec f).acc a = h.acc a := rfl
@[simp] theorem Hub.updSec_push (h : Hub) (f : Sec → Sec) (a : Nat) : (h.updSec f).push a = h.push a := rfl
@[simp] theorem Hub.updSec_stream (h : Hub) (f : Sec → Sec) (a : Nat) : (h.updSec f).stream a = h.stream a := rfl
@[simp] theorem Hub.updSec_tileAt (h : Hub) (f : Sec → Sec) (a : Nat) : (h.updSec f).tileAt a = h.tileAt a := rfl
@[simp] theorem Hub.updSec_pte (h : Hub) (f : Sec → Sec) (a : Nat) : (h.updSec f).pte a = h.pte a := rfl
@[simp] theorem Hub.updSec_rope (h : Hub) (f : Sec → Sec) (a : Nat) : (h.updSec f).rope a = h.rope a := rfl
@[simp] theorem Hub.updSec_zone (h : Hub) (f : Sec → Sec) (a : Nat) : (h.updSec f).zone a = h.zone a := rfl
@[simp] theorem Hub.updSec_coolCh (h : Hub) (f : Sec → Sec) (a : Nat) : (h.updSec f).coolCh a = h.coolCh a := rfl
@[simp] theorem Hub.updSec_idMem (h : Hub) (f : Sec → Sec) (a a2 : Nat) : (h.updSec f).idMem a a2 = h.idMem a a2 := rfl
@[simp] theorem Hub.updSec_adcCh (h : Hub) (f : Sec → Sec) (a : Nat) : (h.updSec f).adcCh a = h.adcCh a := rfl
@[simp] theorem Hub.updSec_dts (h : Hub) (f : Sec → Sec) (a : Nat) : (h.updSec f).dts a = h.dts a := rfl
@[simp] theorem Hub.updBus_reg (h : Hub) (f : Bus → Bus) (a : Nat) : (h.updBus f).reg a = h.reg a := rfl
@[simp] theorem Hub.updBus_fld (h : Hub) (f : Bus → Bus) (a i2 j2 : Nat) : (h.updBus f).fld a i2 j2 = h.fld a i2 j2 := rfl
@[simp] theorem Hub.updBus_bitAt (h : Hub) (f : Bus → Bus) (a i2 : Nat) : (h.updBus f).bitAt a i2 = h.bitAt a i2 := rfl
@[simp] theorem Hub.updBus_ctr (h : Hub) (f : Bus → Bus) (a : Nat) : (h.updBus f).ctr a = h.ctr a := rfl
@[simp] theorem Hub.updBus_port (h : Hub) (f : Bus → Bus) (a : Nat) : (h.updBus f).port a = h.port a := rfl
@[simp] theorem Hub.updBus_hsCh (h : Hub) (f : Bus → Bus) (a : Nat) : (h.updBus f).hsCh a = h.hsCh a := rfl
@[simp] theorem Hub.updBus_hod (h : Hub) (f : Bus → Bus) (a : Nat) : (h.updBus f).hod a = h.hod a := rfl
@[simp] theorem Hub.updBus_acc (h : Hub) (f : Bus → Bus) (a : Nat) : (h.updBus f).acc a = h.acc a := rfl
@[simp] theorem Hub.updBus_push (h : Hub) (f : Bus → Bus) (a : Nat) : (h.updBus f).push a = h.push a := rfl
@[simp] theorem Hub.updBus_stream (h : Hub) (f : Bus → Bus) (a : Nat) : (h.updBus f).stream a = h.stream a := rfl
@[simp] theorem Hub.updBus_tileAt (h : Hub) (f : Bus → Bus) (a : Nat) : (h.updBus f).tileAt a = h.tileAt a := rfl
@[simp] theorem Hub.updBus_pte (h : Hub) (f : Bus → Bus) (a : Nat) : (h.updBus f).pte a = h.pte a := rfl
@[simp] theorem Hub.updBus_rope (h : Hub) (f : Bus → Bus) (a : Nat) : (h.updBus f).rope a = h.rope a := rfl
@[simp] theorem Hub.updBus_zone (h : Hub) (f : Bus → Bus) (a : Nat) : (h.updBus f).zone a = h.zone a := rfl
@[simp] theorem Hub.updBus_coolCh (h : Hub) (f : Bus → Bus) (a : Nat) : (h.updBus f).coolCh a = h.coolCh a := rfl
@[simp] theorem Hub.updBus_adcCh (h : Hub) (f : Bus → Bus) (a : Nat) : (h.updBus f).adcCh a = h.adcCh a := rfl
@[simp] theorem Hub.updBus_dts (h : Hub) (f : Bus → Bus) (a : Nat) : (h.updBus f).dts a = h.dts a := rfl

end Sys2Proof.Machine
end

