-- ==== Sys2Proof/Laws/Ops.lean ====
section
/-!
SUPPORT. Laws/Ops.lean: what the shared operations leave alone: events, bricks sent and refused.
-/
namespace Sys2Proof.Machine

/-- An event changes the free counter, the recorder, the counters and the interrupts, and nothing else. -/
theorem Hub.event_shape (h : Hub) (c : Nat) (pl : List Arg) (p q : Nat) :
    ∃ f e ct b, h.event c pl p q = { h with free := f, ev := e, ctrs := ct, bus := b } := by
  unfold Hub.event
  dsimp only
  (repeat' split) <;> exact ⟨_, _, _, _, rfl⟩

theorem Hub.eventOnce_shape (h : Hub) (c o : Nat) (pl : List Arg) (p q : Nat) :
    ∃ f e ct b, h.eventOnce c o pl p q = { h with free := f, ev := e, ctrs := ct, bus := b } := by
  unfold Hub.eventOnce
  split
  · exact ⟨_, _, _, _, rfl⟩
  · obtain ⟨_, _, _, _, e⟩ := Hub.event_shape { h with ev := { h.ev with once := (c, o) :: h.ev.once } } c pl p q
    exact ⟨_, _, _, _, e⟩

@[simp] theorem Hub.event_regs (h : Hub) (c : Nat) (pl : List Arg) (p q : Nat) : (h.event c pl p q).regs = h.regs := by
  obtain ⟨_, _, _, _, e⟩ := h.event_shape c pl p q; rw [e]
@[simp] theorem Hub.event_up (h : Hub) (c : Nat) (pl : List Arg) (p q : Nat) : (h.event c pl p q).up = h.up := by
  obtain ⟨_, _, _, _, e⟩ := h.event_shape c pl p q; rw [e]
@[simp] theorem Hub.event_crs (h : Hub) (c : Nat) (pl : List Arg) (p q : Nat) : (h.event c pl p q).crs = h.crs := by
  obtain ⟨_, _, _, _, e⟩ := h.event_shape c pl p q; rw [e]
@[simp] theorem Hub.event_hods (h : Hub) (c : Nat) (pl : List Arg) (p q : Nat) : (h.event c pl p q).hods = h.hods := by
  obtain ⟨_, _, _, _, e⟩ := h.event_shape c pl p q; rw [e]
@[simp] theorem Hub.event_rb (h : Hub) (c : Nat) (pl : List Arg) (p q : Nat) : (h.event c pl p q).rb = h.rb := by
  obtain ⟨_, _, _, _, e⟩ := h.event_shape c pl p q; rw [e]
@[simp] theorem Hub.event_fab (h : Hub) (c : Nat) (pl : List Arg) (p q : Nat) : (h.event c pl p q).fab = h.fab := by
  obtain ⟨_, _, _, _, e⟩ := h.event_shape c pl p q; rw [e]
@[simp] theorem Hub.event_tile (h : Hub) (c : Nat) (pl : List Arg) (p q : Nat) : (h.event c pl p q).tile = h.tile := by
  obtain ⟨_, _, _, _, e⟩ := h.event_shape c pl p q; rw [e]
@[simp] theorem Hub.event_mortar (h : Hub) (c : Nat) (pl : List Arg) (p q : Nat) : (h.event c pl p q).mortar = h.mortar := by
  obtain ⟨_, _, _, _, e⟩ := h.event_shape c pl p q; rw [e]
@[simp] theorem Hub.event_smp (h : Hub) (c : Nat) (pl : List Arg) (p q : Nat) : (h.event c pl p q).smp = h.smp := by
  obtain ⟨_, _, _, _, e⟩ := h.event_shape c pl p q; rw [e]
@[simp] theorem Hub.event_str (h : Hub) (c : Nat) (pl : List Arg) (p q : Nat) : (h.event c pl p q).str = h.str := by
  obtain ⟨_, _, _, _, e⟩ := h.event_shape c pl p q; rw [e]
@[simp] theorem Hub.event_sync (h : Hub) (c : Nat) (pl : List Arg) (p q : Nat) : (h.event c pl p q).sync = h.sync := by
  obtain ⟨_, _, _, _, e⟩ := h.event_shape c pl p q; rw [e]
@[simp] theorem Hub.event_hs (h : Hub) (c : Nat) (pl : List Arg) (p q : Nat) : (h.event c pl p q).hs = h.hs := by
  obtain ⟨_, _, _, _, e⟩ := h.event_shape c pl p q; rw [e]
@[simp] theorem Hub.event_cool (h : Hub) (c : Nat) (pl : List Arg) (p q : Nat) : (h.event c pl p q).cool = h.cool := by
  obtain ⟨_, _, _, _, e⟩ := h.event_shape c pl p q; rw [e]
@[simp] theorem Hub.event_sense (h : Hub) (c : Nat) (pl : List Arg) (p q : Nat) : (h.event c pl p q).sense = h.sense := by
  obtain ⟨_, _, _, _, e⟩ := h.event_shape c pl p q; rw [e]
@[simp] theorem Hub.event_gov (h : Hub) (c : Nat) (pl : List Arg) (p q : Nat) : (h.event c pl p q).gov = h.gov := by
  obtain ⟨_, _, _, _, e⟩ := h.event_shape c pl p q; rw [e]
@[simp] theorem Hub.event_rack (h : Hub) (c : Nat) (pl : List Arg) (p q : Nat) : (h.event c pl p q).rack = h.rack := by
  obtain ⟨_, _, _, _, e⟩ := h.event_shape c pl p q; rw [e]
@[simp] theorem Hub.event_fw (h : Hub) (c : Nat) (pl : List Arg) (p q : Nat) : (h.event c pl p q).fw = h.fw := by
  obtain ⟨_, _, _, _, e⟩ := h.event_shape c pl p q; rw [e]
@[simp] theorem Hub.event_sec (h : Hub) (c : Nat) (pl : List Arg) (p q : Nat) : (h.event c pl p q).sec = h.sec := by
  obtain ⟨_, _, _, _, e⟩ := h.event_shape c pl p q; rw [e]
@[simp] theorem Hub.event_safety (h : Hub) (c : Nat) (pl : List Arg) (p q : Nat) : (h.event c pl p q).safety = h.safety := by
  obtain ⟨_, _, _, _, e⟩ := h.event_shape c pl p q; rw [e]
@[simp] theorem Hub.event_therm (h : Hub) (c : Nat) (pl : List Arg) (p q : Nat) : (h.event c pl p q).therm = h.therm := by
  obtain ⟨_, _, _, _, e⟩ := h.event_shape c pl p q; rw [e]
@[simp] theorem Hub.event_reg (h : Hub) (c : Nat) (pl : List Arg) (p q : Nat) (a : Nat) : (h.event c pl p q).reg a = h.reg a :=
  Hub.reg_congr (Hub.event_regs ..) a
@[simp] theorem Hub.event_fld (h : Hub) (c : Nat) (pl : List Arg) (p q : Nat) (a i2 j2 : Nat) : (h.event c pl p q).fld a i2 j2 = h.fld a i2 j2 :=
  Hub.fld_congr (Hub.event_regs ..) a i2 j2
@[simp] theorem Hub.event_bitAt (h : Hub) (c : Nat) (pl : List Arg) (p q : Nat) (a i2 : Nat) : (h.event c pl p q).bitAt a i2 = h.bitAt a i2 :=
  Hub.bitAt_congr (Hub.event_regs ..) a i2
@[simp] theorem Hub.event_port (h : Hub) (c : Nat) (pl : List Arg) (p q : Nat) (a : Nat) : (h.event c pl p q).port a = h.port a :=
  Hub.port_congr (Hub.event_fab ..) a
@[simp] theorem Hub.event_hsCh (h : Hub) (c : Nat) (pl : List Arg) (p q : Nat) (a : Nat) : (h.event c pl p q).hsCh a = h.hsCh a :=
  Hub.hsCh_congr (Hub.event_hs ..) a
@[simp] theorem Hub.event_hod (h : Hub) (c : Nat) (pl : List Arg) (p q : Nat) (a : Nat) : (h.event c pl p q).hod a = h.hod a :=
  Hub.hod_congr (Hub.event_hods ..) a
@[simp] theorem Hub.event_acc (h : Hub) (c : Nat) (pl : List Arg) (p q : Nat) (a : Nat) : (h.event c pl p q).acc a = h.acc a :=
  Hub.acc_congr (Hub.event_gov ..) a
@[simp] theorem Hub.event_push (h : Hub) (c : Nat) (pl : List Arg) (p q : Nat) (a : Nat) : (h.event c pl p q).push a = h.push a :=
  Hub.push_congr (Hub.event_fw ..) a
@[simp] theorem Hub.event_stream (h : Hub) (c : Nat) (pl : List Arg) (p q : Nat) (a : Nat) : (h.event c pl p q).stream a = h.stream a :=
  Hub.stream_congr (Hub.event_str ..) a
@[simp] theorem Hub.event_tileAt (h : Hub) (c : Nat) (pl : List Arg) (p q : Nat) (a : Nat) : (h.event c pl p q).tileAt a = h.tileAt a :=
  Hub.tileAt_congr (Hub.event_tile ..) a
@[simp] theorem Hub.event_pte (h : Hub) (c : Nat) (pl : List Arg) (p q : Nat) (a : Nat) : (h.event c pl p q).pte a = h.pte a :=
  Hub.pte_congr (Hub.event_tile ..) a
@[simp] theorem Hub.event_rope (h : Hub) (c : Nat) (pl : List Arg) (p q : Nat) (a : Nat) : (h.event c pl p q).rope a = h.rope a :=
  Hub.rope_congr (Hub.event_cool ..) a
@[simp] theorem Hub.event_zone (h : Hub) (c : Nat) (pl : List Arg) (p q : Nat) (a : Nat) : (h.event c pl p q).zone a = h.zone a :=
  Hub.zone_congr (Hub.event_cool ..) a
@[simp] theorem Hub.event_coolCh (h : Hub) (c : Nat) (pl : List Arg) (p q : Nat) (a : Nat) : (h.event c pl p q).coolCh a = h.coolCh a :=
  Hub.coolCh_congr (Hub.event_cool ..) a
@[simp] theorem Hub.event_adcCh (h : Hub) (c : Nat) (pl : List Arg) (p q : Nat) (a : Nat) : (h.event c pl p q).adcCh a = h.adcCh a :=
  Hub.adcCh_congr (Hub.event_sense ..) a
@[simp] theorem Hub.event_dts (h : Hub) (c : Nat) (pl : List Arg) (p q : Nat) (a : Nat) : (h.event c pl p q).dts a = h.dts a :=
  Hub.dts_congr (Hub.event_sense ..) a
@[simp] theorem Hub.eventOnce_regs (h : Hub) (c o : Nat) (pl : List Arg) (p q : Nat) : (h.eventOnce c o pl p q).regs = h.regs := by
  obtain ⟨_, _, _, _, e⟩ := h.eventOnce_shape c o pl p q; rw [e]
@[simp] theorem Hub.eventOnce_up (h : Hub) (c o : Nat) (pl : List Arg) (p q : Nat) : (h.eventOnce c o pl p q).up = h.up := by
  obtain ⟨_, _, _, _, e⟩ := h.eventOnce_shape c o pl p q; rw [e]
@[simp] theorem Hub.eventOnce_crs (h : Hub) (c o : Nat) (pl : List Arg) (p q : Nat) : (h.eventOnce c o pl p q).crs = h.crs := by
  obtain ⟨_, _, _, _, e⟩ := h.eventOnce_shape c o pl p q; rw [e]
@[simp] theorem Hub.eventOnce_hods (h : Hub) (c o : Nat) (pl : List Arg) (p q : Nat) : (h.eventOnce c o pl p q).hods = h.hods := by
  obtain ⟨_, _, _, _, e⟩ := h.eventOnce_shape c o pl p q; rw [e]
@[simp] theorem Hub.eventOnce_rb (h : Hub) (c o : Nat) (pl : List Arg) (p q : Nat) : (h.eventOnce c o pl p q).rb = h.rb := by
  obtain ⟨_, _, _, _, e⟩ := h.eventOnce_shape c o pl p q; rw [e]
@[simp] theorem Hub.eventOnce_fab (h : Hub) (c o : Nat) (pl : List Arg) (p q : Nat) : (h.eventOnce c o pl p q).fab = h.fab := by
  obtain ⟨_, _, _, _, e⟩ := h.eventOnce_shape c o pl p q; rw [e]
@[simp] theorem Hub.eventOnce_tile (h : Hub) (c o : Nat) (pl : List Arg) (p q : Nat) : (h.eventOnce c o pl p q).tile = h.tile := by
  obtain ⟨_, _, _, _, e⟩ := h.eventOnce_shape c o pl p q; rw [e]
@[simp] theorem Hub.eventOnce_mortar (h : Hub) (c o : Nat) (pl : List Arg) (p q : Nat) : (h.eventOnce c o pl p q).mortar = h.mortar := by
  obtain ⟨_, _, _, _, e⟩ := h.eventOnce_shape c o pl p q; rw [e]
@[simp] theorem Hub.eventOnce_smp (h : Hub) (c o : Nat) (pl : List Arg) (p q : Nat) : (h.eventOnce c o pl p q).smp = h.smp := by
  obtain ⟨_, _, _, _, e⟩ := h.eventOnce_shape c o pl p q; rw [e]
@[simp] theorem Hub.eventOnce_str (h : Hub) (c o : Nat) (pl : List Arg) (p q : Nat) : (h.eventOnce c o pl p q).str = h.str := by
  obtain ⟨_, _, _, _, e⟩ := h.eventOnce_shape c o pl p q; rw [e]
@[simp] theorem Hub.eventOnce_sync (h : Hub) (c o : Nat) (pl : List Arg) (p q : Nat) : (h.eventOnce c o pl p q).sync = h.sync := by
  obtain ⟨_, _, _, _, e⟩ := h.eventOnce_shape c o pl p q; rw [e]
@[simp] theorem Hub.eventOnce_hs (h : Hub) (c o : Nat) (pl : List Arg) (p q : Nat) : (h.eventOnce c o pl p q).hs = h.hs := by
  obtain ⟨_, _, _, _, e⟩ := h.eventOnce_shape c o pl p q; rw [e]
@[simp] theorem Hub.eventOnce_cool (h : Hub) (c o : Nat) (pl : List Arg) (p q : Nat) : (h.eventOnce c o pl p q).cool = h.cool := by
  obtain ⟨_, _, _, _, e⟩ := h.eventOnce_shape c o pl p q; rw [e]
@[simp] theorem Hub.eventOnce_sense (h : Hub) (c o : Nat) (pl : List Arg) (p q : Nat) : (h.eventOnce c o pl p q).sense = h.sense := by
  obtain ⟨_, _, _, _, e⟩ := h.eventOnce_shape c o pl p q; rw [e]
@[simp] theorem Hub.eventOnce_gov (h : Hub) (c o : Nat) (pl : List Arg) (p q : Nat) : (h.eventOnce c o pl p q).gov = h.gov := by
  obtain ⟨_, _, _, _, e⟩ := h.eventOnce_shape c o pl p q; rw [e]
@[simp] theorem Hub.eventOnce_rack (h : Hub) (c o : Nat) (pl : List Arg) (p q : Nat) : (h.eventOnce c o pl p q).rack = h.rack := by
  obtain ⟨_, _, _, _, e⟩ := h.eventOnce_shape c o pl p q; rw [e]
@[simp] theorem Hub.eventOnce_fw (h : Hub) (c o : Nat) (pl : List Arg) (p q : Nat) : (h.eventOnce c o pl p q).fw = h.fw := by
  obtain ⟨_, _, _, _, e⟩ := h.eventOnce_shape c o pl p q; rw [e]
@[simp] theorem Hub.eventOnce_sec (h : Hub) (c o : Nat) (pl : List Arg) (p q : Nat) : (h.eventOnce c o pl p q).sec = h.sec := by
  obtain ⟨_, _, _, _, e⟩ := h.eventOnce_shape c o pl p q; rw [e]
@[simp] theorem Hub.eventOnce_safety (h : Hub) (c o : Nat) (pl : List Arg) (p q : Nat) : (h.eventOnce c o pl p q).safety = h.safety := by
  obtain ⟨_, _, _, _, e⟩ := h.eventOnce_shape c o pl p q; rw [e]
@[simp] theorem Hub.eventOnce_therm (h : Hub) (c o : Nat) (pl : List Arg) (p q : Nat) : (h.eventOnce c o pl p q).therm = h.therm := by
  obtain ⟨_, _, _, _, e⟩ := h.eventOnce_shape c o pl p q; rw [e]
@[simp] theorem Hub.eventOnce_reg (h : Hub) (c o : Nat) (pl : List Arg) (p q : Nat) (a : Nat) : (h.eventOnce c o pl p q).reg a = h.reg a :=
  Hub.reg_congr (Hub.eventOnce_regs ..) a
@[simp] theorem Hub.eventOnce_fld (h : Hub) (c o : Nat) (pl : List Arg) (p q : Nat) (a i2 j2 : Nat) : (h.eventOnce c o pl p q).fld a i2 j2 = h.fld a i2 j2 :=
  Hub.fld_congr (Hub.eventOnce_regs ..) a i2 j2
@[simp] theorem Hub.eventOnce_bitAt (h : Hub) (c o : Nat) (pl : List Arg) (p q : Nat) (a i2 : Nat) : (h.eventOnce c o pl p q).bitAt a i2 = h.bitAt a i2 :=
  Hub.bitAt_congr (Hub.eventOnce_regs ..) a i2
@[simp] theorem Hub.eventOnce_port (h : Hub) (c o : Nat) (pl : List Arg) (p q : Nat) (a : Nat) : (h.eventOnce c o pl p q).port a = h.port a :=
  Hub.port_congr (Hub.eventOnce_fab ..) a
@[simp] theorem Hub.eventOnce_hsCh (h : Hub) (c o : Nat) (pl : List Arg) (p q : Nat) (a : Nat) : (h.eventOnce c o pl p q).hsCh a = h.hsCh a :=
  Hub.hsCh_congr (Hub.eventOnce_hs ..) a
@[simp] theorem Hub.eventOnce_hod (h : Hub) (c o : Nat) (pl : List Arg) (p q : Nat) (a : Nat) : (h.eventOnce c o pl p q).hod a = h.hod a :=
  Hub.hod_congr (Hub.eventOnce_hods ..) a
@[simp] theorem Hub.eventOnce_acc (h : Hub) (c o : Nat) (pl : List Arg) (p q : Nat) (a : Nat) : (h.eventOnce c o pl p q).acc a = h.acc a :=
  Hub.acc_congr (Hub.eventOnce_gov ..) a
@[simp] theorem Hub.eventOnce_push (h : Hub) (c o : Nat) (pl : List Arg) (p q : Nat) (a : Nat) : (h.eventOnce c o pl p q).push a = h.push a :=
  Hub.push_congr (Hub.eventOnce_fw ..) a
@[simp] theorem Hub.eventOnce_stream (h : Hub) (c o : Nat) (pl : List Arg) (p q : Nat) (a : Nat) : (h.eventOnce c o pl p q).stream a = h.stream a :=
  Hub.stream_congr (Hub.eventOnce_str ..) a
@[simp] theorem Hub.eventOnce_tileAt (h : Hub) (c o : Nat) (pl : List Arg) (p q : Nat) (a : Nat) : (h.eventOnce c o pl p q).tileAt a = h.tileAt a :=
  Hub.tileAt_congr (Hub.eventOnce_tile ..) a
@[simp] theorem Hub.eventOnce_pte (h : Hub) (c o : Nat) (pl : List Arg) (p q : Nat) (a : Nat) : (h.eventOnce c o pl p q).pte a = h.pte a :=
  Hub.pte_congr (Hub.eventOnce_tile ..) a
@[simp] theorem Hub.eventOnce_rope (h : Hub) (c o : Nat) (pl : List Arg) (p q : Nat) (a : Nat) : (h.eventOnce c o pl p q).rope a = h.rope a :=
  Hub.rope_congr (Hub.eventOnce_cool ..) a
@[simp] theorem Hub.eventOnce_zone (h : Hub) (c o : Nat) (pl : List Arg) (p q : Nat) (a : Nat) : (h.eventOnce c o pl p q).zone a = h.zone a :=
  Hub.zone_congr (Hub.eventOnce_cool ..) a
@[simp] theorem Hub.eventOnce_coolCh (h : Hub) (c o : Nat) (pl : List Arg) (p q : Nat) (a : Nat) : (h.eventOnce c o pl p q).coolCh a = h.coolCh a :=
  Hub.coolCh_congr (Hub.eventOnce_cool ..) a
@[simp] theorem Hub.eventOnce_adcCh (h : Hub) (c o : Nat) (pl : List Arg) (p q : Nat) (a : Nat) : (h.eventOnce c o pl p q).adcCh a = h.adcCh a :=
  Hub.adcCh_congr (Hub.eventOnce_sense ..) a
@[simp] theorem Hub.eventOnce_dts (h : Hub) (c o : Nat) (pl : List Arg) (p q : Nat) (a : Nat) : (h.eventOnce c o pl p q).dts a = h.dts a :=
  Hub.dts_congr (Hub.eventOnce_sense ..) a
@[simp] theorem Hub.flagIf_ctrs (h : Hub) (c : Bool) (r i : Nat) : (h.flagIf c r i).ctrs = h.ctrs := by
  unfold Hub.flagIf; split <;> simp
@[simp] theorem Hub.flagIf_free (h : Hub) (c : Bool) (r i : Nat) : (h.flagIf c r i).free = h.free := by
  unfold Hub.flagIf; split <;> simp
@[simp] theorem Hub.flagIf_up (h : Hub) (c : Bool) (r i : Nat) : (h.flagIf c r i).up = h.up := by
  unfold Hub.flagIf; split <;> simp
@[simp] theorem Hub.flagIf_crs (h : Hub) (c : Bool) (r i : Nat) : (h.flagIf c r i).crs = h.crs := by
  unfold Hub.flagIf; split <;> simp
@[simp] theorem Hub.flagIf_ev (h : Hub) (c : Bool) (r i : Nat) : (h.flagIf c r i).ev = h.ev := by
  unfold Hub.flagIf; split <;> simp
@[simp] theorem Hub.flagIf_hods (h : Hub) (c : Bool) (r i : Nat) : (h.flagIf c r i).hods = h.hods := by
  unfold Hub.flagIf; split <;> simp
@[simp] theorem Hub.flagIf_rb (h : Hub) (c : Bool) (r i : Nat) : (h.flagIf c r i).rb = h.rb := by
  unfold Hub.flagIf; split <;> simp
@[simp] theorem Hub.flagIf_fab (h : Hub) (c : Bool) (r i : Nat) : (h.flagIf c r i).fab = h.fab := by
  unfold Hub.flagIf; split <;> simp
@[simp] theorem Hub.flagIf_tile (h : Hub) (c : Bool) (r i : Nat) : (h.flagIf c r i).tile = h.tile := by
  unfold Hub.flagIf; split <;> simp
@[simp] theorem Hub.flagIf_mortar (h : Hub) (c : Bool) (r i : Nat) : (h.flagIf c r i).mortar = h.mortar := by
  unfold Hub.flagIf; split <;> simp
@[simp] theorem Hub.flagIf_smp (h : Hub) (c : Bool) (r i : Nat) : (h.flagIf c r i).smp = h.smp := by
  unfold Hub.flagIf; split <;> simp
@[simp] theorem Hub.flagIf_str (h : Hub) (c : Bool) (r i : Nat) : (h.flagIf c r i).str = h.str := by
  unfold Hub.flagIf; split <;> simp
@[simp] theorem Hub.flagIf_sync (h : Hub) (c : Bool) (r i : Nat) : (h.flagIf c r i).sync = h.sync := by
  unfold Hub.flagIf; split <;> simp
@[simp] theorem Hub.flagIf_hs (h : Hub) (c : Bool) (r i : Nat) : (h.flagIf c r i).hs = h.hs := by
  unfold Hub.flagIf; split <;> simp
@[simp] theorem Hub.flagIf_cool (h : Hub) (c : Bool) (r i : Nat) : (h.flagIf c r i).cool = h.cool := by
  unfold Hub.flagIf; split <;> simp
@[simp] theorem Hub.flagIf_sense (h : Hub) (c : Bool) (r i : Nat) : (h.flagIf c r i).sense = h.sense := by
  unfold Hub.flagIf; split <;> simp
@[simp] theorem Hub.flagIf_gov (h : Hub) (c : Bool) (r i : Nat) : (h.flagIf c r i).gov = h.gov := by
  unfold Hub.flagIf; split <;> simp
@[simp] theorem Hub.flagIf_bus (h : Hub) (c : Bool) (r i : Nat) : (h.flagIf c r i).bus = h.bus := by
  unfold Hub.flagIf; split <;> simp
@[simp] theorem Hub.flagIf_rack (h : Hub) (c : Bool) (r i : Nat) : (h.flagIf c r i).rack = h.rack := by
  unfold Hub.flagIf; split <;> simp
@[simp] theorem Hub.flagIf_fw (h : Hub) (c : Bool) (r i : Nat) : (h.flagIf c r i).fw = h.fw := by
  unfold Hub.flagIf; split <;> simp
@[simp] theorem Hub.flagIf_sec (h : Hub) (c : Bool) (r i : Nat) : (h.flagIf c r i).sec = h.sec := by
  unfold Hub.flagIf; split <;> simp
@[simp] theorem Hub.flagIf_safety (h : Hub) (c : Bool) (r i : Nat) : (h.flagIf c r i).safety = h.safety := by
  unfold Hub.flagIf; split <;> simp
@[simp] theorem Hub.flagIf_therm (h : Hub) (c : Bool) (r i : Nat) : (h.flagIf c r i).therm = h.therm := by
  unfold Hub.flagIf; split <;> simp
@[simp] theorem Hub.flagIf_ctr (h : Hub) (c : Bool) (r i : Nat) (a : Nat) : (h.flagIf c r i).ctr a = h.ctr a :=
  Hub.ctr_congr (Hub.flagIf_ctrs ..) a
@[simp] theorem Hub.flagIf_port (h : Hub) (c : Bool) (r i : Nat) (a : Nat) : (h.flagIf c r i).port a = h.port a :=
  Hub.port_congr (Hub.flagIf_fab ..) a
@[simp] theorem Hub.flagIf_hsCh (h : Hub) (c : Bool) (r i : Nat) (a : Nat) : (h.flagIf c r i).hsCh a = h.hsCh a :=
  Hub.hsCh_congr (Hub.flagIf_hs ..) a
@[simp] theorem Hub.flagIf_hod (h : Hub) (c : Bool) (r i : Nat) (a : Nat) : (h.flagIf c r i).hod a = h.hod a :=
  Hub.hod_congr (Hub.flagIf_hods ..) a
@[simp] theorem Hub.flagIf_acc (h : Hub) (c : Bool) (r i : Nat) (a : Nat) : (h.flagIf c r i).acc a = h.acc a :=
  Hub.acc_congr (Hub.flagIf_gov ..) a
@[simp] theorem Hub.flagIf_push (h : Hub) (c : Bool) (r i : Nat) (a : Nat) : (h.flagIf c r i).push a = h.push a :=
  Hub.push_congr (Hub.flagIf_fw ..) a
@[simp] theorem Hub.flagIf_stream (h : Hub) (c : Bool) (r i : Nat) (a : Nat) : (h.flagIf c r i).stream a = h.stream a :=
  Hub.stream_congr (Hub.flagIf_str ..) a
@[simp] theorem Hub.flagIf_tileAt (h : Hub) (c : Bool) (r i : Nat) (a : Nat) : (h.flagIf c r i).tileAt a = h.tileAt a :=
  Hub.tileAt_congr (Hub.flagIf_tile ..) a
@[simp] theorem Hub.flagIf_pte (h : Hub) (c : Bool) (r i : Nat) (a : Nat) : (h.flagIf c r i).pte a = h.pte a :=
  Hub.pte_congr (Hub.flagIf_tile ..) a
@[simp] theorem Hub.flagIf_rope (h : Hub) (c : Bool) (r i : Nat) (a : Nat) : (h.flagIf c r i).rope a = h.rope a :=
  Hub.rope_congr (Hub.flagIf_cool ..) a
@[simp] theorem Hub.flagIf_zone (h : Hub) (c : Bool) (r i : Nat) (a : Nat) : (h.flagIf c r i).zone a = h.zone a :=
  Hub.zone_congr (Hub.flagIf_cool ..) a
@[simp] theorem Hub.flagIf_coolCh (h : Hub) (c : Bool) (r i : Nat) (a : Nat) : (h.flagIf c r i).coolCh a = h.coolCh a :=
  Hub.coolCh_congr (Hub.flagIf_cool ..) a
@[simp] theorem Hub.flagIf_idMem (h : Hub) (c : Bool) (r i : Nat) (a a2 : Nat) : (h.flagIf c r i).idMem a a2 = h.idMem a a2 :=
  Hub.idMem_congr (Hub.flagIf_bus ..) a a2
@[simp] theorem Hub.flagIf_adcCh (h : Hub) (c : Bool) (r i : Nat) (a : Nat) : (h.flagIf c r i).adcCh a = h.adcCh a :=
  Hub.adcCh_congr (Hub.flagIf_sense ..) a
@[simp] theorem Hub.flagIf_dts (h : Hub) (c : Bool) (r i : Nat) (a : Nat) : (h.flagIf c r i).dts a = h.dts a :=
  Hub.dts_congr (Hub.flagIf_sense ..) a
@[simp] theorem Hub.dropAt_regs (h : Hub) (x : Nat) : (h.dropAt x).regs = h.regs := by
  simp [Hub.dropAt]
@[simp] theorem Hub.dropAt_free (h : Hub) (x : Nat) : (h.dropAt x).free = h.free := by
  simp [Hub.dropAt]
@[simp] theorem Hub.dropAt_up (h : Hub) (x : Nat) : (h.dropAt x).up = h.up := by
  simp [Hub.dropAt]
@[simp] theorem Hub.dropAt_crs (h : Hub) (x : Nat) : (h.dropAt x).crs = h.crs := by
  simp [Hub.dropAt]
@[simp] theorem Hub.dropAt_ev (h : Hub) (x : Nat) : (h.dropAt x).ev = h.ev := by
  simp [Hub.dropAt]
@[simp] theorem Hub.dropAt_hods (h : Hub) (x : Nat) : (h.dropAt x).hods = h.hods := by
  simp [Hub.dropAt]
@[simp] theorem Hub.dropAt_rb (h : Hub) (x : Nat) : (h.dropAt x).rb = h.rb := by
  simp [Hub.dropAt]
@[simp] theorem Hub.dropAt_tile (h : Hub) (x : Nat) : (h.dropAt x).tile = h.tile := by
  simp [Hub.dropAt]
@[simp] theorem Hub.dropAt_mortar (h : Hub) (x : Nat) : (h.dropAt x).mortar = h.mortar := by
  simp [Hub.dropAt]
@[simp] theorem Hub.dropAt_smp (h : Hub) (x : Nat) : (h.dropAt x).smp = h.smp := by
  simp [Hub.dropAt]
@[simp] theorem Hub.dropAt_str (h : Hub) (x : Nat) : (h.dropAt x).str = h.str := by
  simp [Hub.dropAt]
@[simp] theorem Hub.dropAt_sync (h : Hub) (x : Nat) : (h.dropAt x).sync = h.sync := by
  simp [Hub.dropAt]
@[simp] theorem Hub.dropAt_hs (h : Hub) (x : Nat) : (h.dropAt x).hs = h.hs := by
  simp [Hub.dropAt]
@[simp] theorem Hub.dropAt_cool (h : Hub) (x : Nat) : (h.dropAt x).cool = h.cool := by
  simp [Hub.dropAt]
@[simp] theorem Hub.dropAt_sense (h : Hub) (x : Nat) : (h.dropAt x).sense = h.sense := by
  simp [Hub.dropAt]
@[simp] theorem Hub.dropAt_gov (h : Hub) (x : Nat) : (h.dropAt x).gov = h.gov := by
  simp [Hub.dropAt]
@[simp] theorem Hub.dropAt_bus (h : Hub) (x : Nat) : (h.dropAt x).bus = h.bus := by
  simp [Hub.dropAt]
@[simp] theorem Hub.dropAt_rack (h : Hub) (x : Nat) : (h.dropAt x).rack = h.rack := by
  simp [Hub.dropAt]
@[simp] theorem Hub.dropAt_fw (h : Hub) (x : Nat) : (h.dropAt x).fw = h.fw := by
  simp [Hub.dropAt]
@[simp] theorem Hub.dropAt_sec (h : Hub) (x : Nat) : (h.dropAt x).sec = h.sec := by
  simp [Hub.dropAt]
@[simp] theorem Hub.dropAt_safety (h : Hub) (x : Nat) : (h.dropAt x).safety = h.safety := by
  simp [Hub.dropAt]
@[simp] theorem Hub.dropAt_therm (h : Hub) (x : Nat) : (h.dropAt x).therm = h.therm := by
  simp [Hub.dropAt]
@[simp] theorem Hub.dropAt_reg (h : Hub) (x : Nat) (a : Nat) : (h.dropAt x).reg a = h.reg a :=
  Hub.reg_congr (Hub.dropAt_regs ..) a
@[simp] theorem Hub.dropAt_fld (h : Hub) (x : Nat) (a i2 j2 : Nat) : (h.dropAt x).fld a i2 j2 = h.fld a i2 j2 :=
  Hub.fld_congr (Hub.dropAt_regs ..) a i2 j2
@[simp] theorem Hub.dropAt_bitAt (h : Hub) (x : Nat) (a i2 : Nat) : (h.dropAt x).bitAt a i2 = h.bitAt a i2 :=
  Hub.bitAt_congr (Hub.dropAt_regs ..) a i2
@[simp] theorem Hub.dropAt_hsCh (h : Hub) (x : Nat) (a : Nat) : (h.dropAt x).hsCh a = h.hsCh a :=
  Hub.hsCh_congr (Hub.dropAt_hs ..) a
@[simp] theorem Hub.dropAt_hod (h : Hub) (x : Nat) (a : Nat) : (h.dropAt x).hod a = h.hod a :=
  Hub.hod_congr (Hub.dropAt_hods ..) a
@[simp] theorem Hub.dropAt_acc (h : Hub) (x : Nat) (a : Nat) : (h.dropAt x).acc a = h.acc a :=
  Hub.acc_congr (Hub.dropAt_gov ..) a
@[simp] theorem Hub.dropAt_push (h : Hub) (x : Nat) (a : Nat) : (h.dropAt x).push a = h.push a :=
  Hub.push_congr (Hub.dropAt_fw ..) a
@[simp] theorem Hub.dropAt_stream (h : Hub) (x : Nat) (a : Nat) : (h.dropAt x).stream a = h.stream a :=
  Hub.stream_congr (Hub.dropAt_str ..) a
@[simp] theorem Hub.dropAt_tileAt (h : Hub) (x : Nat) (a : Nat) : (h.dropAt x).tileAt a = h.tileAt a :=
  Hub.tileAt_congr (Hub.dropAt_tile ..) a
@[simp] theorem Hub.dropAt_pte (h : Hub) (x : Nat) (a : Nat) : (h.dropAt x).pte a = h.pte a :=
  Hub.pte_congr (Hub.dropAt_tile ..) a
@[simp] theorem Hub.dropAt_rope (h : Hub) (x : Nat) (a : Nat) : (h.dropAt x).rope a = h.rope a :=
  Hub.rope_congr (Hub.dropAt_cool ..) a
@[simp] theorem Hub.dropAt_zone (h : Hub) (x : Nat) (a : Nat) : (h.dropAt x).zone a = h.zone a :=
  Hub.zone_congr (Hub.dropAt_cool ..) a
@[simp] theorem Hub.dropAt_coolCh (h : Hub) (x : Nat) (a : Nat) : (h.dropAt x).coolCh a = h.coolCh a :=
  Hub.coolCh_congr (Hub.dropAt_cool ..) a
@[simp] theorem Hub.dropAt_idMem (h : Hub) (x : Nat) (a a2 : Nat) : (h.dropAt x).idMem a a2 = h.idMem a a2 :=
  Hub.idMem_congr (Hub.dropAt_bus ..) a a2
@[simp] theorem Hub.dropAt_adcCh (h : Hub) (x : Nat) (a : Nat) : (h.dropAt x).adcCh a = h.adcCh a :=
  Hub.adcCh_congr (Hub.dropAt_sense ..) a
@[simp] theorem Hub.dropAt_dts (h : Hub) (x : Nat) (a : Nat) : (h.dropAt x).dts a = h.dts a :=
  Hub.dts_congr (Hub.dropAt_sense ..) a
@[simp] theorem Hub.send_regs (h : Hub) (x n : Nat) (b : Brick) : (h.send x n b).regs = h.regs := by
  unfold Hub.send; split <;> simp
@[simp] theorem Hub.send_free (h : Hub) (x n : Nat) (b : Brick) : (h.send x n b).free = h.free := by
  unfold Hub.send; split <;> simp
@[simp] theorem Hub.send_up (h : Hub) (x n : Nat) (b : Brick) : (h.send x n b).up = h.up := by
  unfold Hub.send; split <;> simp
@[simp] theorem Hub.send_crs (h : Hub) (x n : Nat) (b : Brick) : (h.send x n b).crs = h.crs := by
  unfold Hub.send; split <;> simp
@[simp] theorem Hub.send_ev (h : Hub) (x n : Nat) (b : Brick) : (h.send x n b).ev = h.ev := by
  unfold Hub.send; split <;> simp
@[simp] theorem Hub.send_hods (h : Hub) (x n : Nat) (b : Brick) : (h.send x n b).hods = h.hods := by
  unfold Hub.send; split <;> simp
@[simp] theorem Hub.send_rb (h : Hub) (x n : Nat) (b : Brick) : (h.send x n b).rb = h.rb := by
  unfold Hub.send; split <;> simp
@[simp] theorem Hub.send_tile (h : Hub) (x n : Nat) (b : Brick) : (h.send x n b).tile = h.tile := by
  unfold Hub.send; split <;> simp
@[simp] theorem Hub.send_mortar (h : Hub) (x n : Nat) (b : Brick) : (h.send x n b).mortar = h.mortar := by
  unfold Hub.send; split <;> simp
@[simp] theorem Hub.send_smp (h : Hub) (x n : Nat) (b : Brick) : (h.send x n b).smp = h.smp := by
  unfold Hub.send; split <;> simp
@[simp] theorem Hub.send_str (h : Hub) (x n : Nat) (b : Brick) : (h.send x n b).str = h.str := by
  unfold Hub.send; split <;> simp
@[simp] theorem Hub.send_sync (h : Hub) (x n : Nat) (b : Brick) : (h.send x n b).sync = h.sync := by
  unfold Hub.send; split <;> simp
@[simp] theorem Hub.send_hs (h : Hub) (x n : Nat) (b : Brick) : (h.send x n b).hs = h.hs := by
  unfold Hub.send; split <;> simp
@[simp] theorem Hub.send_cool (h : Hub) (x n : Nat) (b : Brick) : (h.send x n b).cool = h.cool := by
  unfold Hub.send; split <;> simp
@[simp] theorem Hub.send_sense (h : Hub) (x n : Nat) (b : Brick) : (h.send x n b).sense = h.sense := by
  unfold Hub.send; split <;> simp
@[simp] theorem Hub.send_gov (h : Hub) (x n : Nat) (b : Brick) : (h.send x n b).gov = h.gov := by
  unfold Hub.send; split <;> simp
@[simp] theorem Hub.send_bus (h : Hub) (x n : Nat) (b : Brick) : (h.send x n b).bus = h.bus := by
  unfold Hub.send; split <;> simp
@[simp] theorem Hub.send_rack (h : Hub) (x n : Nat) (b : Brick) : (h.send x n b).rack = h.rack := by
  unfold Hub.send; split <;> simp
@[simp] theorem Hub.send_fw (h : Hub) (x n : Nat) (b : Brick) : (h.send x n b).fw = h.fw := by
  unfold Hub.send; split <;> simp
@[simp] theorem Hub.send_sec (h : Hub) (x n : Nat) (b : Brick) : (h.send x n b).sec = h.sec := by
  unfold Hub.send; split <;> simp
@[simp] theorem Hub.send_safety (h : Hub) (x n : Nat) (b : Brick) : (h.send x n b).safety = h.safety := by
  unfold Hub.send; split <;> simp
@[simp] theorem Hub.send_therm (h : Hub) (x n : Nat) (b : Brick) : (h.send x n b).therm = h.therm := by
  unfold Hub.send; split <;> simp
@[simp] theorem Hub.send_reg (h : Hub) (x n : Nat) (b : Brick) (a : Nat) : (h.send x n b).reg a = h.reg a :=
  Hub.reg_congr (Hub.send_regs ..) a
@[simp] theorem Hub.send_fld (h : Hub) (x n : Nat) (b : Brick) (a i2 j2 : Nat) : (h.send x n b).fld a i2 j2 = h.fld a i2 j2 :=
  Hub.fld_congr (Hub.send_regs ..) a i2 j2
@[simp] theorem Hub.send_bitAt (h : Hub) (x n : Nat) (b : Brick) (a i2 : Nat) : (h.send x n b).bitAt a i2 = h.bitAt a i2 :=
  Hub.bitAt_congr (Hub.send_regs ..) a i2
@[simp] theorem Hub.send_hsCh (h : Hub) (x n : Nat) (b : Brick) (a : Nat) : (h.send x n b).hsCh a = h.hsCh a :=
  Hub.hsCh_congr (Hub.send_hs ..) a
@[simp] theorem Hub.send_hod (h : Hub) (x n : Nat) (b : Brick) (a : Nat) : (h.send x n b).hod a = h.hod a :=
  Hub.hod_congr (Hub.send_hods ..) a
@[simp] theorem Hub.send_acc (h : Hub) (x n : Nat) (b : Brick) (a : Nat) : (h.send x n b).acc a = h.acc a :=
  Hub.acc_congr (Hub.send_gov ..) a
@[simp] theorem Hub.send_push (h : Hub) (x n : Nat) (b : Brick) (a : Nat) : (h.send x n b).push a = h.push a :=
  Hub.push_congr (Hub.send_fw ..) a
@[simp] theorem Hub.send_stream (h : Hub) (x n : Nat) (b : Brick) (a : Nat) : (h.send x n b).stream a = h.stream a :=
  Hub.stream_congr (Hub.send_str ..) a
@[simp] theorem Hub.send_tileAt (h : Hub) (x n : Nat) (b : Brick) (a : Nat) : (h.send x n b).tileAt a = h.tileAt a :=
  Hub.tileAt_congr (Hub.send_tile ..) a
@[simp] theorem Hub.send_pte (h : Hub) (x n : Nat) (b : Brick) (a : Nat) : (h.send x n b).pte a = h.pte a :=
  Hub.pte_congr (Hub.send_tile ..) a
@[simp] theorem Hub.send_rope (h : Hub) (x n : Nat) (b : Brick) (a : Nat) : (h.send x n b).rope a = h.rope a :=
  Hub.rope_congr (Hub.send_cool ..) a
@[simp] theorem Hub.send_zone (h : Hub) (x n : Nat) (b : Brick) (a : Nat) : (h.send x n b).zone a = h.zone a :=
  Hub.zone_congr (Hub.send_cool ..) a
@[simp] theorem Hub.send_coolCh (h : Hub) (x n : Nat) (b : Brick) (a : Nat) : (h.send x n b).coolCh a = h.coolCh a :=
  Hub.coolCh_congr (Hub.send_cool ..) a
@[simp] theorem Hub.send_idMem (h : Hub) (x n : Nat) (b : Brick) (a a2 : Nat) : (h.send x n b).idMem a a2 = h.idMem a a2 :=
  Hub.idMem_congr (Hub.send_bus ..) a a2
@[simp] theorem Hub.send_adcCh (h : Hub) (x n : Nat) (b : Brick) (a : Nat) : (h.send x n b).adcCh a = h.adcCh a :=
  Hub.adcCh_congr (Hub.send_sense ..) a
@[simp] theorem Hub.send_dts (h : Hub) (x n : Nat) (b : Brick) (a : Nat) : (h.send x n b).dts a = h.dts a :=
  Hub.dts_congr (Hub.send_sense ..) a
@[simp] theorem Hub.sendAll_regs (h : Hub) (x n : Nat) (bs : List Brick) : (h.sendAll x n bs).regs = h.regs := by
  unfold Hub.sendAll; induction bs generalizing h with | nil => rfl | cons b bs ih => simp [ih]
@[simp] theorem Hub.sendAll_free (h : Hub) (x n : Nat) (bs : List Brick) : (h.sendAll x n bs).free = h.free := by
  unfold Hub.sendAll; induction bs generalizing h with | nil => rfl | cons b bs ih => simp [ih]
@[simp] theorem Hub.sendAll_up (h : Hub) (x n : Nat) (bs : List Brick) : (h.sendAll x n bs).up = h.up := by
  unfold Hub.sendAll; induction bs generalizing h with | nil => rfl | cons b bs ih => simp [ih]
@[simp] theorem Hub.sendAll_crs (h : Hub) (x n : Nat) (bs : List Brick) : (h.sendAll x n bs).crs = h.crs := by
  unfold Hub.sendAll; induction bs generalizing h with | nil => rfl | cons b bs ih => simp [ih]
@[simp] theorem Hub.sendAll_ev (h : Hub) (x n : Nat) (bs : List Brick) : (h.sendAll x n bs).ev = h.ev := by
  unfold Hub.sendAll; induction bs generalizing h with | nil => rfl | cons b bs ih => simp [ih]
@[simp] theorem Hub.sendAll_hods (h : Hub) (x n : Nat) (bs : List Brick) : (h.sendAll x n bs).hods = h.hods := by
  unfold Hub.sendAll; induction bs generalizing h with | nil => rfl | cons b bs ih => simp [ih]
@[simp] theorem Hub.sendAll_rb (h : Hub) (x n : Nat) (bs : List Brick) : (h.sendAll x n bs).rb = h.rb := by
  unfold Hub.sendAll; induction bs generalizing h with | nil => rfl | cons b bs ih => simp [ih]
@[simp] theorem Hub.sendAll_tile (h : Hub) (x n : Nat) (bs : List Brick) : (h.sendAll x n bs).tile = h.tile := by
  unfold Hub.sendAll; induction bs generalizing h with | nil => rfl | cons b bs ih => simp [ih]
@[simp] theorem Hub.sendAll_mortar (h : Hub) (x n : Nat) (bs : List Brick) : (h.sendAll x n bs).mortar = h.mortar := by
  unfold Hub.sendAll; induction bs generalizing h with | nil => rfl | cons b bs ih => simp [ih]
@[simp] theorem Hub.sendAll_smp (h : Hub) (x n : Nat) (bs : List Brick) : (h.sendAll x n bs).smp = h.smp := by
  unfold Hub.sendAll; induction bs generalizing h with | nil => rfl | cons b bs ih => simp [ih]
@[simp] theorem Hub.sendAll_str (h : Hub) (x n : Nat) (bs : List Brick) : (h.sendAll x n bs).str = h.str := by
  unfold Hub.sendAll; induction bs generalizing h with | nil => rfl | cons b bs ih => simp [ih]
@[simp] theorem Hub.sendAll_sync (h : Hub) (x n : Nat) (bs : List Brick) : (h.sendAll x n bs).sync = h.sync := by
  unfold Hub.sendAll; induction bs generalizing h with | nil => rfl | cons b bs ih => simp [ih]
@[simp] theorem Hub.sendAll_hs (h : Hub) (x n : Nat) (bs : List Brick) : (h.sendAll x n bs).hs = h.hs := by
  unfold Hub.sendAll; induction bs generalizing h with | nil => rfl | cons b bs ih => simp [ih]
@[simp] theorem Hub.sendAll_cool (h : Hub) (x n : Nat) (bs : List Brick) : (h.sendAll x n bs).cool = h.cool := by
  unfold Hub.sendAll; induction bs generalizing h with | nil => rfl | cons b bs ih => simp [ih]
@[simp] theorem Hub.sendAll_sense (h : Hub) (x n : Nat) (bs : List Brick) : (h.sendAll x n bs).sense = h.sense := by
  unfold Hub.sendAll; induction bs generalizing h with | nil => rfl | cons b bs ih => simp [ih]
@[simp] theorem Hub.sendAll_gov (h : Hub) (x n : Nat) (bs : List Brick) : (h.sendAll x n bs).gov = h.gov := by
  unfold Hub.sendAll; induction bs generalizing h with | nil => rfl | cons b bs ih => simp [ih]
@[simp] theorem Hub.sendAll_bus (h : Hub) (x n : Nat) (bs : List Brick) : (h.sendAll x n bs).bus = h.bus := by
  unfold Hub.sendAll; induction bs generalizing h with | nil => rfl | cons b bs ih => simp [ih]
@[simp] theorem Hub.sendAll_rack (h : Hub) (x n : Nat) (bs : List Brick) : (h.sendAll x n bs).rack = h.rack := by
  unfold Hub.sendAll; induction bs generalizing h with | nil => rfl | cons b bs ih => simp [ih]
@[simp] theorem Hub.sendAll_fw (h : Hub) (x n : Nat) (bs : List Brick) : (h.sendAll x n bs).fw = h.fw := by
  unfold Hub.sendAll; induction bs generalizing h with | nil => rfl | cons b bs ih => simp [ih]
@[simp] theorem Hub.sendAll_sec (h : Hub) (x n : Nat) (bs : List Brick) : (h.sendAll x n bs).sec = h.sec := by
  unfold Hub.sendAll; induction bs generalizing h with | nil => rfl | cons b bs ih => simp [ih]
@[simp] theorem Hub.sendAll_safety (h : Hub) (x n : Nat) (bs : List Brick) : (h.sendAll x n bs).safety = h.safety := by
  unfold Hub.sendAll; induction bs generalizing h with | nil => rfl | cons b bs ih => simp [ih]
@[simp] theorem Hub.sendAll_therm (h : Hub) (x n : Nat) (bs : List Brick) : (h.sendAll x n bs).therm = h.therm := by
  unfold Hub.sendAll; induction bs generalizing h with | nil => rfl | cons b bs ih => simp [ih]
@[simp] theorem Hub.sendAll_reg (h : Hub) (x n : Nat) (bs : List Brick) (a : Nat) : (h.sendAll x n bs).reg a = h.reg a :=
  Hub.reg_congr (Hub.sendAll_regs ..) a
@[simp] theorem Hub.sendAll_fld (h : Hub) (x n : Nat) (bs : List Brick) (a i2 j2 : Nat) : (h.sendAll x n bs).fld a i2 j2 = h.fld a i2 j2 :=
  Hub.fld_congr (Hub.sendAll_regs ..) a i2 j2
@[simp] theorem Hub.sendAll_bitAt (h : Hub) (x n : Nat) (bs : List Brick) (a i2 : Nat) : (h.sendAll x n bs).bitAt a i2 = h.bitAt a i2 :=
  Hub.bitAt_congr (Hub.sendAll_regs ..) a i2
@[simp] theorem Hub.sendAll_hsCh (h : Hub) (x n : Nat) (bs : List Brick) (a : Nat) : (h.sendAll x n bs).hsCh a = h.hsCh a :=
  Hub.hsCh_congr (Hub.sendAll_hs ..) a
@[simp] theorem Hub.sendAll_hod (h : Hub) (x n : Nat) (bs : List Brick) (a : Nat) : (h.sendAll x n bs).hod a = h.hod a :=
  Hub.hod_congr (Hub.sendAll_hods ..) a
@[simp] theorem Hub.sendAll_acc (h : Hub) (x n : Nat) (bs : List Brick) (a : Nat) : (h.sendAll x n bs).acc a = h.acc a :=
  Hub.acc_congr (Hub.sendAll_gov ..) a
@[simp] theorem Hub.sendAll_push (h : Hub) (x n : Nat) (bs : List Brick) (a : Nat) : (h.sendAll x n bs).push a = h.push a :=
  Hub.push_congr (Hub.sendAll_fw ..) a
@[simp] theorem Hub.sendAll_stream (h : Hub) (x n : Nat) (bs : List Brick) (a : Nat) : (h.sendAll x n bs).stream a = h.stream a :=
  Hub.stream_congr (Hub.sendAll_str ..) a
@[simp] theorem Hub.sendAll_tileAt (h : Hub) (x n : Nat) (bs : List Brick) (a : Nat) : (h.sendAll x n bs).tileAt a = h.tileAt a :=
  Hub.tileAt_congr (Hub.sendAll_tile ..) a
@[simp] theorem Hub.sendAll_pte (h : Hub) (x n : Nat) (bs : List Brick) (a : Nat) : (h.sendAll x n bs).pte a = h.pte a :=
  Hub.pte_congr (Hub.sendAll_tile ..) a
@[simp] theorem Hub.sendAll_rope (h : Hub) (x n : Nat) (bs : List Brick) (a : Nat) : (h.sendAll x n bs).rope a = h.rope a :=
  Hub.rope_congr (Hub.sendAll_cool ..) a
@[simp] theorem Hub.sendAll_zone (h : Hub) (x n : Nat) (bs : List Brick) (a : Nat) : (h.sendAll x n bs).zone a = h.zone a :=
  Hub.zone_congr (Hub.sendAll_cool ..) a
@[simp] theorem Hub.sendAll_coolCh (h : Hub) (x n : Nat) (bs : List Brick) (a : Nat) : (h.sendAll x n bs).coolCh a = h.coolCh a :=
  Hub.coolCh_congr (Hub.sendAll_cool ..) a
@[simp] theorem Hub.sendAll_idMem (h : Hub) (x n : Nat) (bs : List Brick) (a a2 : Nat) : (h.sendAll x n bs).idMem a a2 = h.idMem a a2 :=
  Hub.idMem_congr (Hub.sendAll_bus ..) a a2
@[simp] theorem Hub.sendAll_adcCh (h : Hub) (x n : Nat) (bs : List Brick) (a : Nat) : (h.sendAll x n bs).adcCh a = h.adcCh a :=
  Hub.adcCh_congr (Hub.sendAll_sense ..) a
@[simp] theorem Hub.sendAll_dts (h : Hub) (x n : Nat) (bs : List Brick) (a : Nat) : (h.sendAll x n bs).dts a = h.dts a :=
  Hub.dts_congr (Hub.sendAll_sense ..) a
@[simp] theorem Hub.replyPoison_regs (h : Hub) (x : Nat) (b : Brick) : (h.replyPoison x b).regs = h.regs := by
  unfold Hub.replyPoison; split <;> simp
@[simp] theorem Hub.replyPoison_free (h : Hub) (x : Nat) (b : Brick) : (h.replyPoison x b).free = h.free := by
  unfold Hub.replyPoison; split <;> simp
@[simp] theorem Hub.replyPoison_up (h : Hub) (x : Nat) (b : Brick) : (h.replyPoison x b).up = h.up := by
  unfold Hub.replyPoison; split <;> simp
@[simp] theorem Hub.replyPoison_crs (h : Hub) (x : Nat) (b : Brick) : (h.replyPoison x b).crs = h.crs := by
  unfold Hub.replyPoison; split <;> simp
@[simp] theorem Hub.replyPoison_ev (h : Hub) (x : Nat) (b : Brick) : (h.replyPoison x b).ev = h.ev := by
  unfold Hub.replyPoison; split <;> simp
@[simp] theorem Hub.replyPoison_hods (h : Hub) (x : Nat) (b : Brick) : (h.replyPoison x b).hods = h.hods := by
  unfold Hub.replyPoison; split <;> simp
@[simp] theorem Hub.replyPoison_rb (h : Hub) (x : Nat) (b : Brick) : (h.replyPoison x b).rb = h.rb := by
  unfold Hub.replyPoison; split <;> simp
@[simp] theorem Hub.replyPoison_tile (h : Hub) (x : Nat) (b : Brick) : (h.replyPoison x b).tile = h.tile := by
  unfold Hub.replyPoison; split <;> simp
@[simp] theorem Hub.replyPoison_mortar (h : Hub) (x : Nat) (b : Brick) : (h.replyPoison x b).mortar = h.mortar := by
  unfold Hub.replyPoison; split <;> simp
@[simp] theorem Hub.replyPoison_smp (h : Hub) (x : Nat) (b : Brick) : (h.replyPoison x b).smp = h.smp := by
  unfold Hub.replyPoison; split <;> simp
@[simp] theorem Hub.replyPoison_str (h : Hub) (x : Nat) (b : Brick) : (h.replyPoison x b).str = h.str := by
  unfold Hub.replyPoison; split <;> simp
@[simp] theorem Hub.replyPoison_sync (h : Hub) (x : Nat) (b : Brick) : (h.replyPoison x b).sync = h.sync := by
  unfold Hub.replyPoison; split <;> simp
@[simp] theorem Hub.replyPoison_hs (h : Hub) (x : Nat) (b : Brick) : (h.replyPoison x b).hs = h.hs := by
  unfold Hub.replyPoison; split <;> simp
@[simp] theorem Hub.replyPoison_cool (h : Hub) (x : Nat) (b : Brick) : (h.replyPoison x b).cool = h.cool := by
  unfold Hub.replyPoison; split <;> simp
@[simp] theorem Hub.replyPoison_sense (h : Hub) (x : Nat) (b : Brick) : (h.replyPoison x b).sense = h.sense := by
  unfold Hub.replyPoison; split <;> simp
@[simp] theorem Hub.replyPoison_gov (h : Hub) (x : Nat) (b : Brick) : (h.replyPoison x b).gov = h.gov := by
  unfold Hub.replyPoison; split <;> simp
@[simp] theorem Hub.replyPoison_bus (h : Hub) (x : Nat) (b : Brick) : (h.replyPoison x b).bus = h.bus := by
  unfold Hub.replyPoison; split <;> simp
@[simp] theorem Hub.replyPoison_rack (h : Hub) (x : Nat) (b : Brick) : (h.replyPoison x b).rack = h.rack := by
  unfold Hub.replyPoison; split <;> simp
@[simp] theorem Hub.replyPoison_fw (h : Hub) (x : Nat) (b : Brick) : (h.replyPoison x b).fw = h.fw := by
  unfold Hub.replyPoison; split <;> simp
@[simp] theorem Hub.replyPoison_sec (h : Hub) (x : Nat) (b : Brick) : (h.replyPoison x b).sec = h.sec := by
  unfold Hub.replyPoison; split <;> simp
@[simp] theorem Hub.replyPoison_safety (h : Hub) (x : Nat) (b : Brick) : (h.replyPoison x b).safety = h.safety := by
  unfold Hub.replyPoison; split <;> simp
@[simp] theorem Hub.replyPoison_therm (h : Hub) (x : Nat) (b : Brick) : (h.replyPoison x b).therm = h.therm := by
  unfold Hub.replyPoison; split <;> simp
@[simp] theorem Hub.replyPoison_reg (h : Hub) (x : Nat) (b : Brick) (a : Nat) : (h.replyPoison x b).reg a = h.reg a :=
  Hub.reg_congr (Hub.replyPoison_regs ..) a
@[simp] theorem Hub.replyPoison_fld (h : Hub) (x : Nat) (b : Brick) (a i2 j2 : Nat) : (h.replyPoison x b).fld a i2 j2 = h.fld a i2 j2 :=
  Hub.fld_congr (Hub.replyPoison_regs ..) a i2 j2
@[simp] theorem Hub.replyPoison_bitAt (h : Hub) (x : Nat) (b : Brick) (a i2 : Nat) : (h.replyPoison x b).bitAt a i2 = h.bitAt a i2 :=
  Hub.bitAt_congr (Hub.replyPoison_regs ..) a i2
@[simp] theorem Hub.replyPoison_hsCh (h : Hub) (x : Nat) (b : Brick) (a : Nat) : (h.replyPoison x b).hsCh a = h.hsCh a :=
  Hub.hsCh_congr (Hub.replyPoison_hs ..) a
@[simp] theorem Hub.replyPoison_hod (h : Hub) (x : Nat) (b : Brick) (a : Nat) : (h.replyPoison x b).hod a = h.hod a :=
  Hub.hod_congr (Hub.replyPoison_hods ..) a
@[simp] theorem Hub.replyPoison_acc (h : Hub) (x : Nat) (b : Brick) (a : Nat) : (h.replyPoison x b).acc a = h.acc a :=
  Hub.acc_congr (Hub.replyPoison_gov ..) a
@[simp] theorem Hub.replyPoison_push (h : Hub) (x : Nat) (b : Brick) (a : Nat) : (h.replyPoison x b).push a = h.push a :=
  Hub.push_congr (Hub.replyPoison_fw ..) a
@[simp] theorem Hub.replyPoison_stream (h : Hub) (x : Nat) (b : Brick) (a : Nat) : (h.replyPoison x b).stream a = h.stream a :=
  Hub.stream_congr (Hub.replyPoison_str ..) a
@[simp] theorem Hub.replyPoison_tileAt (h : Hub) (x : Nat) (b : Brick) (a : Nat) : (h.replyPoison x b).tileAt a = h.tileAt a :=
  Hub.tileAt_congr (Hub.replyPoison_tile ..) a
@[simp] theorem Hub.replyPoison_pte (h : Hub) (x : Nat) (b : Brick) (a : Nat) : (h.replyPoison x b).pte a = h.pte a :=
  Hub.pte_congr (Hub.replyPoison_tile ..) a
@[simp] theorem Hub.replyPoison_rope (h : Hub) (x : Nat) (b : Brick) (a : Nat) : (h.replyPoison x b).rope a = h.rope a :=
  Hub.rope_congr (Hub.replyPoison_cool ..) a
@[simp] theorem Hub.replyPoison_zone (h : Hub) (x : Nat) (b : Brick) (a : Nat) : (h.replyPoison x b).zone a = h.zone a :=
  Hub.zone_congr (Hub.replyPoison_cool ..) a
@[simp] theorem Hub.replyPoison_coolCh (h : Hub) (x : Nat) (b : Brick) (a : Nat) : (h.replyPoison x b).coolCh a = h.coolCh a :=
  Hub.coolCh_congr (Hub.replyPoison_cool ..) a
@[simp] theorem Hub.replyPoison_idMem (h : Hub) (x : Nat) (b : Brick) (a a2 : Nat) : (h.replyPoison x b).idMem a a2 = h.idMem a a2 :=
  Hub.idMem_congr (Hub.replyPoison_bus ..) a a2
@[simp] theorem Hub.replyPoison_adcCh (h : Hub) (x : Nat) (b : Brick) (a : Nat) : (h.replyPoison x b).adcCh a = h.adcCh a :=
  Hub.adcCh_congr (Hub.replyPoison_sense ..) a
@[simp] theorem Hub.replyPoison_dts (h : Hub) (x : Nat) (b : Brick) (a : Nat) : (h.replyPoison x b).dts a = h.dts a :=
  Hub.dts_congr (Hub.replyPoison_sense ..) a

/-! ### Inside the interrupts' and the recorder's blocks -/

theorem Hub.event_bus (h : Hub) (c : Nat) (pl : List Arg) (p q : Nat) :
    ∃ i, (h.event c pl p q).bus = { h.bus with irq := i } := by
  unfold Hub.event
  dsimp only
  (repeat' split) <;> exact ⟨_, rfl⟩

theorem Hub.eventOnce_bus (h : Hub) (c o : Nat) (pl : List Arg) (p q : Nat) :
    ∃ i, (h.eventOnce c o pl p q).bus = { h.bus with irq := i } := by
  unfold Hub.eventOnce
  split
  · exact ⟨_, rfl⟩
  · exact Hub.event_bus _ c pl p q

theorem Hub.event_ev (h : Hub) (c : Nat) (pl : List Arg) (p q : Nat) :
    ∃ a b d, (h.event c pl p q).ev = { h.ev with seq := a, shadow := b, footCount := d } := by
  unfold Hub.event
  dsimp only
  (repeat' split) <;> exact ⟨_, _, _, rfl⟩

@[simp] theorem Hub.irq_bus_linkUp (h : Hub) (n v : Nat) : (h.irq n v).bus.linkUp = h.bus.linkUp := rfl
@[simp] theorem Hub.event_bus_linkUp (h : Hub) (c : Nat) (pl : List Arg) (p q : Nat) :
    (h.event c pl p q).bus.linkUp = h.bus.linkUp := by
  obtain ⟨_, e⟩ := h.event_bus c pl p q; rw [e]
@[simp] theorem Hub.eventOnce_bus_linkUp (h : Hub) (c o : Nat) (pl : List Arg) (p q : Nat) :
    (h.eventOnce c o pl p q).bus.linkUp = h.bus.linkUp := by
  obtain ⟨_, e⟩ := h.eventOnce_bus c o pl p q; rw [e]
@[simp] theorem Hub.irq_bus_rate (h : Hub) (n v : Nat) : (h.irq n v).bus.rate = h.bus.rate := rfl
@[simp] theorem Hub.event_bus_rate (h : Hub) (c : Nat) (pl : List Arg) (p q : Nat) :
    (h.event c pl p q).bus.rate = h.bus.rate := by
  obtain ⟨_, e⟩ := h.event_bus c pl p q; rw [e]
@[simp] theorem Hub.eventOnce_bus_rate (h : Hub) (c o : Nat) (pl : List Arg) (p q : Nat) :
    (h.eventOnce c o pl p q).bus.rate = h.bus.rate := by
  obtain ⟨_, e⟩ := h.eventOnce_bus c o pl p q; rw [e]
@[simp] theorem Hub.irq_bus_width (h : Hub) (n v : Nat) : (h.irq n v).bus.width = h.bus.width := rfl
@[simp] theorem Hub.event_bus_width (h : Hub) (c : Nat) (pl : List Arg) (p q : Nat) :
    (h.event c pl p q).bus.width = h.bus.width := by
  obtain ⟨_, e⟩ := h.event_bus c pl p q; rw [e]
@[simp] theorem Hub.eventOnce_bus_width (h : Hub) (c o : Nat) (pl : List Arg) (p q : Nat) :
    (h.eventOnce c o pl p q).bus.width = h.bus.width := by
  obtain ⟨_, e⟩ := h.eventOnce_bus c o pl p q; rw [e]
@[simp] theorem Hub.irq_bus_vfFault (h : Hub) (n v : Nat) : (h.irq n v).bus.vfFault = h.bus.vfFault := rfl
@[simp] theorem Hub.event_bus_vfFault (h : Hub) (c : Nat) (pl : List Arg) (p q : Nat) :
    (h.event c pl p q).bus.vfFault = h.bus.vfFault := by
  obtain ⟨_, e⟩ := h.event_bus c pl p q; rw [e]
@[simp] theorem Hub.eventOnce_bus_vfFault (h : Hub) (c o : Nat) (pl : List Arg) (p q : Nat) :
    (h.eventOnce c o pl p q).bus.vfFault = h.bus.vfFault := by
  obtain ⟨_, e⟩ := h.eventOnce_bus c o pl p q; rw [e]
@[simp] theorem Hub.irq_bus_vfDue (h : Hub) (n v : Nat) : (h.irq n v).bus.vfDue = h.bus.vfDue := rfl
@[simp] theorem Hub.event_bus_vfDue (h : Hub) (c : Nat) (pl : List Arg) (p q : Nat) :
    (h.event c pl p q).bus.vfDue = h.bus.vfDue := by
  obtain ⟨_, e⟩ := h.event_bus c pl p q; rw [e]
@[simp] theorem Hub.eventOnce_bus_vfDue (h : Hub) (c o : Nat) (pl : List Arg) (p q : Nat) :
    (h.eventOnce c o pl p q).bus.vfDue = h.bus.vfDue := by
  obtain ⟨_, e⟩ := h.eventOnce_bus c o pl p q; rw [e]
@[simp] theorem Hub.irq_bus_smbAddr (h : Hub) (n v : Nat) : (h.irq n v).bus.smbAddr = h.bus.smbAddr := rfl
@[simp] theorem Hub.event_bus_smbAddr (h : Hub) (c : Nat) (pl : List Arg) (p q : Nat) :
    (h.event c pl p q).bus.smbAddr = h.bus.smbAddr := by
  obtain ⟨_, e⟩ := h.event_bus c pl p q; rw [e]
@[simp] theorem Hub.eventOnce_bus_smbAddr (h : Hub) (c o : Nat) (pl : List Arg) (p q : Nat) :
    (h.eventOnce c o pl p q).bus.smbAddr = h.bus.smbAddr := by
  obtain ⟨_, e⟩ := h.eventOnce_bus c o pl p q; rw [e]
@[simp] theorem Hub.irq_bus_hodDone (h : Hub) (n v : Nat) : (h.irq n v).bus.hodDone = h.bus.hodDone := rfl
@[simp] theorem Hub.event_bus_hodDone (h : Hub) (c : Nat) (pl : List Arg) (p q : Nat) :
    (h.event c pl p q).bus.hodDone = h.bus.hodDone := by
  obtain ⟨_, e⟩ := h.event_bus c pl p q; rw [e]
@[simp] theorem Hub.eventOnce_bus_hodDone (h : Hub) (c o : Nat) (pl : List Arg) (p q : Nat) :
    (h.eventOnce c o pl p q).bus.hodDone = h.bus.hodDone := by
  obtain ⟨_, e⟩ := h.eventOnce_bus c o pl p q; rw [e]
@[simp] theorem Hub.irq_bus_pecErr (h : Hub) (n v : Nat) : (h.irq n v).bus.pecErr = h.bus.pecErr := rfl
@[simp] theorem Hub.event_bus_pecErr (h : Hub) (c : Nat) (pl : List Arg) (p q : Nat) :
    (h.event c pl p q).bus.pecErr = h.bus.pecErr := by
  obtain ⟨_, e⟩ := h.event_bus c pl p q; rw [e]
@[simp] theorem Hub.eventOnce_bus_pecErr (h : Hub) (c o : Nat) (pl : List Arg) (p q : Nat) :
    (h.eventOnce c o pl p q).bus.pecErr = h.bus.pecErr := by
  obtain ⟨_, e⟩ := h.eventOnce_bus c o pl p q; rw [e]
@[simp] theorem Hub.irq_bus_cmdErr (h : Hub) (n v : Nat) : (h.irq n v).bus.cmdErr = h.bus.cmdErr := rfl
@[simp] theorem Hub.event_bus_cmdErr (h : Hub) (c : Nat) (pl : List Arg) (p q : Nat) :
    (h.event c pl p q).bus.cmdErr = h.bus.cmdErr := by
  obtain ⟨_, e⟩ := h.event_bus c pl p q; rw [e]
@[simp] theorem Hub.eventOnce_bus_cmdErr (h : Hub) (c o : Nat) (pl : List Arg) (p q : Nat) :
    (h.eventOnce c o pl p q).bus.cmdErr = h.bus.cmdErr := by
  obtain ⟨_, e⟩ := h.eventOnce_bus c o pl p q; rw [e]
@[simp] theorem Hub.irq_bus_regAddr (h : Hub) (n v : Nat) : (h.irq n v).bus.regAddr = h.bus.regAddr := rfl
@[simp] theorem Hub.event_bus_regAddr (h : Hub) (c : Nat) (pl : List Arg) (p q : Nat) :
    (h.event c pl p q).bus.regAddr = h.bus.regAddr := by
  obtain ⟨_, e⟩ := h.event_bus c pl p q; rw [e]
@[simp] theorem Hub.eventOnce_bus_regAddr (h : Hub) (c o : Nat) (pl : List Arg) (p q : Nat) :
    (h.eventOnce c o pl p q).bus.regAddr = h.bus.regAddr := by
  obtain ⟨_, e⟩ := h.eventOnce_bus c o pl p q; rw [e]
@[simp] theorem Hub.irq_bus_hodPtr (h : Hub) (n v : Nat) : (h.irq n v).bus.hodPtr = h.bus.hodPtr := rfl
@[simp] theorem Hub.event_bus_hodPtr (h : Hub) (c : Nat) (pl : List Arg) (p q : Nat) :
    (h.event c pl p q).bus.hodPtr = h.bus.hodPtr := by
  obtain ⟨_, e⟩ := h.event_bus c pl p q; rw [e]
@[simp] theorem Hub.eventOnce_bus_hodPtr (h : Hub) (c o : Nat) (pl : List Arg) (p q : Nat) :
    (h.eventOnce c o pl p q).bus.hodPtr = h.bus.hodPtr := by
  obtain ⟨_, e⟩ := h.eventOnce_bus c o pl p q; rw [e]
@[simp] theorem Hub.irq_bus_smbRst (h : Hub) (n v : Nat) : (h.irq n v).bus.smbRst = h.bus.smbRst := rfl
@[simp] theorem Hub.event_bus_smbRst (h : Hub) (c : Nat) (pl : List Arg) (p q : Nat) :
    (h.event c pl p q).bus.smbRst = h.bus.smbRst := by
  obtain ⟨_, e⟩ := h.event_bus c pl p q; rw [e]
@[simp] theorem Hub.eventOnce_bus_smbRst (h : Hub) (c o : Nat) (pl : List Arg) (p q : Nat) :
    (h.eventOnce c o pl p q).bus.smbRst = h.bus.smbRst := by
  obtain ⟨_, e⟩ := h.eventOnce_bus c o pl p q; rw [e]
@[simp] theorem Hub.irq_bus_out (h : Hub) (n v : Nat) : (h.irq n v).bus.out = h.bus.out := rfl
@[simp] theorem Hub.event_bus_out (h : Hub) (c : Nat) (pl : List Arg) (p q : Nat) :
    (h.event c pl p q).bus.out = h.bus.out := by
  obtain ⟨_, e⟩ := h.event_bus c pl p q; rw [e]
@[simp] theorem Hub.eventOnce_bus_out (h : Hub) (c o : Nat) (pl : List Arg) (p q : Nat) :
    (h.eventOnce c o pl p q).bus.out = h.bus.out := by
  obtain ⟨_, e⟩ := h.eventOnce_bus c o pl p q; rw [e]
@[simp] theorem Hub.irq_bus_owner (h : Hub) (n v : Nat) : (h.irq n v).bus.owner = h.bus.owner := rfl
@[simp] theorem Hub.event_bus_owner (h : Hub) (c : Nat) (pl : List Arg) (p q : Nat) :
    (h.event c pl p q).bus.owner = h.bus.owner := by
  obtain ⟨_, e⟩ := h.event_bus c pl p q; rw [e]
@[simp] theorem Hub.eventOnce_bus_owner (h : Hub) (c o : Nat) (pl : List Arg) (p q : Nat) :
    (h.eventOnce c o pl p q).bus.owner = h.bus.owner := by
  obtain ⟨_, e⟩ := h.eventOnce_bus c o pl p q; rw [e]
@[simp] theorem Hub.irq_bus_rsp (h : Hub) (n v : Nat) : (h.irq n v).bus.rsp = h.bus.rsp := rfl
@[simp] theorem Hub.event_bus_rsp (h : Hub) (c : Nat) (pl : List Arg) (p q : Nat) :
    (h.event c pl p q).bus.rsp = h.bus.rsp := by
  obtain ⟨_, e⟩ := h.event_bus c pl p q; rw [e]
@[simp] theorem Hub.eventOnce_bus_rsp (h : Hub) (c o : Nat) (pl : List Arg) (p q : Nat) :
    (h.eventOnce c o pl p q).bus.rsp = h.bus.rsp := by
  obtain ⟨_, e⟩ := h.eventOnce_bus c o pl p q; rw [e]
@[simp] theorem Hub.irq_bus_nack (h : Hub) (n v : Nat) : (h.irq n v).bus.nack = h.bus.nack := rfl
@[simp] theorem Hub.event_bus_nack (h : Hub) (c : Nat) (pl : List Arg) (p q : Nat) :
    (h.event c pl p q).bus.nack = h.bus.nack := by
  obtain ⟨_, e⟩ := h.event_bus c pl p q; rw [e]
@[simp] theorem Hub.eventOnce_bus_nack (h : Hub) (c o : Nat) (pl : List Arg) (p q : Nat) :
    (h.eventOnce c o pl p q).bus.nack = h.bus.nack := by
  obtain ⟨_, e⟩ := h.eventOnce_bus c o pl p q; rw [e]
@[simp] theorem Hub.irq_bus_mem (h : Hub) (n v : Nat) : (h.irq n v).bus.mem = h.bus.mem := rfl
@[simp] theorem Hub.event_bus_mem (h : Hub) (c : Nat) (pl : List Arg) (p q : Nat) :
    (h.event c pl p q).bus.mem = h.bus.mem := by
  obtain ⟨_, e⟩ := h.event_bus c pl p q; rw [e]
@[simp] theorem Hub.eventOnce_bus_mem (h : Hub) (c o : Nat) (pl : List Arg) (p q : Nat) :
    (h.eventOnce c o pl p q).bus.mem = h.bus.mem := by
  obtain ⟨_, e⟩ := h.eventOnce_bus c o pl p q; rw [e]
@[simp] theorem Hub.irq_bus_idFault (h : Hub) (n v : Nat) : (h.irq n v).bus.idFault = h.bus.idFault := rfl
@[simp] theorem Hub.event_bus_idFault (h : Hub) (c : Nat) (pl : List Arg) (p q : Nat) :
    (h.event c pl p q).bus.idFault = h.bus.idFault := by
  obtain ⟨_, e⟩ := h.event_bus c pl p q; rw [e]
@[simp] theorem Hub.eventOnce_bus_idFault (h : Hub) (c o : Nat) (pl : List Arg) (p q : Nat) :
    (h.eventOnce c o pl p q).bus.idFault = h.bus.idFault := by
  obtain ⟨_, e⟩ := h.eventOnce_bus c o pl p q; rw [e]
@[simp] theorem Hub.irq_bus_sled (h : Hub) (n v : Nat) : (h.irq n v).bus.sled = h.bus.sled := rfl
@[simp] theorem Hub.event_bus_sled (h : Hub) (c : Nat) (pl : List Arg) (p q : Nat) :
    (h.event c pl p q).bus.sled = h.bus.sled := by
  obtain ⟨_, e⟩ := h.event_bus c pl p q; rw [e]
@[simp] theorem Hub.eventOnce_bus_sled (h : Hub) (c o : Nat) (pl : List Arg) (p q : Nat) :
    (h.eventOnce c o pl p q).bus.sled = h.bus.sled := by
  obtain ⟨_, e⟩ := h.eventOnce_bus c o pl p q; rw [e]
@[simp] theorem Hub.irq_bus_cable (h : Hub) (n v : Nat) : (h.irq n v).bus.cable = h.bus.cable := rfl
@[simp] theorem Hub.event_bus_cable (h : Hub) (c : Nat) (pl : List Arg) (p q : Nat) :
    (h.event c pl p q).bus.cable = h.bus.cable := by
  obtain ⟨_, e⟩ := h.event_bus c pl p q; rw [e]
@[simp] theorem Hub.eventOnce_bus_cable (h : Hub) (c o : Nat) (pl : List Arg) (p q : Nat) :
    (h.eventOnce c o pl p q).bus.cable = h.bus.cable := by
  obtain ⟨_, e⟩ := h.eventOnce_bus c o pl p q; rw [e]
@[simp] theorem Hub.irq_bus_sleep (h : Hub) (n v : Nat) : (h.irq n v).bus.sleep = h.bus.sleep := rfl
@[simp] theorem Hub.event_bus_sleep (h : Hub) (c : Nat) (pl : List Arg) (p q : Nat) :
    (h.event c pl p q).bus.sleep = h.bus.sleep := by
  obtain ⟨_, e⟩ := h.event_bus c pl p q; rw [e]
@[simp] theorem Hub.eventOnce_bus_sleep (h : Hub) (c o : Nat) (pl : List Arg) (p q : Nat) :
    (h.eventOnce c o pl p q).bus.sleep = h.bus.sleep := by
  obtain ⟨_, e⟩ := h.eventOnce_bus c o pl p q; rw [e]
@[simp] theorem Hub.irq_bus_wake (h : Hub) (n v : Nat) : (h.irq n v).bus.wake = h.bus.wake := rfl
@[simp] theorem Hub.event_bus_wake (h : Hub) (c : Nat) (pl : List Arg) (p q : Nat) :
    (h.event c pl p q).bus.wake = h.bus.wake := by
  obtain ⟨_, e⟩ := h.event_bus c pl p q; rw [e]
@[simp] theorem Hub.eventOnce_bus_wake (h : Hub) (c o : Nat) (pl : List Arg) (p q : Nat) :
    (h.eventOnce c o pl p q).bus.wake = h.bus.wake := by
  obtain ⟨_, e⟩ := h.eventOnce_bus c o pl p q; rw [e]
@[simp] theorem Hub.irq_bus_clocks (h : Hub) (n v : Nat) : (h.irq n v).bus.clocks = h.bus.clocks := rfl
@[simp] theorem Hub.event_bus_clocks (h : Hub) (c : Nat) (pl : List Arg) (p q : Nat) :
    (h.event c pl p q).bus.clocks = h.bus.clocks := by
  obtain ⟨_, e⟩ := h.event_bus c pl p q; rw [e]
@[simp] theorem Hub.eventOnce_bus_clocks (h : Hub) (c o : Nat) (pl : List Arg) (p q : Nat) :
    (h.eventOnce c o pl p q).bus.clocks = h.bus.clocks := by
  obtain ⟨_, e⟩ := h.eventOnce_bus c o pl p q; rw [e]
@[simp] theorem Hub.event_ev_log (h : Hub) (c : Nat) (pl : List Arg) (p q : Nat) :
    (h.event c pl p q).ev.log = h.ev.log := by
  obtain ⟨_, _, _, e⟩ := h.event_ev c pl p q; rw [e]
@[simp] theorem Hub.event_ev_full (h : Hub) (c : Nat) (pl : List Arg) (p q : Nat) :
    (h.event c pl p q).ev.full = h.ev.full := by
  obtain ⟨_, _, _, e⟩ := h.event_ev c pl p q; rw [e]
@[simp] theorem Hub.event_ev_mediaFail (h : Hub) (c : Nat) (pl : List Arg) (p q : Nat) :
    (h.event c pl p q).ev.mediaFail = h.ev.mediaFail := by
  obtain ⟨_, _, _, e⟩ := h.event_ev c pl p q; rw [e]
@[simp] theorem Hub.event_ev_clearing (h : Hub) (c : Nat) (pl : List Arg) (p q : Nat) :
    (h.event c pl p q).ev.clearing = h.ev.clearing := by
  obtain ⟨_, _, _, e⟩ := h.event_ev c pl p q; rw [e]
@[simp] theorem Hub.event_ev_clearPair (h : Hub) (c : Nat) (pl : List Arg) (p q : Nat) :
    (h.event c pl p q).ev.clearPair = h.ev.clearPair := by
  obtain ⟨_, _, _, e⟩ := h.event_ev c pl p q; rw [e]
@[simp] theorem Hub.event_ev_journalA (h : Hub) (c : Nat) (pl : List Arg) (p q : Nat) :
    (h.event c pl p q).ev.journalA = h.ev.journalA := by
  obtain ⟨_, _, _, e⟩ := h.event_ev c pl p q; rw [e]
@[simp] theorem Hub.event_ev_journalB (h : Hub) (c : Nat) (pl : List Arg) (p q : Nat) :
    (h.event c pl p q).ev.journalB = h.ev.journalB := by
  obtain ⟨_, _, _, e⟩ := h.event_ev c pl p q; rw [e]
@[simp] theorem Hub.event_ev_inForceB (h : Hub) (c : Nat) (pl : List Arg) (p q : Nat) :
    (h.event c pl p q).ev.inForceB = h.ev.inForceB := by
  obtain ⟨_, _, _, e⟩ := h.event_ev c pl p q; rw [e]
@[simp] theorem Hub.event_ev_clearCount (h : Hub) (c : Nat) (pl : List Arg) (p q : Nat) :
    (h.event c pl p q).ev.clearCount = h.ev.clearCount := by
  obtain ⟨_, _, _, e⟩ := h.event_ev c pl p q; rw [e]
@[simp] theorem Hub.event_ev_wallRef (h : Hub) (c : Nat) (pl : List Arg) (p q : Nat) :
    (h.event c pl p q).ev.wallRef = h.ev.wallRef := by
  obtain ⟨_, _, _, e⟩ := h.event_ev c pl p q; rw [e]

@[simp] theorem Hub.event_idMem (h : Hub) (c : Nat) (pl : List Arg) (p q u v : Nat) :
    (h.event c pl p q).idMem u v = h.idMem u v := by simp [Hub.idMem]

end Sys2Proof.Machine
end

