-- ==== Sys2Proof/Laws/Hods.lean ====
section
/-!
SUPPORT. Laws/Hods.lean: the part of the hub that answering a request may change.
-/
namespace Sys2Proof.Machine

/-- What the answer to a request leaves alone: everything but the hods, the buses, the frames and the records of the answer. -/
def Hub.AnsweredFrom (h' h : Hub) : Prop :=
  ∃ hods bus rack ctrs regs ev free,
    h' = { h with hods := hods, bus := bus, rack := rack, ctrs := ctrs, regs := regs, ev := ev, free := free }

theorem Hub.AnsweredFrom.refl (h : Hub) : h.AnsweredFrom h := ⟨_, _, _, _, _, _, _, rfl⟩

theorem Hub.AnsweredFrom.trans {a b c : Hub} (h1 : a.AnsweredFrom b) (h2 : b.AnsweredFrom c) : a.AnsweredFrom c := by
  obtain ⟨_, _, _, _, _, _, _, rfl⟩ := h1
  obtain ⟨_, _, _, _, _, _, _, rfl⟩ := h2
  exact ⟨_, _, _, _, _, _, _, rfl⟩

theorem Hub.event_answeredFrom (h : Hub) (c : Nat) (pl : List Arg) (p q : Nat) : (h.event c pl p q).AnsweredFrom h := by
  obtain ⟨_, _, _, _, e⟩ := h.event_shape c pl p q
  exact ⟨_, _, _, _, _, _, _, e⟩

theorem Hub.mctpSend_answeredFrom (h : Hub) (pcie : Bool) (dst tag : Nat) (m : List Byte) :
    (h.mctpSend pcie dst tag m).AnsweredFrom h := by
  unfold Hub.mctpSend
  dsimp only
  split
  · exact ⟨_, _, _, _, _, _, _, rfl⟩
  · split
    · exact (Hub.event_answeredFrom _ _ _ _ _).trans ⟨_, _, _, _, _, _, _, rfl⟩
    · exact ⟨_, _, _, _, _, _, _, rfl⟩

theorem Hub.respond_answeredFrom (h : Hub) (q : HodReq) (m : List Byte) (st : Nat) : (h.respond q m st).AnsweredFrom h := by
  unfold Hub.respond
  dsimp only
  split
  · exact Hub.mctpSend_answeredFrom ..
  · exact ⟨_, _, _, _, _, _, _, rfl⟩
  · (repeat' split) <;> exact ⟨_, _, _, _, _, _, _, rfl⟩

theorem Hub.finish_answeredFrom (h : Hub) (c : Held) : (h.finish c).AnsweredFrom h := by
  unfold Hub.finish Hub.releaseRsp Hub.deliver
  dsimp only
  (repeat' split) <;>
    first
    | exact ⟨_, _, _, _, _, _, _, rfl⟩
    | exact (Hub.respond_answeredFrom ..).trans ⟨_, _, _, _, _, _, _, rfl⟩

theorem Hub.finishWaitIf_answeredFrom (h : Hub) (op : Nat) (p : HodReq → Bool) (st : Status) (n : Nat) (pl : List Byte) :
    (h.finishWaitIf op p st n pl).AnsweredFrom h := by
  have run : ∀ (qs : List HodReq) (g : Hub),
      (qs.foldl (fun h q => h.finish (completion q st n pl false)) g).AnsweredFrom g := by
    intro qs
    induction qs with
    | nil => exact fun g => .refl g
    | cons q qs ih => exact fun g => (ih _).trans (g.finish_answeredFrom _)
  exact (run _ _).trans ⟨_, _, _, _, _, _, _, rfl⟩

theorem Hub.finishWait_answeredFrom (h : Hub) (op : Nat) (st : Status) (n : Nat) (pl : List Byte) :
    (h.finishWait op st n pl).AnsweredFrom h := Hub.finishWaitIf_answeredFrom ..

end Sys2Proof.Machine
end

