-- ==== Sys2Proof/Laws/Tbl.lean ====
section
/-!
SUPPORT. Laws/Tbl.lean: reading a table after a write, and the canonical form that every operation of a table and of a byte
memory keeps.
-/
namespace Sys2Proof.Machine

variable {α : Type}

/-! ### Reading after writing -/

theorem Tbl.get_insert_self (d : α) (t : Tbl α) (k : Nat) (v : α) : Tbl.get d (Tbl.insert t k v) k = v := by
  induction t with
  | nil => simp [Tbl.insert, Tbl.get]
  | cons e t ih =>
    obtain ⟨k', v'⟩ := e
    unfold Tbl.insert
    split
    · simp [Tbl.get]
    · split
      · simp [Tbl.get]
      · simp [Tbl.get, *]

theorem Tbl.get_insert_ne (d : α) (t : Tbl α) {k j : Nat} (v : α) (h : j ≠ k) :
    Tbl.get d (Tbl.insert t k v) j = Tbl.get d t j := by
  induction t with
  | nil => simp [Tbl.insert, Tbl.get, h]
  | cons e t ih =>
    obtain ⟨k', v'⟩ := e
    simp only [Tbl.insert]
    split
    · subst_vars
      simp [Tbl.get, h]
    · split <;> simp [Tbl.get, h, ih]

theorem Tbl.get_erase_self (d : α) (t : Tbl α) (k : Nat) : Tbl.get d (t.erase k) k = d := by
  unfold Tbl.erase
  induction t with
  | nil => rfl
  | cons e t ih =>
    obtain ⟨k', v⟩ := e
    by_cases hk : k' = k
    · simpa [hk] using ih
    · simpa [hk, Tbl.get, Ne.symm hk] using ih

theorem Tbl.get_erase_ne (d : α) (t : Tbl α) {k j : Nat} (h : j ≠ k) : Tbl.get d (t.erase k) j = Tbl.get d t j := by
  unfold Tbl.erase
  induction t with
  | nil => rfl
  | cons e t ih =>
    obtain ⟨k', v⟩ := e
    by_cases hk : k' = k
    · simpa [hk, Tbl.get, h] using ih
    · simp only [ne_eq, decide_not] at ih
      simp [hk, Tbl.get, ih]

/-! ### The canonical form -/

variable [DecidableEq α]

theorem Tbl.wf_cons (f : Nat → α) (k : Nat) (v : α) (t : Tbl α) :
    Tbl.wf f ((k, v) :: t) = true ↔ v ≠ f k ∧ Tbl.below k t = true ∧ Tbl.wf f t = true := by
  simp [Tbl.wf, and_assoc]

omit [DecidableEq α] in
theorem Tbl.below_trans {t : Tbl α} {j k : Nat} (h : j < k) (hk : Tbl.below k t = true) : Tbl.below j t = true := by
  cases t with
  | nil => rfl
  | cons e t =>
    obtain ⟨k', v'⟩ := e
    simp only [Tbl.below, decide_eq_true_eq] at *
    omega

omit [DecidableEq α] in
theorem Tbl.below_insert {t : Tbl α} {j k : Nat} (v : α) (h : j < k) (hj : Tbl.below j t = true) :
    Tbl.below j (Tbl.insert t k v) = true := by
  cases t with
  | nil => simpa [Tbl.insert, Tbl.below] using h
  | cons e t =>
    obtain ⟨k', v'⟩ := e
    simp only [Tbl.insert]
    repeat' split
    all_goals simp only [Tbl.below, decide_eq_true_eq] at *; omega

theorem Tbl.wf_insert {f : Nat → α} {t : Tbl α} (k : Nat) {v : α} (h : t.wf f = true) (hv : v ≠ f k) :
    Tbl.wf f (t.insert k v) = true := by
  induction t with
  | nil => simp [Tbl.insert, Tbl.wf, Tbl.below, hv]
  | cons e t ih =>
    obtain ⟨k', v'⟩ := e
    rw [Tbl.wf_cons] at h
    simp only [Tbl.insert]
    split
    · subst_vars
      exact (Tbl.wf_cons ..).2 ⟨hv, h.2.1, h.2.2⟩
    · split
      · rename_i hlt
        exact (Tbl.wf_cons ..).2 ⟨hv, by simpa [Tbl.below] using hlt, (Tbl.wf_cons ..).2 h⟩
      · exact (Tbl.wf_cons ..).2 ⟨h.1, Tbl.below_insert v (by omega) h.2.1, ih h.2.2⟩

theorem Tbl.wf_filter {f : Nat → α} {t : Tbl α} (p : Nat × α → Bool) (h : t.wf f = true) :
    Tbl.wf f (List.filter p t) = true ∧ ∀ j, Tbl.below j t = true → Tbl.below j (List.filter p t) = true := by
  induction t with
  | nil => exact ⟨rfl, fun _ _ => rfl⟩
  | cons e t ih =>
    obtain ⟨k', v'⟩ := e
    rw [Tbl.wf_cons] at h
    have ih := ih h.2.2
    simp only [List.filter_cons]
    split
    · exact ⟨(Tbl.wf_cons ..).2 ⟨h.1, ih.2 _ h.2.1, ih.1⟩, fun j hj => hj⟩
    · refine ⟨ih.1, fun j hj => ih.2 j ?_⟩
      simp only [Tbl.below, decide_eq_true_eq] at hj
      exact Tbl.below_trans hj h.2.1

theorem Tbl.wf_set {f : Nat → α} {t : Tbl α} (k : Nat) (v : α) (h : t.wf f = true) : Tbl.wf f (t.set (f k) k v) = true := by
  unfold Tbl.set
  split
  · exact (Tbl.wf_filter _ h).1
  · exact Tbl.wf_insert k h ‹_›

/-- With one default for every key, a write keeps the canonical form. -/
theorem Tbl.wf_upd {d : α} {t : Tbl α} (k : Nat) (g : α → α) (h : t.wf (fun _ => d) = true) :
    Tbl.wf (fun _ => d) (t.upd d k g) = true := Tbl.wf_set k _ h

theorem Tbl.wf_clear {f : Nat → α} {t : Tbl α} (lo hi : Nat) (h : t.wf f = true) : Tbl.wf f (t.clear lo hi) = true :=
  (Tbl.wf_filter _ h).1

theorem Tbl.wf_mapVals (d : α) (g : α → α) {t : Tbl α} (h : t.wf (fun _ => d) = true) :
    Tbl.wf (fun _ => d) (t.mapVals d g) = true ∧ ∀ j, Tbl.below j t = true → Tbl.below j (t.mapVals d g) = true := by
  unfold Tbl.mapVals
  induction t with
  | nil => exact ⟨rfl, fun _ _ => rfl⟩
  | cons e t ih =>
    obtain ⟨k', v'⟩ := e
    rw [Tbl.wf_cons] at h
    have ih := ih h.2.2
    simp only [List.map_cons, List.filter_cons]
    split
    · rename_i hv
      exact ⟨(Tbl.wf_cons ..).2 ⟨by simpa using hv, ih.2 _ h.2.1, ih.1⟩, fun j hj => hj⟩
    · refine ⟨ih.1, fun j hj => ih.2 j ?_⟩
      simp only [Tbl.below, decide_eq_true_eq] at hj
      exact Tbl.below_trans hj h.2.1

/-- What was written is read back. -/
@[simp] theorem Tbl.get_set_self (d : α) (t : Tbl α) (k : Nat) (v : α) : Tbl.get d (t.set d k v) k = v := by
  unfold Tbl.set
  split
  · subst_vars
    exact Tbl.get_erase_self ..
  · exact Tbl.get_insert_self ..

@[simp] theorem Tbl.get_upd_self (d : α) (t : Tbl α) (k : Nat) (g : α → α) :
    Tbl.get d (t.upd d k g) k = g (t.get d k) := Tbl.get_set_self ..

/-- A write leaves every other key alone. -/
theorem Tbl.get_set_ne (d : α) (t : Tbl α) {k j : Nat} (v : α) (hj : j ≠ k) :
    Tbl.get d (t.set d k v) j = Tbl.get d t j := by
  unfold Tbl.set
  split
  · exact Tbl.get_erase_ne _ _ hj
  · exact Tbl.get_insert_ne _ _ _ hj

theorem Tbl.get_upd_ne (d : α) (t : Tbl α) {k j : Nat} (g : α → α) (hj : j ≠ k) :
    Tbl.get d (t.upd d k g) j = Tbl.get d t j := Tbl.get_set_ne _ _ _ hj

/-! ### Byte memories -/

theorem Mem.wf_write {m : Mem} (a : Nat) (v : Byte) (h : m.wf = true) : (m.write a v).wf = true :=
  Tbl.wf_set (f := fun _ => (0 : Byte)) a v h

theorem Mem.wf_writeN {m : Mem} (a : Nat) (bs : List Byte) (h : m.wf = true) : (m.writeN a bs).wf = true := by
  induction bs generalizing m a with
  | nil => exact h
  | cons b bs ih => exact ih _ (Mem.wf_write a b h)

theorem Mem.wf_zero {m : Mem} (lo hi : Nat) (h : m.wf = true) : (m.zero lo hi).wf = true := Tbl.wf_clear lo hi h

theorem Mem.wf_copy {m : Mem} (src dst n : Nat) (h : m.wf = true) : (m.copy src dst n).wf = true := by
  unfold Mem.copy
  generalize List.filter _ m = l
  have h0 := Mem.wf_zero dst (dst + n) h
  generalize m.zero dst (dst + n) = m0 at h0
  induction l generalizing m0 with
  | nil => exact h0
  | cons e l ih => exact ih _ (Mem.wf_write _ _ h0)

/-- A byte just written is read back. -/
@[simp] theorem Mem.read_write_self (m : Mem) (a : Nat) (v : Byte) : (m.write a v).read a = v := Tbl.get_set_self ..

/-- A write leaves every other byte alone. -/
theorem Mem.read_write_ne (m : Mem) {a b : Nat} (v : Byte) (hb : b ≠ a) : (m.write a v).read b = m.read b :=
  Tbl.get_set_ne _ _ v hb

theorem Mem.read_writeN_below (m : Mem) {a b : Nat} (bs : List Byte) (hb : b < a) :
    (m.writeN a bs).read b = m.read b := by
  induction bs generalizing m a with
  | nil => rfl
  | cons x bs ih =>
    simp only [Mem.writeN]
    rw [ih _ (by omega), Mem.read_write_ne m x (by omega)]

theorem Mem.read_writeN_above (m : Mem) {a b : Nat} (bs : List Byte) (hb : a + bs.length ≤ b) :
    (m.writeN a bs).read b = m.read b := by
  induction bs generalizing m a with
  | nil => rfl
  | cons x bs ih =>
    simp only [List.length_cons] at hb
    simp only [Mem.writeN]
    rw [ih _ (by omega), Mem.read_write_ne m x (by omega)]

/-- A block just written is read back. -/
theorem Mem.readN_writeN (m : Mem) (a : Nat) (bs : List Byte) : (m.writeN a bs).readN a bs.length = bs := by
  induction bs generalizing m a with
  | nil => rfl
  | cons x bs ih =>
    simp only [List.length_cons, Mem.readN, Mem.writeN, ih]
    rw [Mem.read_writeN_below _ bs (by omega), Mem.read_write_self]

end Sys2Proof.Machine
end

