-- ==== Sys2Proof/Laws/Lift.lean ====
section
/-!
SUPPORT. Laws/Lift.lean: what a command answers, from the lift that its meaning uses.
-/
namespace Sys2Proof.Machine

@[simp] theorem always_eq (f : Dev → Dev) (s : State) : always f s = .next (s.devMap f) := rfl

/-- With the base die running, a command of it is its operation on the device. -/
theorem onBase_up {s : State} (f : Dev → Dev) (h : s.dev.hub.up = true) : onBase f s = .next (s.devMap f) := by
  simp [onBase, State.devMap, h]

/-- With the base die held in reset, a command of it changes nothing. -/
theorem onBase_down {s : State} (f : Dev → Dev) (h : s.dev.hub.up = false) : onBase f s = .next s := by
  simp [onBase, State.devMap, h]

theorem onHub_up {s : State} (f : Hub → Hub) (h : s.dev.hub.up = true) : onHub f s = .next (s.hubMap f) :=
  onBase_up _ h

theorem onHub_down {s : State} (f : Hub → Hub) (h : s.dev.hub.up = false) : onHub f s = .next s := onBase_down _ h

/-- With both dies powered and running, a command of the footing die is its operation on the hub. -/
theorem onFoot_up {s : State} (f : Hub → Hub) (ha : s.dev.hub.therm.aux = true) (h : s.dev.hub.up = true) :
    onFoot f s = .next (s.hubMap f) := by
  simp [onFoot, always, State.hubMap, State.devMap, Dev.hubMap, Hub.atFoot, h, ha]

theorem onFoot_no_aux {s : State} (f : Hub → Hub) (ha : s.dev.hub.therm.aux = false) : onFoot f s = .next s := by
  simp [onFoot, always, State.devMap, Dev.hubMap, Hub.atFoot, ha]

/-- While the base die is in reset, the footing die acts alone. -/
theorem onFoot_down {s : State} (f : Hub → Hub) (ha : s.dev.hub.therm.aux = true) (h : s.dev.hub.up = false) :
    onFoot f s = .next (s.hubMap fun h => h.footOnly f) := by
  simp [onFoot, always, State.hubMap, State.devMap, Dev.hubMap, Hub.atFoot, h, ha]

/-! ### Reading back what was just changed -/

@[simp] theorem Hub.port_updPort (h : Hub) (x : Nat) (f : Port → Port) : (h.updPort x f).port x = f (h.port x) :=
  Tbl.get_upd_self ..

@[simp] theorem Hub.hsCh_updHs (h : Hub) (c : Nat) (f : HsCh → HsCh) : (h.updHs c f).hsCh c = f (h.hsCh c) :=
  Tbl.get_upd_self ..

@[simp] theorem Hub.pte_updPte (h : Hub) (p : Nat) (f : Pte → Pte) : (h.updPte p f).pte p = f (h.pte p) :=
  Tbl.get_upd_self ..

@[simp] theorem Hub.tileAt_updTile (h : Hub) (n : Nat) (f : Tile → Tile) : (h.updTile n f).tileAt n = f (h.tileAt n) :=
  Tbl.get_upd_self ..

@[simp] theorem Hub.acc_updAcc (h : Hub) (x : Nat) (f : GovAcc → GovAcc) : (h.updAcc x f).acc x = f (h.acc x) :=
  Tbl.get_upd_self ..

@[simp] theorem Hub.stream_updStrm (h : Hub) (i : Nat) (f : Strm → Strm) : (h.updStrm i f).stream i = f (h.stream i) :=
  Tbl.get_upd_self ..

@[simp] theorem Hub.rope_updRope (h : Hub) (r : Nat) (f : Rope → Rope) : (h.updRope r f).rope r = f (h.rope r) :=
  Tbl.get_upd_self ..

@[simp] theorem Hub.zone_updZone (h : Hub) (z : Nat) (f : Zone → Zone) : (h.updZone z f).zone z = f (h.zone z) :=
  Tbl.get_upd_self ..

@[simp] theorem Hub.coolCh_updCool (h : Hub) (c : Nat) (f : CoolCh → CoolCh) : (h.updCool c f).coolCh c = f (h.coolCh c) :=
  Tbl.get_upd_self ..

@[simp] theorem Hub.hod_updHod (h : Hub) (r : Nat) (f : Hod → Hod) : (h.updHod r f).hod r = f (h.hod r) :=
  Tbl.get_upd_self ..

@[simp] theorem Hub.push_updPush (h : Hub) (x : Nat) (f : Push → Push) : (h.updPush x f).push x = f (h.push x) :=
  Tbl.get_upd_self ..

@[simp] theorem Hub.adcCh_updAdc (h : Hub) (k : Nat) (f : AdcCh → AdcCh) : (h.updAdc k f).adcCh k = f (h.adcCh k) :=
  Tbl.get_upd_self ..

@[simp] theorem Hub.dts_updDts (h : Hub) (m : Nat) (f : Dts → Dts) : (h.updDts m f).dts m = f (h.dts m) :=
  Tbl.get_upd_self ..

@[simp] theorem Hub.pmon_updPm (h : Hub) (r : Nat) (f : Pmon → Pmon) : (h.updPm r f).pmon r = f (h.pmon r) :=
  Tbl.get_upd_self ..

end Sys2Proof.Machine
end

