-- ==== Sys2Proof/Machine/SpillFmt.lean ====
section
/-!
DEFINITION. Machine/SpillFmt.lean: what the LPDDR5X devices hold of a spilled page (R133, R134): ciphertext under AES-256-XTS and
the tags of the tag region. The state keeps the plaintext that the hub reads back; this is its stored form (log entry 96).
-/
namespace Sys2Proof.Machine

/-- A partition's key set (R491): the two keys of XTS and the key of CMAC, cut in this order from the generator's draw that made
it; none where the partition lacks one. -/
def Hub.spillKey (h : Hub) (part i : Nat) : Option (List Byte) :=
  match Tbl.get 0 h.sec.keySet part with
  | 0 => none
  | n + 1 => some (slice (Config.drbg n) (32 * i) 32)

/-- Doubling in the field of XTS and of CMAC, on a 128-bit number. -/
def double128 (t : Nat) : Nat := if t < 2 ^ 127 then 2 * t else (2 * t % 2 ^ 128) ^^^ 0x87

/-- Two equally long strings of bytes, combined by exclusive or. -/
def mixBytes (a b : List Byte) : List Byte := List.zipWith (· ^^^ ·) a b

/-- AES-256 of 16 bytes. -/
def aesBytes (ks : List Nat) (b : List Byte) : List Byte := beBytes 16 (aes256With ks (beNat b))

/-- `n` blocks of a data unit under XTS, from the tweak of the first. -/
def xtsBlocks (ks : List Nat) : Nat → Nat → List Byte → List Byte
  | 0, _, _ => []
  | n + 1, t, bs =>
    let w := leBytes 16 t
    mixBytes (aesBytes ks (mixBytes (bs.take 16) w)) w ++ xtsBlocks ks n (double128 t) (bs.drop 16)

/-- The ciphertext of a 4 KiB unit: the tweak is the unit number (R134). -/
def xtsUnit (key tweakKey : List Byte) (unit : Nat) (text : List Byte) : List Byte :=
  xtsBlocks (aes256Sched key) 256 (leNat (aesBytes (aes256Sched tweakKey) (leBytes 16 unit))) text


/-- AES-256-CMAC of a string that is not empty (NIST SP 800-38B). -/
def cmac256 (key msg : List Byte) : Nat :=
  let ks := aes256Sched key
  let k1 := double128 (aes256With ks 0)
  let n := divUp msg.length 16
  let last := msg.drop (16 * (n - 1))
  let tail := if last.length = 16 then beNat last ^^^ k1 else beNat (padTo 16 (last ++ [0x80])) ^^^ double128 k1
  let body := (blocks16 (msg.take (16 * (n - 1)))).foldl (fun c b => aes256With ks (c ^^^ b)) 0
  aes256With ks (body ^^^ tail)

/-- The number of a page's unit `u` in spill memory: the spill address shifted right by 12 (R133, R134). -/
def Pte.unit (e : Pte) (u : Nat) : Nat := 16 * e.frame + u

/-- The ciphertext that spill memory holds of unit `u` of a spilled page (R134). -/
def Dev.unitCipher (d : Dev) (e : Pte) (u : Nat) : Option (List Byte) :=
  match d.hub.spillKey e.part 0, d.hub.spillKey e.part 1 with
  | some k, some t => some (xtsUnit k t (e.unit u) (d.readPage e (4096 * u) 4096))
  | _, _ => none

/-- The 64-bit tag that the tag region holds of that unit (R134): over the unit number in 8 bytes, PART in one and GEN in two,
least significant first, and the ciphertext. -/
def Dev.unitTag (d : Dev) (e : Pte) (u : Nat) : Option (BitVec 64) :=
  match d.hub.spillKey e.part 2, d.unitCipher e u with
  | some k, some c =>
    some (BitVec.ofNat 64 (cmac256 k (leBytes 8 (e.unit u) ++ leBytes 1 e.part ++ leBytes 2 e.gen ++ c) / 2 ^ 64))
  | _, _ => none

end Sys2Proof.Machine
end

