-- ==== Sys2Proof/WellFormed.lean ====
section
/-!
DEFINITION. WellFormed.lean: which commands have operands in range. The machine runs every command; a command that is not
well formed has operands that no sender can produce.
-/
namespace Sys2Proof

open Machine

/-- A register access is of 1, 2, 4 or 8 bytes. -/
def sizeOk (n : Nat) : Bool := [1, 2, 4, 8].contains n

/-- An identity image that was read has its memory's size. -/
def imageOk (n : Nat) (image : Option (List Byte)) : Bool := image.all (fun b => b.length == n)

/-- A BAR4 access stays within one page (R132). -/
def bar4Ok (addr : Nat) (wr : Option (List Byte)) (n : Nat) : Bool :=
  let len := (wr.map List.length).getD n
  decide (1 ≤ len) && decide (addr % 65536 + len ≤ 65536) && (wr.isSome || decide (n ≤ 8))

/-- A start of the base die: spill memory from 0 to 128 GiB, eight channels, 768 tiles (R118, R133). -/
def Machine.Boot.wf (b : Boot) : Bool :=
  decide (b.gib ≤ 128) && decide (b.badChannels < 256) && b.badTiles.all (fun n => decide (n < 768))

/-- Ten channels, each within the ADC's range. -/
def Machine.CourseMeas.wf (m : CourseMeas) : Bool :=
  decide (m.chan.length = 10) && m.chan.all fun e => decide (e.1 < 2 ^ 32) && decide (e.2 < 2 ^ 32)

/-- Credits for the six virtual channels (R62). -/
def Machine.Caps.wf (c : Caps) : Bool := decide (c.credits.length = 6)

/-- A slot counter has 64 bits (R85). -/
def Machine.SealAnnounce.wf (a : SealAnnounce) : Bool := decide (a.counter < 2 ^ 64)

/-- A brick slot carries 256 payload bytes (R66). -/
def Machine.Brick.wf (b : Brick) : Bool := decide (b.payload.length = 256)

/-- Addresses within the 37 bits of the spill space (R133). -/
def Machine.EccReport.wf (e : EccReport) : Bool := e.bad.all fun a => decide (a < 2 ^ 37)

/-- A converter's reason is none, open, short, overrange or a fault (R343). -/
def Machine.Sample.wf (a : Sample) : Bool := [0, 4, 5, 6, 7].contains a.reason

/-- A hod's tag and transaction id have 16 bits (R387). -/
def Machine.Call.wf (c : Call) : Bool := decide (c.tag < 65536) && decide (c.txn < 65536)

/-- An MCTP control request: an endpoint id of 8 bits, a tag of 3, an instance of 5 and an address of 8. -/
def Machine.CtlFrom.wf (c : CtlFrom) : Bool :=
  decide (c.eid < 256) && decide (c.tag < 8) && decide (c.inst < 32) && decide (c.slave < 256)

/-- An SPDM request: an endpoint id of 8 bits and a tag of 3. -/
def Machine.SpdmMsg.wf (q : SpdmMsg) : Bool := decide (q.eid < 256) && decide (q.tag < 8)

/-- A rack frame names positions and carries at most 248 bytes (R435). -/
def Machine.Frame.wf (f : Frame) : Bool := decide (f.src < 256) && decide (f.dst < 256) && decide (f.payload.length ≤ 248)

/-- A key is a P-384 point of 96 bytes (R480). -/
def Machine.OtpWrite.wf : OtpWrite → Bool
  | .revoke _ => true
  | .ok0 k | .ok1 k | .dk k => decide (k.length = 96)


/-- The operands of a command lie in the ranges that its row gives them. Ranges that a type states need no check. -/
def Instr.wf : Instr → Bool
  | .footingPowerOn _ _ => true
  | .powerOnReset _ => true
  | .hubRstDeassert b => b.wf
  | .romBoot => true
  | .courseBoundary => true
  | .telemetryClose meas => meas.wf
  | .grantPoint _ => true
  | .crcComplete => true
  | .crsPeriodWrite _ _ => true
  | .registerWrite _ _ size v => sizeOk size && decide (v.toNat < 256 ^ size)
  | .pairLoRead _ _ => true
  | .pairHiRead _ _ => true
  | .pairHiWrite _ _ _ => true
  | .rcRead _ _ => true
  | .cfgRefWrite _ _ => true
  | .txnCtrlBegin _ => true
  | .txnCtrlCommit _ _ => true
  | .txnCtrlAbort _ => true
  | .resetCtrlWarm _ => true
  | .txnOpenTimeout _ => true
  | .stageMaxTimeout _ => true
  | .portCtrlRetrain _ _ => true
  | .portCtrlFenceRelease _ _ => true
  | .cableInserted _ _ image => imageOk 32 image
  | .cableRemoved _ _ => true
  | .signalDetected _ _ => true
  | .pollLocked _ => true
  | .pollTimeout _ _ => true
  | .equalizeDone _ _ => true
  | .equalizeTimeout _ => true
  | .configExchange _ caps => caps.wf
  | .configTimeout _ => true
  | .sealSyncDone _ ann => ann.wf
  | .sealSyncTimeout _ => true
  | .laneLockLost _ _ => true
  | .uncorrectableRun _ _ => true
  | .retrainDone _ _ ann => ann.all SealAnnounce.wf
  | .retrainTimeout _ => true
  | .fenceReentryTimeout _ => true
  | .brickReceived _ b _ _ => b.wf
  | .nakReceived _ _ => true
  | .nakRepeatTimeout _ => true
  | .ackTimer _ => true
  | .replayTimeout _ => true
  | .retryLimit _ => true
  | .creditTimeout _ _ => true
  | .brickTransmit _ overdue => overdue.all fun e => decide (e.2 < 6)
  | .rekeyRequest _ => true
  | .rekeySwitch _ => true
  | .sealCounterExhausted _ => true
  | .sealAccept _ => true
  | .sealRejectReceived _ => true
  | .sealExchangeTimeout _ => true
  | .readReq _ _ ecc => ecc.wf
  | .write _ _ ecc => ecc.wf
  | .groupWakeComplete _ => true
  | .groupRetainTimeout _ => true
  | .bar4Access _ addr wr n => bar4Ok addr.addr wr n
  | .tileTestComplete _ _ => true
  | .tileRetestStart _ => true
  | .scrubPass ces _ => ces.all fun e => decide (e.1 < 768)
  | .accDecay => true
  | .migrationComplete m => decide (m.page < 2 ^ 32) && (m.ces.all fun e => decide (e.1 < 768)) && (m.tags.all fun u => decide (u < 16))
  | .mortarDesc _ => true
  | .mortarOpnd _ => true
  | .chunkComplete _ id offset => decide (id < 2 ^ 16) && decide (offset < 2 ^ 32)
  | .collectiveTimeout _ id => decide (id < 2 ^ 16)
  | .mortarStStart => true
  | .mortarDrainComplete => true
  | .mortarDrainTimeout => true
  | .mortarStComplete _ => true
  | .logits _ => true
  | .tokenIssue _ => true
  | .stepTimeout _ => true
  | .smpStStart => true
  | .smpDrainComplete => true
  | .smpDrainTimeout => true
  | .smpStComplete _ => true
  | .smpSliceStart => true
  | .smpSliceEnd => true
  | .dispatch _ => true
  | .quantumEnd _ => true
  | .readyMessage _ => true
  | .yieldMessage _ => true
  | .parkMessage _ => true
  | .doneMessage _ => true
  | .faultMessage _ => true
  | .revokeAck _ => true
  | .drainTimeout _ => true
  | .barrierArrive _ => true
  | .barrierTimeout id => decide (id < 4096)
  | .addP _ => true
  | .addC _ => true
  | .waitGe _ => true
  | .waitLe _ => true
  | .tallyRead _ => true
  | .tallyWaitTimeout id _ => decide (id < 16384)
  | .telemetry _ => true
  | .vralertAssert _ => true
  | .vralertReleaseTimeout _ => true
  | .flowLossAssert => true
  | .flowLossDeassert => true
  | .flowLossReleaseTimeout => true
  | .leaseExpiry => true
  | .sledSeated _ => true
  | .sledUnseated _ _ => true
  | .rampStart _ => true
  | .powerGood _ ms peak => decide (ms < 65536) && decide (peak < 2 ^ 32)
  | .rstDelayExpiry _ => true
  | .rampTimeout _ cur vds => decide (cur < 2 ^ 32) && decide (vds < 2 ^ 32)
  | .enhLost _ cur vds => decide (cur < 2 ^ 32) && decide (vds < 2 ^ 32)
  | .fastTrip _ cur vds => decide (cur < 2 ^ 32) && decide (vds < 2 ^ 32)
  | .breakerTimeout _ cur vds => decide (cur < 2 ^ 32) && decide (vds < 2 ^ 32)
  | .soaTrip _ _ cur vds => decide (cur < 2 ^ 32) && decide (vds < 2 ^ 32)
  | .backoffEnd _ => true
  | .retryCountReset _ => true
  | .busOutOfRange mv => decide (mv < 65536)
  | .busGoodTimeout mv => decide (mv < 65536)
  | .sysShdnAssert => true
  | .sysShdnRelease => true
  | .traySeqStep => true
  | .flowWaitTimeout => true
  | .seqDownStep => true
  | .chCtrlOff _ _ => true
  | .chCtrlOn _ _ => true
  | .chCtrlRelease _ _ => true
  | .zoneUpdate => true
  | .heartbeatWrite _ _ => true
  | .hostSilenceTimeout => true
  | .fanFailTimeout _ _ => true
  | .fanRecoverTimeout _ _ => true
  | .pumpFlowLowTimeout _ _ => true
  | .sensorFaultTimeout _ => true
  | .sensorRestoreTimeout _ => true
  | .critComparatorTrip _ _ => true
  | .critReleaseTimeout => true
  | .ropeMeasure readings => decide (readings.length = 6)
  | .ropeMoist _ => true
  | .ropeOpen _ => true
  | .leakAction _ => true
  | .leakCtrlClear _ _ => true
  | .scanFrame => true
  | .adcConversion smp => smp.wf
  | .adcCalibration _ _ _ => true
  | .adcFaultTimeout => true
  | .sarCheck _ _ cur vsrc vds => decide (cur < 2 ^ 32) && decide (vsrc < 2 ^ 32) && decide (vds < 2 ^ 32)
  | .dtsUpdate readings _ => decide (readings.length = 32)
  | .dtsFail _ _ => true
  | .hubVralertAssert => true
  | .hubThrottleExit => true
  | .vmonSample readings => decide (readings.length = 24)
  | .vmonExcursion _ => true
  | .pmCount counts => decide (counts.length = 16)
  | .pmDailyStore => true
  | .refclkSdLost => true
  | .crystalLost => true
  | .clk32kLost => true
  | .hodRing _ => true
  | .vfCompletionRelease => true
  | .pageAlloc c _ _ _ => c.wf
  | .pageFree c pages => c.wf && decide (4 * pages.length ≤ 4080)
  | .leaseSet c _ _ _ => c.wf
  | .pagePin c _ _ => c.wf
  | .pteRead c _ => c.wf
  | .pageMove c _ _ => c.wf
  | .hubOpndWrite c _ _ _ bytes => c.wf && decide (bytes.length ≤ 4080)
  | .hubOpndRead c _ _ _ => c.wf
  | .collAbort c _ _ => c.wf
  | .smpProgWrite c _ _ record => c.wf && decide (record.length = 64)
  | .smpBind c _ _ _ _ => c.wf
  | .smpStateSet c _ _ _ tokens => c.wf && decide (4 * tokens.length ≤ 4080)
  | .smpLast c _ => c.wf
  | .smpTableWrite c _ _ bytes => c.wf && decide (bytes.length ≤ 4080)
  | .streamReady c _ user => c.wf && decide (user.length = 32)
  | .streamPark c _ => c.wf
  | .streamStop c _ => c.wf
  | .streamReset c _ => c.wf
  | .streamSetQueue c _ _ => c.wf
  | .streamQuery c _ => c.wf
  | .jobStart c _ _ => c.wf
  | .jobEnd c _ => c.wf
  | .partSwitch c _ => c.wf
  | .barSet c _ record => c.wf && decide (record.length = 28)
  | .barFree c _ => c.wf
  | .barReset c _ => c.wf
  | .barArrive c _ _ => c.wf
  | .barQuery c _ => c.wf
  | .tallySet c _ record => c.wf && decide (record.length = 16)
  | .tallyQuery c _ => c.wf
  | .tallyFree c _ => c.wf
  | .pwrQuery c _ => c.wf
  | .phaseTableSet c _ record => c.wf && decide (record.length = 256)
  | .estReset c _ _ => c.wf
  | .hsOff c _ => c.wf
  | .hsOn c _ => c.wf
  | .hsRelease c _ => c.wf
  | .hsQuery c _ => c.wf
  | .traySeqUp c => c.wf
  | .traySeqDown c => c.wf
  | .coolHeartbeat c => c.wf
  | .coolQuery c _ _ => c.wf
  | .leakClear c _ => c.wf
  | .leakQuery c => c.wf
  | .senseRead c _ => c.wf
  | .senseCal c => c.wf
  | .monRead c => c.wf
  | .txnBegin c => c.wf
  | .txnCommit c _ _ => c.wf
  | .txnAbort c _ => c.wf
  | .cfgRefSet c _ => c.wf
  | .warmReset c => c.wf
  | .hodEcho c bytes => c.wf && decide (bytes.length ≤ 4080)
  | .hodCaps c => c.wf
  | .idRead c _ _ _ _ => c.wf
  | .smbStatus c => c.wf
  | .rackQuery c _ => c.wf
  | .rackRoleRequest c => c.wf
  | .rackSleep c => c.wf
  | .fwWrite c _ _ bytes => c.wf && decide (bytes.length ≤ 4080)
  | .fwVerify c _ _ => c.wf
  | .fwActivate c _ _ _ => c.wf
  | .fwActivateCancel c => c.wf
  | .fwQuery c => c.wf
  | .jobplaneLoad c _ _ bytes => c.wf && decide (bytes.length ≤ 4080)
  | .accImageWrite c _ _ bytes => c.wf && decide (bytes.length ≤ 4080)
  | .secQuery c => c.wf
  | .jtagUnlockChallenge c => c.wf
  | .jtagUnlockLevel c _ _ token => c.wf && decide (token.length ≤ 4080)
  | .jtagRelock c => c.wf
  | .debugLevelExpiry => true
  | .logRead c _ _ => c.wf
  | .logClear c => c.wf
  | .logEraseComplete _ => true
  | .logStatus c => c.wf
  | .safetyQuery c => c.wf
  | .emuWrite _ offset _ => decide (offset < 2 ^ 19)
  | .emuWriteApply => true
  | .mctpPacketReceived _ _ packet => decide (4 ≤ packet.length)
  | .mctpAssemblyTimeout _ _ => true
  | .setEndpointId c _ _ => c.wf
  | .getEndpointId c => c.wf
  | .getEndpointUuid c => c.wf
  | .getMctpVersionSupport c _ => c.wf
  | .getMessageTypeSupport c => c.wf
  | .getVdmSupport c _ => c.wf
  | .getVersion q => q.wf
  | .getCapabilities q => q.wf
  | .negotiateAlgorithms q => q.wf
  | .getDigests q => q.wf
  | .getCertificate q => q.wf
  | .challenge q => q.wf
  | .getMeasurements q => q.wf
  | .keyExchange q => q.wf
  | .finish q => q.wf
  | .heartbeat q => q.wf
  | .keyUpdate q => q.wf
  | .endSession q => q.wf
  | .smbCmdStatus _ => true
  | .statusClear _ _ => true
  | .alertMaskRead _ => true
  | .alertMaskWrite _ _ => true
  | .deviceId _ => true
  | .course _ => true
  | .mctpBlockWrite data _ => decide (data.length ≤ 255)
  | .mctpBlockRead _ => true
  | .regAddr _ data _ => decide (data.length ≤ 255)
  | .regDataRead _ _ => true
  | .regDataWrite _ data _ => decide (data.length ≤ 255)
  | .hodPtr _ _ => true
  | .hodDataRead _ _ => true
  | .hodDataWrite _ data _ => decide (data.length ≤ 255)
  | .smbHodRing _ _ => true
  | .hodStatus _ => true
  | .alertResponse _ => true
  | .smbSclTimeout => true
  | .smbStretchTimeout _ _ _ => true
  | .smbRstAssert _ => true
  | .hubSleepEntry => true
  | .hubSleepExit => true
  | .smbWakeMatch => true
  | .pcieReset => true
  | .flr _ => true
  | .pcieLinkUp _ _ => true
  | .sledPresent _ => true
  | .sledIdReadComplete _ image => imageOk 2560 image
  | .sledPresenceLost _ => true
  | .idRetryTimeout _ _ => true
  | .idBusStuck _ => true
  | .idBusRetry _ cableA cableB => imageOk 32 cableA && imageOk 32 cableB
  | .chainLinkUp _ _ => true
  | .chainLinkDown _ => true
  | .enum f _ => f.wf
  | .enumDone f _ => f.wf
  | .roundSend _ => true
  | .round f _ => f.wf
  | .report f => f.wf
  | .syncPulse _ => true
  | .roleReq f => f.wf
  | .managerLost => true
  | .roleReqTimeout => true
  | .wake f => f.wf
  | .sleepCommit => true
  | .hod f => f.wf
  | .hodRsp f => f.wf
  | .rackQueryTimeout pos => decide (pos ≤ 32)
  | .watchdogExpiry _ => true
  | .coreTrap _ => true
  | .crashLoop => true
  | .fwCtrlKick _ => true
  | .fwCtrlConfirm _ => true
  | .trialTimeout _ => true
  | .accPushStart => true
  | .imageDone _ => true
  | .imageDoneTimeout _ => true
  | .drbgHealthFail _ => true
  | .drbgReseed => true
  | .logDrain _ => true
  | .wallRefWrite _ _ => true
  | .wallOfsWrap => true
  | .vinAuxLoss => true
  | .baseSupplyLoss => true
  | .crystalRestored b => b.wf
  | .refclkSdRestored => true
  | .clk32kRestored => true
  | .smbRstDeassert => true
  | .firstKickTimeout _ => true
  | .accResetPulseEnd _ => true
  | .hsOffGateOff _ => true
  | .thermtripLatchRelease => true
  | .domainSwitchOnComplete _ => true
  | .sleepEntryComplete => true
  | .targetClocksRun => true
  | .sleepExitComplete => true
  | .otpFuseProgram w => w.wf
  | .jtagInstruction _ => true
  | .smbUnknownCommand _ => true
  | .mctpUnsupportedControl c _ => c.wf
  | .spdmUnsupportedRequest _ q => q.wf
  | .hodBufWrite _ offset bytes => decide (offset + bytes.length ≤ 8192)

end Sys2Proof
end

