-- ==== Sys2Proof/Tests/Slice0.lean ====
section
/-!
SUPPORT. Tests/Slice0.lean: the model's own tests: operands that are not well formed are refused as such; for the hypotheses of
each statement a state and operands that meet them; small steps whose results the spec states.
-/

namespace Sys2Proof.Tests

set_option Elab.async false

open Sys2Proof Sys2Proof.Machine

/-- A hub that runs, with its firmware up, changed by `f`. -/
def hub (f : Hub → Hub) : Hub :=
  f { State.reset.dev.hub with up := true, fw := { State.reset.dev.hub.fw with phase := .up } }

/-- The machine with that hub. -/
def st (f : Hub → Hub) : State := { dev := { hub := hub f } }

/-- The hub with port U0 as given. -/
def port0 (p : Port) : Hub := hub fun h => h.updPort 0 fun _ => p

/-- An ACTIVE plain port with both cables. -/
def live : Port := { st := .active, active := 0xFF, locked := 0xFF, cblA := true, cblB := true }

/-! ### Accelerator ports -/

theorem test_witness_TrainingAdvancesPort_detect :
    let h := hub fun h => (h.updPort 0 fun p => { p with cblA := true, cblB := true }).updHs 0 fun k => { k with rst := false }
    h.up = true ∧ (h.port 0).st = .detect ∧ h.bitAt (portReg 0 0) 0 = true ∧ h.rstReleased 0 = true ∧
      ((h.port 0).cblA || (h.port 0).cblB) = true ∧ h.minOctets 0 ≤ octets (0x3F &&& (h.port 0).present) := by decide

theorem test_witness_TrainingAdvancesPort_poll :
    let h := port0 { st := .poll, cblA := true, cblB := true }
    h.up = true ∧ (h.port 0).st = .poll ∧ h.minOctets 0 ≤ octets (h.port 0).present ∧
      h.minOctets 0 ≤ octets (0x3F &&& (h.port 0).present) := by decide

theorem test_witness_TrainingAdvancesPort_equalize :
    let h := port0 { st := .equalize, cblA := true, cblB := true, locked := 0xFF }
    (h.port 0).st = .equalize ∧ h.minOctets 0 ≤ octets (0x3F &&& (h.port 0).locked) := by decide

/-- A port whose cable A is reversed whole, and one whose first two lanes are crossed (R57). -/
def reversedA : Wiring := { inverted := 5, order := (List.range 32).map (31 - ·) ++ (List.range 32).map (32 + ·) }
def crossed : Wiring := { order := 1 :: 0 :: (List.range 62).map (2 + ·) }

theorem test_witness_TrainingAdvancesPort_wiring :
    let p : Port := { st := .poll, cblA := true, cblB := true }
    p.present &&& reversedA.locks = p.present ∧ reversedA.reversed false = true ∧ crossed.locks = 0xFE ∧
      (port0 p).minOctets 0 ≤ octets (0xFF &&& crossed.locks &&& p.present) := by decide +kernel

/-- What an endpoint that matches this hub announces. -/
def goodCaps : Caps :=
  { rate := BitVec.ofNat 8 Config.orderCode.laneRate, fecModes := 3, credits := List.replicate 6 8, octets := 0xFF, canSeal := true }

/-- The rate that the hub announces fits its field. -/
theorem goodCaps_rate : goodCaps.rate.toNat = Config.orderCode.laneRate := by
  have (c : Config.OrderCode) : (BitVec.ofNat 8 c.laneRate).toNat = c.laneRate := by cases c <;> rfl
  exact this _

theorem test_witness_TrainingAdvancesPort_config :
    let h := port0 { st := .config, cblA := true, cblB := true, locked := 0xFF }
    (h.port 0).st = .config ∧ h.configCheck 0 goodCaps = none := by
  refine ⟨by decide, ?_⟩
  unfold Hub.configCheck
  rw [if_neg (by rw [goodCaps_rate]; simp)]
  decide

theorem test_witness_TrainingFailureNamesReason :
    octets (0x3F &&& crossed.locks &&& ((port0 { st := .poll, cblA := true, cblB := true }).port 0).present) <
        (port0 { st := .poll, cblA := true, cblB := true }).minOctets 0 ∧
      ((port0 { st := .poll, cblA := true, cblB := true }).port 0).st = .poll ∧
      ((port0 { st := .equalize }).port 0).st = .equalize ∧ ((port0 { st := .config }).port 0).st = .config ∧
      ((port0 { st := .sealSync }).port 0).st = .sealSync := by decide +kernel

theorem test_witness_TrainingFailureNamesReason_config :
    let h := port0 { st := .config, locked := 0xFF }
    h.configCheck 0 { goodCaps with rate := 0 } = some 0x04 ∧ h.configCheck 0 { goodCaps with fecModes := 0 } = some 0x05 ∧
      h.configCheck 0 { goodCaps with credits := [8, 8, 8, 8, 8, 7] } = some 0x06 ∧
      h.configCheck 0 { goodCaps with credits := [4095, 4095, 4095, 4095, 4095, 4096] } = some 0x06 ∧
      h.configCheck 0 { goodCaps with octets := 0x1F } = some 0x07 := by
  have bad : ((0 : BitVec 8).toNat ≠ Config.orderCode.laneRate) := by
    have (c : Config.OrderCode) : (0 : BitVec 8).toNat ≠ c.laneRate := by cases c <;> decide
    exact this _
  unfold Hub.configCheck
  refine ⟨by rw [if_pos bad], ?_, ?_, ?_, ?_⟩ <;> rw [if_neg (by simp [goodCaps_rate])] <;> decide +kernel

theorem test_witness_ThirdFailedAttemptFails :
    (1 : Nat) ≠ 0 ∧ (1 : Nat) ≠ 0 ∧ (port0 { st := .poll }).fab.port.wf (fun _ => {}) = true ∧
      min 15 (((port0 { st := .poll }).port 0).attempts + 1) < 3 ∧
      3 ≤ min 15 (((port0 { st := .poll, attempts := 2 }).port 0).attempts + 1) := by decide

theorem test_witness_LossEntersRetrain :
    (port0 live).up = true ∧ ((port0 live).port 0).st = .active ∧
      ((port0 live).port 0).active &&& (1#8 <<< (63 / 8)) ≠ 0 ∧
      ((port0 { live with st := .retrain }).port 0).st = .retrain ∧
      (let p := (port0 { live with retry := [{ typ := 9 }, { typ := 9, seq := 1 }], sends := [7, 8] }).port 0
       p.retry.zip p.sends = [({ typ := 9 }, 7)] ++ ({ typ := 9, seq := 1 }, 8) :: [] ∧
         ∀ e ∈ [(({ typ := 9 } : Brick), 7)], e.2 < 8) := by decide

theorem test_witness_LossEntersRetrain_cable :
    let h := hub fun h => (h.updPort 0 fun _ => live).setFld (portReg 0 0) 11 8 4
    (h.port 0).st = .active ∧ h.minOctets 0 ≤ octets ((h.port 0).active &&& ~~~cableOctets true) := by decide

theorem test_witness_FenceNamesReason_retrain :
    let h := port0 { live with st := .retrain, locked := 0x1F }
    h.up = true ∧ (h.port 0).st = .retrain ∧ octets ((h.port 0).active &&& (h.port 0).locked &&& 0xFF) < h.minOctets 0 ∧
      (h.port 0).annOk none = true ∧ (h.port 0).retryLimit = false ∧ ((port0 { live with st := .retrain, retryLimit := true }).port 0).retryLimit = true := by
  decide

theorem test_witness_FenceNamesReason_credit :
    let b : Brick := { typ := 0x09, vc := 1 }
    let h := port0 { live with egress := [(0x40, b)] }
    (h.port 0).st = .active ∧ (h.port 0).sealHold = false ∧ Tbl.get 0 (h.port 0).credit 1 = 0 ∧
      (0x40, b) ∈ (h.port 0).egress ∧ b.vc.toNat = 1 := by decide

theorem test_witness_FenceNamesReason_seal :
    2 ^ 44 ≤ ((port0 { live with sealed := true, txCtr := 2 ^ 44 }).port 0).txCtr ∧
      ((port0 { live with sealed := true, txCtr := 2 ^ 44 - 1, rxCtr := 2 ^ 44 }).port 0).txCtr < 2 ^ 44 ∧
      2 ^ 44 ≤ ((port0 { live with sealed := true, rxCtr := 2 ^ 44 }).port 0).rxCtr ∧
      octets (((port0 live).port 0).active &&& ~~~cableOctets false) < (port0 live).minOctets 0 := by decide +kernel

theorem test_witness_PortReturnsToActive :
    ((port0 { st := .fenced, lastFail := 0x09 }).port 0).lastFail = 0x09 ∧
      (port0 { live with st := .retrain, locked := 0x3F }).minOctets 0 ≤
        octets (((port0 { live with st := .retrain, locked := 0x3F }).port 0).active &&& 0x3F &&& 0xFF) ∧
      ((port0 { live with st := .retrain, locked := 0x3F }).port 0).sealHold = false ∧
      ((port0 { live with st := .retrain }).port 0).st = .retrain ∧
      ((port0 { live with st := .retrain, sealed := true }).port 0).annOk none = false := by decide

theorem test_witness_PortReturnsToActive_sealed :
    let r := (port0 { live with st := .retrain, locked := 0xFF, sealed := true, rxSlot := true, rxCtr := 5, rxKey1 := [1] }).port 0
    let y := (port0 { st := .sealSync, rxSlot := true, rxCtr := 5, rxKey0 := [2], rxKey1 := [1] }).port 0
    r.sealed = true ∧ r.toPlain = false ∧ r.sealHold = false ∧ r.rxKey true ≠ [] ∧ r.rxSlot = true ∧ r.rxCtr ≤ 5 ∧ 4 < r.rxCtr ∧
      y.st = .sealSync ∧ y.heldIn = [] ∧ y.rxKey true ≠ [] ∧ y.rxSlot = true ∧ y.rxCtr ≤ 5 ∧ 4 < y.rxCtr ∧ y.rxKey false ≠ [] ∧
      false ≠ y.rxSlot := by decide

theorem test_witness_CableInsertionShows : (port0 { st := .failed, attempts := 3 }).up = true := rfl

/-- The CRC field is not covered by the CRC. -/
theorem crc_of_check (b : Brick) (c : BitVec 64) : ({ b with check := c } : Brick).crc = b.crc := rfl

/-- A WRITE brick, and the same with its CRC field right, and wrong. -/
def plainBrick : Brick := { typ := 0x09, payload := [1] }
def goodBrick : Brick := { plainBrick with check := plainBrick.crc }
def badBrick : Brick := { plainBrick with check := ~~~plainBrick.crc }

theorem test_witness_BricksAcceptedInSequence :
    ((port0 live).port 0).st = .active ∧ ((port0 live).port 0).sealed = false ∧ goodBrick.check = goodBrick.crc ∧
      goodBrick.is .idle = false ∧ goodBrick.is .nak = false ∧ goodBrick.seq = ((port0 live).port 0).rxNext :=
  ⟨by decide, by decide, (crc_of_check plainBrick plainBrick.crc).symm, by decide, by decide, by decide⟩

theorem test_witness_BricksAcceptedInSequence_order :
    0 < (((port0 { live with rxNext := 2 }).port 0).rxNext - goodBrick.seq).toNat ∧
      (((port0 { live with rxNext := 2 ^ 31 }).port 0).rxNext - goodBrick.seq).toNat ≤ 2 ^ 31 ∧
      2 ^ 31 < (((port0 { live with rxNext := 2 ^ 31 + 1 }).port 0).rxNext - goodBrick.seq).toNat := by decide

theorem test_witness_BricksAcceptedInSequence_bad : badBrick.check ≠ badBrick.crc := by
  have not_ne : ∀ x : BitVec 64, ~~~x ≠ x := by
    intro x h
    have := congrArg (fun y => y.getLsbD 0) h
    simp at this
  have e : badBrick.crc = plainBrick.crc := crc_of_check plainBrick (~~~plainBrick.crc)
  rw [e]
  exact not_ne plainBrick.crc

theorem test_witness_LinkTimersActOnPort :
    let p : Port := { live with retry := [{ typ := 9, seq := 7 }], nakWait := true, ackDue := 1 }
    let h := port0 p
    (h.port 0).st = .active ∧ (h.port 0).retry.findIdx? (fun r => r.seq == 7) = some 0 ∧ (h.port 0).nakWait = true ∧
      0 < (h.port 0).ackDue ∧ (h.port 0).retry ≠ [] := by decide +kernel

theorem test_witness_EgressSlotOrder :
    let h := port0 { live with nakOut := true }
    let k := port0 { live with retry := [{ typ := 9, seq := 7 }], resend := 1 }
    (h.port 0).st = .active ∧ (h.port 0).sealed = false ∧ h.therm.throt = false ∧ (h.port 0).nakOut = true ∧
      (k.port 0).nakOut = false ∧ 0 < (k.port 0).resend ∧
      (k.port 0).retry[(k.port 0).retry.length - (k.port 0).resend]? = some { typ := 9, seq := 7 } ∧
      (port0 live).choose 0 [] = none ∧ ((port0 live).port 0).retry.length < 2048 ∧ ((port0 live).port 0).resend = 0 := by decide

theorem test_witness_EgressSlotOrder_choose :
    let h := port0 { live with egress := [(0x40, { typ := 0x0C, vc := 1 })], credit := [(1, 8)] }
    ((h.choose 0 []).map fun c => c.1.2.vcOk) = some true := by decide +kernel

theorem test_witness_EgressSlotOrder_wrongVc :
    let h := port0 { live with egress := [(8, { typ := 0x0C, vc := 0 })], credit := [(0, 8)] }
    ((h.choose 0 []).map fun c => (c.1.2.vcOk, c.1.2.bt.isSome, decide (8 ≤ c.1.1))) = some (false, true, true) ∧
      ((h.port 0).sealed = true → (h.port 0).txCtr < 2 ^ 44) ∧
      ((port0 { live with sealed := true, txCtr := 2 ^ 44 - 1 }).port 0).txCtr < 2 ^ 44 := by decide +kernel

theorem test_witness_EgressSlotOrder_full :
    2048 ≤ ((port0 { live with retry := List.replicate 2048 { typ := 9 } }).port 0).retry.length := by
  decide +kernel

theorem test_witness_EgressSlotOrder_throttle :
    let h := hub fun h => { h.updPort 0 (fun _ => live) with therm := { h.therm with throt := true } }
    h.therm.throt = true ∧ (h.port 0).thr + h.fld 0x100034 6 0 < 100 := by decide

theorem test_witness_SealExchangeRows :
    let h := port0 { live with sealed := true, txCtr := 2 ^ 39 }
    (h.port 0).rekeySlot = some true ∧ (h.port 0).st = .active ∧ (h.port 0).sealed = true ∧ (h.port 0).ex.xstate ≠ 1 ∧
      ((port0 { live with sealed := true, txCtr := 2 ^ 40, txKey1 := [1] }).port 0).txKey true ≠ [] ∧
      2 ^ 40 ≤ ((port0 { live with sealed := true, txCtr := 2 ^ 40 }).port 0).txCtr ∧
      ((port0 { live with sealed := true, txCtr := 2 ^ 44 - 1 }).port 0).txCtr < 2 ^ 44 ∧
      ((port0 { live with ex := { xstate := 1 } }).port 0).ex.xstate = 1 ∧
      (let p := (port0 { live with sealed := true, txCtr := 2 ^ 40, rxCtr := 2 ^ 40 - 1 }).port 0
       p.rxCtr < 2 ^ 40 ∧ p.txKey (!p.txSlot) = [] ∧ p.overdue = false) ∧
      (let p := (port0 { live with sealed := true, txCtr := 2 ^ 40 - 1, rxCtr := 2 ^ 40 }).port 0
       p.txCtr < 2 ^ 40 ∧ 2 ^ 40 ≤ p.rxCtr ∧ p.rxCtr < 2 ^ 44 ∧ p.rxKey (!p.rxSlot) = [] ∧ p.rxOverdue = false) := by decide +kernel

/-- A management brick from port 0 at the management core. -/
def atCore (b : Brick) (p : Port) : Hub :=
  hub fun h => { h.updPort 0 (fun _ => p) with fab := { (h.updPort 0 (fun _ => p)).fab with inbox := [{ unit := 0xC0, port := 0, brick := b }] } }

theorem test_witness_SealExchangeRows_bricks :
    let r := mkBrick .mgmt 4 0 0 0xC0 0 [0x43, 3, 0, 0, 1, 0, 0, 0]
    let a := { mkBrick .mgmt 4 0 0 0xC0 0 [0x41, 3, 0, 0, 1, 0, 0, 0, 9] with first := true }
    let p : Port := { live with ex := { xstate := 1, xid := 3 } }
    ((atCore r p).takeMgmt 0 (fun m => m == 0x43)).isSome = true ∧
      (((atCore r p).takeMgmt 0 (fun m => m == 0x43)).map fun k => ((k.2.port 0).ex.xstate, k.1.sealXid)) = some (1, 3) ∧
      (((atCore a p).takeMgmt 0 (fun m => m != 0x30 && m != 0x43)).map fun k =>
        (k.1.sealMsg, k.1.sealXid, fragmentOk (k.2.port 0).ex k.1)) = some (0x41, 3, true) := by decide +kernel

/-! ### Starts, resets and the phases of a course -/

/-- A start as every sender gives it. -/
def boot : Boot := { smbAddr := 0, mgrEn := false, bootKiln := false, gib := 128, badChannels := 0, badTiles := [] }

theorem test_witness_BaseDieStarts :
    State.reset.dev.hub.up = false ∧ State.reset.dev.hub.therm.supply = true ∧ State.reset.dev.hub.therm.aux = true ∧
      State.reset.dev.hub.therm.tripLatch = false ∧ State.reset.dev.hub.therm.xtalLost = false ∧
      State.reset.dev.hub.ev.shadow = [] ∧ State.reset.dev.hub.ev.full = false ∧
      ({ State.reset.dev.hub with therm := { State.reset.dev.hub.therm with xtalLost := true } } : Hub).therm.xtalLost = true ∧
      ({ State.reset.dev.hub with therm := { State.reset.dev.hub.therm with tripLatch := true } } : Hub).therm.tripLatch = true := by
  decide

/-- HUB_RST_L rises on the reset state: the base die runs, at the SMBus address of its straps. -/
theorem test_start_from_reset :
    (match exec (.hubRstDeassert boot) State.reset with
      | .next t => (t.dev.hub.up, t.dev.hub.bus.smbAddr)
      | _ => (false, 0)) = (true, 0x60) := by decide +kernel

theorem test_witness_CoursePhases :
    (hub id).bus.sleep = .awake ∧ (hub id).rb.warm = none ∧ (hub id).rack.jump = none ∧ (hub id).crs.closed = false ∧
      (hub id).crs.granted = false ∧ (hub id).crs.lateRun ≠ 7 ∧
      (hub fun h => { h with rb := { h.rb with warm := some (2, 0) } }).rb.warm = some (2, 0) ∧
      (hub fun h => { h with bus := { h.bus with sleep := .asleep } }).bus.sleep = .asleep ∧
      (hub fun h => { h with crs := { h.crs with closed := true } }).crs.closed = true ∧
      (hub fun h => { h with crs := { h.crs with granted := false, lateRun := 7 } }).crs.lateRun = 7 ∧
      (hub fun h => { h with crs := { h.crs with granted := true } }).crs.granted = true ∧ regAo 0x100000 = false ∧
      (hub fun h => { h with fw := {} }).fw.phase = .off ∧ (hub fun h => { h with fw := {} }).fw.run = none := by decide

theorem test_witness_CoursePhases_crc :
    let h := hub fun h => ({ h with rb := { h.rb with crcBusy := true, refA := some 1, refB := some 2 } } : Hub).setReg 0xF00008 1
    h.rb.crcBusy = true ∧ h.refOutstanding = false ∧ h.rb.refA = some 1 ∧ h.rb.refB = some 2 ∧ h.bitAt 0xF00008 0 = true ∧
      h.rb.goodA = none := by decide +kernel

theorem test_witness_CoursePhases_pending :
    let h := hub fun h => { h with rb := { h.rb with crcBusy := true, refDue := some 1 } }
    h.refOutstanding = true ∧ h.rb.crcBusy = true := by decide +kernel

theorem test_witness_CoursePhases_grant :
    let h := hub fun h => ((h.updPort 0 fun _ => live).updHs 0 fun k => { k with st := .on }).updAcc 0 fun g => { g with next := some {} }
    (h.acc 0).next = some {} ∧ h.powered 0 = true ∧ (h.port 0).st = .active ∧ (h.acc 0).sent = false ∧
      ((hub id).port 0).st ≠ .active := by decide +kernel

/-- The header of an image of kind 1 with an empty body. -/
def image1 : List Byte :=
  leBytes 4 0x42594C50 ++ [1, 1] ++ zeros 8 ++ leBytes 2 1 ++ leBytes 2 1 ++ zeros 14 ++ sha384 [] ++ zeros 48 ++ List.replicate 96 1 ++
  zeros 3872

/-- Such an image verifies where a key of the ROM, which the spec leaves open, signed its header; an empty flash does not. -/
theorem test_witness_CoursePhases_boot :
    (∀ o : Otp, o.arb = 0 → o.verdict 1 0x100000 image1 [] true =
      if anyKey (o.keys false) (image1.take 128) (slice image1 128 96) then 0 else 6) ∧
      (∀ r, ({} : Otp).verdict 1 0x100000 (List.replicate 4096 0xFF) [] r ≠ 0) ∧
      (hub fun h => { h with fw := {}, therm := { h.therm with straps := { h.therm.straps with bootKiln := true } } }).bootCheck.therm.straps.bootKiln =
        true ∧ (hub fun h => { h with fw := {} }).bootCheck.therm.straps.bootKiln = false := by
  refine ⟨?_, ?_, by decide +kernel, by decide +kernel⟩
  · intro o ho
    have h1 : headerOk image1 = true := by decide +kernel
    have h2 : sha384 [] = slice image1 32 48 := by decide +kernel
    have h3 : hdr image1 8 4 = 0 ∧ hdr image1 5 1 = 1 ∧ epochOk 1 image1 = true ∧ hdr image1 12 1 = 0 := by decide +kernel
    simp [Otp.verdict, h1, h3, bodyLimit, ← h2, ho]
    split <;> simp_all
  · intro r
    cases r <;> decide +kernel

theorem test_witness_ClockThrottleAndDomainRows :
    (hub id).therm.refclkLost = false ∧ (hub id).therm.subst = false ∧ (hub id).therm.throt = false ∧
      (hub fun h => { h with therm := { h.therm with refclkLost := true, subst := true, throt := true } }).therm.throt = true ∧
      (hub fun h => { h with therm := { h.therm with throt := true } }).hubTj < 760 ∧
      (hub fun h => h.setGroup 0 .starting).groupPower 0 = .starting ∧
      (hub fun h => h.setGroup 63 .starting).groupPower (127 - 64) = .starting ∧
      (hub fun h => h.setReg 0x600004 1).bitAt 0x600004 (128 - 128) = true ∧
      (hub id).mortar.failed.testBit (151 - 128) = false ∧ (hub id).bitAt 0x600004 (151 - 128) = true ∧
      (hub id).smpUp (153 - 152) = true ∧
      ((hub fun h => (h.setReg (portReg 7 0) 1).setReg (portReg 7 0x10) 1).sealWanted (161 - 154)) = true := by decide +kernel

/-! ### The register file -/

theorem test_witness_CoursePeriodWrite :
    (hub id).privileged .pf0 = true ∧ (hub id).openTxn Master.pf0.req = none ∧ (hub id).lockedBy 0x100000 = none ∧
      (∀ i ∈ (hub id).rb.staged, i.isRegAt 0x100000 = false) ∧
      20 ≤ (20#32).toNat % 1024 ∧ (1000#32).toNat % 1024 ≤ 1000 ∧ (19#32).toNat % 1024 < 20 ∧ 1000 < (1001#32).toNat % 1024 ∧
      (hub id).rack.role = .standalone ∧ (hub id).rack.pending = none := by decide

theorem test_witness_ControlBitsStaged :
    (hub id).privileged .smbus = true ∧ (hub id).openTxn Master.smbus.req = none ∧ (hub id).lockedBy (portReg 7 4) = none ∧
      (hub id).lockedBy (hsReg 9 0xC) = none ∧ (hub id).lockedBy 0xD00004 = none ∧ (hub id).rb.staged = [] ∧ (1#6) ≠ 0 ∧
      ((port0 live).port 0).st = .active ∧ ((hub id).port 7).st ≠ .active ∧ ((port0 { st := .failed }).port 0).st = .failed ∧
      ((hub fun h => h.updHs 9 fun k => { k with st := .cmdOff }).hsCh 9).st = .cmdOff := by decide

/-- The row of a register that a master may reach, and whether the master is privileged there. -/
def rowOf (a : Nat) (m : Master) : Option (RegRow × Bool) :=
  match (hub id).right m a with
  | .has r p => some (r, p)
  | _ => none

theorem test_witness_PairAccesses :
    ((rowOf 0x100008 .pf0).map fun r => (r.1.half, r.2)) = some (.lo, true) ∧
      ((rowOf 0x10000C (.vf 0)).map fun r => (r.1.half, r.2)) = some (.hi, false) ∧
      ((hub id).shadow .pf0).addr ≠ some (0x10000C - 4) ∧
      ((hub fun h => h.setShadow .pf0 fun k => { k with addr := some 0x100008 }).shadow .pf0).addr = some (0x10000C - 4) ∧
      ((rowOf 0x140001C .core).map (·.2)) = some true ∧ ((hub id).shadow .core).held = none ∧
      ((hub fun h => h.setShadow .core fun k => { k with held := some (0x1400018, 5) }).shadow .core).held = some (0x1400018, 5) ∧
      ((rowOf 0xE00780 .pf0).map (·.2)) = some true ∧
      ((rowOf (0xE00780 + 4 * 23) .pf0).map (·.2)) = some true := by decide +kernel

theorem test_witness_RegisterWriteHandling :
    ¬ (0x1600000#32).toNat < 0x1600000 ∧ ¬ ((2 : Nat) = 4 ∧ (0x100000#32).toNat % 4 = 0) ∧ findRow 0x000010 = none ∧
      (match (hub id).right (.vf 0) 0x100000 with
        | .denied => true
        | _ => false) = true ∧ (rowOf 0x100000 .pf0).isSome = true ∧ ((rowOf 0x100008 (.vf 0)).map (·.2)) = some false ∧ (hub id).privileged .pf0 = true := by decide +kernel

theorem test_witness_TransactionsByRegister :
    let t : Txn := { id := 5, owner := Master.pf0.req }
    let h := hub fun h => h.updRb fun b => { b with txns := [t] }
    (hub id).openTxn Master.pf0.req = none ∧ (hub id).rb.txns.countP (fun t => !t.owner.isVf) < 8 ∧
      (hub id).rb.txns.length ≤ 16 ∧ h.openTxn Master.pf0.req = some t ∧ t.brings = false := by decide +kernel

theorem test_witness_TransactionsByRegister_timeouts :
    let t : Txn := { id := 5, owner := Master.pf0.req, age := 65535 }
    let u : Txn := { t with phase := .staging }
    let h := hub fun h => h.updRb fun b => { b with txns := [t] }
    let k := hub fun h => h.updRb fun b => { b with txns := [u] }
    h.rb.txns.find? (fun t => t.id == (5#16).toNat && t.phase == .opened) = some t ∧ h.fld 0xF0002C 31 16 ≤ t.age ∧
      k.rb.txns.find? (fun t => t.id == (5#16).toNat && t.phase == .staging) = some u ∧ k.fld 0xF0002C 15 0 ≤ u.age := by
  decide +kernel

theorem test_witness_ControlRegistersAct :
    (hub id).privileged .core = true ∧ Master.core ≠ .debug ∧ (hub id).lockedBy 0xF00010 = none ∧ (hub id).rb.staged = [] ∧
      (hub fun h => h.updFw fun f => { f with phase := .handover }).fw.phase = .handover ∧
      (hub fun h => h.updFw fun f => { f with trial := true }).fw.trial = true ∧ (hub id).fw.phase = .up := by decide

/-! ### Tiles -/

/-- A hub whose page 1 is leased by A0 for reading and writing, with a brick of port 0 at a unit. -/
def withPage (e : Pte) (unit : Nat) (b : Brick) : Hub :=
  hub fun h => { h.updPte 1 (fun _ => e) with fab := { (h.updPte 1 fun _ => e).fab with inbox := [{ unit, port := 0, brick := b }] } }

def leased : Pte := { valid := true, lessees := 1, writer := some 0, frame := 3 }
def readBrick : Brick := { typ := 0x08, vc := 0, grout := 254, addr := 0x10000, payload := leBytes 2 4096 }
def writeBrick : Brick := { typ := 0x09, vc := 0, grout := 252, addr := 0x10FFC, payload := [1, 2, 3, 4] }

theorem test_witness_TileAccessesServed_read :
    let h := withPage leased 0x30 readBrick
    (takeFirst (fun i => i.unit == 0x30 && i.port == 0 && i.brick.vc.toNat == 0) h.fab.inbox).isSome = true ∧
      readBrick.is .readReq = true ∧ readBrick.addr.toNat < 2 ^ 37 ∧ bits readBrick.addr.toNat 36 16 = 1 ∧ 1 < h.tableSize ∧
      (h.pte 1).valid = true ∧ (h.pte 1).part = readBrick.part.toNat ∧ (h.pte 1).lessees.testBit 0 = true ∧
      readBrick.grout = 254 ∧ leNat (readBrick.payload.take 2) = 4096 ∧ h.groupPower (groupOf (3 * 65536)) = .on ∧
      h.ueIn (3 * 65536) 4096 = none ∧ (hub id).pte 1 = {} ∧
      (let k := withPage { leased with res := true, poison := true } 0x30 readBrick
       (k.pte 1).res = true ∧ (k.pte 1).poison = true ∧ (k.pte 1).lessees.testBit 0 = true) := by decide +kernel

theorem test_witness_TileAccessesServed_write :
    let h := withPage leased 0x30 writeBrick
    let k := (withPage leased 0x30 writeBrick).setGroup (groupOf (3 * 65536)) .retained
    writeBrick.is .write = true ∧ (h.pte 1).writer = some 0 ∧ 0xFFC + (256 - writeBrick.grout.toNat) ≤ 4096 ∧
      h.groupPower (groupOf (3 * 65536)) = .on ∧ k.groupPower (groupOf (3 * 65536)) = .retained ∧
      k.tile.wakeWait.contains (0, 0) = false := by decide +kernel

theorem test_witness_PowerEventsResetBaseDie_channels :
    let h := hub fun h => h.updHs 3 fun k => { k with st := .ramp, seatA := true, seatB := true }
    h.hs.ch.wf (fun _ => ({} : HsCh)) = true ∧ (h.hsCh 3).st = .ramp ∧ (h.hsCh 3).seated = true := by decide

theorem test_witness_TileWriteStoresItsBytes :
    let h := withPage leased 0x30 writeBrick
    (takeFirst (fun i => i.unit == 0x30 && i.port == 0 && i.brick.vc.toNat == 0) h.fab.inbox).isSome = true ∧
      h.tileCheck 0 writeBrick = true ∧ Mem.wf [] = true ∧ h.tile.ue = [] ∧
      (withPage { leased with res := true } 0x30 { writeBrick with poison := true }).tileCheck 0 { writeBrick with poison := true } = true := by
  decide +kernel

/-- A write of four bytes reaches the page's frame. -/
theorem test_write_stores :
    (match exec (.write 0 false {}) { dev := { hub := withPage leased 0x30 writeBrick } } with
      | .next t => t.dev.mem.tile.readN (3 * 65536 + 0xFFC) 4
      | _ => []) = [1, 2, 3, 4] := by decide +kernel

theorem test_witness_TileUpkeep_tests :
    let h := hub fun h => h.updTile 767 fun t => { t with st := .testing }
    (h.tileAt 767).st = .testing ∧ (h.tileAt 767).tested = false ∧ (h.tileAt 767).retest = false ∧ h.ownerReg 767 = 0xF ∧
      (h.setFld (0x400200 + 4 * 767) 3 0 7).ownerReg 767 ≠ 0xF ∧ h.therm.throt = false ∧
      ((hub fun h => h.updTile 0 fun t => { t with st := .available }).tileAt 0).st = .available ∧
      (hub fun h => h.updTile 0 fun t => { t with st := .available }).retestNext = some (0 : Fin 768).val ∧
      (hub fun h => h.updTile 5 fun t => { t with st := .available }).retestNext ≠ some (767 : Fin 768).val ∧
      (∀ e ∈ (hub fun h => h.updTile 0 fun t => { t with st := .available }).tile.tile, e.2.retest = false) := by decide +kernel

theorem test_witness_TileUpkeep_groups :
    (hub fun h => h.setFld (0x400040 + 4 * 63) 1 0 1).fld (0x400040 + 4 * 63) 1 0 = 1 ∧
      (hub fun h => h.setFld (0x400040 + 4 * 63) 1 0 1).groupPower 63 = .on ∧
      (hub fun h => h.setGroup 0 .waking).groupPower 0 = .waking ∧
      ((hub fun h => h.updTile 5 fun t => { t with st := .owned, ce := 64 }).tileAt 5).st = .owned ∧
      ((hub fun h => h.updTile 5 fun t => { t with st := .owned, ce := 63 }).tileAt 5).ce + 1 ≤ (hub id).fld 0x400008 23 8 ∧
      (hub id).fld 0x400008 23 8 < ((hub fun h => h.updTile 5 fun t => { t with st := .owned, ce := 64 }).tileAt 5).ce + 1 ∧
      (∀ e ∈ (hub fun h => h.updTile 5 fun t => { t with st := .owned }).tile.tile,
        (hub fun h => h.updTile 5 fun t => { t with st := .owned }).groupAsleep (tileGroup e.1) = false) ∧ tileOf 0x5000 = 5 := by
  decide +kernel

theorem test_witness_TileUpkeep_moves :
    let h := hub fun h => { h.updPte 1 (fun _ => leased) with tile := { (h.updPte 1 fun _ => leased).tile with
      decay := 200, moves := [{ page := 1, toSpill := true, dst := 9 }] } }
    h.fld 0x500008 23 8 ≤ h.tile.decay ∧ (h.tile.moves.find? (·.page == 1)).isSome = true ∧ (h.pte 1).valid = true := by
  decide +kernel

theorem test_witness_HostWindowReachesPages :
    let h := withPage leased 0 readBrick
    let k := withPage { leased with res := true } 0 readBrick
    (h.pte (0x1FFFF / 65536)).valid = true ∧ 0x1FFFF / 65536 < h.tableSize ∧ (h.pte 1).part = (0 : Fin 8).val ∧
      (h.pte 1).res = false ∧ h.groupPower (groupOf ((h.pte 1).frame * 65536 + 0xFFFF)) = .on ∧ (k.pte 1).res = true ∧
      (h.pte 2).valid = false ∧ h.groupAsleep (groupOf ((h.pte 1).frame * 65536 + 0xFFFF)) = false ∧ h.tile.ue = [] ∧
      (h.pte 1).poison = false ∧ ((withPage { leased with res := true, poison := true } 0 readBrick).pte 1).poison = true := by
  decide +kernel

/-! ### Collectives -/

/-- An all-reduce of 64 FP32 elements among A0 and A1 with COLL_ID 7. -/
def desc (flags : Nat) : List Byte :=
  [1, 1, 0, 0, 0, 0] ++ leBytes 1 flags ++ [0] ++ leBytes 2 7 ++ [3, 0] ++ leBytes 4 64 ++ leBytes 4 1000 ++ zeros 44
def descBrick (d : List Byte) : Brick :=
  { typ := 0x10, vc := 2, grout := 192, dst := 0x98, addr := 7 * 2 ^ 32, payload := d }
def coll7 : Coll := { part := 0, id := 7, stream := 0, desc := desc 0, arrived := 1 }

/-- U0 and U1 ACTIVE, a job running in PT0, a brick of port 0 at the mortar intake, and the collectives given. -/
def mortarHub (b : Brick) (cs : List Coll) : Hub := hub fun h =>
  let h := (h.updPort 0 fun _ => live).updPort 1 fun _ => live
  { h with
    fab := { h.fab with inbox := [{ unit := 0x98, port := 0, brick := b }] }, mortar := { h.mortar with colls := cs }
    str := { h.str with job := [(0, .running)] } }

theorem test_witness_DescriptorOpensCollective_new :
    let b := descBrick (desc 0)
    let h := mortarHub b []
    h.nextMortar 0 h.fab.inbox = some b ∧ b.is .mortarDesc = true ∧ (h.dropItem 0 b).coll? 0 7 = none ∧
      (h.dropItem 0 b).descCheck 0 b = none ∧ ((Desc.of (desc 0)).members.find? fun y => !((h.dropItem 0 b).port y).up) = none ∧
      (Desc.of (desc 0)).stochastic = false ∧ (Desc.of (desc 4)).stochastic = true ∧
      ((mortarHub (descBrick (desc 4)) []).dropItem 0 (descBrick (desc 4))).descCheck 0 (descBrick (desc 4)) = none ∧
      h.srReuse 0 0 = false ∧ ({ h with mortar := h.mortar.mark 0 0 } : Hub).srReuse 0 0 = true := by decide +kernel

theorem test_witness_DescriptorOpensCollective_refused :
    let b := descBrick [0]
    let h := mortarHub b []
    let k : Hub := (mortarHub (descBrick (desc 0)) []).updPort 1 fun _ => {}
    (h.dropItem 0 b).descCheck 0 b = some 0x01 ∧ ((k.dropItem 0 (descBrick (desc 0))).port 1).up = false ∧
      (k.dropItem 0 (descBrick (desc 0))).descCheck 0 (descBrick (desc 0)) = none ∧
      1024 ≤ (mortarHub b (List.replicate 1024 { coll7 with part := 1 })).mortar.colls.length ∧
      (mortarHub b (List.replicate 1024 { coll7 with part := 1 })).coll? 0 7 = none ∧
      (mortarHub b (List.replicate 1023 coll7)).mortar.colls.length < 1024 := by decide +kernel

theorem test_witness_DescriptorOpensCollective_second :
    let c : Coll := { coll7 with arrived := 2 }
    let h := mortarHub (descBrick (desc 0)) [c]
    h.coll? 0 7 = some c ∧ c.arrived.testBit 0 = false ∧ coll7.arrived.testBit 0 = true ∧ (desc 0).take 64 = c.desc ∧
      (Desc.of (desc 0)).pmask.testBit 0 = true ∧ (desc 8).take 64 ≠ c.desc ∧ (Desc.of (desc 0)).pmask.testBit 7 = false := by
  decide +kernel

/-- The operand of A0 at element 0. -/
def opndBrick : Brick := { typ := 0x11, vc := 2, dst := 0x98, addr := 7 * 2 ^ 32, payload := zeros 256 }

theorem test_witness_OperandsFillChunks :
    let c : Coll := { coll7 with chunks := [{ off := 0, engine := 3 }] }
    let h := mortarHub opndBrick [c]
    let d := Desc.of c.desc
    h.nextMortar 0 h.fab.inbox = some opndBrick ∧ opndBrick.is .mortarOpnd = true ∧ (h.dropItem 0 opndBrick).coll? 0 7 = some c ∧
      d.contributors.contains 0 = true ∧ 0 % d.inFmt.epb = 0 ∧ 0 < d.count ∧ c.got.contains (0, 0) = false ∧
      opndBrick.addr.toNat.testBit 31 = false ∧ 256 - opndBrick.grout.toNat = d.inFmt.dataLen (d.chunkLen 0) ∧
      (c.chunks.any (·.off == 0)) = true ∧ (mortarHub opndBrick []).coll? 0 7 = none ∧ d.toHub = false ∧
      (∀ y ∈ d.contributors, ∃ o ∈ [(0, zeros 256), (1, zeros 256)], o.1 = y) ∧ 1 ∈ d.contributors := by decide +kernel

theorem test_witness_EngineSelfTestRotation :
    let out := hub fun h => { h.setReg 0x600000 1 with mortar := { h.mortar with failed := 1 } }
    let h := hub fun h => { h.setReg 0x600000 1 with mortar := { h.mortar with st := { h.mortar.st with count := 0 } } }
    h.bitAt 0x600000 0 = true ∧ h.mortar.st.phase = .none ∧ h.fld 0x600000 31 16 ≤ h.mortar.st.count ∧ h.therm.throt = false ∧
      h.mortar.failed = 0 ∧ h.mortar.on = 0xFFFFFF ∧ h.fld 0x600004 23 0 = 0xFFFFFF ∧ h.mortar.engineLoad 0 = 0 ∧
      (mortarHub opndBrick [{ coll7 with chunks := [{ off := 0, engine := 0 }] }]).mortar.engineLoad 0 ≠ 0 ∧
      (∀ n < 24, n ≠ out.mortar.st.unit → out.mortar.on.testBit n = true ∧ out.bitAt 0x600004 n = true ∧
        out.mortar.failed.testBit n = false) ∧ out.mortar.failed.testBit out.mortar.st.unit = true := by decide +kernel

/-! ### Sampling -/

/-- A logit brick of stream 5 with one FP32 logit at offset 0 of the root set. -/
def lgBrick (a : Nat) : Brick := { typ := 0x18, vc := 1, grout := 252, stream := 5, addr := BitVec.ofNat _ a, payload := [0, 0, 128, 63] }
/-- A greedy program of one token with destination A0. -/
def prog1 : List Byte := [1, 1, 0, 0] ++ leBytes 4 1 ++ zeros 56
/-- A step of stream 5 under that program. -/
def step5 : Step := { smp := 0, part := 0, stream := 5, ctr := 0, key := 0, prog := prog1, tile := 0, ofs := 0, senders := 1, first := 0, sets := 1 }
def smpHub (b : Brick) (steps : List Step) (f : Hub → Hub) : Hub := hub fun h =>
  f { h.updStrm 5 fun c => { c with st := .running } with
      fab := { h.fab with inbox := [{ unit := 0xA0, port := 0, brick := b }] }, smp := { h.smp with steps } }

theorem test_witness_LogitsEnterSteps :
    let b := lgBrick 0
    let i : InItem := { unit := 0xA0, port := 0, brick := b }
    let fresh : Dev := { hub := smpHub b [] id }
    let open_ : Dev := { hub := smpHub b [step5] id }
    let late : Dev := { hub := smpHub b [] fun h => h.updStrm 5 fun c => { c with st := .parked } }
    let down : Dev := { hub := smpHub b [] fun h => h.setReg 0x700000 0 }
    (∀ d ∈ [fresh, open_, late, down], (d.lgGo [] d.hub.atSampler).find? (·.port == (0 : Fin 8).val) = some i) ∧ down.hub.smpsUp = [] ∧
      fresh.hub.smpsUp ≠ [] ∧ fresh.opens b = true ∧ (fresh.hub.owe 0 1).pickSmp (fresh.slotsFor b) = some 0 ∧
      open_.opens b = false ∧ (open_.hub.owe 0 1).stepOf 5 = some step5 ∧ lgReserved b = false ∧
      (open_.hub.owe 0 1).admits b false = true ∧ badLogits (Prog.of step5.prog) 0 [] b = false ∧
      late.opens b = false ∧ (late.hub.owe 0 1).stepOf 5 = none := by decide +kernel

theorem test_witness_StepEndsWithToken :
    let done : Step := { step5 with got := [(0, 0, [0, 0, 128, 63])] }
    let nan : Step := { step5 with got := [(0, 0, [0, 0, 192, 127])] }
    let d (s : Step) : Dev := { hub := smpHub (lgBrick 0) [s] id }
    (d step5).hub.stepOf 5 = some step5 ∧ step5.missing = some 0 ∧ done.missing = none ∧ nan.missing = none ∧
      (Prog.of prog1).spec = 0 ∧ (Prog.of prog1).masked = false ∧ (Prog.of prog1).penalty = false ∧
      ((d nan).targetSet nan (Prog.of prog1) 0 [] 0xFFFF).cand = [] ∧
      ((d done).targetSet done (Prog.of prog1) 0 [] 0xFFFF).cand ≠ [] ∧
      ((d done).hub.stream 5).step ≠ 0xFFFFFFFFFFFFFFFF ∧ ({ done with poison := true } : Step).missing = none := by decide +kernel

theorem test_witness_SamplerSelfTests :
    let h := hub fun h => { h.setReg 0x700000 7 with smp := { h.smp with slices := 49 } }
    let one := hub fun h => { h.setReg 0x700000 5 with smp := { h.smp with slices := 49 } }
    h.bitAt 0x700000 2 = true ∧ h.smp.st.phase = .none ∧ h.fld 0x700000 31 16 ≤ h.smp.st.count ∧ h.smpUp 0 = true ∧
      h.smpUp 1 = true ∧ h.therm.throt = false ∧ h.smp.open_ 1 = 0 ∧
      (smpHub (lgBrick 0) [step5] id).smp.open_ 0 ≠ 0 ∧ one.smpsUp = [0] ∧ one.bitAt 0x700000 2 = true ∧
      one.smp.inSlice = false ∧ one.smp.sliced = false ∧ one.smp.open_ 0 = 0 ∧ one.smp.slices < 50 := by decide +kernel

/-! ### Streams -/

/-- The queue registers: queue 0 with the configuration given and quantum 4, no other queue enabled. -/
def queueRegs (q0 : Nat) : Tbl (BitVec 32) :=
  [(0x800004, 0), (queueCfg 0, BitVec.ofNat 32 q0)] ++ ((List.range 63).map fun k => (queueCfg (k + 1), 0)) ++ [(0x800200, 4)]
/-- U0 ACTIVE, a job running in PT0, queue 0 enabled with stage A0 and room for a second stream, and stream 5 as given. -/
def strHub (c : Strm) (f : Hub → Hub) : Hub := hub fun h =>
  let h : Hub := { h.updPort 0 fun _ => live with regs := queueRegs (2 ^ 31 + 2 ^ 16 + 2 ^ 8 + 2 ^ 4) }
  f { (h.updStrm 5 fun _ => c) with str := { (h.updStrm 5 fun _ => c).str with job := [(0, .running)] } }
def onQueue0 (st : StreamState) : Strm := { st, queue := some 0, onQueue := 0, hot := true }
def ready0 (f : Hub → Hub) : Hub := strHub (onQueue0 .ready) fun h => f { h with str := { h.str with ready := [(0, [5])] } }

theorem test_witness_QueueDispatchesItsHead_throughput :
    let h := ready0 id
    h.queueLat 0 = false ∧ h.queueEn 0 = true ∧ h.jobRunning (h.queuePart 0) = true ∧ h.stagesUp 0 = true ∧
      (h.queue 0).head? = some 5 ∧ (h.stream 5).hot = true ∧ (h.runningOn 0).length ≤ h.fld (queueCfg 0) 15 8 ∧
      (∀ k, k < 64 → h.queueLat k = true → h.dispatchable k = false) ∧ h.bitAt 0x800004 0 = false ∧
      h.dispatchable 1 = false ∧ h.owing 0 = none ∧
      (ready0 fun h => { h with str := { h.str with owed := [(0, 1)] } }).owing 0 = some 0 := by decide +kernel

theorem test_witness_QueueDispatchesItsHead_latency :
    let h := ready0 fun h => { h with regs := queueRegs (2 ^ 31 + 2 ^ 30 + 2 ^ 16 + 2 ^ 4) }
    h.queueLat 0 = true ∧ h.latMay 0 = true ∧ h.dispatchable 1 = false := by decide +kernel

theorem test_witness_QueueDispatchesItsHead_quantum :
    let h := strHub { onQueue0 .running with count := 4 } fun h => { h with str := { h.str with ready := [(0, [6])] } }
    let k := strHub { onQueue0 .running with count := 4 } id
    let l := strHub { onQueue0 .running with count := 3 } id
    (h.stream 5).st = .running ∧ h.quantum 0 ≠ 0 ∧ h.quantum 0 ≤ (h.stream 5).count ∧ h.queueLat 0 = false ∧ h.queueEn 0 = true ∧
      h.queue 0 ≠ [] ∧ k.queue 0 = [] ∧ k.quantum 0 ≤ (k.stream 5).count ∧ (l.stream 5).count < l.quantum 0 := by decide +kernel

/-- A message of stream 5. -/
def msg (m : Nat) : Brick :=
  { typ := 0x2B, vc := 4, grout := 200, stream := 5, payload := leBytes 1 m ++ zeros 55 }
def msgHub (st : StreamState) (m : Nat) : Hub := strHub (onQueue0 st) fun h =>
  { h with fab := { h.fab with inbox := [{ unit := 0xC3, port := 0, brick := msg m }] } }

theorem test_witness_StreamMessagesAct :
    let h := msgHub .running 0x11
    takeFirst (fun i => i.unit == 0xC3 && i.port == (0 : Fin 8).val) h.fab.inbox = some ({ unit := 0xC3, port := 0, brick := msg 0x11 }, []) ∧
      (∀ m ∈ [0x10, 0x11, 0x12, 0x13, 0x14, 0x15], (msg m).is .mgmt = true ∧ (msg m).grout = 200 ∧ dfield (msg m).payload 0 1 = m ∧
        dfield (msg m).payload 1 1 < 4 ∧ dfield (msg m).payload 6 2 = 0 ∧ dfield (msg m).payload 12 4 = 0) ∧
      h.streamPart 5 = some 0 ∧ (h.stream 5).queue = some 0 ∧ (h.queueStages 0).testBit 0 = true ∧ (h.stream 5).st = .running ∧
      ((msgHub .idle 0x10).stream 5).st = .idle ∧ ((msgHub .ready 0x11).stream 5).st = .ready ∧
      ((msgHub .draining 0x15).stream 5).st = StreamState.draining ∧
      (∀ c, let h := msgHub .draining c
        let late := (onesBelow 8 (h.queueStages (h.stream 5).onQueue)).find? fun x => !(h.stream 5).acks.testBit x && !(h.port x).fenced
        c ∈ [0x15] → late = some 0) ∧
      (let h := strHub { onQueue0 .draining with acks := 1 } id
       (onesBelow 8 (h.queueStages (h.stream 5).onQueue)).find?
         (fun x => !(h.stream 5).acks.testBit x && !(h.port x).fenced) = none) ∧
      ((strHub {} id).stream 5).queue = none ∧ (h.setReg (partCfg 0) 0).streamPart 5 = none := by decide +kernel

/-! ### Barriers and tallies -/

/-- A brick to the sync engine. -/
def arriveBrick (id phase : Nat) : Brick :=
  { typ := 0x20, vc := 3, grout := 240, payload := leBytes 2 id ++ leBytes 1 phase ++ zeros 13 }
def tallyBrick (op arg : Nat) : Brick :=
  { typ := 0x22, vc := 3, grout := 240, payload := leBytes 2 3 ++ leBytes 1 op ++ leBytes 1 0 ++ leBytes 4 arg ++ zeros 8 }
def bar0 : Barrier := { pmask := 1, expect := [2, 0, 0, 0, 0, 0, 0, 0, 0], timeout := 5, align := 0 }
def bar1 : Barrier := { bar0 with counts := [1, 0, 0, 0, 0, 0, 0, 0, 0], first := some (0, 0) }
def tal3 (p c : Nat) : Tally := { prod := 0, cons := 1, window := 0, alignBar := 0xFFFF, timeout := 5, p, c }
/-- U0 and U1 ACTIVE, barrier 3 and tally 3 as given, and a brick of a port at the sync intake. -/
def syncHub (x : Nat) (b : Brick) (bar : Option Barrier) (t : Option Tally) : Hub := hub fun h =>
  let h := (h.updPort 0 fun _ => live).updPort 1 fun _ => live
  (({ h with fab := { h.fab with inbox := [{ unit := 0xC1, port := x, brick := b }] } } : Hub).setBar 3 bar).setTal 3 t

theorem test_witness_SyncHead :
    let b := arriveBrick 3 0
    SyncHead { dev := { hub := syncHub 0 b none none } } 0 0 b
        (({ syncHub 0 b none none with fab := { (syncHub 0 b none none).fab with inbox := [] } } : Hub).owe 0 3) ∧
      (∀ k ∈ [1, 2, 3, 4, 5], SyncHead { dev := { hub := syncHub 1 (tallyBrick k 1) none none } } 1 k (tallyBrick k 1)
        (({ syncHub 1 (tallyBrick k 1) none none with fab := { (syncHub 1 (tallyBrick k 1) none none).fab with inbox := [] } } : Hub).owe 1 3)) := by
  refine ⟨⟨_, _, rfl, rfl, by decide, by decide, rfl⟩, ?_⟩
  intro k hk
  simp only [List.mem_cons, List.not_mem_nil, or_false] at hk
  rcases hk with rfl | rfl | rfl | rfl | rfl <;> exact ⟨_, _, rfl, rfl, by decide, by decide, rfl⟩

theorem test_witness_BarrierCountsArrivals :
    let h := (syncHub 0 (arriveBrick 3 0) (some bar0) none).owe 0 3
    let k := (syncHub 0 (arriveBrick 3 0) (some bar1) none).owe 0 3
    h.barPart 3 = some 0 ∧ (h.setReg (partCfg 0) 0).barPart 3 ≠ some 0 ∧ h.bar 3 = some bar0 ∧ bar0.e 1 = 0 ∧ bar0.e 0 ≠ 0 ∧
      h.barGone 0 bar0 = none ∧ dfield (arriveBrick 3 1).payload 2 1 ≠ bar0.phase.toNat % 256 ∧
      dfield (arriveBrick 3 0).payload 2 1 = bar0.phase.toNat % 256 ∧ bar0.n 0 < bar0.e 0 ∧
      ({ bar0 with counts := bar0.counts.set 0 (bar0.n 0 + 1) } : Barrier).arrived < bar0.total ∧
      k.bar 3 = some bar1 ∧ bar1.n 0 < bar1.e 0 ∧ k.barGone 0 bar1 = none ∧
      bar1.total ≤ ({ bar1 with counts := bar1.counts.set 0 (bar1.n 0 + 1) } : Barrier).arrived ∧
      ({ bar0 with counts := [2, 0, 0, 0, 0, 0, 0, 0, 0] } : Barrier).e 0 ≤ ({ bar0 with counts := [2, 0, 0, 0, 0, 0, 0, 0, 0] } : Barrier).n 0 ∧
      bar1.first ≠ none ∧
      (let h := hub fun h => (h.setBar 3 (some bar1)).setBar 4 (some bar0)
       h.drainSync.bar 3 = some bar1 ∧ h.drainSync.bar 4 = some bar0 ∧ bar0.first = none ∧ h.drainSync.barPart 3 = some 0 ∧
         h.drainSync.barPart 4 = some 0) := by decide +kernel

theorem test_witness_TallyAddsNeverWrap :
    let t := tal3 0xFFFFFFFF 0xFFFFFFFE
    let h := (syncHub 0 (tallyBrick 1 1) none (some t)).owe 0 3
    h.talPart 3 = some 0 ∧ h.tal 3 = some t ∧ t.error = false ∧ h.unavail t.prod 0 = false ∧ h.unavail t.cons 0 = false ∧
      (0 : Fin 8).val = t.prod ∧ (1 : Fin 8).val = t.cons ∧ 0xFFFFFFFF < t.p + dfield (tallyBrick 1 1).payload 4 4 ∧
      t.p < t.c + dfield (tallyBrick 2 2).payload 4 4 ∧ t.c + dfield (tallyBrick 2 1).payload 4 4 ≤ t.p ∧ t.c ≤ t.p ∧
      t.p ≤ 0xFFFFFFFF := by decide +kernel

theorem test_witness_TallyOperationsAct :
    let t := tal3 3 1
    let h := (syncHub 1 (tallyBrick 3 2) none (some t)).owe 1 3
    h.talPart 3 = some 0 ∧ h.tal 3 = some t ∧ h.unavail t.prod 0 = false ∧ h.unavail t.cons 0 = false ∧ t.ge = none ∧ t.le = none ∧
      t.p + dfield (tallyBrick 1 1).payload 4 4 ≤ 0xFFFFFFFF ∧ dfield (tallyBrick 3 2).payload 4 4 ≤ t.p - t.c ∧
      t.p - t.c < dfield (tallyBrick 3 3).payload 4 4 ∧ t.p - t.c ≤ dfield (tallyBrick 4 2).payload 4 4 ∧
      dfield (tallyBrick 4 1).payload 4 4 < t.p - t.c ∧ ({ t with ge := some (3, 0) } : Tally).ge ≠ none ∧
      ({ t with le := some (1, 0) } : Tally).le = some (1, 0) ∧
      (let h := hub fun h => (h.setTal 3 (some { t with ge := some (3, 0) })).setTal 4 (some { t with le := some (1, 0) })
       h.drainSync.tal 3 = some { t with ge := some (3, 0) } ∧ h.drainSync.tal 4 = some { t with le := some (1, 0) } ∧
         h.drainSync.talPart 3 = some 0 ∧ h.drainSync.talPart 4 = some 0) := by decide +kernel

/-! ### Power -/

/-- A TELEMETRY brick with version 1 and the flags given. -/
def telem (fl : Nat) : Brick :=
  { typ := 0x28, vc := 4, grout := 128, payload := leBytes 1 1 ++ leBytes 1 fl ++ zeros 126 }
def telemHub (b : Brick) : Hub := hub fun h => { h with fab := { h.fab with inbox := [{ unit := 0xC2, port := 0, brick := b }] } }

theorem test_witness_GovernorInputsAct_telemetry :
    ((telemHub (telem 0)).takeBrick 0xC2 0 .telemetry).map (·.1) = some (telem 0) ∧ telemOk (telem 0) = true ∧
      (∀ e ∈ (telemHub (telem 0)).takeBrick 0xC2 0 .telemetry, e.2.crs.closed = false) ∧
      ((telemHub (telem 1)).takeBrick 0xC2 0 .telemetry).map (·.1) = some (telem 1) ∧ telemOk (telem 1) = true ∧
      (leNat (slice (telem 0).payload 1 1)).testBit 0 = false ∧ (leNat (slice (telem 1).payload 1 1)).testBit 0 = true ∧
      telemOk (telem 8) = false ∧ ((telemHub (telem 8)).takeBrick 0xC2 0 .telemetry).map (·.1) = some (telem 8) := by decide +kernel

theorem test_witness_GovernorInputsAct_lines :
    let h := hub fun h => { h with gov := { h.gov with rounds := 0, lease := 9000 } }
    let k := hub fun h => { h.updAcc 7 fun g => { g with vrForced := true } with hs := { h.hs with stop := true, flowLoss := false } }
    let w := hub fun h => { h.updHs 7 fun k => { k with st := .waitSlot } with
      hs := { (h.updHs 7 fun k => { k with st := .waitSlot }).hs with step := 4 } }
    h.gov.rounds = 0 ∧ h.gov.lease ≠ 0 ∧ h.therm.aux = true ∧ (h.acc 7).vrForced = false ∧ (k.acc 7).vrForced = true ∧
      h.hs.stop = false ∧ k.hs.stop = true ∧ k.hs.flowLoss = false ∧ k.hs.step ≠ 4 ∧ w.hs.step = 4 ∧ (w.hsCh 7).st = .waitSlot := by
  decide +kernel

/-- The hub with channel c changed, the bus good, and the tray in a step. -/
def hs (step : Nat) (c : Nat) (f : HsCh → HsCh) : Hub := hub fun h =>
  { h.updHs c f with hs := { (h.updHs c f).hs with step, busGood := true } }
def seatedIn (st : ChState) (c : HsCh) : HsCh := { c with st, seatA := true, seatB := true }

theorem test_witness_HotSwapChannelActs_seats :
    ((hub id).hsCh 0).seated = false ∧ ((hs 5 0 (seatedIn .on)).hsCh 0).seated = true ∧ ((hs 5 0 (seatedIn .on)).hsCh 0).st ≠ .disabled ∧
      ((hs 5 0 (seatedIn .on)).hsCh 0).hot = false ∧
      (hs 5 0 (seatedIn .waitSlot)).startable 0 = true ∧ (hs 5 0 (seatedIn .waitSlot)).nextSlot = some 0 ∧
      (hs 3 9 (seatedIn .waitSlot)).hs.up = false ∧ (hs 3 8 (seatedIn .waitSlot)).startable 8 = true := by decide +kernel

theorem test_witness_HotSwapChannelActs_trips :
    ((hs 5 7 (seatedIn .ramp)).hsCh 7).st = .ramp ∧ ((hs 5 7 (seatedIn .on)).hsCh 7).st = .on ∧
      ((hs 5 7 (seatedIn .on)).hsCh 7).offPend = false ∧ (hs 5 7 (seatedIn .on)).hs.down.contains 7 = false ∧
      ((hs 5 7 (seatedIn .on)).hsCh 7).sarFault = false ∧ ((hs 5 7 fun k => { seatedIn .on k with sarFault := true }).hsCh 7).sarFault = true ∧ ((hs 5 9 (seatedIn .backoff)).hsCh 9).st = .backoff ∧
      (hs 5 7 (seatedIn .on)).fld (hsReg 7 8) 27 16 < 4096 ∧
      (hs 5 7 (seatedIn .on)).fld (hsReg 7 0) 30 28 ≤ 7 ∧ ¬ (hs 5 7 (seatedIn .on)).fld (hsReg 7 0) 30 28 ≤ 0 := by decide +kernel

theorem test_witness_TraySequenceActs :
    let h := hs 2 8 (seatedIn .ramp)
    let l : Hub := let h := hs 4 0 (seatedIn .waitSlot); { h with cool := { h.cool with liquid := true }, hs := { h.hs with flowLoss := true } }
    let d : Hub := let h := hs 5 9 fun c => { c with st := .on, offPend := true }; { h with hs := { h.hs with down := [9] } }
    let p (ext crit trip : Bool) : Hub := hub fun h => { h with
      cool := { h.cool with shdnExt := ext, shdnCrit := crit }, therm := { h.therm with tripLatch := trip } }
    (hub id).shdn = false ∧ (p true false false).shdn = true ∧ (p true false false).cool.shdnExt = true ∧
      (p true true false).cool.shdnCrit = true ∧ (p true false true).therm.tripLatch = true ∧ (hub id).hs.up = false ∧
      (∀ x < 8, ((hs 5 0 (seatedIn .on)).hsCh x).st ≠ .waitSlot) ∧ (hs 5 0 (seatedIn .on)).hs.step = 5 ∧
    h.fld 0xB00004 7 0 * 100 ≤ h.fld 0xB00004 15 8 * 100 ∧ h.therm.aux = true ∧ h.hs.busGood = true ∧
      (h.hs.step = 2) ∧ (hub id).hs.busGood = false ∧ 0 < h.fld 0xB00004 7 0 * 100 ∧
      (hs 3 8 (seatedIn .ramp)).hs.step = 3 ∧ ((hs 3 8 (seatedIn .ramp)).hsCh 8).st = .ramp ∧
      (let k := (hs 3 8 (seatedIn .on)).updHs 9 (seatedIn .on); k.hs.step = 3 ∧ (k.hsCh 8).st = .on ∧ (k.hsCh 9).st = .on) ∧
      (hs 4 0 (seatedIn .waitSlot)).cool.liquid = false ∧ ((hs 4 0 (seatedIn .waitSlot)).hsCh 0).st = .waitSlot ∧
      l.hs.step = 4 ∧ l.cool.liquid = true ∧ l.hs.flowLoss = true ∧ d.hs.down = 9 :: [] ∧ (d.hsCh 9).st = .on ∧
      (d.hsCh 9).offPend = true := by decide +kernel

/-! ### Cooling, leaks and sensing -/

/-- A hub with registers given. -/
def regHub (rs : List (Nat × Nat)) (f : Hub → Hub) : Hub := hub fun h => f (rs.foldl (fun h r => h.setReg r.1 r.2) h)

theorem test_witness_CoolingResponds_zones :
    let h := regHub [(zoneReg 0 0x40, 1)] fun h => { h with cool := { h.cool with zoneDue := true, snap := [(0, 400)] } }
    let e := regHub [(zoneReg 3 0x40, 0)] id
    h.cool.zoneDue = true ∧ h.zoneInputs 0 h.snapInput = [(0, 400)] ∧ e.zoneInputs 3 e.snapInput = [] ∧
      h.cool.hostSilent = false := by decide +kernel

theorem test_witness_CoolingResponds_channels :
    let h := regHub [(coolReg 13 0, 2 ^ 31 + 5000), (coolReg 13 0x20, 2 ^ 16)] fun h =>
      { (h.updCool 13 fun k => { k with cmd := 20000000 }).updHs 8 fun k => { k with st := .on } with
        cool := { (h.updCool 13 fun k => { k with cmd := 20000000 }).cool with liquid := true } }
    let f := hub fun h => h.updCool 0 fun k => { k with st := .failed }
    h.coolMon 13 = true ∧ (h.coolCh 13).st = .ok ∧ (h.hsCh (busOf 13)).st = .on ∧ 20000000 ≤ (h.coolCh 13).cmd ∧
      5 * (199 : BitVec 16).toNat < h.expected 13 ∧ h.expected 13 = 1000 ∧ (9 : BitVec 16).toNat < 10 * h.fld (coolReg 13 0x20) 31 16 ∧
      (f.coolCh 0).st = .failed ∧ f.expected 0 ≤ 2 * (0 : BitVec 16).toNat := by decide +kernel

theorem test_witness_CoolingResponds_inputs :
    let o := hub fun h => h.updAdc 25 fun c => { c with last := 4 }
    let r := hub fun h => { h.updAdc 0 fun c => { c with last := 0 } with cool := { h.cool with fault := 1 } }
    let s := hub fun h => { h with cool := { h.cool with shdnCrit := true } }
    o.inputFault 25 = false ∧ (o.adcCh 25).last = 4 ∧ r.inputFault 0 = true ∧ (r.adcCh 0).last = 0 ∧ o.therm.aux = true ∧
      o.shdn = false ∧ 8 * (95 + 5 * (o.cool.critSel : Int)) ≤ 760 ∧ s.cool.shdnCrit = true ∧ s.cool.shdnExt = false ∧
      s.therm.tripLatch = false ∧ (∀ n < 24, o.inputOpen n = false ∧ (n < 8 ∨ (24 ≤ n ∧ o.cool.liquid = true) → n < 8)) ∧
      (hub fun h => h.updAdc 0 fun c => { c with last := 4 }).inputOpen 0 = true ∧
      (hub fun h => { h.updAdc 25 fun c => { c with last := 5 } with cool := { h.cool with liquid := true } }).cool.liquid = true := by
  decide +kernel

theorem test_witness_LeakRopesAct :
    let h (k : Rope) : Hub := regHub [(ropeCfg 5, 2 ^ 31 + 300 * 2 ^ 20 + 100 * 2 ^ 10)] fun h => h.updRope 5 fun _ => k
    (h {}).ropeEn 5 = true ∧ (h {}).moistK 5 = 300 ∧ (h {}).moistK 5 < 301 ∧ 301 ≤ 1500 ∧ (h {}).leakK 5 = 100 ∧
      ((h { seen := true, res := 299 }).rope 5).res < 300 ∧ ((h { seen := true, res := 99 }).rope 5).res < 100 ∧
      ((h {}).rope 5).seen = false ∧ ((h { seen := true, known := true, res := 99 }).rope 5).known = true ∧
      ((h { seen := true, known := true, res := 99 }).rope 5).st ≠ 2 ∧ 300 ≤ (h {}).moistK 5 ∧ ((h { seen := true, res := 1501 }).rope 5).st ≠ 3 ∧ ((h {}).rope 5).action = false ∧
      (h {}).therm.aux = true := by decide +kernel

theorem test_witness_ScanAndCheck :
    let v : Visit := { ch := 40, invalid := 0, reason := 1, valid := 1, gain := 0, filter := 0 }
    let h (v : Option Visit) (f : Bool) : Hub := hub fun h => { h with sense := { h.sense with visit := v, fault := f } }
    let ok : Sample := { raw := 0, reason := 0, reading := 5 }
    (∃ k rest, (List.range 48).filter (adcEn (hub id).reg) = k :: rest) ∧ (h (some v) false).sense.visit = some v ∧ ok.reason ≠ 7 ∧
      ok.reason < 4 ∧ (h (some { v with invalid := 2 }) false).sense.visit = some { v with invalid := 2 } ∧
      (h none true).sense.visit = none ∧ (h none true).sense.adcFault = false ∧ ((hub id).hsCh 9).sarFault = false ∧
      ((hub fun h => h.updHs 9 fun k => { k with sarFault := true }).hsCh 9).sarFault = true ∧
      (let soa (i v : Nat) : Nat := soaStep ((hub id).hsCh 9).soa i v ((hub id).fld (hsReg 9 8) 15 8)
       let energy := (hub id).fld (hsReg 9 8) 27 16 * 10 ^ 9
       soa 0 0 ≤ energy ∧ energy < soa (2 ^ 32 - 1) (2 ^ 32 - 1) ∧ soa 0 ((hub id).hs.vbus * 10) ≤ energy) := by
  refine ⟨?_, by decide +kernel⟩
  match e : (List.range 48).filter (adcEn (hub id).reg) with
  | k :: rest => exact ⟨k, rest, rfl⟩
  | [] => exact absurd e (by decide +kernel)

theorem test_witness_DieMonitorsAct :
    let v (mv : Nat) : Hub := regHub [(0xE00700 + 4 * 23, 900 * 2 ^ 16 + 700)] fun h =>
      { h with sense := { h.sense with vmon := [(23, { mv })] } }
    (∀ n < 32, (((hub id).dtsUpdate [] 0).dts n).reading < 800 ∧ (((hub id).dtsUpdate [] 0).dts n).fail = false) ∧
      ((hub id).dts 31).fail = false ∧ (hub id).inputFault 26 = false ∧ ((v 699).vmon 23).out = false ∧
      ((v 699).vmon 23).mv < (v 699).fld (0xE00700 + 4 * 23) 15 0 ∧ (v 901).fld (0xE00700 + 4 * 23) 31 16 < ((v 901).vmon 23).mv ∧
      (v 901).fld (0xE00700 + 4 * 23) 15 0 ≤ ((v 901).vmon 23).mv ∧ (v 900).fld (0xE00700 + 4 * 23) 15 0 ≤ ((v 900).vmon 23).mv ∧
      ((v 900).vmon 23).mv ≤ (v 900).fld (0xE00700 + 4 * 23) 31 16 ∧
      ((hub fun h => h.updPm 15 fun p => { p with age := 7 }).pmon 15).age ≠ 0 ∧
      ((hub fun h => h.updPm 15 fun p => { p with age := 7 }).pmon 15).days.length < 64 := by decide +kernel

/-! ### Hods -/

theorem test_witness_HodArgumentsReadBack :
    Fits [.u8, .u16, .u32, .u64, .record 3, .opt 4, .opt 8, .block] [.u8 255, .u16 65535, .u32 (2 ^ 32 - 1), .u64 (2 ^ 64 - 1),
      .record [1, 2, 3], .u8 1, .u32 7, .u8 0, .u64 0, .block [4]] ∧ Fits [.u8, .list 4] [.u8 0, .list 4 [2 ^ 32 - 1, 0]] := by
  simp [Fits]

theorem u8_lt (v : Byte) : v.toNat < 256 := v.isLt
theorem u16_lt (v : BitVec 16) : v.toNat < 65536 := v.isLt
theorem u32_lt (v : Word) : v.toNat < 4294967296 := v.isLt
theorem u64_lt (v : BitVec 64) : v.toNat < 18446744073709551616 := v.isLt
theorem opt32_lt (v : Option Word) : (v.map BitVec.toNat).getD 0 < 4294967296 := by
  cases v with | none => decide | some v => exact v.isLt
theorem opt64_lt (v : Option (BitVec 64)) : (v.map BitVec.toNat).getD 0 < 18446744073709551616 := by
  cases v with | none => decide | some v => exact v.isLt
theorem flag_lt (b : Bool) : b2n b < 256 := by cases b <;> decide

/-- The arguments of a well-formed request have the fields of its row. -/
theorem test_rows_fit (c : Call) (i : Instr) (op : Nat) (args : List Arg) (h : HodRow c i op args) (hw : i.wf = true) :
    ∃ r, findOp op = some r ∧ Fits r.args args := by
  cases h <;> refine ⟨_, rfl, ?_⟩ <;> simp only [Instr.wf, Bool.and_eq_true, decide_eq_true_eq] at hw <;>
    simp only [Fits, OpRow.own, OpRow.at, u8_lt, u16_lt, u32_lt, u64_lt, opt32_lt, opt64_lt, flag_lt, List.length_nil, hw, List.length_map, List.mem_map,
      forall_exists_index, and_imp, forall_apply_eq_imp_iff₂, implies_true, true_and, and_true, Nat.reducePow] <;> omega

/-- Requests of PF0 and the core, and of an open transaction. -/
def call : Call := { who := .pf0, tag := 65535 }
def txnHub : Hub := hub fun h => { h with rb := { h.rb with txns := [{ id := 7, owner := .core }] } }

theorem test_witness_HodRequestsExecute :
    HodRow call (.hsOff call 3) 0x0B01 [.u16 3] ∧ (findOp 0x0B01).map (·.bnd) = some true ∧
      HodRow call (.monRead call) 0x0E03 [] ∧ (findOp 0x0E03).map (·.bnd) = some false ∧
      (∀ r ∈ findOp 0x0B01, HodReady (st id) call r [.u16 3]) ∧ (∀ r ∈ findOp 0x0E03, HodReady (st id) call r []) ∧
      (∀ r ∈ findOp 0x0B01, HodReady { dev := { hub := txnHub } } { who := .core, txn := 7 } r [.u16 3]) ∧
      txnHub.openTxn .core = some { id := 7, owner := .core } := by
  refine ⟨.hsOff 3, rfl, .monRead, rfl, ?_, ?_, ?_, rfl⟩ <;> intro r hr <;> cases hr <;>
    exact ⟨by decide, by decide, by decide, by decide, by decide, by decide, by decide, by decide, by decide, by simp [Fits, OpRow.at],
      by decide, by decide, by decide +kernel, by decide +kernel⟩

theorem test_witness_StagedHodsWait :
    let h := hub fun h => { h with smp := { h.smp with inSlice := true } }
    HodRow call (.smpLast call 5) 0x0704 [.u16 5] ∧ (findOp 0x0704).map (·.bnd) = some true ∧
      (∀ r ∈ findOp 0x0704, HodReady { dev := { hub := h } } call r [.u16 5]) ∧ call.who ≠ .rack ∧ call.txn = 0 ∧
      0x0704 / 256 = 0x07 ∧ h.smp.inSlice = true ∧ h.timed (hodReq h call 0x0704 [.u16 5]) = false ∧
      (hub id).smp.inSlice = false := by
  refine ⟨.smpLast 5, rfl, ?_, by decide, rfl, rfl, rfl, rfl, rfl⟩
  intro r hr; cases hr
  exact ⟨by decide, by decide, by decide, by decide, by decide, by decide, by decide, by decide, by decide, by simp [Fits, OpRow.own, OpRow.at],
    by decide, by decide, by decide +kernel, by decide +kernel⟩

theorem test_witness_WindowAndDoorbell :
    let h (l : Bool) : Hub := hub fun h => h.updHod 8 fun k => { k with phase := if l then .running else .idle }
    let bs := leBytes 4 (2 ^ 16 + 1)
    Requester.id (.vf 7) = 8 ∧ ((h false).hod 8).locked = false ∧ ((h true).hod 8).locked = true ∧ bs.length = 4 ∧
      (leNat bs).testBit 16 = true ∧ (leNat bs).testBit 0 = true ∧ (Requester.vf 7) ≠ .rack ∧ ((h false).hod 8).out = none ∧
      ((h false).hod 8).stale = [] ∧ leNat (slice (((h false).hod 8).buf.readN 0 16) 7 1) ≠ 1 := by decide +kernel

/-- One request of each opcode with arguments. -/
def sentArgs : List (Nat × List Arg) := [
  (0x0401, [.u8 7, .u16 1, .u8 0]), (0x0402, [.list 4 [1]]), (0x0403, [.u32 1, .u8 9, .u8 8]), (0x0404, [.u32 1, .u8 0]),
  (0x0405, [.u32 1]), (0x0501, [.u32 1, .u8 1]), (0x0601, [.u16 0, .u32 0, .u32 256, .block [1]]),
  (0x0602, [.u16 0, .u32 0, .u32 256]), (0x0603, [.u8 7, .u16 7]), (0x0701, [.u16 0, .u32 0, .record (zeros 64)]),
  (0x0702, [.u16 5, .u16 0, .u32 0, .u8 1, .u64 9]), (0x0703, [.u16 5, .u8 0, .u32 0, .u8 0, .list 4 [3]]), (0x0704, [.u16 5]),
  (0x0705, [.u16 0, .u32 0, .block (zeros 256)]), (0x0801, [.u16 5, .record (zeros 32)]), (0x0802, [.u16 5]), (0x0803, [.u16 5]),
  (0x0804, [.u16 5]), (0x0805, [.u16 5, .u8 0]), (0x0806, [.u16 5]), (0x0807, [.u8 7, .u64 1]), (0x0808, [.u8 7]), (0x0809, [.u8 7]),
  (0x0901, [.u16 3, .record (zeros 28)]), (0x0902, [.u16 3]), (0x0903, [.u16 3]), (0x0904, [.u16 3, .u8 0]), (0x0905, [.u16 3]),
  (0x0906, [.u16 3, .record (zeros 16)]), (0x0907, [.u16 3]), (0x0908, [.u16 3]), (0x0A01, [.u8 7]),
  (0x0A02, [.u8 7, .record (zeros 256)]), (0x0A03, [.u8 7, .u8 63]), (0x0B01, [.u16 3]), (0x0B02, [.u16 3]), (0x0B03, [.u8 9]),
  (0x0B04, [.u8 9]), (0x0B05, [.u8 1]), (0x0C02, [.u8 1, .u8 13]), (0x0D01, [.u8 63])]

/-- The others. -/
def sentRest : List (Nat × List Arg) := [
  (0x0C01, []), (0x0D02, []), (0x0E01, [.u64 1]), (0x0E02, []), (0x0E03, []), (0x0F01, []), (0x0F02, [.u16 7, .u8 0, .u32 0]),
  (0x0F03, [.u16 7]), (0x0F04, [.u32 1]), (0x0F05, []), (0x0F06, [.block [1]]), (0x0F07, []),
  (0x1001, [.u8 7, .u8 0x50, .u32 0, .u32 1]), (0x1002, []), (0x1101, [.u8 0]), (0x1102, []), (0x1103, []),
  (0x1201, [.u8 1, .u32 0, .block [1]]), (0x1202, [.u8 1, .u8 0]), (0x1203, [.u8 1, .u8 0, .u8 0]), (0x1204, []),
  (0x1205, [.u8 1, .u32 0, .block [1]]), (0x1206, [.u8 3, .u32 0, .block [1]]), (0x1301, []),
  (0x1302, [.u8 0, .u8 0, .u32 0, .block []]), (0x1401, [.u32 0, .u16 63]), (0x1402, []), (0x1403, []), (0x1501, [])]

theorem zeros_len (n : Nat) : (zeros n).length = n := by simp [zeros]

/-- PF0 is ready to send each of them to a hub that runs. -/
theorem test_witness_hods_ready : ∀ e ∈ sentArgs ++ sentRest, ∃ r, findOp e.1 = some r ∧ HodReady (st id) call r e.2 := by
  intro e he
  have hf : ∃ r, findOp e.1 = some r ∧ Fits r.args e.2 := by
    revert e
    simp only [sentArgs, sentRest, List.cons_append, List.nil_append, List.forall_mem_cons, List.not_mem_nil, false_implies, implies_true, and_true]
    refine ⟨?_, ?_, ?_, ?_, ?_, ?_, ?_, ?_, ?_, ?_, ?_, ?_, ?_, ?_, ?_, ?_, ?_, ?_, ?_, ?_, ?_, ?_, ?_, ?_, ?_, ?_, ?_, ?_, ?_, ?_, ?_, ?_, ?_,
      ?_, ?_, ?_, ?_, ?_, ?_, ?_, ?_, ?_, ?_, ?_, ?_, ?_, ?_, ?_, ?_, ?_, ?_, ?_, ?_, ?_, ?_, ?_, ?_, ?_, ?_, ?_, ?_, ?_, ?_, ?_, ?_, ?_, ?_, ?_,
      ?_, ?_⟩ <;>
      exact ⟨_, rfl, by simp [Fits, OpRow.own, OpRow.at, zeros_len]⟩
  have hb : ∀ e ∈ sentArgs ++ sentRest, ∀ r ∈ findOp e.1, (encodeArgs e.2).length ≤ 4080 ∧
      (hub id).entitled r (hodReq (hub id) call r.op e.2) = true ∧ (hub id).txnIdOk r (hodReq (hub id) call r.op e.2) = true := by
    decide +kernel
  obtain ⟨r, hr, hfit⟩ := hf
  obtain ⟨hl, he1, ht⟩ := hb e he r hr
  exact ⟨r, hr, by decide, by decide, by decide, by decide, by decide, by decide, by decide, by decide, by decide, hfit, hl, fun h => absurd h (by decide), he1, ht⟩

/-- A request of PF0, and one of the VF of PT7. -/
def req (op : Nat) (args : List Arg) : HodReq := { who := .pf0, op, args }

/-- A hub with tiles owned by PT0. -/
def owned (ts : List Nat) (h : Hub) : Hub :=
  ts.foldl (fun h n => (h.setFld (0x400200 + 4 * n) 3 0 0).updTile n fun t => { t with st := .owned }) h

theorem test_witness_PageHodsAct :
    let h := withPage leased 0 readBrick
    let k (e : Pte) : Hub := owned (List.range 16) (withPage e 0 readBrick)
    let q := req 0x0401 [.u8 0, .u16 256, .u8 1]
    ((k leased).allocPages (q.part 0) false 1).isSome = true ∧ ((k leased).allocPages (q.part 0) true 2).isSome = true ∧
      h.ownPage q 1 = true ∧ h.validPage 1 = true ∧ (h.pte 1).lessees ≠ 0 ∧
      ((9 : Byte).toNat.testBit 3 = true → (2 : Byte).toNat.testBit ((9 : Byte).toNat % 8) = true) ∧
      ((k { leased with moving := true }).pte 1).moving = true ∧
      (let p := k { leased with res := true }
       (p.pte 1).res = true ∧ (p.pte 1).moving = false ∧ p.placeTile (p.pte 1).part ≠ none) ∧
      (h.pte 1).res = (h.pte 1).moving ∧ 1 < h.tableSize ∧ (h.pte 1).pinned = false := by decide +kernel

theorem test_witness_MortarHodsAct :
    let h : Hub := owned [0] (mortarHub opndBrick [coll7])
    let q := req 0x0601 []
    h.tileRight q 0 = true ∧ h.tileFits 0 = true ∧ hubRange 2093056 3840 = true ∧ hubRange 0 256 = true ∧
      (∀ k ∈ h.mortar.colls, (Desc.of k.desc).usesHub = false ∧ (Desc.of k.desc).toHub = false) ∧
      h.coll? (q.part 0) 7 = some coll7 := by decide +kernel

theorem test_witness_SamplerHodsAct :
    let h : Hub := owned [0, 1] (smpHub (lgBrick 0) [step5] fun h => h.updStrm 5 fun c => { c with prog := some (0, 256) })
    let d : Dev := { hub := h, mem := { tile := ({ hub := h } : Dev).tileWrite 0 256 prog1 |>.mem.tile } }
    let good (en : Byte) : List Byte :=
      [1, 1, 0, en] ++ leBytes 4 1 ++ zeros 12 ++ leBytes 4 0x3F800000 ++ zeros 8 ++ leBytes 4 1 ++ zeros 28
    let counting := good 1
    let q := req 0x0701 []
    h.tileRight q 1 = true ∧ h.tileFits 1 = true ∧ h.progCheck (h.ownerReg 1) (good 0) = none ∧ (good 0).length = 64 ∧
      (∀ x ∈ h.smp.steps, overlaps 1 2096896 64 x.tile x.ofs 64 = false) ∧ h.streamRight q 5 = none ∧
      h.hubTileOk ((h.streamPart 5).getD 0) 1 = true ∧ (256 : Nat) ≤ (zeros 256).length ∧ (zeros 3840).length ≤ 3840 ∧
      (∀ x ∈ h.smp.steps, ∀ r ∈ d.stepRanges x, overlaps 1 0 256 r.1 r.2.1 r.2.2 = false) ∧
      (hub id).streamRight q 5 = none ∧ (({ hub := hub id } : Dev).boundProg 0 5) = none ∧
      ((d.boundProg 0 5).map fun b => (Prog.of b.2.2).penalty) = some false ∧
      (Prog.of counting).penalty = true ∧ (Prog.of counting).cntSize ≤ 2 ∧
      h.tableOk 0 1 (Prog.of counting).cntOfs (4 * (Prog.of counting).cntLen) = true ∧ (Prog.of prog1).stateIn 65534 = true := by
  decide +kernel

theorem test_witness_StreamHodsAct :
    let h := ready0 id
    let q := req 0x0801 []
    let s (c : Strm) : Hub := strHub c id
    let e (j : JobState) : Hub := hub fun h => { h with fw := { h.fw with jp := some [] }, str := { h.str with job := [(0, j)] } }
    h.streamRight q 5 = none ∧ (s (onQueue0 .idle)).stateAtClose 5 = .idle ∧ (s (onQueue0 .parked)).stateAtClose 5 = .parked ∧
      ((s (onQueue0 .idle)).stream 5).queue ≠ none ∧ h.stateAtClose 5 = .ready ∧ (s (onQueue0 .running)).stateAtClose 5 = .running ∧
      h.stateAtClose 5 ≠ .idle ∧ h.stateAtClose 5 ≠ .faulted ∧ h.queueRight q 0 = true ∧ h.queueEn 0 = true ∧
      h.streamPart 5 = some (h.queuePart 0) ∧ (h.stream 5).st = .ready ∧ ((s (onQueue0 .running)).stream 5).st ≠ .ready ∧
      (hub id).partEn 0 = true ∧ (e .none).fw.jp ≠ none ∧ (e .none).jobState 0 = .none ∧ (e .running).jobState 0 = .running ∧
      (e .ending).jobState 0 = .ending ∧ Tbl.get 0 (e .none).str.jobNum 0 ≠ 0xFFFFFFFF := by decide +kernel

theorem test_witness_BarrierHodsAct :
    let h : Hub := hub fun h => ((h.updPort 0 fun _ => live).setBar 3 (some bar0)).setBar 4 (some bar1)
    let q := req 0x0901 []
    let v : HodReq := { who := .vf 0, op := 0x0901 }
    objRight q (h.barPart 3) = none ∧ objRight v (h.barPart 3) = none ∧ h.barPart 3 = some 0 ∧
      h.barFields 0 1 [2, 0, 0, 0, 0, 0, 0, 0, 0] 5 0xFFFF = none ∧ bar0.waiting = false ∧ h.bar 3 = some bar0 ∧
      (h.setBar 5 (some { bar0 with pmask := 1, expect := [2, 0, 0, 0, 0, 0, 0, 0, 1] })).arriveCheck 0 5 0 8 = none ∧
      h.bar 4095 = none ∧ objRight q (h.barPart 4095) = none := by decide +kernel

theorem test_witness_TallyHodsAct :
    let h : Hub := hub fun h => h.setTal 3 (some (tal3 3 1))
    let q := req 0x0906 []
    let v : HodReq := { who := .vf 0, op := 0x0906 }
    objRight q (h.talPart 3) = none ∧ objRight v (h.talPart 3) = none ∧ h.talPart 3 = some 0 ∧ h.tal 3 = some (tal3 3 1) ∧
      h.tal 16383 = none ∧ h.barPart 3 = some 0 ∧
      (let r := [7, 0, 0, 0] ++ zeros 4 ++ leBytes 2 3 ++ zeros 2 ++ leBytes 4 60000000
       leNat (slice r 0 1) < 8 ∧ leNat (slice r 1 1) < 8 ∧ h.barPart (leNat (slice r 8 2)) = some 0 ∧ 1 ≤ leNat (slice r 12 4) ∧
         leNat (slice r 12 4) ≤ 60000000) := by decide +kernel

theorem test_witness_GovernorHodsAct :
    (req 0x0A02 []).who.isVf = false ∧ (∀ n < 64, bits (leNat (slice (zeros 256) (4 * n) 4)) 7 0 ≤ bits (leNat (slice (zeros 256) (4 * n) 4)) 15 8) ∧
      (63 : Byte).toNat < 64 ∧ (0xFF : Byte).toNat = 0xFF := by decide +kernel

theorem test_witness_ChannelHodsAct :
    let l := hs 5 9 (seatedIn .latched)
    let h := hs 5 9 (seatedIn .held)
    (∀ k ∈ onesBelow 10 (3 : BitVec 16).toNat, ((hub id).hsCh k).st ≠ .disabled) ∧ (l.hsCh 9).st = .latched ∧ (h.hsCh 9).st = .held ∧
      l.holdActive 9 = false ∧ h.holdActive 9 = false ∧ (req 0x0B03 []).who.isVf = false := by decide +kernel

theorem test_witness_SequenceHodsAct :
    (hub id).hs.up = false ∧ (hub id).hs.down = [] ∧ (hub fun h => { h with hs := { h.hs with up := true } }).hs.up = true := by decide

theorem test_witness_CoolingHodsAct :
    call.who = .pf0 ∧ ({ who := .core } : Call).who ≠ .pf0 ∧ ({ who := .core } : Call).who ≠ .smbus ∧ (req 0x0C02 []).who.isVf = false ∧
      (1 : Byte).toNat = 1 ∧ (13 : Byte).toNat < 14 ∧ (0 : Byte).toNat = 0 ∧ (7 : Byte).toNat < 8 := by decide

theorem test_witness_LeakHodsAct :
    let h (n : Nat) : Hub := hub fun h => h.updRope 5 fun k => { k with action := true, st := 0, dryRun := n }
    (∀ r ∈ onesBelow 6 (63 : Byte).toNat, ((h 1000).rope r).action = true → (h 1000).clearable r = true) ∧
      5 ∈ onesBelow 6 (63 : Byte).toNat ∧ ((h 999).rope 5).action = true ∧ (h 999).clearable 5 = false := by decide +kernel

theorem test_witness_SensingHodsAct :
    (∀ r ∈ (hub id).hods.waiting, r.op ≠ 0x0E02) ∧
      (∃ r ∈ (hub fun h => { h with hods := { h.hods with waiting := [req 0x0E02 []] } }).hods.waiting, r.op = 0x0E02) := by
  decide

theorem test_witness_TransactionHodsAct :
    (hub id).openTxn .pf0 = none ∧ (hub id).rb.txns.countP (fun t => !t.owner.isVf) < 8 ∧
      (∀ t ∈ (hub id).rb.txns, t.owner ≠ .vf 0) ∧ txnHub.openTxn .core = some { id := 7, owner := .core } := by decide

theorem test_witness_SystemHodsAct :
    (Requester.pf0 = .pf0) ∧ Requester.debug ≠ .pf0 ∧ Requester.debug ≠ .smbus ∧ Requester.debug ≠ .core := by decide

theorem test_witness_IdentityHodsAct :
    let h := hub fun h => (h.updId 7 0x54 fun _ => { st := 2, bytes := zeros 32 }).updId 8 0x50 fun _ => { st := 2 }
    idPlace 7 0x54 = true ∧ idPlace 8 0x50 = true ∧ idPlace 9 0x57 = true ∧ (h.idMem 7 0x54).st = 2 ∧ 31 + 1 ≤ (h.idMem 7 0x54).bytes.length ∧
      (h.idMem 8 0x50).st = 2 := by decide +kernel

theorem test_witness_RackHodsAct :
    let r (f : Rack → Rack) : Hub := hub fun h => { (h.setReg 0x1100000 3) with rack := f h.rack }
    let m := r fun k => { k with pos := 1, role := .manager }
    let s := r fun k => { k with pos := 2, role := .standby }
    m.rack.role = .manager ∧ (2 : Byte).toNat ≠ 0 ∧ (2 : Byte).toNat ≠ m.rack.pos ∧ (1 : Byte).toNat = m.rack.pos ∧
      s.rack.role ≠ .manager ∧ s.rack.role ≠ .standalone ∧ s.rackStandby = true ∧ m.rack.state ≠ 1 ∧ m.rack.state ≠ 2 ∧
      m.rack.propose = false := by decide +kernel

/-- A job-plane module with an empty body, and one that needs interface 1.1. -/
def module3 (need : Nat) : List Byte :=
  leBytes 4 0x42594C50 ++ [1, 3] ++ zeros 16 ++ leBytes 4 need ++ zeros 6 ++ sha384 [] ++ zeros 48 ++ List.replicate 96 1 ++ zeros 3872

/-- The checks of an image come to its signature, which a key of the ROM, left open by the spec, has to have made. -/
theorem test_witness_FirmwareHodsAct :
    let f (g : Fw → Fw) : Hub := hub fun h => { h with fw := g h.fw }
    let i : Image := { slot := true, major := 1, minor := 0, svn := 0, epoch := 1, epochMin := 1, jpIf := 0, emuVer := 0, digest := [] }
    (hub id).fw.pend = none ∧ (1 : Nat) ≠ b2n (hub id).fw.active.hub ∧ (1 : Nat) ≠ b2n (hub id).fw.slot ∧
      (f fun w => { w with phase := .kiln }).fw.kiln = true ∧
      (f fun w => { w with cursor := [(1, some 4080)] }).fw.cursor.get none 1 = some 4080 ∧ 4080 + 4080 ≤ targetSize 1 ∧
      (hub id).fw.accActive (3 / 2) ≠ decide (3 % 2 = 1) ∧ (hub id).fw.accActive (2 / 2) = decide (2 % 2 = 1) ∧
      (f fun w => { w with stage := some i }).fw.stage = some i ∧ b2n i.slot = 1 ∧
      (f fun w => { w with pend := some { kind := 1, target := 1, mask := 0 } }).fw.pend = some { kind := 1, target := 1, mask := 0 } ∧
      (f fun w => { w with jpPart := some [1] }).fw.jpPart = some [1] ∧ (3 : Byte).toNat.testBit 0 = true ∧
      (3 : Byte).toNat.testBit 1 = true ∧ (0 : Byte).toNat.testBit 1 = false ∧ (f fun w => { w with trial := true }).fw.trial = true := by
  decide +kernel

theorem test_witness_FirmwareHodsAct_module (o : Otp) (ho : o.arb = 0) :
    let d : Dev := { hub := hub id, otp := o }
    let m := module3 0
    d.moduleCheck m = (if anyKey (o.keys false) (m.take 128) (slice m 128 96) then none else some (.badArg 3)) ∧
      d.moduleCheck [] = some (.badArg 3) ∧ d.hub.fw.jp ≠ some m ∧ jpFits (jpNeed (module3 1)) d.hub.jpHave = false ∧
      (hub fun h => { h with str := { h.str with job := [(0, .running)] } }).jobsNone = false := by
  have h1 : headerOk (module3 0) = true ∧ epochOk 3 (module3 0) = true ∧ (module3 0).length = 4096 := by decide +kernel
  have h2 : sha384 [] = slice (module3 0) 32 48 := by decide +kernel
  have h3 : hdr (module3 0) 8 4 = 0 ∧ hdr (module3 0) 5 1 = 3 ∧ hdr (module3 0) 12 1 = 0 ∧ jpNeed (module3 0) = 0 := by decide +kernel
  have h4 : (hub id).jpHave = 0 ∧ (hub id).fw.jp = none ∧ (hub id).jobsNone = true := by decide +kernel
  have h5 : jpFits (jpNeed (module3 1)) (hub id).jpHave = false := by decide +kernel
  refine ⟨?_, by simp [Dev.moduleCheck], by simp [h4.2.1], h5, by decide +kernel⟩
  simp [Dev.moduleCheck, Dev.moduleVerdict, Otp.verdict, h1, h3, h4, bodyLimit, ← h2, ho, jpFits]
  split <;> simp_all

/-- DK signs a token: it verifies for that message, and the message of a challenge is such a list of bytes. -/
theorem test_witness_SecurityHodsAct :
    let o : Otp := { dk := some (pointBytes g384), ok0 := some (pointBytes g384) }
    let sig := ecdsaSign 1 2 (zeros 8)
    o.tokenKey 2 (zeros 8) sig = some 2 ∧ ({ o with dk := none } : Otp).tokenKey 1 (zeros 8) sig = some 0 ∧
      ({ o with dk := none } : Otp).tokenKey 2 (zeros 8) sig = none ∧ (hub id).sec.rng = true ∧
      (hub fun h => h.updSec fun s => { s with challenge := some 5, asked := 60000000 }).sec.challenge = some 5 := by decide +kernel

theorem test_witness_RecorderHodsAct :
    (hub id).ev.clearing = false ∧ (hub id).ev.clearCount ≠ 0xFFFFFFFF ∧ 1 ≤ (63 : BitVec 16).toNat ∧ (63 : BitVec 16).toNat ≤ 63 := by
  decide +kernel

theorem test_witness_HodEffects_pages :
    let h := withPage leased 0 readBrick
    let g := mortarHub opndBrick [coll7]
    h.validPage 1 = true ∧ ((9 : Nat).testBit 3 = true → (2 : Nat).testBit (9 % 8) = true) ∧ h.leaseUsed < 65536 ∧
      g.coll? 0 7 = some coll7 := by decide +kernel

theorem test_witness_HodEffects_streams :
    let h := ready0 id
    let q : HodReq := { who := .pf0, path := .window, op := 0x0802, tag := 0, args := [.u16 5] }
    let e := hub fun h => { h with fw := { h.fw with jp := some [] } }
    h.streamRight q 5 = none ∧ (h.stream 5).st = .ready ∧ e.partEn 0 = true ∧ e.fw.jp ≠ none ∧ e.jobState 0 = .none ∧
      Tbl.get 0 e.str.jobNum 0 ≠ 0xFFFFFFFF ∧ h.jobState 0 ≠ .none ∧ q.who.isVf = false ∧ (Requester.vf 0).isVf = true := by
  decide +kernel

theorem test_witness_HodEffects_others :
    let l := hs 5 9 (seatedIn .latched)
    (l.hsCh 9).st = .latched ∧ (l.hsCh 9).seated = true ∧ l.holdActive 9 = false ∧ (hub id).openTxn .pf0 = none ∧
      (hub id).rb.txns.countP (fun t => !t.owner.isVf) < 8 ∧ txnHub.openTxn .core ≠ none := by decide +kernel

/-! ### MCTP, SPDM, PCIe and the identity buses -/

theorem test_witness_MctpControlAnswers :
    let p : List Byte := [1, 0, 0x30, 0xC8, 0x00]
    let a : Assembly := { pcie := true, src := 0x30, tag := 0, owner := true, seq := 1, bytes := [0x05] }
    let k := hub fun h => { h with hods := { h.hods with asm := [a] } }
    let q (n : Nat) : Hub := hub fun h => { h with hods := { h.hods with emuQueue := List.replicate n (8, 1) } }
    5 ≤ p.length ∧ p.length ≤ 68 ∧ leNat (slice p 0 1) % 16 = 1 ∧ leNat (slice p 1 1) = 0 ∧
      (leNat (slice p 3 1)).testBit 6 = true ∧ (leNat (slice [1, 0, 0x30, 0x88, 0] 3 1)).testBit 6 = false ∧
      (leNat (slice [1, 0, 0x30, 0x88, 0] 3 1)).testBit 7 = true ∧ (hub id).asmOf true 0x30 = none ∧
      (leNat (slice [1, 0, 0x30, 0x28, 0] 3 1)).testBit 7 = false ∧ (leNat (slice [1, 0, 0x30, 0x28, 0] 3 1)).testBit 6 = false ∧
      k.asmOf true 0x30 = some a ∧ a.seq ≠ leNat (slice [1, 0, 0x30, 0x28, 0] 3 1) / 16 % 4 ∧ (q 255).hods.emuQueue.length < 256 ∧
      256 ≤ (q 256).hods.emuQueue.length ∧ (q 1).hods.emuQueue = (8, 1) :: [] ∧ (hub id).fw.phase = .up ∧
      (1 : Byte).toNat % 4 < 2 ∧ 0 < (254 : Byte).toNat ∧ (254 : Byte).toNat < 255 := by decide +kernel

theorem test_witness_SpdmResponds :
    let m : SpdmMsg := { pcie := true, eid := 9, tag := 1, sid := some 65543, bytes := zeros 38 ++ pointBytes g384 }
    let h (n : Nat) (ss : List Session) : Hub := hub fun h => { h with hods := { h.hods with eidPcie := 8 }
                                                                       sec := { h.sec with conn := [(1, n)], sessions := ss } }
    let x : Session := { id := 65543, pcie := true }
    (hub id).eid true = 0 ∧ (h 0 []).eid true ≠ 0 ∧ (h 0 []).fw.phase = .up ∧ (h 0 []).conn true = 0 ∧ 1 ≤ (h 1 []).conn true ∧
      2 ≤ (h 2 []).conn true ∧ 3 ≤ (h 3 []).conn true ∧
      ({ m with bytes := [0x13, 0x82] ++ m.bytes } : SpdmMsg).at_ 2 1 % 16 = 0 ∧
      ({ m with bytes := [0x13, 0xE4] ++ m.bytes } : SpdmMsg).at_ 3 1 = 0 ∧ (h 3 []).sec.rng = true ∧
      (hub fun h => { h with sec := { h.sec with rng := false } }).sec.rng = false ∧
      4 ≤ (h 3 [x, x, x, x]).sec.sessions.length ∧ (h 3 []).sec.sessions.length < 4 ∧
      onCurve (pointOf (slice ([0x13, 0xE4] ++ m.bytes) 40 96)) = true ∧ (h 3 [x]).session m = some x ∧ x.open_ = false ∧
      (h 3 [{ x with open_ := true }]).session m = some { x with open_ := true } ∧ (0x85 : Byte).toNat ∉ spdmCodes := by decide +kernel

theorem test_witness_SpdmResponds_refusals :
    let m (bs : List Byte) : SpdmMsg := { pcie := true, eid := 9, tag := 1, sid := none, bytes := bs }
    let h (p : CorePhase) : Hub := hub fun h => { h with fw := { h.fw with phase := p } }
    let used : Session := { id := 7, pcie := true, seq := 2 ^ 64 - 1 }
    (m ([0x13, 0x82] ++ [0x11])).at_ 2 1 % 16 ≠ 0 ∧ (m ([0x13, 0x83] ++ [0x11])).at_ 2 1 % 16 ≠ 0 ∧
      (m ([0x13, 0xE0] ++ [0, 0xFD])).at_ 3 1 = 0xFD ∧ (m ([0x13, 0xE0] ++ [0, 0xFE])).at_ 3 1 = 0xFE ∧
      (m ([0x13, 0xE4] ++ [0, 1])).at_ 3 1 ≠ 0 ∧ (m [0x12, 0x84]).at_ 0 1 ≠ 0x10 ∧ (m [0x10, 0x84]).at_ 0 1 = 0x10 ∧
      (m [0x12, 0xE1]).at_ 0 1 ≠ 0x13 ∧ (m []).sid = none ∧ (h .off).fw.phase = .off ∧ (h .kiln).fw.phase = .kiln ∧
      2 ^ 64 ≤ used.seq + 1 ∧ ({ used with seq := 2 ^ 64 - 2 } : Session).seq + 1 < 2 ^ 64 ∧
      ({ m [] with macOk := false } : SpdmMsg).macOk = false ∧ ({ m [] with macOk := true } : SpdmMsg).macOk = true := by decide +kernel

/-- An identity record whose fields are in range. -/
def idRecord : List Byte :=
  leBytes 2 1 ++ leBytes 2 512 ++ leBytes 2 256 ++ leBytes 2 1000 ++ [1, 1, 50, 51] ++ leBytes 2 300 ++ leBytes 2 1275 ++ leBytes 2 1500 ++
  leBytes 2 1500 ++ leBytes 2 1 ++ zeros 10 ++ ((List.range 16).flatMap fun k => leBytes 1 k ++ zeros 3) ++ List.replicate 256 1 ++ zeros 160

theorem test_witness_PcieAndIdentity :
    let h := hub fun h => (h.updId 7 0x50 fun m => { m with st := 1 }).updId 7 0x51 fun m => { m with st := 1, retries := 3 }
    let t := hub fun h => { h with rb := { h.rb with txns := [{ id := 3, owner := .pf0 }, { id := 4, owner := .vf 7 }] } }
    h.bus.sleep = .awake ∧ (∀ n : Fin 8, (hub id).openTxn (.vf n) = none) ∧ t.openTxn .pf0 = some { id := 3, owner := .pf0 } ∧
      t.openTxn (.vf 7) = some { id := 4, owner := .vf 7 } ∧ h.bus.idFault.testBit 7 = false ∧ (h.idMem 7 0x50).st = 1 ∧
      recordOk (slice (zeros 0x800 ++ idRecord) 0x800 512) = true ∧ recordOk (slice (zeros 2560) 0x800 512) = false ∧
      (h.idMem 7 0x50).retries < 3 ∧ (h.idMem 7 0x51).st = 1 ∧ 3 ≤ (h.idMem 7 0x51).retries ∧ (h.idMem 9 0x54).st = 0 ∧
      (h.idMem 9 0x55).st = 0 ∧ (hub fun h => { h with bus := { h.bus with idFault := 2 ^ 9 } }).bus.idFault.testBit 9 = true := by
  decide +kernel

theorem test_witness_PcieAndIdentity_buses :
    let f (b n : Nat) : Hub := hub fun h => { (h.updId 7 0x54 fun m => { m with st := 1, retries := n }).updId 7 0x50 fun m => { m with st := 2 } with
      bus := { ((h.updId 7 0x54 fun m => { m with st := 1, retries := n }).updId 7 0x50 fun m => { m with st := 2 }).bus with idFault := b } }
    let s := hub fun h => { h with bus := { h.bus with idFault := 2 ^ 7, sled := 2 ^ 7 } }
    (f (2 ^ 7) 3).bus.idFault.testBit 7 = true ∧ ((f 0 3).idMem 7 0x54).st = 1 ∧ 3 ≤ ((f 0 3).idMem 7 0x54).retries ∧
      ((f 0 2).idMem 7 0x54).retries < 3 ∧ (f 0 0).bus.idFault.testBit 7 = false ∧ ((f 0 0).idMem 7 0x50).st ≠ 0 ∧
      ((hub id).idMem 7 0x50).st = 0 ∧ (f 0 0).bus.idFault.testBit 8 = false ∧ (f 0 0).bus.idFault.testBit 9 = false ∧
      (f (2 ^ 8) 0).bus.idFault.testBit 8 = true ∧ s.bus.cable.testBit 14 = false ∧ s.bus.cable.testBit 15 = false ∧
      s.bus.sled.testBit 7 = true ∧ (f (2 ^ 7) 0).bus.sled.testBit 7 = false := by decide +kernel

theorem test_witness_PcieReset :
    let t := hub fun h => { h with rb := { h.rb with txns := [{ id := 3, owner := .pf0 }] } }
    (∀ n : Fin 8, t.openTxn (.vf n) = none) ∧ t.openTxn .pf0 = some { id := 3, owner := .pf0 } := by decide +kernel

/-! ### SMBus and sleep -/

theorem test_witness_SmbReady : SmbReady (hub id) := by
  refine ⟨rfl, by decide, by decide, by decide, by decide, by decide⟩

theorem test_witness_SmbusCommandsServed :
    let h := hub id
    let n := hub fun h => h.setReg 0x1000000 1
    let sum (bs : List Byte) : Nat := crc8 (leBytes 1 (2 * h.bus.smbAddr) ++ bs)
    (∃ p : Byte, p.toNat = sum [1, 0xFF]) ∧ (∃ p : Byte, p.toNat ≠ sum [1, 0xFF]) ∧ n.bitAt 0x1000000 0 = true ∧ h.bitAt 0x1000000 0 = false ∧
      (∃ p : Byte, p.toNat = sum ([0x0F] ++ leBytes 1 5 ++ [0x21, 1, 0, 0x30, 0xC8])) ∧
      (4095 : BitVec 16).toNat < 4096 ∧ 4096 ≤ (4096 : BitVec 16).toNat ∧ (252 : Byte).toNat % 4 = 0 ∧ (252 : Byte).toNat ≤ 252 ∧
      4 ≤ (4 : Byte).toNat ∧ 252 < (253 : Byte).toNat ∧ h.bus.hodPtr + (255 : Byte).toNat ≤ 4096 ∧
      4096 < (hub fun h => { h with bus := { h.bus with hodPtr := 4095 } }).bus.hodPtr + (2 : Byte).toNat ∧
      (hub fun h => { h with bus := { h.bus with hodPtr := 4095 } }).bus.hodPtr + (1 : Byte).toNat ≤ 4096 ∧
      h.bus.out = [] ∧ (hub fun h => { h with bus := { h.bus with out := [[1]] } }).bus.out = [1] :: [] ∧
      (0x7F : Byte).toNat ∉ smbCodes := by decide +kernel

theorem test_witness_SmbusResetsAndHubSleep :
    let b (f : Bus → Bus) : Hub := hub fun h => { h with bus := f h.bus }
    (hub id).bus.smbRst = false ∧ (b fun b => { b with smbRst := true }).bus.smbRst = true ∧ (hub id).bus.sleep = .awake ∧
      (hub fun h => { h with rack := { h.rack with state := 1 } }).rack.state = 1 ∧
      (b fun b => { b with sleep := .entering }).bus.wake = false ∧ (b fun b => { b with sleep := .entering, wake := true }).bus.wake = true ∧
      (b fun b => { b with sleep := .asleep, clocks := false }).bus.clocks = false ∧
      (b fun b => { b with sleep := .exiting }).bus.sleep = .exiting := by decide +kernel

/-! ### Rack -/

/-- A hub of the chain, changed by `f`. -/
def rk (f : Rack → Rack) : Hub := hub fun h => { h with rack := f h.rack }
def frame (up : Bool) (src dst : Nat) (p : List Byte) (ok : Bool := true) : Frame := { up, src, dst, payload := p, ok }

theorem test_witness_RackChainActs_links :
    (frame true 1 2 [] false).ok = false ∧ (hub id).bitAt 0x1100000 0 = true ∧ (regHub [(0x1100000, 0)] id).bitAt 0x1100000 0 = false ∧
      (rk id).rack.dn = false ∧ (rk fun r => { r with dn := true }).rack.dn = true ∧ (rk fun r => { r with up := true }).rack.up = true ∧
      (rk fun r => { r with up := true }).rack.dn = false ∧ leNat (([31] : List Byte).take 1) < 32 ∧
      (rk fun r => { r with pos := 1, role := .manager, dn := true }).rack.role = .manager := by decide +kernel

/-- A ROUND of course 100 by position 1, with 9,000 W for position 2. -/
def roundBytes (ref epoch : Nat) : List Byte :=
  leBytes 6 100 ++ zeros 10 ++ leBytes 4 ref ++ leBytes 2 epoch ++ [0, 1] ++ zeros 8 ++ leBytes 2 8000 ++ leBytes 2 9000

theorem test_witness_RackChainActs_rounds :
    let w := hub fun h => { h with crs := { h.crs with count := 100 }, rack := { h.rack with pos := 2, role := .worker, mgrPos := 1 } }
    let m := hub fun h => { h with crs := { h.crs with count := 100 }, rack := { h.rack with pos := 1, role := .manager, course := 80 } }
    let p := roundBytes (w.reg 0x110000C) 0
    (m.rack.role = .manager ∧ m.rack.enumerating = false ∧ m.crs.count.toNat % 20 = 0 ∧ m.rack.course ≠ m.crs.count.toNat ∧
      m.rack.state = 0 ∧ m.rack.propose = false ∧ m.rack.handover = 0 ∧ (hub id).rack.role ≠ .manager) ∧
    (∀ e ∈ [(2, 9000, 8000), (3, 8000, 8000)], e.2.2 ≤ e.2.1) ∧
    (w.rack.pos ≠ 0 ∧ w.rack.enumerating = false ∧ w.rack.role = .worker ∧ w.rack.epochMis = false ∧ leNat (slice p 30 1) ≠ w.rack.pos ∧
      w.rack.timeLost = false ∧ w.rack.cfgMis = false ∧ w.rack.local_ = false ∧ w.epoch.2 ≤ leNat (slice p 20 2) ∧
      leNat (slice p 20 2) ≤ w.epoch.1 ∧ w.rack.ofs.natAbs ≤ 1000 ∧ leNat (slice p 0 6) = w.crs.count.toNat ∧
      leNat (slice p 16 4) = w.reg 0x110000C ∧ w.rack.differs p = false ∧ leNat (slice p (32 + 2 * (w.rack.pos - 1)) 2) ≠ 0 ∧
      w.epoch.1 < leNat (slice (roundBytes 0 1) 20 2)) ∧ (frame true 1 0 p).dst = 0 ∧
    (let l := { w with gov := { w.gov with lease := 9000 } }
     leNat (slice (roundBytes (w.reg 0x110000C + 1) 0) 16 4) ≠ l.reg 0x110000C ∧ l.gov.lease ≠ 0) := by decide +kernel

theorem test_witness_RackChainActs_unheard :
    let w (n : BitVec 48) : Hub := hub fun h => { h with
      crs := { h.crs with count := n }, rack := { h.rack with pos := 2, role := .standby, heard := 100, aligned := true, pulsed := true } }
    (w 420).rack.heard + 320 ≤ (w 420).crs.count.toNat ∧ (w 419).crs.count.toNat < (w 419).rack.heard + 320 ∧
      (w 420).rack.role = .standby ∧ (w 420).gov.rounds = 0 ∧ (w 420).rack.asking = false ∧ (w 420).rack.enumerating = false ∧
      (w 420).crs.count.toNat % 20 = 0 ∧ (w 419).rack.aligned = true := by decide +kernel

theorem test_witness_RackChainActs_reports :
    let m := hub fun h => { h with crs := { h.crs with count := 109 }, rack := { h.rack with pos := 1, role := .manager, course := 100 } }
    let w := rk fun r => { r with pos := 2, role := .worker }
    (frame false 2 1 (leBytes 6 100)).dst = m.rack.pos ∧ m.rack.pos ≠ 0 ∧ leNat (slice (leBytes 6 100) 0 6) = m.rack.course ∧
      m.crs.count.toNat < m.rack.course + 10 ∧ (1000 : Int).natAbs ≤ 1000 ∧ 1000 < (-1001 : Int).natAbs ∧ w.rack.local_ = false ∧
      w.rack.timeLost = false ∧ m.rack.handover = 0 ∧ leNat (([2] : List Byte).take 1) ≠ 0 := by decide +kernel

theorem test_witness_RackChainActs_roles :
    let a := rk fun r => { r with pos := 2, role := .standby, asking := true }
    let l := rk fun r => { r with pos := 2, role := .standby }
    let z := hub fun h => { h with bus := { h.bus with sleep := .asleep } }
    let k := rk fun r => { r with state := 2 }
    let q : HodReq := { who := .pf0, path := .window, op := 0x1101, tag := 0, args := [.u8 2] }
    let w := hub fun h => { h with rack := { h.rack with pos := 1 }, hods := { h.hods with waiting := [q] } }
    a.rack.role ≠ .manager ∧ a.rack.asking = true ∧ leNat (([1] : List Byte).take 1) < a.rack.pos ∧ l.rack.role = .standby ∧
      z.bus.sleep = .asleep ∧ k.rack.state = 2 ∧
      k.rack.sleepK = k.crs.count.toNat ∧ k.bus.sleep = .awake ∧ w.hods.waiting = [q] ∧ q.op = 0x1101 ∧
      q.args.head? = some (.u8 (frame false 2 1 []).src) ∧ (frame false 2 1 []).dst = w.rack.pos ∧ w.rack.pos ≠ 0 := by decide +kernel

/-! ### The management core, the pushes, the debug port and the recorder -/

theorem test_witness_CoreImagesAndRecorderAct_core :
    let f (g : Fw → Fw) : Hub := hub fun h => { h with fw := g h.fw }
    let o := f fun w => { w with phase := .off, run := some {}, restarts := 8 }
    let p := hub fun h => { (h.updPort 7 fun _ => live).updPush 7 fun p => { p with st := 1 } with
      fw := { ((h.updPort 7 fun _ => live).updPush 7 fun p => { p with st := 1 }).fw with phase := .up, checked := true } }
    (hub id).fw.trial = false ∧ (hub id).fw.phase = .up ∧ (f fun w => { w with phase := .handover }).fw.phase = .handover ∧
      (f fun w => { w with trial := true }).fw.trial = true ∧ o.fw.phase = .off ∧ o.fw.run ≠ none ∧ o.crashMax ≤ o.fw.restarts ∧
      o.hods.parked = [] ∧ o.hods.afterBoot = [] ∧ (f fun w => { w with checked := true }).nextPush = none ∧
      p.fw.checked = true ∧ p.nextPush = some 7 ∧ p.fw.verdict.get 0 4 = 0 ∧
      (∀ r, ({} : Otp).verdict 2 0x2000000 (List.replicate 4096 0xFF) [] r ≠ 0) ∧
      (let q : Hub := { p with fw := { p.fw with verdict := [(4, 9)] } }
       q.nextPush = some 7 ∧ q.fw.verdict.get 0 4 ≠ 0 ∧ q.fw.verdict.get 0 4 ≠ 1) ∧
      ({ p with fw := { p.fw with verdict := [(4, 1), (5, 1), (6, 1), (7, 1)] } } : Hub).nextPush = some 7 := by decide +kernel

/-- IMAGE_DONE of A0 for an image of 16 bytes with CRC 5. -/
def doneBrick : Brick := { typ := 0x2B, vc := 4, grout := 240, payload := [0x30, 0, 0, 0] ++ leBytes 4 16 ++ leBytes 4 5 ++ zeros 4 }
def pushHub (p : Push) : Hub := hub fun h => { h.updPush 0 fun _ => p with
  fab := { (h.updPush 0 fun _ => p).fab with inbox := [{ unit := 0xC0, port := 0, brick := doneBrick }] } }

theorem test_witness_CoreImagesAndRecorderAct_push :
    let p : Push := { st := 3, len := 16, crc := 5, digest := [1] }
    let right (p : Push) : Bool := p.st == 3 && !doneBrick.poison && doneBrick.data.length == 16 &&
      leNat ((doneBrick.data.drop 4).take 4) == p.len && leNat ((doneBrick.data.drop 8).take 4) == p.crc &&
      zeroBytes doneBrick.data 1 4 && zeroBytes doneBrick.data 12 16
    ((pushHub p).takeMgmt 0 (· == 0x30)).map (·.1) = some doneBrick ∧
      (∀ e ∈ (pushHub p).takeMgmt 0 (· == 0x30), (e.2.push 0) = p ∧ e.2.fld 0x1200010 2 0 = 2) ∧ right p = true ∧ p.digest ≠ [] ∧
      right { p with crc := 6 } = false ∧ (hub id).push 7 = {} ∧ ((hub id).push 7).good = true ∧
      ((pushHub { p with good := false }).push 0).good = false ∧ p.retries < 2 ∧ (hub id).takeMgmt 0 (· == 0x30) = none ∧ ((pushHub p).push 0).st = 3 ∧
      (pushHub p).fld 0x1200010 2 0 ≤ ((pushHub { p with retries := 2 }).push 0).retries := by decide +kernel

theorem test_witness_CoreImagesAndRecorderAct_security :
    let s (f : Sec → Sec) : Hub := hub fun h => { h with sec := f h.sec }
    (s fun c => { c with level := 2 }).sec.level = 2 ∧ (s fun c => { c with level := 2 }).sec.next = none ∧ (hub id).sec.rng = true ∧
      2 ^ 20 ≤ (s fun c => { c with drawn := 2 ^ 20 }).sec.drawn ∧ (hub id).sec.level = 0 ∧ State.reset.dev.otp.dk = none ∧
      State.reset.dev.otp.ok0 = none ∧ State.reset.dev.otp.ok1 = none ∧ ({ dk := some (zeros 96) } : Otp).dk ≠ none := by decide +kernel

theorem test_witness_CoreImagesAndRecorderAct_log :
    let e (f : Evrec → Evrec) : Hub := hub fun h => { h with ev := f h.ev }
    (hub id).ev.full = false ∧ (hub id).ev.mediaFail = false ∧ (hub id).ev.clearing = false ∧
      (hub id).ev.log.length + (hub id).ev.shadow.length < 131072 ∧ (e fun v => { v with clearing := true }).ev.clearing = true ∧
      (hub id).hods.waiting = [] ∧ (e fun v => { v with wallRef := some 5 }).ev.wallRef = some 5 := by decide +kernel

/-! ### Steps -/

theorem test_witness_StepRunsTheFrontCommand :
    ({ State.reset with pending := [.romBoot, .courseBoundary] } : State).pending = .romBoot :: [.courseBoundary] ∧
      State.reset.pending = [] := by decide

theorem test_witness_EveryCommandCompletes :
    State.reset.dev.hub.up = false ∧ SupplyCommand .romBoot = false ∧ FootingCommand .romBoot = false ∧
      ({ (st id) with dev := { hub := hub fun h => { h with therm := { h.therm with aux := false } } } } : State).dev.hub.therm.aux = false ∧
      FootingCommand .scanFrame = true ∧ LeavesMemories .accDecay = true := by decide

theorem test_witness_StepsKeepMemoriesAndFuses :
    MemoriesCanonical State.reset ∧ step State.reset = .next State.reset ∧
      ({ revoked := 5, ok0 := some [1], ok1 := some [2], dk := some [3] } : Otp).revoked.testBit 2 = true := by
  refine ⟨⟨rfl, rfl, rfl⟩, rfl, by decide⟩

/-- Power-on, ROM and firmware: the commands that bring the block up, one step each (R376, R455, R459). -/
theorem test_reset_then_rom :
    (match exec (.hubRstDeassert { bootKiln := false, gib := 0, badChannels := 0, badTiles := [] }) State.reset with
      | .next t => t.dev.hub.up
      | _ => false) = true := by decide +kernel

/-! ### Commands that are not well formed -/

/-- A register access is of 1, 2, 4 or 8 bytes, and its value fits. -/
theorem test_wf_refuses_registers :
    Instr.wf (.registerWrite .pf0 0 3 0) = false ∧
      Instr.wf (.registerWrite .pf0 0 1 256) = false := by
  decide +kernel

/-- An identity image has its memory's size. -/
theorem test_wf_refuses_images :
    Instr.wf (.cableInserted 0 false (some [0])) = false ∧
      Instr.wf (.sledIdReadComplete 0 (some [0])) = false ∧
      Instr.wf (.idBusRetry 0 (some [0]) none) = false ∧
      Instr.wf (.idBusRetry 0 none (some [0])) = false := by
  decide +kernel

/-- A BAR4 access is not empty, stays within a page, and reads at most eight bytes. -/
theorem test_wf_refuses_host_window :
    Instr.wf (.bar4Access .pf0 { addr := 0 } (some []) 0) = false ∧
      Instr.wf (.bar4Access .pf0 { addr := 65535 } (some [0, 0]) 0) = false ∧
      Instr.wf (.bar4Access .pf0 { addr := 0 } none 9) = false := by
  decide +kernel

/-- A start of the base die: spill memory, channels and tiles that exist. -/
theorem test_wf_refuses_starts :
    Instr.wf (.hubRstDeassert { gib := 129 }) = false ∧
      Instr.wf (.hubRstDeassert { badChannels := 256 }) = false ∧
      Instr.wf (.crystalRestored { badTiles := [768] }) = false := by
  decide +kernel

/-- Measurements: ten channels in range, six ropes, 32 sensors, 24 and 16 monitors, and a known reason. -/
theorem test_wf_refuses_measurements :
    Instr.wf (.telemetryClose { chan := [], hubMw := 0 }) = false ∧
      Instr.wf (.telemetryClose { chan := List.replicate 10 (2 ^ 32, 0), hubMw := 0 }) = false ∧
      Instr.wf (.telemetryClose { chan := List.replicate 10 (0, 2 ^ 32), hubMw := 0 }) = false ∧
      Instr.wf (.ropeMeasure []) = false ∧
      Instr.wf (.dtsUpdate [] 0) = false ∧
      Instr.wf (.vmonSample []) = false ∧
      Instr.wf (.pmCount []) = false ∧
      Instr.wf (.adcConversion { raw := 0, reading := 0, reason := 1 }) = false := by
  decide +kernel

/-- Six virtual channels, 64-bit slot counters, 256 payload bytes. -/
theorem test_wf_refuses_links :
    Instr.wf (.configExchange 0 { rate := 0, fecModes := 0, credits := [], octets := 0, canSeal := false }) = false ∧
      Instr.wf (.sealSyncDone 0 { slot := false, counter := 2 ^ 64 }) = false ∧
      Instr.wf (.retrainDone 0 0 (some { slot := false, counter := 2 ^ 64 })) = false ∧
      Instr.wf (.brickReceived 0 { typ := 0 } 0 0) = false ∧
      Instr.wf (.brickTransmit 0 [(0, 6)]) = false := by
  decide +kernel

/-- Addresses of the spill space, tiles, pages. -/
theorem test_wf_refuses_tiles :
    Instr.wf (.readReq 0 false { bad := [2 ^ 37] }) = false ∧
      Instr.wf (.write 0 false { bad := [2 ^ 37] }) = false ∧
      Instr.wf (.scrubPass [(768, 1)] []) = false ∧
      Instr.wf (.migrationComplete { page := 2 ^ 32 }) = false ∧
      Instr.wf (.migrationComplete { page := 0, ces := [(768, 1)] }) = false ∧
      Instr.wf (.migrationComplete { page := 0, tags := [16] }) = false := by
  decide +kernel

/-- Collective, barrier and tally ids. -/
theorem test_wf_refuses_ids :
    Instr.wf (.chunkComplete 0 (2 ^ 16) 0) = false ∧
      Instr.wf (.chunkComplete 0 0 (2 ^ 32)) = false ∧
      Instr.wf (.collectiveTimeout 0 (2 ^ 16)) = false ∧
      Instr.wf (.barrierTimeout 4096) = false ∧
      Instr.wf (.tallyWaitTimeout 16384 true) = false := by
  decide +kernel

/-- Currents, voltages and times in the widths of their fields. -/
theorem test_wf_refuses_power :
    Instr.wf (.powerGood 0 65536 0) = false ∧
      Instr.wf (.powerGood 0 0 (2 ^ 32)) = false ∧
      Instr.wf (.rampTimeout 0 (2 ^ 32) 0) = false ∧
      Instr.wf (.rampTimeout 0 0 (2 ^ 32)) = false ∧
      Instr.wf (.enhLost 0 (2 ^ 32) 0) = false ∧
      Instr.wf (.enhLost 0 0 (2 ^ 32)) = false ∧
      Instr.wf (.fastTrip 0 (2 ^ 32) 0) = false ∧
      Instr.wf (.fastTrip 0 0 (2 ^ 32)) = false ∧
      Instr.wf (.breakerTimeout 0 (2 ^ 32) 0) = false ∧
      Instr.wf (.breakerTimeout 0 0 (2 ^ 32)) = false ∧
      Instr.wf (.soaTrip 0 0 (2 ^ 32) 0) = false ∧
      Instr.wf (.soaTrip 0 0 0 (2 ^ 32)) = false ∧
      Instr.wf (.busOutOfRange 65536) = false ∧
      Instr.wf (.busGoodTimeout 65536) = false ∧
      Instr.wf (.sarCheck 0 true (2 ^ 32) 0 0) = false ∧
      Instr.wf (.sarCheck 0 true 0 (2 ^ 32) 0) = false ∧
      Instr.wf (.sarCheck 0 true 0 0 (2 ^ 32)) = false := by
  decide +kernel

/-- A request's tag and transaction id have 16 bits, its blocks and lists fit a message, its records have their length. -/
theorem test_wf_refuses_requests :
    Instr.wf (.hsOff { who := .pf0, tag := 65536 } 0) = false ∧
      Instr.wf (.hsOff { who := .pf0, txn := 65536 } 0) = false ∧
      Instr.wf (.pageFree call (List.replicate 1021 0)) = false ∧
      Instr.wf (.hubOpndWrite call 0 0 0 (zeros 4081)) = false ∧
      Instr.wf (.smpProgWrite call 0 0 []) = false ∧
      Instr.wf (.smpStateSet call 0 none 0 (List.replicate 1021 0)) = false ∧
      Instr.wf (.smpTableWrite call 0 0 (zeros 4081)) = false ∧
      Instr.wf (.streamReady call 0 []) = false ∧
      Instr.wf (.barSet call 0 []) = false ∧
      Instr.wf (.tallySet call 0 []) = false ∧
      Instr.wf (.phaseTableSet call 0 []) = false ∧
      Instr.wf (.hodEcho call (zeros 4081)) = false ∧
      Instr.wf (.fwWrite call 0 0 (zeros 4081)) = false ∧
      Instr.wf (.jobplaneLoad call 0 0 (zeros 4081)) = false ∧
      Instr.wf (.accImageWrite call 0 0 (zeros 4081)) = false ∧
      Instr.wf (.jtagUnlockLevel call 0 0 (zeros 4081)) = false ∧
      Instr.wf (.hodBufWrite .pf0 8192 [0]) = false := by
  decide +kernel

/-- The emulated file, MCTP packets and requests, and SMBus blocks. -/
theorem test_wf_refuses_host :
    Instr.wf (.emuWrite .pf0 (2 ^ 19) 0) = false ∧
      Instr.wf (.mctpPacketReceived true false [1, 2, 3]) = false ∧
      Instr.wf (.getEndpointId { pcie := true, eid := 256, tag := 0, inst := 0 }) = false ∧
      Instr.wf (.getEndpointId { pcie := true, eid := 0, tag := 8, inst := 0 }) = false ∧
      Instr.wf (.getEndpointId { pcie := true, eid := 0, tag := 0, inst := 32 }) = false ∧
      Instr.wf (.getEndpointId { pcie := true, eid := 0, tag := 0, inst := 0, slave := 256 }) = false ∧
      Instr.wf (.getVersion { pcie := true, eid := 256, tag := 0, bytes := [] }) = false ∧
      Instr.wf (.getVersion { pcie := true, eid := 0, tag := 8, bytes := [] }) = false ∧
      Instr.wf (.mctpBlockWrite (zeros 256) none) = false ∧
      Instr.wf (.regAddr 0 (zeros 256) none) = false ∧
      Instr.wf (.regDataWrite 0 (zeros 256) none) = false ∧
      Instr.wf (.hodDataWrite 0 (zeros 256) none) = false := by
  decide +kernel

/-- Frames, positions and keys. -/
theorem test_wf_refuses_rack :
    Instr.wf (.enum { up := true, src := 256, dst := 0, payload := [], ok := true } 0) = false ∧
      Instr.wf (.enum { up := true, src := 0, dst := 256, payload := [], ok := true } 0) = false ∧
      Instr.wf (.enum { up := true, src := 0, dst := 0, payload := zeros 249, ok := true } 0) = false ∧
      Instr.wf (.rackQueryTimeout 33) = false ∧
      Instr.wf (.otpFuseProgram (.ok0 [])) = false ∧
      Instr.wf (.otpFuseProgram (.ok1 [])) = false ∧
      Instr.wf (.otpFuseProgram (.dk [])) = false := by
  decide +kernel

/-- Commands in range are well formed. -/
theorem test_wf_accepts :
    Instr.wf (.registerWrite .pf0 0 8 (-1)) = true ∧ Instr.wf (.bar4Access .pf0 { addr := 65528 } none 8) = true ∧
      Instr.wf (.hubRstDeassert { gib := 128, badChannels := 255, badTiles := [767] }) = true ∧
      Instr.wf (.brickReceived 0 { typ := 0, payload := zeros 256 } 0 0) = true ∧ Instr.wf (.rackQueryTimeout 32) = true ∧
      Instr.wf (.phaseTableSet call 0 (zeros 256)) = true ∧ Instr.wf (.otpFuseProgram (.dk (zeros 96))) = true := by decide +kernel

/-! ### The spec's own worked examples and published vectors -/

/-- "Uaman link": the last brick of A2's write (R66). -/
theorem test_brick_header :
    ({ typ := 0x09, part := 1, stream := 300, grouted := true, ackValid := true, last := true, dst := 0x30, src := 0x02, grout := 0x40,
       crVc := 1, crCnt := 3, seq := 0x00012345, ack := 0x0A10, addr := 0x12345F00 } : Brick).head20 =
      [0x24, 0x10, 0x96, 0x68, 0x30, 0x02, 0x40, 0x23, 0x00, 0x01, 0x23, 0x45, 0x0A, 0x10, 0x00, 0x00, 0x12, 0x34, 0x5F, 0x00] := by
  decide +kernel

/-- "Tiles": entry 4,660 and the address it gives (R126). -/
theorem test_page_entry :
    ({ valid := true, part := 1, acc := 5, lessees := 0x0C, writer := some 2, frame := 0x0A41 } : Pte).frame * 65536 + 0x5F00 = 0x0A415F00 := by
  decide

/-- "Mortar": a BF16 sum of four contributions, to nearest even and with the draw of the example (R164, R165). -/
theorem test_mortar_sum :
    let sum (r : Round) (cs : List Nat) : Nat := (bf16Fmt.encode r false (combine 0 (cs.map bf16Fmt.value)).1).1
    sum .nearest [0x3F80, 0x3B80, 0x3B80, 0xBF80] = 0x3C00 ∧ sum .nearest [0x3F80, 0x3B80, 0, 0] = 0x3F80 ∧
      sum (.stochastic 0x3A91C4E0) [0x3F80, 0x3B80, 0, 0] = 0x3F81 ∧ sum .nearest [0x7F40, 0x7F40, 0xFF40, 0] = 0x7F40 := by
  decide +kernel

/-- "Hods": the request of PAGE_ALLOC of three pages for PT1 (R387, R388). -/
theorem test_page_alloc_message :
    hodMsg { who := .pf0, tag := 0x01A7 } 0x0401 [.u8 1, .u16 3, .u8 0] =
      [0x01, 0x04, 0xA7, 0x01, 8, 0, 0, 1, 0, 0, 0, 0, 0, 0, 0, 0] ++ [1, 0, 3, 0, 0, 0, 0, 0] := by decide +kernel

/-- "Event recorder": the record of the VR alert on A3 (R500, R501). -/
theorem test_record_bytes :
    ({ seq := 8000, course := 800, wallOfs := 3600000, code := 0x0A01, sev := 3, wallValid := true,
       payload := encodeArgs [.u8 3, .u32 15] } : Rec).body.take 40 =
      [0x40, 0x1F, 0, 0, 0x20, 0x03, 0, 0, 0, 0, 0x80, 0xEE, 0x36, 0, 0x0A, 0x03, 0x01, 0x0A, 0xFF, 0x01, 0xFF, 0, 0, 0, 0, 0, 0, 0,
       3, 0, 0, 0, 0x0F, 0, 0, 0, 0, 0, 0, 0] := by decide +kernel

/-- FIPS 197, appendix B; the check values of CRC-32C and of CRC-8 (R500, R416). -/
theorem test_published_vectors :
    aes128 0x2B7E151628AED2A6ABF7158809CF4F3C 0x3243F6A8885A308D313198A2E0370734 = 0x3925841D02DC09FBDC118597196A0B32 ∧
      crc32c [49, 50, 51, 52, 53, 54, 55, 56, 57] = 0xE3069283 ∧ crc8 [49, 50, 51, 52, 53, 54, 55, 56, 57] = 0xF4 := by decide +kernel

end Sys2Proof.Tests
end

section
/-!
Proofs of the family of the two hierarchies: the power events that reset the base die, and what every command keeps.
-/

open Sys2Proof Sys2Proof.Machine

namespace Sys2Proof.Machine

/-! ### Sparse tables: a table cut down by key, and one with every entry changed -/

/-- A table cut down to the keys that satisfy `p` reads as unlisted at every other key. -/
theorem Tbl.get_filter_key {α : Type} (d : α) (t : Tbl α) (p : Nat → Bool) {j : Nat} (hj : p j = false) :
    Tbl.get d (t.filter fun e => p e.1) j = d := by
  induction t with
  | nil => rfl
  | cons e t ih =>
    obtain ⟨k, v⟩ := e
    by_cases hk : p k = true
    · have hne : j ≠ k := fun e => by simp [e, hk] at hj
      simpa [hk, Tbl.get, hne] using ih
    · simpa [hk] using ih

/-- A table in canonical form lists no key below its first. -/
theorem Tbl.get_of_below {α : Type} [DecidableEq α] (d : α) {f : Nat → α} {t : Tbl α} {j : Nat} (h : t.wf f = true)
    (hj : Tbl.below j t = true) : Tbl.get d t j = d := by
  induction t with
  | nil => rfl
  | cons e t ih =>
    obtain ⟨k, v⟩ := e
    obtain ⟨_, hk, ht⟩ := (Tbl.wf_cons ..).1 h
    have hlt : j < k := by simpa [Tbl.below] using hj
    simpa [Tbl.get, Nat.ne_of_lt hlt] using ih ht (Tbl.below_trans hlt hk)

theorem Tbl.mapVals_cons {α : Type} [DecidableEq α] (d : α) (g : α → α) (k : Nat) (v : α) (t : Tbl α) :
    Tbl.mapVals d g ((k, v) :: t) = if g v = d then Tbl.mapVals d g t else (k, g v) :: Tbl.mapVals d g t := by
  by_cases hv : g v = d <;> simp [Tbl.mapVals, hv]

/-- Changing every entry of a table in canonical form changes what each key reads as, where the default stays. -/
theorem Tbl.get_mapVals {α : Type} [DecidableEq α] {d : α} {g : α → α} (hg : g d = d) {t : Tbl α}
    (h : t.wf (fun _ => d) = true) (j : Nat) : Tbl.get d (t.mapVals d g) j = g (Tbl.get d t j) := by
  induction t with
  | nil => exact hg.symm
  | cons e t ih =>
    obtain ⟨k, v⟩ := e
    obtain ⟨_, hk, ht⟩ := (Tbl.wf_cons ..).1 h
    have hrest := Tbl.wf_mapVals d g ht
    rw [Tbl.mapVals_cons]
    by_cases hjk : j = k
    · subst hjk
      split
      · next hv => simp [Tbl.get, hv, Tbl.get_of_below d hrest.1 (hrest.2 _ hk)]
      · simp [Tbl.get]
    · split <;> simpa [Tbl.get, hjk] using ih ht

/-! ### Registers after a write of another one -/

/-- A write leaves every other key alone, whatever the two keys read as when unlisted. -/
theorem Tbl.get_set_ne_default {α : Type} [DecidableEq α] (d d' : α) (t : Tbl α) {k j : Nat} (v : α) (hj : j ≠ k) :
    Tbl.get d (t.set d' k v) j = Tbl.get d t j := by
  unfold Tbl.set
  split
  · exact Tbl.get_erase_ne _ _ hj
  · exact Tbl.get_insert_ne _ _ _ hj

theorem Hub.reg_setReg_ne (h : Hub) {a b : Nat} (v : Nat) (hab : a ≠ b) : (h.setReg b v).reg a = h.reg a :=
  congrArg BitVec.toNat (Tbl.get_set_ne_default _ _ h.regs _ hab)

theorem Hub.reg_setFld_ne (h : Hub) {a b : Nat} (i j v : Nat) (hab : a ≠ b) : (h.setFld b i j v).reg a = h.reg a :=
  h.reg_setReg_ne _ hab

/-! ### The pumps' channels at a reset (R335) -/

theorem Hub.setFld_shape (h : Hub) (a i j v : Nat) : ∃ r, h.setFld a i j v = { h with regs := r } := ⟨_, rfl⟩

/-- Setting the pumps' enables touches stored register bits alone. -/
theorem Hub.pumpReset_shape (h : Hub) : ∃ r, h.pumpReset = { h with regs := r } := by
  unfold Hub.pumpReset
  split
  · exact ⟨_, rfl⟩
  · obtain ⟨r, e⟩ := h.setFld_shape (coolReg 12 0) 31 31 0
    obtain ⟨r', e'⟩ := Hub.setFld_shape { h with regs := r } (coolReg 13 0) 31 31 0
    simp only [List.foldl, e, e']
    exact ⟨_, rfl⟩

theorem Hub.reg_pumpReset_ne (h : Hub) {a : Nat} (h12 : a ≠ coolReg 12 0) (h13 : a ≠ coolReg 13 0) :
    h.pumpReset.reg a = h.reg a := by
  unfold Hub.pumpReset
  split
  · rfl
  · simp [Hub.reg_setFld_ne _ _ _ _ h12, Hub.reg_setFld_ne _ _ _ _ h13]

@[simp] theorem Hub.pumpReset_hs (h : Hub) : h.pumpReset.hs = h.hs := by
  obtain ⟨_, e⟩ := h.pumpReset_shape; rw [e]
@[simp] theorem Hub.pumpReset_cool (h : Hub) : h.pumpReset.cool = h.cool := by
  obtain ⟨_, e⟩ := h.pumpReset_shape; rw [e]
@[simp] theorem Hub.pumpReset_therm (h : Hub) : h.pumpReset.therm = h.therm := by
  obtain ⟨_, e⟩ := h.pumpReset_shape; rw [e]

/-! ### The base die held in power-on reset (R376) -/

/-- The pumps' enables are the two registers that BaseHeldInReset leaves open. -/
theorem baseHeldInReset_pumpReset {s : State} {q : List Instr} {k : Hub} {m : Memories} {o : Otp}
    (h : BaseHeldInReset s ⟨q, ⟨k, m, o⟩⟩) : BaseHeldInReset s ⟨q, ⟨k.pumpReset, m, o⟩⟩ := by
  obtain ⟨hup, hreg, hrest⟩ := h
  obtain ⟨r, e⟩ := k.pumpReset_shape
  have hreg' : ∀ a, (onFooting a && regAo a) = false → a ≠ coolReg 12 0 → a ≠ coolReg 13 0 →
      k.pumpReset.reg a = (regReset a).toNat := fun a ha h12 h13 => by
    rw [Hub.reg_pumpReset_ne _ h12 h13]
    exact hreg a ha h12 h13
  rw [e] at hreg' ⊢
  exact ⟨hup, hreg', hrest⟩

/-- A table of registers cut down to the footing die's always-on ones reads the reset value at every other register. -/
theorem regs_filter_reset (t : Tbl Word) {a : Nat} (ha : (onFooting a && regAo a) = false) :
    (Tbl.get (regReset a) (t.filter fun e => onFooting e.1 && regAo e.1) a).toNat = (regReset a).toNat :=
  congrArg BitVec.toNat (Tbl.get_filter_key _ t (fun a => onFooting a && regAo a) ha)

theorem baseHeldInReset_baseReset (s : State) : BaseHeldInReset s (s.devMap Dev.baseReset) := by
  unfold State.devMap Dev.baseReset Hub.baseReset
  refine baseHeldInReset_pumpReset ⟨rfl, fun _ ha _ _ => ?_, fun _ ha => ?_, ?_⟩
  · exact regs_filter_reset _ ha
  · exact Tbl.get_filter_key _ _ _ ha
  · and_intros <;> rfl

/-- Writing an always-on register of the footing die leaves the base die's reset state. -/
theorem baseHeldInReset_setFld {s : State} {q : List Instr} {k : Hub} {m : Memories} {o : Otp} {b : Nat} (i j v : Nat)
    (hb : (onFooting b && regAo b) = true) (h : BaseHeldInReset s ⟨q, ⟨k, m, o⟩⟩) :
    BaseHeldInReset s ⟨q, ⟨k.setFld b i j v, m, o⟩⟩ := by
  obtain ⟨hup, hreg, hrest⟩ := h
  refine ⟨hup, fun a ha h12 h13 => ?_, hrest⟩
  have hab : a ≠ b := fun e => by simp [e, hb] at ha
  exact (k.reg_setFld_ne i j v hab).trans (hreg a ha h12 h13)

/-- H8's CH_CFG lies in HOTSWAP and is coded AO (R306, R311). -/
theorem hsReg_eight_on_footing : (onFooting (hsReg 8 0) && regAo (hsReg 8 0)) = true := by decide +kernel

/-- A footing die at its reset values holds the base die in reset (R376, R541): beside the pumps' enables only H8's may differ
from its reset value, and that register is the footing die's own. -/
theorem baseHeldInReset_footReset (s : State) (th : Therm) (liquid : Bool) (crit : BitVec 2) :
    BaseHeldInReset s ⟨s.pending, ⟨Hub.footReset { s.dev.hub with therm := th } liquid crit,
      { s.dev.mem with tile := [], spill := [] }, s.dev.otp⟩⟩ := by
  unfold Hub.footReset
  apply baseHeldInReset_pumpReset
  split
  · refine ⟨rfl, fun _ _ _ _ => rfl, fun _ _ => rfl, ?_⟩
    and_intros <;> rfl
  · refine baseHeldInReset_setFld _ _ _ hsReg_eight_on_footing ⟨rfl, fun _ _ _ _ => rfl, fun _ _ => rfl, ?_⟩
    and_intros <;> rfl

/-! ### What the resets leave of the supplies, the channels and the ropes (R24, R303, R376, R541) -/

theorem Hub.baseReset_therm (h : Hub) : h.baseReset.therm =
    { tripLatch := h.therm.tripLatch, tripSensor := h.therm.tripSensor, tripReading := h.therm.tripReading
      tripped := h.therm.tripped, xtalLost := h.therm.xtalLost, supply := h.therm.supply, aux := h.therm.aux
      auxLost := h.therm.auxLost
      straps := { coolMode := h.therm.straps.coolMode, critSel := h.therm.straps.critSel } } :=
  Hub.pumpReset_therm _
theorem Hub.baseReset_hs (h : Hub) : h.baseReset.hs = { h.footPath with baseThrot := h.therm.aux } := Hub.pumpReset_hs _
theorem Hub.baseReset_cool (h : Hub) : h.baseReset.cool = h.footCool := Hub.pumpReset_cool _

/-- A channel keeps all but its mark of the course. -/
theorem Hub.hsCh_baseReset (h : Hub) (hwf : h.hs.ch.wf (fun _ => {}) = true) (c : Nat) :
    h.baseReset.hsCh c = { h.hsCh c with tick := false } := by
  simp only [Hub.hsCh, Hub.baseReset_hs]
  exact Tbl.get_mapVals (g := fun k : HsCh => { k with tick := false }) rfl hwf c

theorem Hub.footReset_therm (h : Hub) (liquid : Bool) (crit : BitVec 2) : (h.footReset liquid crit).therm =
    { xtalLost := h.therm.xtalLost, supply := h.therm.supply, aux := h.therm.aux
      straps := { coolMode := liquid, critSel := crit } } := by
  simp only [Hub.footReset, Hub.pumpReset_therm]
  split <;> rfl
theorem Hub.footReset_hs (h : Hub) (liquid : Bool) (crit : BitVec 2) :
    (h.footReset liquid crit).hs = { baseThrot := h.therm.aux } := by
  simp only [Hub.footReset, Hub.pumpReset_hs]
  split <;> rfl
theorem Hub.footReset_cool (h : Hub) (liquid : Bool) (crit : BitVec 2) :
    (h.footReset liquid crit).cool = { liquid, critSel := crit.toNat } := by
  simp only [Hub.footReset, Hub.pumpReset_cool]
  split <;> rfl

/-! ### The events that hold the base die in reset -/

/-- The base die in reset, with `th` the state of supplies, clocks and trip that the event leaves. -/
def State.heldBase (s : State) (th : Therm) : State :=
  s.devMap fun d => (d.hubMap fun h => { h with therm := th }).baseReset

theorem heldBase_therm (s : State) (th : Therm) : (s.heldBase th).dev.hub.therm =
    { tripLatch := th.tripLatch, tripSensor := th.tripSensor, tripReading := th.tripReading, tripped := th.tripped
      xtalLost := th.xtalLost, supply := th.supply, aux := th.aux, auxLost := th.auxLost
      straps := { coolMode := th.straps.coolMode, critSel := th.straps.critSel } } :=
  Hub.baseReset_therm _
theorem heldBase_hs (s : State) (th : Therm) :
    (s.heldBase th).dev.hub.hs = { s.dev.hub.footPath with baseThrot := th.aux } := Hub.baseReset_hs _
theorem heldBase_cool (s : State) (th : Therm) : (s.heldBase th).dev.hub.cool = s.dev.hub.footCool := Hub.baseReset_cool _

theorem heldBase_hsCh (s : State) (th : Therm) (hwf : s.dev.hub.hs.ch.wf (fun _ => {}) = true) (c : Nat) :
    (s.heldBase th).dev.hub.hsCh c = { s.dev.hub.hsCh c with tick := false } :=
  Hub.hsCh_baseReset { s.dev.hub with therm := th } hwf c

theorem baseHeldInReset_heldBase (s : State) (th : Therm) : BaseHeldInReset s (s.heldBase th) :=
  baseHeldInReset_baseReset (s.hubMap fun h => { h with therm := th })

theorem exec_powerOnReset (s : State) (rise : Bool) : exec (.powerOnReset rise) s =
    .next (s.heldBase { s.dev.hub.therm with supply := s.dev.hub.therm.supply || rise }) := rfl

theorem exec_baseSupplyLoss (s : State) :
    exec .baseSupplyLoss s = .next (s.heldBase { s.dev.hub.therm with supply := false }) := rfl

theorem exec_crystalLost (s : State) :
    exec .crystalLost s = .next (s.heldBase { s.dev.hub.therm with xtalLost := true }) := rfl

/-- The footing die at its reset values under the straps it last sampled, without VIN_AUX. -/
def State.withoutAux (s : State) : State :=
  { s with dev := { s.dev with
      hub := Hub.footReset { s.dev.hub with therm := { s.dev.hub.therm with aux := false } } s.dev.hub.cool.liquid
        s.dev.hub.therm.straps.critSel
      mem := { s.dev.mem with tile := [], spill := [] } } }

theorem withoutAux_hub (s : State) : s.withoutAux.dev.hub =
    Hub.footReset { s.dev.hub with therm := { s.dev.hub.therm with aux := false } } s.dev.hub.cool.liquid
      s.dev.hub.therm.straps.critSel := rfl

theorem exec_vinAuxLoss (s : State) : exec .vinAuxLoss s = .next s.withoutAux := rfl

/-- Settles O12: each of the four events leaves the base die as BaseHeldInReset says, and the footing die's state is read off
the reset that the event runs. -/
theorem powerEventsResetBaseDie : Obligations.PowerEventsResetBaseDie := by
  intro s rise h
  refine ⟨⟨_, exec_powerOnReset s rise, baseHeldInReset_heldBase s _, ?_⟩,
    ⟨_, exec_baseSupplyLoss s, baseHeldInReset_heldBase s _, ?_⟩, ⟨_, exec_crystalLost s, baseHeldInReset_heldBase s _, ?_⟩,
    ⟨_, exec_vinAuxLoss s, baseHeldInReset_footReset s _ _ _, ?_⟩⟩
  · have hsupply : (h.therm.supply || rise) = if rise then true else h.therm.supply := by cases rise <;> simp
    rw [heldBase_therm, heldBase_hs, heldBase_cool]
    refine ⟨rfl, hsupply, rfl, rfl, rfl, rfl, fun hwf c _ => ?_⟩
    rw [heldBase_hsCh s _ hwf c]
    exact ⟨rfl, rfl⟩
  · rw [heldBase_therm, heldBase_hs, heldBase_cool]
    exact ⟨rfl, rfl, rfl⟩
  · rw [heldBase_therm, heldBase_cool]
    exact ⟨rfl, rfl⟩
  · rw [withoutAux_hub, Hub.footReset_therm, Hub.footReset_hs, Hub.footReset_cool]
    exact ⟨rfl, rfl, rfl, rfl⟩

/-! ### The form of every command's meaning (log entry 4) -/

/-- Each arm of `exec` is one lift of an operation; which one is read off the command. -/
theorem exec_eq_always {c : Instr} (h : SupplyCommand c = true) : ∃ f, ∀ s, exec c s = always f s := by
  cases c <;> cases h <;> exact ⟨_, fun _ => rfl⟩

theorem exec_eq_onFoot {c : Instr} (h : FootingCommand c = true) : ∃ f, ∀ s, exec c s = onFoot f s := by
  cases c <;> cases h <;> exact ⟨_, fun _ => rfl⟩

/-- Outside the footing die, a command that reaches no memory and no fuse acts on the hub alone. -/
theorem exec_eq_onHub {c : Instr} (hfoot : FootingCommand c = false) (h : LeavesMemories c = true) :
    ∃ f, ∀ s, exec c s = onHub f s := by
  cases c <;> cases h <;> cases hfoot <;> exact ⟨_, fun _ => rfl⟩

theorem exec_eq_onBase {c : Instr} (hsup : SupplyCommand c = false) (hfoot : FootingCommand c = false) :
    ∃ f, ∀ s, exec c s = onBase f s := by
  cases c <;> cases hsup <;> cases hfoot <;> exact ⟨_, fun _ => rfl⟩

theorem supplyCommand_excludes {c : Instr} (h : SupplyCommand c = true) :
    FootingCommand c = false ∧ LeavesMemories c = false := by
  cases c <;> cases h <;> exact ⟨rfl, rfl⟩

/-! ### What each form answers -/

theorem onBase_completes (f : Dev → Dev) (s : State) :
    ∃ t, onBase f s = .next t ∧ t.pending = s.pending ∧ (s.dev.hub.up = false → t = s) := by
  cases hup : s.dev.hub.up with
  | false => exact ⟨s, onBase_down f hup, rfl, fun _ => rfl⟩
  | true => exact ⟨_, onBase_up f hup, rfl, nofun⟩

theorem onHub_completes (f : Hub → Hub) (s : State) : ∃ t, onHub f s = .next t ∧ t.pending = s.pending ∧
    (s.dev.hub.up = false → t = s) ∧ t.dev.mem = s.dev.mem ∧ t.dev.otp = s.dev.otp := by
  cases hup : s.dev.hub.up with
  | false => exact ⟨s, onHub_down f hup, rfl, fun _ => rfl, rfl, rfl⟩
  | true => exact ⟨_, onHub_up f hup, rfl, nofun, rfl, rfl⟩

theorem onFoot_completes (f : Hub → Hub) (s : State) : ∃ t, onFoot f s = .next t ∧ t.pending = s.pending ∧
    (s.dev.hub.therm.aux = false → t = s) ∧ t.dev.mem = s.dev.mem ∧ t.dev.otp = s.dev.otp := by
  cases haux : s.dev.hub.therm.aux with
  | false => exact ⟨s, onFoot_no_aux f haux, rfl, fun _ => rfl, rfl, rfl⟩
  | true =>
    cases hup : s.dev.hub.up with
    | false => exact ⟨_, onFoot_down f haux hup, rfl, nofun, rfl, rfl⟩
    | true => exact ⟨_, onFoot_up f haux hup, rfl, nofun, rfl, rfl⟩

/-- Settles O58: a command is of one of four forms, and each form completes: the events of the supplies act always, those of the
footing die where VIN_AUX is there, and the base die's where it runs, of which some act on the hub alone. -/
theorem everyCommandCompletes : Obligations.EveryCommandCompletes := by
  intro c s
  cases hsup : SupplyCommand c with
  | true =>
    obtain ⟨f, hf⟩ := exec_eq_always hsup
    obtain ⟨hfoot, hmem⟩ := supplyCommand_excludes hsup
    exact ⟨_, hf s, rfl, by simp, by simp [hfoot], by simp [hmem]⟩
  | false =>
    cases hfoot : FootingCommand c with
    | true =>
      obtain ⟨f, hf⟩ := exec_eq_onFoot hfoot
      obtain ⟨t, ht, hpend, haux, hmems⟩ := onFoot_completes f s
      exact ⟨t, (hf s).trans ht, hpend, by simp, fun ha _ => haux ha, fun _ => hmems⟩
    | false =>
      cases hmem : LeavesMemories c with
      | true =>
        obtain ⟨f, hf⟩ := exec_eq_onHub hfoot hmem
        obtain ⟨t, ht, hpend, hdown, hmems⟩ := onHub_completes f s
        exact ⟨t, (hf s).trans ht, hpend, fun hup _ _ => hdown hup, by simp, fun _ => hmems⟩
      | false =>
        obtain ⟨f, hf⟩ := exec_eq_onBase hsup hfoot
        obtain ⟨t, ht, hpend, hdown⟩ := onBase_completes f s
        exact ⟨t, (hf s).trans ht, hpend, fun hup _ _ => hdown hup, by simp, by simp⟩

end Sys2Proof.Machine
end

section
/-!
Proofs of the family of the courses: the reset state, the write of the course period, and the phases of a course.
-/

open Sys2Proof Sys2Proof.Machine

namespace Sys2Proof.Machine

/-! ### The state after reset (R376) -/

/-- Reset values as the blocks' field tables give them (R51, R114, R149, R451, R476, R497, R519). -/
theorem reset_registers :
    let h := State.reset.dev.hub
    h.reg 0x100000 = 50 ∧ h.reg 0x300000 = 9796 ∧ h.reg 0x500000 = 255 ∧ h.reg 0xA00008 = 15000 ∧ h.reg 0xA0000C = 8000 ∧
    h.reg 0x1100000 = 1 ∧ h.fld 0x1200010 31 16 = 2000 ∧ h.fld 0x1200010 15 8 = 8 ∧ h.fld 0x1200010 2 0 = 2 ∧
    h.reg 0x1300004 = 2 ∧ h.reg 0x1400004 = 1 := by
  decide +kernel

/-- H8 and H9 alone are listed: a sled's channel has every field at its default. -/
theorem reset_sledChannel (x : Fin 8) : State.reset.dev.hub.hsCh x = {} := by
  revert x; decide

/-- Settles O59: the tables of the reset state are empty but for three registers and two channels, so that each part reads as its
default. -/
theorem resetState : Obligations.ResetState := by
  refine ⟨rfl, rfl, rfl, ⟨rfl, rfl, rfl⟩, rfl, rfl, rfl, rfl, fun _ => rfl, rfl, rfl,
    fun x => ⟨rfl, reset_sledChannel x, rfl⟩, rfl, rfl, ?_⟩
  obtain ⟨hperiod, hxbar, hspill, hlimit, hfloor, hrack, hwdt, hcrash, hboot, hsec, hlog⟩ := reset_registers
  exact ⟨hperiod, hxbar, hspill, hlimit, hfloor, hrack, hwdt, hcrash, hboot, hsec, hlog, rfl, rfl, rfl⟩

/-! ### A write of TOP.CRS_PERIOD (R34) -/

/-- The row of TOP.CRS_PERIOD: one course-buffered field (R34). -/
def periodRow : RegRow := { base := 0x100000, fields := [Map.cb 9 0 0x32] }

theorem findRow_crsPeriod : findRow 0x100000 = some periodRow := by decide +kernel

theorem mergeBits_mod (a v : Nat) : mergeBits 0x3FF a v % 1024 = v % 1024 := by
  have hlow : (1024 : Nat) = 2 ^ 10 := rfl
  have hmask : (0x3FF : Nat) = 2 ^ 10 - 1 := rfl
  rw [mergeBits, hlow, Nat.or_mod_two_pow, Nat.and_mod_two_pow, hmask, Nat.and_two_pow_sub_one_eq_mod]
  simp

theorem mergeBits_zero (v : Nat) : mergeBits 0x3FF 0 v = v % 1024 := by
  simpa [mergeBits] using Nat.and_two_pow_sub_one_eq_mod v 10

/-- Whatever else is staged, a write of PERIOD_US passes exactly where it lies within 20 to 1,000 (R34). -/
theorem Dev.checkWrite_crsPeriod (d : Dev) (ws : Writes) (v : Nat) :
    d.checkWrite ws 0x100000 0x3FF v = (between (v % 1024) 20 1000, some (0x100014, 1)) := by
  have hbits : ∀ a, inRange (mergeBits 0x3FF a v) 9 0 20 1000 = between (v % 1024) 20 1000 := fun a => by
    simp [inRange, bits, mergeBits_mod]
  simp [Dev.checkWrite, Dev.checkReg, checkLow, overlay, hbits]

/-- A word written to TOP.CRS_PERIOD by a privileged master is staged by its course-buffered field. -/
theorem Dev.write_crsPeriod (d : Dev) {m : Master} (v : Word) (hp : d.hub.privileged m = true) :
    d.write m 0x100000 4 v.toNat = d.stageWrite m 0x100000 0x3FF v.toNat := by
  have hright : d.hub.right m 0x100000 = .has periodRow true := by
    simp [Hub.right, findRow_crsPeriod, reaches, hp]
  have hshape : shapeOf 0x100000 4 = .one 0x100000 0 4 := rfl
  have hw : v.toNat % 4294967296 = v.toNat := Nat.mod_eq_of_lt v.isLt
  have hw1c : periodRow.mask (fun f => f.acc == .w1c) = 0 := rfl
  have hrw : periodRow.mask (fun f => f.acc == .rw && !f.cb) = 0 := rfl
  have hcb : periodRow.mask (fun f => f.acc == .rw && f.cb) = 0x3FF := rfl
  have hwm : periodRow.mask (fun f => f.acc == .wm) = 0 := rfl
  simp [Dev.write, hshape, Dev.write32, hright, hw, Dev.writeReg, Dev.writeFields, hw1c, hrw, hcb, hwm, wmSel]

/-- A register that no staged change writes. -/
theorem stagedAt_none {l : List TxnItem} {a : Nat} (hs : ∀ i ∈ l, i.isRegAt a = false) : stagedAt l a = (0, 0) := by
  have hnone : (stagedWrites l).find? (·.1 == a) = none := by
    rw [List.find?_eq_none]
    intro w hw
    obtain ⟨i, hi, hiw⟩ := List.mem_filterMap.1 hw
    cases i with
    | hod q => simp at hiw
    | reg who b sel v =>
      obtain rfl : (b, sel, v) = w := by simpa using hiw
      have hne : a ≠ b := by simpa [TxnItem.isRegAt] using hs _ hi
      simpa using hne.symm
  simp [stagedAt, hnone]

/-- With no lock and nothing staged at the register, a write staged outside a transaction stands by itself. -/
theorem Dev.stageOutside_alone (d : Dev) (who : Nat) {a sel v : Nat} (hl : d.hub.lockedBy a = none)
    (hs : ∀ i ∈ d.hub.rb.staged, i.isRegAt a = false) :
    d.stageOutside who a sel v =
      let c := d.checkWrite (stagedWrites d.hub.rb.staged) a sel (mergeBits sel 0 v)
      if c.1 then d.hubMap (·.stage (.reg who a sel (mergeBits sel 0 v))) else d.hubMap (·.raise c.2) := by
  have hrest : d.hub.rb.staged.filter (fun i => !i.isRegAt a) = d.hub.rb.staged :=
    List.filter_eq_self.2 fun i hi => by simp [hs i hi]
  simp only [Dev.stageOutside, hl, hrest, stagedAt_none hs]
  simp [Hub.stage, Dev.hubMap, Hub.updRb]

/-- On a hub that stands alone, with no announced period waiting, a boundary's write of TOP.CRS_PERIOD takes effect at once (R34,
R438). -/
theorem Hub.step2_period (h : Hub) (was who v : Nat) (hr : h.rack.role = .standalone) (hp : h.rack.pending = none) :
    (h.step2 was [.reg who 0x100000 0x3FF v] []).crs.period =
      (h.setReg 0x100000 (mergeBits 0x3FF (h.reg 0x100000) v)).fld 0x100000 9 0 := by
  simp [Hub.step2, periodIn, Hub.applyPeriod, Hub.announced, Hub.periodNow, hr, hp]

/-- Settles O17: such a write comes to the staging of its 10 bits where they lie in range and to BAD_PERIOD elsewhere; the boundary
is step 2 of R41. -/
theorem coursePeriodWrite : Obligations.CoursePeriodWrite := by
  refine ⟨congrArg (bits · 9 0) reset_registers.1, rfl, fun s m v hup hpriv htxn hlock hstaged => ?_⟩
  have hexec : exec (.crsPeriodWrite m v) s = .next (s.devMap fun d =>
      if between (v.toNat % 1024) 20 1000 then d.hubMap (·.stage (.reg m.req.id 0x100000 0x3FF (v.toNat % 1024)))
      else d.hubMap (·.flag 0x100014 1)) := by
    refine (onBase_up _ hup).trans ?_
    simp [State.devMap, Dev.write_crsPeriod _ v hpriv, Dev.stageWrite, htxn, Dev.stageOutside_alone _ _ hlock hstaged,
      Dev.checkWrite_crsPeriod, mergeBits_zero, Hub.raise]
  refine ⟨fun hlo hhi => ⟨?_, fun h hr hp => h.step2_period _ _ _ hr hp⟩, fun hout => ?_⟩
  · have hin : between (v.toNat % 1024) 20 1000 = true := by simp [between, hlo, hhi]
    simp [hexec, hin, State.hubMap]
  · have hin : between (v.toNat % 1024) 20 1000 = false := by simp [between]; omega
    simp [hexec, hin, State.hubMap]

/-! ### What a warm reset leaves (R376) -/

/-- A fold keeps what each of its steps keeps. -/
theorem foldl_keeps {α β : Type} (p : Hub → β) {f : Hub → α → Hub} (hf : ∀ h a, p (f h a) = p h) (l : List α) (h : Hub) :
    p (l.foldl f h) = p h := by
  induction l generalizing h with
  | nil => rfl
  | cons a l ih => exact (ih _).trans (hf h a)

/-- What the end of a warm reset leaves alone: the hub with only its registers, its register block, its course timer, its
crossbar and whether the base die runs. -/
def Hub.resetFrame (h : Hub) : Hub := { regs := h.regs, rb := h.rb, crs := h.crs, fab := h.fab, up := h.up }

@[simp] theorem Hub.event_resetFrame (h : Hub) (c : Nat) (pl : List Arg) (p q : Nat) :
    (h.event c pl p q).resetFrame = h.resetFrame := by
  obtain ⟨_, _, _, _, e⟩ := h.event_shape c pl p q; rw [e]; rfl
@[simp] theorem Hub.updRack_resetFrame (h : Hub) (f : Rack → Rack) : (h.updRack f).resetFrame = h.resetFrame := rfl

@[simp] theorem Hub.setRole_resetFrame (h : Hub) (r : Role) (c : Nat) : (h.setRole r c).resetFrame = h.resetFrame := by
  unfold Hub.setRole
  split <;> simp

@[simp] theorem Hub.enumerated_resetFrame (h : Hub) (n : Nat) : (h.enumerated n).resetFrame = h.resetFrame := by
  unfold Hub.enumerated
  dsimp only
  split
  · simp
  · split
    · simp
    · split <;> simp

@[simp] theorem Hub.takePosition_resetFrame (h : Hub) (p : Nat) : (h.takePosition p).resetFrame = h.resetFrame := by
  unfold Hub.takePosition
  split <;> simp

@[simp] theorem Hub.walkOn_resetFrame (h : Hub) (p : Nat) : (h.walkOn p).resetFrame = h.resetFrame := by
  have hsent : (if h.rack.up then h.updRack (fun r => { r with sent := r.sent ++ [(false, 0x02, 0, leBytes 1 (min 32 p))] })
      else h).resetFrame = h.resetFrame := by split <;> rfl
  unfold Hub.walkOn
  split
  · rfl
  · dsimp only
    split
    · exact (Hub.enumerated_resetFrame ..).trans hsent
    · exact hsent

/-- Enumeration is about the rack alone. -/
@[simp] theorem Hub.enumStart_resetFrame (h : Hub) : h.enumStart.resetFrame = h.resetFrame := by
  unfold Hub.enumStart
  dsimp only
  split
  · simp
  · split <;> simp

@[simp] theorem Hub.newSpillKeys_resetFrame (h : Hub) (p : Nat) : (h.newSpillKeys p).resetFrame = h.resetFrame := by
  unfold Hub.newSpillKeys
  split
  · exact Hub.event_resetFrame ..
  · rfl

/-- Entries of reasons move counters alone. -/
theorem Hub.countEntries_resetFrame (h : Hub) (x old : Nat) : (h.countEntries x old).resetFrame = h.resetFrame :=
  foldl_keeps _ (fun h n => by split <;> rfl) _ h

theorem Hub.courseReasons_resetFrame (h : Hub) (x old : Nat) : (h.courseReasons x old).resetFrame = h.resetFrame :=
  h.countEntries_resetFrame x old

/-! ### The course counter through the steps that end a running course -/

theorem Hub.hubAbort_crs (h : Hub) (t : Txn) (c : Nat) : (h.hubAbort t c).crs = h.crs := by
  simp [Hub.hubAbort, Hub.dropTxn]

theorem Hub.leaveActive_crs (h : Hub) (p : Port) : (h.leaveActive p).crs = h.crs := by
  unfold Hub.leaveActive
  split <;> simp

theorem Hub.endSessions_crs (h : Hub) (c : Nat) : (h.endSessions c).crs = h.crs :=
  foldl_keeps Hub.crs (fun _ _ => Hub.event_crs ..) _ _

theorem Hub.jpStop_crs (h : Hub) : h.jpStop.crs = h.crs := by
  unfold Hub.jpStop
  split
  · rfl
  · exact Hub.event_crs ..

theorem Hub.freshPushes_crs (h : Hub) : h.freshPushes.crs = h.crs :=
  foldl_keeps Hub.crs (fun h x => by dsimp only; split <;> rfl) _ h

/-- The hub that a warm reset makes from `h`, before reasons, records, keys and enumeration: every register not coded AO
unlisted, the register block new but for its cause, no brick waiting. -/
theorem Hub.warmReset_frame (h : Hub) (cause who : Nat) : ∃ (k : Hub) (t : Tbl Word),
    (h.warmReset cause who).resetFrame = k.pumpReset.resetFrame ∧ k.regs = t.filter (fun e => regAo e.1) ∧
    k.rb = { cause } ∧ k.crs.count = h.crs.count ∧ k.fab.inbox = [] ∧ k.up = true := by
  unfold Hub.warmReset
  extract_lets aborted left warned jobless ended resume ev hs bare reasons cool zoned recorded resumed
  have hleft : left.crs = h.crs :=
    (foldl_keeps Hub.crs (fun _ _ => Hub.leaveActive_crs ..) _ _).trans
      (foldl_keeps Hub.crs (fun h t => h.hubAbort_crs t 2) _ _)
  have hwarned : warned.crs = left.crs := by
    unfold warned
    rw [apply_ite Hub.crs, Hub.irq_crs, ite_self]
  have hended : ended.crs = h.crs := by
    unfold ended jobless
    rw [Hub.freshPushes_crs, Hub.jpStop_crs, Hub.endSessions_crs, hwarned, hleft]
  have hcount : ended.crs.count = h.crs.count := by rw [hended]
  clear_value ended
  have hresumed : resumed.resetFrame = recorded.resetFrame := by
    unfold resumed
    rw [apply_ite Hub.resetFrame, Hub.event_resetFrame, ite_self]
  have hreasons : reasons.resetFrame = bare.pumpReset.resetFrame :=
    foldl_keeps Hub.resetFrame (fun k x => k.courseReasons_resetFrame x _) _ _
  have hrecorded : recorded.resetFrame = reasons.resetFrame := zoned.event_resetFrame ..
  refine ⟨bare, ended.regs, ?_, rfl, rfl, hcount, rfl, rfl⟩
  rw [Hub.enumStart_resetFrame, foldl_keeps Hub.resetFrame Hub.newSpillKeys_resetFrame, hresumed, hrecorded, hreasons]

/-- The registers of a hub that its table cut down to the always-on ones leaves unlisted. -/
theorem Hub.reg_of_regAo_filter {k : Hub} {t : Tbl Word} (hk : k.regs = t.filter fun e => regAo e.1) {a : Nat}
    (ha : regAo a = false) : k.reg a = (regReset a).toNat := by
  unfold Hub.reg
  rw [hk]
  exact congrArg BitVec.toNat (Tbl.get_filter_key _ t regAo ha)

/-- What a warm reset leaves (R376). -/
theorem Hub.warmReset_leaves (h : Hub) (cause who : Nat) {a : Nat} (ha : regAo a = false) (h12 : a ≠ coolReg 12 0)
    (h13 : a ≠ coolReg 13 0) :
    (h.warmReset cause who).reg a = (regReset a).toNat ∧ (h.warmReset cause who).rb.cause = cause ∧
    (h.warmReset cause who).crs.count = h.crs.count ∧ (h.warmReset cause who).fab.inbox = [] ∧
    (h.warmReset cause who).up = true := by
  obtain ⟨k, t, hframe, hregs, hrb, hcount, hinbox, hup⟩ := h.warmReset_frame cause who
  have hreg : k.pumpReset.reg a = (regReset a).toNat :=
    (k.reg_pumpReset_ne h12 h13).trans (Hub.reg_of_regAo_filter hregs ha)
  obtain ⟨r, hpump⟩ := k.pumpReset_shape
  refine ⟨(Hub.reg_congr (congrArg Hub.regs hframe) a).trans hreg, ?_, ?_, ?_, ?_⟩
  · rw [show (h.warmReset cause who).rb = k.pumpReset.rb from congrArg (·.rb) hframe, hpump, hrb]
  · rw [show (h.warmReset cause who).crs = k.pumpReset.crs from congrArg (·.crs) hframe, hpump, hcount]
  · rw [show (h.warmReset cause who).fab = k.pumpReset.fab from congrArg (·.fab) hframe, hpump, hinbox]
  · rw [show (h.warmReset cause who).up = k.pumpReset.up from congrArg (·.up) hframe, hpump, hup]

/-! ### The telemetry close -/

theorem Hub.takeBrick_crs {h k : Hub} {u x : Nat} {t : BT} {b : Brick} (e : h.takeBrick u x t = some (b, k)) :
    k.crs = h.crs := by
  unfold Hub.takeBrick at e
  split at e
  · cases e
  · cases e; rfl

theorem Hub.ageing_crs (h : Hub) (x core code : Nat) : (h.ageing x core code).crs = h.crs := by
  unfold Hub.ageing
  dsimp only
  split
  · exact Hub.event_crs ..
  · rfl

theorem Hub.telemetry_crs (h : Hub) (x : Nat) : (h.telemetry x).crs = h.crs := by
  unfold Hub.telemetry
  split
  · rfl
  · next b k e =>
    have hk := Hub.takeBrick_crs e
    split
    · exact hk
    · dsimp only
      split
      · exact (Hub.ageing_crs ..).trans hk
      · exact hk

theorem Hub.drainTelemetry_crs (h : Hub) : h.drainTelemetry.crs = h.crs :=
  foldl_keeps _ (fun h _ => h.telemetry_crs _) _ h

/-- The governor's block is no part of the course timer. -/
theorem Hub.withGov_crs (h : Hub) (g : Gov) : ({ h with gov := g } : Hub).crs = h.crs := rfl

theorem Hub.energies_crs (h : Hub) (m : CourseMeas) : (h.energies m).crs = h.crs := by
  unfold Hub.energies Hub.addEnergy
  refine (Hub.withGov_crs ..).trans ((Hub.bump_crs ..).trans (foldl_keeps Hub.crs (fun _ _ => ?_) _ _))
  exact (Hub.updAcc_crs ..).trans (Hub.bump_crs ..)

theorem Hub.staleness_crs (h : Hub) (x : Nat) : (h.staleness x).crs = h.crs := by
  unfold Hub.staleness
  dsimp only
  split
  · rfl
  · split
    · rfl
    · split <;> simp

theorem Hub.learn_crs (h : Hub) (x : Nat) : (h.learn x).crs = h.crs := by
  unfold Hub.learn
  dsimp only
  split
  · rfl
  · split
    · rfl
    · rw [Hub.updAcc_crs]
      split
      · split <;> simp
      · rfl

theorem Hub.thermalStep_crs (h : Hub) (x : Nat) : (h.thermalStep x).crs = h.crs := by
  unfold Hub.thermalStep
  split <;> rfl

/-- The course timer of a hub, as a predicate. The kernel compares a predicate by its arguments, where it would evaluate a
projection: that keeps the allocator unevaluated in the two lemmas that follow. -/
def Hub.TimerIs (h : Hub) (c : Courses) : Prop := h.crs = c

/-- The allocation's result stands as a variable while this is checked. -/
theorem Hub.computeGrants_timer (h : Hub) (m : CourseMeas) : (h.computeGrants m).TimerIs h.crs := by
  generalize hf : Hub.computeGrants = compute
  delta Hub.computeGrants at hf
  subst hf
  dsimp -zeta -iota -proj only
  extract_lets -underBinder cap budget
  generalize h.allocate m budget = shares
  obtain ⟨ss, breach⟩ := shares
  unfold Hub.TimerIs
  refine (foldl_keeps Hub.crs (fun _ _ => Hub.updAcc_crs ..) _ _).trans ?_
  rw [apply_ite Hub.crs, Hub.eventOnce_crs, Hub.flag_crs, Hub.withGov_crs, ite_self]

/-- Beside CLOSED, closing telemetry leaves the course timer alone. -/
theorem Hub.govClose_timer (h : Hub) (m : CourseMeas) (hc : h.crs.closed = false) :
    (h.govClose m).TimerIs { h.crs with closed := true } := by
  unfold Hub.govClose
  rw [if_neg (by simp [hc])]
  extract_lets crs opened charged gov summed learned
  have hlearned : learned.crs = { h.crs with closed := true } := by
    refine (foldl_keeps Hub.crs (fun k x => ?_) _ _).trans ((Hub.withGov_crs ..).trans (Hub.energies_crs ..))
    rw [Hub.thermalStep_crs, Hub.learn_crs, Hub.staleness_crs]
  rw [← hlearned]
  exact learned.computeGrants_timer m

theorem Hub.closeRow_open {h : Hub} (hc : h.crs.closed = false) (m : CourseMeas) :
    h.closeRow m = h.drainTelemetry.coolSnap.govClose m := if_neg (by simp [hc])

theorem Hub.closeRow_closed {h : Hub} (hc : h.crs.closed = true) (m : CourseMeas) : h.closeRow m = h := if_pos hc

/-- Closing telemetry marks the course closed and leaves its timer otherwise alone. -/
theorem Hub.closeRow_crs {h : Hub} (hc : h.crs.closed = false) (m : CourseMeas) :
    (h.drainTelemetry.coolSnap.govClose m).crs = { h.crs with closed := true } := by
  have hcrs : h.drainTelemetry.coolSnap.crs = h.crs := h.drainTelemetry_crs
  have hclose := h.drainTelemetry.coolSnap.govClose_timer m (hcrs ▸ hc)
  rw [hcrs] at hclose
  exact hclose

/-! ### The boundary (R36, R41) -/

theorem Hub.hsBoundary_regs (h : Hub) : h.hsBoundary.regs = h.regs := foldl_keeps Hub.regs (fun _ _ => Hub.updHs_regs ..) _ h
theorem Hub.hsBoundary_crs (h : Hub) : h.hsBoundary.crs = h.crs := foldl_keeps Hub.crs (fun _ _ => Hub.updHs_crs ..) _ h
theorem Hub.hsBoundary_rack (h : Hub) : h.hsBoundary.rack = h.rack := foldl_keeps Hub.rack (fun _ _ => Hub.updHs_rack ..) _ h

theorem Hub.nextCourse_advances (h : Hub) (hj : h.rack.jump = none) :
    h.nextCourse.crs.count = h.crs.count + 1 ∧ h.nextCourse.crs.prevLate = h.crs.late ∧ h.nextCourse.crs.late = false ∧
    h.nextCourse.crs.closed = false ∧ h.nextCourse.crs.granted = false ∧
    h.nextCourse.crs.wrap = (h.crs.wrap || h.crs.count == BitVec.allOnes 48) ∧ h.nextCourse.regs = h.regs := by
  simp [Hub.nextCourse, Hub.updRack, hj, Hub.hsBoundary_regs, Hub.hsBoundary_crs, Hub.hsBoundary_rack]

/-- Steps 2 to 8 of R41 in their order. -/
theorem Dev.applyChanges_eq (d : Dev) (was : Nat) (out kept : List TxnItem) (ps : List Plan) :
    d.applyChanges was out kept ps =
      let cs := ps.map (·.now)
      let three := (d.hubMap (·.step2 was out cs)).step3 out cs
      let seven := (three.1.steps456 three.2 out cs).hubMap (·.coolStep)
      let eight := (seven.unitsAtBoundary.hubMap fun h => { h with sec := h.sec.age h.crs.period }).step8
      eight.hubMap fun h => ((ps.foldl (fun h p => h.closePlan p) h).afterChanges d.hub kept).bringRef := rfl

theorem Dev.courseBoundary_asleep (d : Dev) (hs : d.hub.bus.sleep = .asleep ∨ d.hub.bus.sleep = .exiting) :
    d.courseBoundary = d.hubMap (·.nextCourse.leaseBoundary) := if_pos hs

/-- A rack sleep that has not begun, or is only being entered, leaves the boundary its work (R448). -/
theorem notAsleep {k : Sleep} (hs : k = .awake ∨ k = .entering) : ¬(k = .asleep ∨ k = .exiting) := by
  rcases hs with rfl | rfl <;> decide

theorem Dev.courseBoundary_warm (d : Dev) {cause who : Nat} (hs : d.hub.bus.sleep = .awake ∨ d.hub.bus.sleep = .entering)
    (hw : d.hub.rb.warm = some (cause, who)) :
    d.courseBoundary = d.hubMap fun h => (h.endCourse.nextCourse).warmReset cause who := by
  simp only [Dev.courseBoundary, notAsleep hs, if_false, hw]

theorem Dev.courseBoundary_full (d : Dev) (hs : d.hub.bus.sleep = .awake ∨ d.hub.bus.sleep = .entering)
    (hw : d.hub.rb.warm = none) : d.courseBoundary = d.fullBoundary := by
  simp only [Dev.courseBoundary, notAsleep hs, if_false, hw]

/-- What waits at the units meets the old settings (R43), the governor closes the course, and the changes follow. -/
theorem Dev.fullBoundary_eq (s : Dev) :
    let d := (s.hubMap (·.zoneUpdate)).drainUnits
    let e := d.recheck
    let all := e.hub.rb.staged
    let hold := e.holds226 all
    let out := if hold then all.filter (fun i => !i.isJobStart) else all
    let kept := if hold then all.filter (fun i => i.isJobStart) else []
    let plans := e.plansAfter out hold
    s.fullBoundary = (e.hubMap fun h => (h.endCourse.emuReport).nextCourse).applyChanges d.hub.crs.count.toNat out kept plans :=
  rfl

/-! ### The grant point (R44 to R47) -/

theorem Hub.handGrant_due {h : Hub} {x : Nat} {g : Grant} (hg : (h.acc x).next = some g) (hp : h.powered x = true)
    (ha : (h.port x).st = .active) (hs : (h.acc x).sent = false) :
    h.handGrant x = (h.send x 0xC2 (h.grantBrick x g)).updAcc x (fun g => { g with sent := true }) := by
  simp [Hub.handGrant, hg, hp, ha, hs]

theorem Hub.handGrant_inactive {h : Hub} {x : Nat} {g : Grant} (hg : (h.acc x).next = some g)
    (ha : (h.port x).st ≠ .active) : h.handGrant x = h := by
  simp [Hub.handGrant, hg, ha]

/-- A late course sends no grant (R45, R47). -/
theorem Hub.grantPoint_late {h : Hub} (hg : h.crs.granted = false) (hr : h.crs.lateRun ≠ 7) :
    h.grantPoint true =
      ({ h with crs := { h.crs with granted := true, late := true, lateRun := min 255 (h.crs.lateRun + 1) } } : Hub).bump
        0x100018 := by
  have hrun : min 255 (h.crs.lateRun + 1) ≠ 8 := by omega
  simp [Hub.grantPoint, hg, hrun]

/-- The eighth late course in a row is flagged and recorded (R47). -/
theorem Hub.grantPoint_eighth {h : Hub} (hg : h.crs.granted = false) (hr : h.crs.lateRun = 7) :
    h.grantPoint true =
      ((({ h with crs := { h.crs with granted := true, late := true, lateRun := 8 } } : Hub).bump 0x100018).flag 0x100014 2).event
        0x0110 [.u8 8] := by
  simp [Hub.grantPoint, hg, hr]

theorem Hub.grantPoint_inTime {h : Hub} (hg : h.crs.granted = false) :
    h.grantPoint false =
      (List.range 8).foldl Hub.handGrant { h with crs := { h.crs with granted := true, lateRun := 0 } } := by
  simp [Hub.grantPoint, hg, Hub.handGrants]

theorem Hub.grantPoint_passed {h : Hub} (hg : h.crs.granted = true) (late : Bool) : h.grantPoint late = h := by
  simp [Hub.grantPoint, hg]

/-! ### The check of the configuration CRC (R369, R370) -/

/-- While a reference is outstanding nothing is compared (R369, R370). -/
theorem Hub.crcComplete_pending {h : Hub} (ho : h.refOutstanding = true) (hb : h.rb.crcBusy = true) :
    h.crcComplete = (h.updRb fun b => { b with crcBusy := false }).crcTo .pending := by
  have ho' : (h.updRb fun b => { b with crcBusy := false }).refOutstanding = true := ho
  simp [Hub.crcComplete, hb, ho']

theorem Hub.crcComplete_compares {h : Hub} {a b : Nat} (hb : h.rb.crcBusy = true) (ho : h.refOutstanding = false)
    (hA : h.rb.refA = some a) (hB : h.rb.refB = some b) (hon : h.bitAt 0xF00008 0 = true) (hgood : h.rb.goodA = none) :
    let h' := h.updRb fun b => { b with crcBusy := false }
    h.crcComplete = if h.rb.crc = a ∧ h.rb.crc = b then h'.crcTo .ok
      else if h.rb.crc = a then h'.crcRefBad true a b
      else if h.rb.crc = b then h'.crcRefBad false a b
      else h'.crcMismatch a b := by
  have ho' : (h.updRb fun b => { b with crcBusy := false }).refOutstanding = false := ho
  have hrb : (h.updRb fun b => { b with crcBusy := false }).rb = { h.rb with crcBusy := false } := rfl
  simp [Hub.crcComplete, Hub.crcCompare, hb, ho', hrb, hA, hB, hon, hgood]

/-! ### The ROM's choice of an image (R459) -/

/-- ROM_BOOT's first step: the log's clear journal is completed and the cause of the start is kept. -/
def Dev.romStart (d : Dev) (cause : Nat) : Dev := d.hubMap fun h => { h.bootCheck with fw := { h.bootCheck.fw with cause } }

/-- What the ROM runs without the strap, `e` being the device before any image is verified: the active slot's image, else the
other slot's, else kiln mode. -/
def Dev.romChoice (e : Dev) (cause : Nat) : Dev :=
  let a := e.hub.fw.active.hub
  let one := e.verify 1 (b2n a)
  let two := one.2.2.verify 1 (b2n !a)
  if one.1 = 0 then one.2.2.hubMap fun h => (h.runImage (imageOf a one.2.1) cause).runEvent (imageOf a one.2.1) cause
  else if two.1 = 0 then two.2.2.hubMap fun h =>
    (((h.runImage (imageOf (!a) two.2.1) cause).updFw (fun f => { f with bootRec := true })).flag 0x1200000 4).event 0x1202
      [.u8 (b2n a), .u8 one.1, .u8 (b2n !a)]
  else two.2.2.hubMap (·.enterKiln 2)

/-- The ROM as a strap and a choice of images. The verification stands as a variable while this is checked: it computes hashes and
signatures, of which nothing is asked here. -/
theorem Dev.romBoot_eq (d : Dev) (cause : Nat) (kiln : Bool) :
    d.romBoot cause kiln =
      let d := d.hubMap (·.updFw fun f => { f with cause })
      if kiln then d.hubMap (·.enterKiln 1)
      else (d.hubMap fun h => h.flagIf h.fw.record.isNone 0x1200000 4).romChoice cause := by
  generalize hboot : Dev.romBoot = boot
  generalize hchoice : Dev.romChoice = choice
  delta Dev.romBoot at hboot
  delta Dev.romChoice at hchoice
  subst hboot hchoice
  generalize Dev.verify = verify
  rfl

theorem Dev.bootRow_eq {d : Dev} (hoff : d.hub.fw.phase = .off) (hrun : d.hub.fw.run = none) :
    let cause := if d.hub.bootCheck.rb.cause < 2 then 0 else 1
    d.bootRow = (if d.hub.bootCheck.therm.straps.bootKiln then (d.romStart cause).hubMap (·.enterKiln 1)
      else ((d.romStart cause).hubMap fun h => h.flagIf h.fw.record.isNone 0x1200000 4).romChoice cause).coreReady := by
  intro cause
  rw [Dev.bootRow, if_pos ⟨hoff, hrun⟩]
  exact congrArg Dev.coreReady (Dev.romBoot_eq ..)

theorem Dev.bootRow_kiln {d : Dev} (hoff : d.hub.fw.phase = .off) (hrun : d.hub.fw.run = none)
    (hk : d.hub.bootCheck.therm.straps.bootKiln = true) :
    d.bootRow = ((d.romStart (if d.hub.bootCheck.rb.cause < 2 then 0 else 1)).hubMap (·.enterKiln 1)).coreReady := by
  rw [Dev.bootRow_eq hoff hrun, if_pos hk]

theorem Dev.bootRow_images {d : Dev} (hoff : d.hub.fw.phase = .off) (hrun : d.hub.fw.run = none)
    (hk : d.hub.bootCheck.therm.straps.bootKiln = false) :
    let cause := if d.hub.bootCheck.rb.cause < 2 then 0 else 1
    d.bootRow = (((d.romStart cause).hubMap fun h => h.flagIf h.fw.record.isNone 0x1200000 4).romChoice cause).coreReady := by
  intro cause
  rw [Dev.bootRow_eq hoff hrun, if_neg (by simp [hk])]

section
variable {e : Dev} {cause : Nat}

/-! The three outcomes of the choice. -/

theorem Dev.romChoice_active :
    let a := e.hub.fw.active.hub
    let one := e.verify 1 (b2n a)
    one.1 = 0 → e.romChoice cause =
      one.2.2.hubMap fun h => (h.runImage (imageOf a one.2.1) cause).runEvent (imageOf a one.2.1) cause :=
  fun h1 => if_pos h1

theorem Dev.romChoice_other :
    let a := e.hub.fw.active.hub
    let one := e.verify 1 (b2n a)
    let two := one.2.2.verify 1 (b2n !a)
    one.1 ≠ 0 → two.1 = 0 → e.romChoice cause = two.2.2.hubMap fun h =>
      (((h.runImage (imageOf (!a) two.2.1) cause).updFw (fun f => { f with bootRec := true })).flag 0x1200000 4).event 0x1202
        [.u8 (b2n a), .u8 one.1, .u8 (b2n !a)] :=
  fun h1 h2 => (if_neg h1).trans (if_pos h2)

theorem Dev.romChoice_none :
    let one := e.verify 1 (b2n e.hub.fw.active.hub)
    let two := one.2.2.verify 1 (b2n !e.hub.fw.active.hub)
    one.1 ≠ 0 → two.1 ≠ 0 → e.romChoice cause = two.2.2.hubMap (·.enterKiln 2) :=
  fun h1 h2 => (if_neg h1).trans (if_neg h2)
end

/-! ### From an operation to the command that runs it -/

/-- A change of the hub is known by what it makes of the hub that is there. -/
theorem State.hubMap_congr {s : State} {f g : Hub → Hub} (e : f s.dev.hub = g s.dev.hub) : s.hubMap f = s.hubMap g := by
  simp only [State.hubMap, State.devMap, Dev.hubMap, e]

theorem State.devMap_congr {s : State} {f g : Dev → Dev} (e : f s.dev = g s.dev) : s.devMap f = s.devMap g := by
  simp only [State.devMap, e]

theorem exec_onHub {c : Instr} {s : State} {f g : Hub → Hub} (hup : s.dev.hub.up = true) (hc : exec c s = onHub f s)
    (e : f s.dev.hub = g s.dev.hub) : exec c s = .next (s.hubMap g) := by
  rw [hc, onHub_up f hup, State.hubMap_congr e]

theorem exec_onBase {c : Instr} {s : State} {f g : Dev → Dev} (hup : s.dev.hub.up = true) (hc : exec c s = onBase f s)
    (e : f s.dev = g s.dev) : exec c s = .next (s.devMap g) := by
  rw [hc, onBase_up f hup, State.devMap_congr e]

/-- Settles O15: each command of a course is the operation that its row names, and what that operation leaves is read off the
lemma about it. -/
theorem coursePhases : Obligations.CoursePhases := by
  intro s m hup h
  refine ⟨fun hs => ?_, fun cause who hs hw => ?_, fun cause who a ha h12 h13 => h.warmReset_leaves cause who ha h12 h13,
    fun hs hw => ?_, h.nextCourse_advances, fun hc => ⟨?_, h.closeRow_crs hc m⟩, fun hc => ?_, fun hg hr => ?_, fun hg hr => ?_,
    fun hg => ?_, fun hg late => ?_, fun x g hg => ⟨Hub.handGrant_due hg, Hub.handGrant_inactive hg⟩,
    fun a b hb ho hA hB hon hgood => ?_, fun ho hb => ?_, fun hoff hrun => ?_⟩
  · exact exec_onBase hup rfl (Dev.courseBoundary_asleep _ hs)
  · exact exec_onBase hup rfl (Dev.courseBoundary_warm _ hs hw)
  · refine exec_onBase hup rfl ((Dev.courseBoundary_full _ hs hw).trans ((Dev.fullBoundary_eq _).trans ?_))
    exact Dev.applyChanges_eq ..
  · exact exec_onHub hup rfl (Hub.closeRow_open hc m)
  · exact exec_onHub (g := id) hup rfl (Hub.closeRow_closed hc m)
  · exact exec_onHub hup rfl (Hub.grantPoint_late hg hr)
  · exact exec_onHub hup rfl (Hub.grantPoint_eighth hg hr)
  · exact exec_onHub hup rfl (Hub.grantPoint_inTime hg)
  · exact exec_onHub (g := id) hup rfl (Hub.grantPoint_passed hg late)
  · exact exec_onHub hup rfl (Hub.crcComplete_compares hb ho hA hB hon hgood)
  · exact exec_onHub hup rfl (Hub.crcComplete_pending ho hb)
  · intro cause d e a one two
    have hboot (t : Dev) (ht : s.dev.bootRow = t.coreReady) : exec .romBoot s = .next (s.devMap fun _ => t.coreReady) :=
      exec_onBase hup rfl ht
    refine ⟨fun hk => hboot _ (Dev.bootRow_kiln hoff hrun hk), fun hk => ⟨fun h1 => hboot _ ?_, fun h1 h2 => hboot _ ?_,
      fun h1 h2 => hboot _ ?_⟩⟩
    · exact (Dev.bootRow_images hoff hrun hk).trans (congrArg _ (Dev.romChoice_active h1))
    · exact (Dev.bootRow_images hoff hrun hk).trans (congrArg _ (Dev.romChoice_other h1 h2))
    · exact (Dev.bootRow_images hoff hrun hk).trans (congrArg _ (Dev.romChoice_none h1 h2))

end Sys2Proof.Machine
end

section
/-!
Proofs of the family of the Uaman link: the training of a port and its failures (R57 to R62).
-/

open Sys2Proof Sys2Proof.Machine

namespace Sys2Proof.Machine

section
variable {h : Hub} {x : Nat}

/-! ### Training steps that succeed (R57, R59, R60) -/

theorem Hub.signalDetected_advances {oct : BitVec 8} (hst : (h.port x).st = .detect) (htrain : h.canTrain x = true)
    (hoct : h.minOctets x ≤ octets (oct &&& (h.port x).present)) :
    h.signalDetected x oct = h.updPort x fun p => { p with st := .poll, locked := 0 } :=
  if_pos ⟨hst, htrain, hoct⟩

theorem Hub.pollLocked_advances {w : Wiring} (hst : (h.port x).st = .poll)
    (hall : (h.port x).present &&& w.locks = (h.port x).present) (hoct : h.minOctets x ≤ octets (h.port x).present) :
    h.pollLocked x w = h.toEqualize x (h.port x).present w :=
  if_pos ⟨hst, hall, hoct⟩

theorem Hub.pollTimeout_poll {oct : BitVec 8} {w : Wiring} (hst : (h.port x).st = .poll) :
    h.pollTimeout x oct w = if h.minOctets x ≤ octets (oct &&& w.locks &&& (h.port x).present)
      then h.toEqualize x (oct &&& w.locks &&& (h.port x).present) w else h.failAttempt x 0x01 .detect :=
  if_neg (not_not_intro hst)

theorem Hub.equalizeDone_advances {oct : BitVec 8} (hst : (h.port x).st = .equalize)
    (hoct : h.minOctets x ≤ octets (oct &&& (h.port x).locked)) :
    h.equalizeDone x oct = h.updPort x fun p => { p with st := .config, locked := oct &&& (h.port x).locked } :=
  if_pos ⟨hst, hoct⟩

/-! ### CONFIG (R62, R78) -/

theorem Hub.configExchange_agrees {c : Caps} (hst : (h.port x).st = .config) (hcheck : h.configCheck x c = none) :
    h.configExchange x c = h.configDone x c := by
  simp [Hub.configExchange, hst, hcheck]

theorem Hub.configExchange_refuses {c : Caps} {r : Nat} (hst : (h.port x).st = .config)
    (hcheck : h.configCheck x c = some r) : h.configExchange x c = h.failAttempt x r .detect := by
  simp [Hub.configExchange, hst, hcheck]

/-- The endpoint's credits lie within 8 to 4,095 on every VC (R62). -/
def Caps.CreditsInRange (c : Caps) : Prop :=
  ∀ v, v < 6 → 8 ≤ (c.credits.getD v 0).toNat ∧ (c.credits.getD v 0).toNat ≤ 4095

theorem creditsInRange_iff (c : Caps) : c.CreditsInRange ↔
    ((List.range 6).all fun v =>
      decide (8 ≤ (c.credits.getD v 0).toNat) && decide ((c.credits.getD v 0).toNat ≤ 4095)) = true := by
  simp only [Caps.CreditsInRange, List.all_eq_true, List.mem_range, Bool.and_eq_true, decide_eq_true_eq]

/-- The first check that fails gives the reason, in the order of R62. -/
theorem Hub.configCheck_cases (h : Hub) (x : Nat) (c : Caps) :
    let rateOk := c.rate.toNat = Config.orderCode.laneRate
    let fecOk := c.fecModes.toNat.testBit (h.fld (portReg x 0) 4 4) = true
    let octetsOk := h.minOctets x ≤ octets ((h.port x).locked &&& c.octets)
    (¬rateOk ∧ h.configCheck x c = some 4) ∨ (rateOk ∧ ¬fecOk ∧ h.configCheck x c = some 5) ∨
    (rateOk ∧ fecOk ∧ ¬c.CreditsInRange ∧ h.configCheck x c = some 6) ∨
    (rateOk ∧ fecOk ∧ c.CreditsInRange ∧ ¬octetsOk ∧ h.configCheck x c = some 7) ∨
    (rateOk ∧ fecOk ∧ c.CreditsInRange ∧ octetsOk ∧ h.configCheck x c = none) := by
  intro rateOk fecOk octetsOk
  rw [creditsInRange_iff]
  unfold Hub.configCheck
  rcases Classical.em rateOk with hrate | hrate
  case inr => exact .inl ⟨hrate, if_pos hrate⟩
  rw [if_neg (not_not_intro hrate)]
  rcases Classical.em fecOk with hfec | hfec
  case inr => exact .inr (.inl ⟨hrate, hfec, if_pos (Bool.not_eq_true' _ ▸ Bool.eq_false_iff.2 hfec)⟩)
  rw [if_neg (fun hno => Bool.eq_false_iff.1 (Bool.not_eq_true' _ ▸ hno) hfec)]
  split
  next hcred => exact .inr (.inr (.inl ⟨hrate, hfec, by simpa using hcred, rfl⟩))
  next hcred =>
    have hcred' := by simpa only [Bool.not_eq_true', Bool.not_eq_false] using hcred
    split
    next hoct => exact .inr (.inr (.inr (.inl ⟨hrate, hfec, hcred', Nat.not_le.2 hoct, rfl⟩)))
    next hoct => exact .inr (.inr (.inr (.inr ⟨hrate, hfec, hcred', Nat.not_lt.1 hoct, rfl⟩)))

/-- The reasons that CONFIG gives (R61, R62). -/
theorem Hub.configCheck_reason {c : Caps} {r : Nat} (hr : h.configCheck x c = some r) : 4 ≤ r ∧ r ≤ 7 := by
  rcases h.configCheck_cases x c with ⟨_, e⟩ | ⟨_, _, e⟩ | ⟨_, _, _, e⟩ | ⟨_, _, _, _, e⟩ | ⟨_, _, _, _, e⟩ <;>
    simp only [e, Option.some.injEq, reduceCtorEq] at hr <;> omega

/-! ### Failed attempts (R61) -/

theorem Hub.failAttempt_early {r : Nat} {next : LinkState} (hn : (h.port x).attempts < 2) :
    h.failAttempt x r next = h.updPort x fun p => { p with
      lastFail := r, attempts := min 15 ((h.port x).attempts + 1), training := false, locked := 0, active := 0
      st := next } := by
  have hfew : ¬3 ≤ min 15 ((h.port x).attempts + 1) := by omega
  simp [Hub.failAttempt, sat, hfew]

theorem Hub.failAttempt_third {r : Nat} {next : LinkState} (hn : 2 ≤ (h.port x).attempts) :
    h.failAttempt x r next = (h.updPort x fun p => { p with
      lastFail := r, attempts := min 15 ((h.port x).attempts + 1), training := false, locked := 0, active := 0
      st := .failed }).event 0x0201 [.u8 x, .u8 r] := by
  have hmany : 3 ≤ min 15 ((h.port x).attempts + 1) := by omega
  simp [Hub.failAttempt, sat, hmany]

/-- A change of a port leaves the others alone. -/
theorem Hub.port_updPort_ne (h : Hub) {x y : Nat} (f : Port → Port) (hy : y ≠ x) : (h.updPort x f).port y = h.port y :=
  Tbl.get_upd_ne _ _ _ hy

end

/-! ### The statements -/

/-- Settles O1: each step is its operation with the conditions met. -/
theorem trainingAdvancesPort : Obligations.TrainingAdvancesPort := by
  refine ⟨rfl, ?_⟩
  intro s x oct w c hup h p toEqualize
  refine ⟨fun hst hen hrst hcbl hoct => ?_, fun hst hall hoct => ?_, fun hst hoct => ?_, fun hst hoct => ?_,
    fun hst hcheck => ?_⟩
  · have htrain : h.canTrain x = true := by simp only [Hub.canTrain, hen, hrst, Bool.true_and]; exact hcbl
    exact exec_onHub hup rfl (Hub.signalDetected_advances hst htrain hoct)
  · exact exec_onHub hup rfl (Hub.pollLocked_advances hst hall hoct)
  · exact exec_onHub hup rfl ((Hub.pollTimeout_poll hst).trans (if_pos hoct))
  · exact exec_onHub hup rfl (Hub.equalizeDone_advances hst hoct)
  · intro agreed
    split
    next hdue => exact exec_onHub hup rfl ((Hub.configExchange_agrees hst hcheck).trans (if_pos hdue))
    next hplain => exact exec_onHub hup rfl ((Hub.configExchange_agrees hst hcheck).trans (if_neg hplain))

/-- Settles O2: the five outcomes of CONFIG's checks exclude each other, and every other failure is its timeout. -/
theorem trainingFailureNamesReason : Obligations.TrainingFailureNamesReason := by
  intro s x oct w c hup h p
  refine ⟨fun hst hoct => ?_, fun hst => exec_onHub hup rfl (if_pos hst), fun hst => exec_onHub hup rfl (if_pos hst),
    fun r hst hcheck => ?_, ?_, fun hst => exec_onHub hup rfl (if_pos hst)⟩
  · exact exec_onHub hup rfl ((Hub.pollTimeout_poll hst).trans (if_neg (Nat.not_le.2 hoct)))
  · obtain ⟨hleast, hmost⟩ := Hub.configCheck_reason hcheck
    exact ⟨hleast, hmost, exec_onHub hup rfl (Hub.configExchange_refuses hst hcheck)⟩
  · intro rateOk fecOk creditsOk octetsOk
    have hcases : (¬rateOk ∧ h.configCheck x c = some 4) ∨ (rateOk ∧ ¬fecOk ∧ h.configCheck x c = some 5) ∨
        (rateOk ∧ fecOk ∧ ¬creditsOk ∧ h.configCheck x c = some 6) ∨
        (rateOk ∧ fecOk ∧ creditsOk ∧ ¬octetsOk ∧ h.configCheck x c = some 7) ∨
        (rateOk ∧ fecOk ∧ creditsOk ∧ octetsOk ∧ h.configCheck x c = none) := h.configCheck_cases x c
    clear_value rateOk fecOk creditsOk octetsOk
    rcases hcases with ⟨hr, e⟩ | ⟨hr, hf, e⟩ | ⟨hr, hf, hc, e⟩ | ⟨hr, hf, hc, ho, e⟩ | ⟨hr, hf, hc, ho, e⟩ <;>
      simp [*]

/-- Settles O3: an attempt before the third only changes the port, and the third also records its event. -/
theorem thirdFailedAttemptFails : Obligations.ThirdFailedAttemptFails := by
  intro h x r next _ n k
  rcases Nat.lt_or_ge (h.port x).attempts 2 with hfew | hmany
  · have hn : n < 3 := by omega
    have hk : k = _ := Hub.failAttempt_early hfew
    simp +contextual [hk, Nat.not_le.2 hn, hn, Hub.port_updPort_ne, n]
  · have hn : 3 ≤ n := by omega
    have hk : k = _ := Hub.failAttempt_third hmany
    simp +contextual [hk, hn, Nat.not_lt.2 hn, Hub.port_updPort_ne, n]

end Sys2Proof.Machine
end

section
/-!
Proofs of the family of the Uaman link: loss of the link, fences, the way back to ACTIVE, and cables (R59 to R61, R76, R80 to R90).
-/

open Sys2Proof Sys2Proof.Machine

namespace Sys2Proof.Machine

/-! ### What the steps read back -/

@[simp] theorem Hub.updPort_minOctets (h : Hub) (x y : Nat) (f : Port → Port) : (h.updPort x f).minOctets y = h.minOctets y := rfl

@[simp] theorem Hub.cableAbsent_port (h : Hub) (x y : Nat) (b : Bool) : (h.cableAbsent x b).port y = h.port y :=
  Hub.event_port ..

@[simp] theorem Hub.cableAbsent_minOctets (h : Hub) (x y : Nat) (b : Bool) :
    (h.cableAbsent x b).minOctets y = h.minOctets y := Hub.event_fld ..

/-- Retiring octets changes only which of them carry the link and which are retired; its events leave the port alone. -/
theorem Hub.retire_port (h : Hub) (x : Nat) (gone : BitVec 8) : (h.retire x gone).port x =
    { h.port x with active := (h.port x).active &&& ~~~gone, retired := (h.port x).retired ||| gone } :=
  (foldl_keeps (Hub.port · x) (fun _ _ => Hub.event_port ..) _ _).trans (Hub.port_updPort ..)

@[simp] theorem Hub.retire_minOctets (h : Hub) (x y : Nat) (gone : BitVec 8) :
    (h.retire x gone).minOctets y = h.minOctets y :=
  foldl_keeps (Hub.minOctets · y) (fun _ _ => Hub.event_fld ..) _ _

theorem mask_and_not_and_self (a c : BitVec 8) : a &&& ~~~(a &&& c) = a &&& ~~~c := by
  ext i
  simp only [BitVec.getElem_and, BitVec.getElem_not]
  cases a[i] <;> rfl

section
variable {h : Hub} {x : Nat}

/-! ### Into RETRAIN (R60, R76, R81, R82) -/

theorem Hub.laneLost_active {lane : Nat} (hst : (h.port x).st = .active) (hlane : lane < 64)
    (hcarries : (h.port x).active &&& 1#8 <<< (lane / 8) ≠ 0) :
    h.laneLost x lane = h.enterRetrain x 1 ((h.port x).active &&& ~~~(1#8 <<< (lane / 8))) := by
  have hin : ¬(64 ≤ lane ∨ (h.port x).active &&& 1#8 <<< (lane / 8) = 0) := not_or.2 ⟨Nat.not_le.2 hlane, hcarries⟩
  exact (if_neg hin).trans (if_pos hst)

theorem Hub.laneLost_retrain {lane : Nat} (hst : (h.port x).st = .retrain) (hlane : lane < 64)
    (hcarries : (h.port x).active &&& 1#8 <<< (lane / 8) ≠ 0) :
    h.laneLost x lane = h.updPort x fun p => { p with locked := p.locked &&& ~~~(1#8 <<< (lane / 8)) } := by
  have hin : ¬(64 ≤ lane ∨ (h.port x).active &&& 1#8 <<< (lane / 8) = 0) := not_or.2 ⟨Nat.not_le.2 hlane, hcarries⟩
  have hactive : (h.port x).st ≠ .active := by simp [hst]
  exact (if_neg hin).trans ((if_neg hactive).trans (if_pos hst))

theorem Hub.uncorrectable_active {oct : Option (Fin 8)} (hst : (h.port x).st = .active) :
    h.uncorrectable x (oct.map Fin.val) = (h.bump (portReg x 0x40) 4).enterRetrain x 2
      ((h.port x).active &&& ~~~((oct.map fun o => 1#8 <<< o.val).getD 0)) := by
  cases oct <;> exact if_neg (not_not_intro hst)

/-- The brick that the limit names is the oldest that has been sent 8 times (R76). -/
theorem Port.limitBrick_first {p : Port} {before after : List (Brick × Nat)} {b : Brick} {n : Nat}
    (hzip : p.retry.zip p.sends = before ++ (b, n) :: after) (hn : 8 ≤ n) (hbefore : ∀ e ∈ before, e.2 < 8) :
    p.limitBrick = some b := by
  have hnone : before.find? (fun e => decide (8 ≤ e.2)) = none :=
    List.find?_eq_none.2 fun e he => by simpa using hbefore e he
  simp [Port.limitBrick, hzip, List.find?_append, hnone, hn]

theorem Hub.retryLimit_active {b : Brick} (hst : (h.port x).st = .active) (hb : (h.port x).limitBrick = some b) :
    h.retryLimit x = (((h.bump (portReg x 0x20)).event 0x0206 [.u8 x, .u32 b.seq.toNat]).enterRetrain x 3
      (h.port x).active).updPort x fun p => { p with retryLimit := true } := by
  simp [Hub.retryLimit, hb, hst]

/-- A cable that leaves an ACTIVE port takes it into RETRAIN, or fences it where it leaves too few octets (R82). -/
theorem Hub.cableOut_active {b : Bool} (hst : (h.port x).st = .active) :
    let k := (h.updPort x fun p => if b then { p with cblB := false } else { p with cblA := false }).cableAbsent x b
    let left := (h.port x).active &&& ~~~cableOctets b
    h.cableOut x b = if octets left < h.minOctets x then k.fence x 0x0E
      else (k.retire x ((h.port x).active &&& cableOctets b)).enterRetrain x 5 left := by
  cases b <;> simp [Hub.cableOut, hst, mask_and_not_and_self]

/-! ### Fences (R76, R80, R81, R87) -/

theorem Hub.retrainReport_tooFew {far : BitVec 8} {ann : Option SealAnnounce} (hst : (h.port x).st = .retrain) (hfar : far ≠ 0)
    (hann : (h.port x).annOk ann = true)
    (hfew : octets ((h.port x).active &&& (h.port x).locked &&& far) < h.minOctets x) :
    h.retrainReport x far ann = h.fence x 0x07 := by
  have hreport : h.retrainReport x far ann = h.retrainDone x far ann := if_pos ⟨hst, hfar, hann⟩
  simp [hreport, Hub.retrainDone, hfew]

theorem Hub.retrainTimeout_retrain (hst : (h.port x).st = .retrain) :
    h.retrainTimeout x = h.fence x (if (h.port x).retryLimit then 0x0A else 0x09) := if_pos hst

theorem Hub.creditTimeout_starved {vc src : Nat} {b : Brick} (hst : (h.port x).st = .active)
    (hhold : (h.port x).sealHold = false) (hcredit : Tbl.get 0 (h.port x).credit vc = 0)
    (hb : (src, b) ∈ (h.port x).egress) (hvc : b.vc.toNat = vc) :
    h.creditTimeout x vc = (h.event 0x0207 [.u8 x, .u8 vc]).fence x 0x0B := by
  have hheld : ((h.port x).egress.any fun it => it.2.vc.toNat == vc && (!(h.port x).sealHold || sealExempt it.2)) = true :=
    List.any_eq_true.2 ⟨_, hb, by simp [hvc, hhold]⟩
  exact if_pos ⟨hst, hcredit, hheld⟩

theorem Hub.sealExhausted_transmit (hs : (h.port x).sealed = true) (htx : 2 ^ 44 ≤ (h.port x).txCtr) :
    h.sealExhausted x = (h.event 0x020A [.u8 x, .u8 0]).fence x 0x0C := if_pos ⟨hs, htx⟩

theorem Hub.sealExhausted_receive (hs : (h.port x).sealed = true) (htx : (h.port x).txCtr < 2 ^ 44)
    (hrx : 2 ^ 44 ≤ (h.port x).rxCtr) : h.sealExhausted x = (h.event 0x020A [.u8 x, .u8 1]).fence x 0x0C :=
  (if_neg fun htx' => Nat.not_le.2 htx htx'.2).trans (if_pos ⟨hs, hrx⟩)

end

/-- Settles O4: each loss is its operation on an ACTIVE port, or on one in RETRAIN. -/
theorem lossEntersRetrain : Obligations.LossEntersRetrain := by
  intro s x lane oct cableB hup h p o left
  refine ⟨fun hst ho => ?_, fun hst ho => ?_, fun hst => ?_, fun before b after n hst hzip hn hbefore => ?_,
    fun hst hleft => ?_⟩
  · exact exec_onHub hup rfl (Hub.laneLost_active hst lane.isLt ho)
  · exact exec_onHub hup rfl (Hub.laneLost_retrain hst lane.isLt ho)
  · exact exec_onHub hup rfl (Hub.uncorrectable_active hst)
  · exact exec_onHub hup rfl (Hub.retryLimit_active hst (Port.limitBrick_first hzip hn hbefore))
  · exact exec_onHub hup rfl ((Hub.cableOut_active hst).trans (if_neg (Nat.not_lt.2 hleft)))

/-- Settles O5: each condition is that of one fence, whose operation names the reason. -/
theorem fenceNamesReason : Obligations.FenceNamesReason := by
  intro s x vc far ann cableB hup h p
  refine ⟨fun hst hfar hann hfew => ?_, fun hst hlimit => ?_, fun hst hlimit => ?_, fun src b hst hhold hcredit hb hvc => ?_,
    fun hs htx => ?_, fun hs htx hrx => ?_, fun hst hleft => ?_⟩
  · exact exec_onHub hup rfl (Hub.retrainReport_tooFew hst hfar hann hfew)
  · exact exec_onHub hup rfl ((Hub.retrainTimeout_retrain hst).trans (congrArg _ (if_neg (by simpa [p] using hlimit))))
  · exact exec_onHub hup rfl ((Hub.retrainTimeout_retrain hst).trans (congrArg _ (if_pos hlimit)))
  · exact exec_onHub hup rfl (Hub.creditTimeout_starved hst hhold hcredit hb hvc)
  · exact exec_onHub hup rfl (Hub.sealExhausted_transmit hs htx)
  · exact exec_onHub hup rfl (Hub.sealExhausted_receive hs htx hrx)
  · exact exec_onHub hup rfl ((Hub.cableOut_active hst).trans (if_pos hleft))

end Sys2Proof.Machine
end

section
/-!
Proofs of the family of the Uaman link: the way back to ACTIVE (R60, R83, R86 to R90), and a cable that is inserted (R59, R61).
-/

open Sys2Proof Sys2Proof.Machine

namespace Sys2Proof.Machine

section
variable {h : Hub} {x : Nat}

/-! ### The far end's announcement (R86, R87) -/

section
variable {a : SealAnnounce} {k : Hub → Hub}

theorem Hub.adopt_higher (hkey : (h.port x).rxKey a.slot ≠ []) (hslot : a.slot = (h.port x).rxSlot)
    (hctr : (h.port x).rxCtr ≤ a.counter) : h.adopt x a k = k (h.updPort x fun p => { p with rxCtr := a.counter }) :=
  (if_neg hkey).trans ((if_neg (not_not_intro hslot)).trans (if_neg (Nat.not_lt.2 hctr)))

theorem Hub.adopt_lower (hkey : (h.port x).rxKey a.slot ≠ []) (hslot : a.slot = (h.port x).rxSlot)
    (hctr : a.counter < (h.port x).rxCtr) : h.adopt x a k = h.fenceAttempt x 0x0D :=
  (if_neg hkey).trans ((if_neg (not_not_intro hslot)).trans (if_pos hctr))

theorem Hub.adopt_other (hkey : (h.port x).rxKey a.slot ≠ []) (hslot : a.slot ≠ (h.port x).rxSlot) :
    h.adopt x a k = k (h.rxSwitch x a.slot a.counter) :=
  (if_neg hkey).trans (if_pos hslot)

end

/-! ### The end of RETRAIN (R60, R81, R86) -/

/-- The hub as RETRAIN ends on enough octets, of which `stay` still carry the link. -/
def Hub.resumed (h : Hub) (x : Nat) (stay : BitVec 8) : Hub :=
  (h.retire x ((h.port x).active &&& ~~~stay)).updPort x fun p => { p with
    fec := p.fecNext, sealed := p.sealed && !p.toPlain, toPlain := false, overdue := p.overdue && !p.toPlain }

theorem Hub.resumed_port (h : Hub) (x : Nat) (stay : BitVec 8) : (h.resumed x stay).port x =
    let p := h.port x
    { p with
      active := p.active &&& ~~~(p.active &&& ~~~stay), retired := p.retired ||| (p.active &&& ~~~stay), fec := p.fecNext
      sealed := p.sealed && !p.toPlain, toPlain := false, overdue := p.overdue && !p.toPlain } := by
  simp [Hub.resumed, Hub.retire_port]

section
variable {far : BitVec 8} {ann : Option SealAnnounce} (hst : (h.port x).st = .retrain) (hfar : far ≠ 0)
  (henough : h.minOctets x ≤ octets ((h.port x).active &&& (h.port x).locked &&& far)) (hhold : (h.port x).sealHold = false)
include hst hfar henough hhold

theorem Hub.retrainReport_plain (hplain : (h.port x).sealed = false) :
    h.retrainReport x far ann = (h.resumed x ((h.port x).active &&& (h.port x).locked &&& far)).enterActive x := by
  have hann : (h.port x).annOk ann = true := by simp [Port.annOk, hplain]
  have hreport : h.retrainReport x far ann = h.retrainDone x far ann := if_pos ⟨hst, hfar, hann⟩
  simp [hreport, Hub.retrainDone, Nat.not_lt.2 henough, Hub.retire_port, Hub.resumed, hhold, hplain]

theorem Hub.retrainReport_sealed {a : SealAnnounce} (hsealed : (h.port x).sealed = true) (hstays : (h.port x).toPlain = false)
    (hann : ann = some a) : h.retrainReport x far ann =
      (h.resumed x ((h.port x).active &&& (h.port x).locked &&& far)).adopt x a fun h => h.enterActive x := by
  subst hann
  have hok : (h.port x).annOk (some a) = true := by simp [Port.annOk]
  have hreport : h.retrainReport x far (some a) = h.retrainDone x far (some a) := if_pos ⟨hst, hfar, hok⟩
  simp [hreport, Hub.retrainDone, Nat.not_lt.2 henough, Hub.retire_port, Hub.resumed, hhold, hsealed, hstays]

end

theorem Hub.retrainReport_none {far : BitVec 8} {ann : Option SealAnnounce} (hno : far = 0 ∨ (h.port x).annOk ann = false) :
    h.retrainReport x far ann = h := by
  refine if_neg fun ⟨_, hfar, hann⟩ => ?_
  rcases hno with rfl | hno
  · exact hfar rfl
  · simp [hno] at hann

/-! ### The end of SEAL_SYNC and of a fence (R86, R89, R90) -/

/-- The port is sealed and ACTIVE. -/
def Hub.nowSealed (h : Hub) (x : Nat) : Hub :=
  (h.updPort x fun p => { p with sealed := true, sealHold := false, heldIn := [] }).enterActive x

/-- The bricks held back go on once the port is ACTIVE (R89). -/
theorem Hub.sealSyncDone_eq {a : SealAnnounce} (hst : (h.port x).st = .sealSync) : h.sealSyncDone x a =
    h.adopt x a fun k => ((k.port x).heldIn).foldl (fun h b => h.route x b) (k.nowSealed x) :=
  if_neg (not_not_intro hst)

theorem Hub.fenceReentry_due (hst : (h.port x).st = .fenced) (hreason : (h.port x).lastFail = 0x09 ∨ (h.port x).lastFail = 0x0A) :
    h.fenceReentry x = h.updPort x fun p => { p with st := .detect } := if_pos ⟨hst, hreason⟩

end

/-- Settles O6: RETRAIN and SEAL_SYNC end in what the announcement is adopted as; with no brick held back, SEAL_SYNC ends at
that. -/
theorem portReturnsToActive : Obligations.PortReturnsToActive := by
  intro s x far ann a hup h p stay
  refine ⟨fun hst hreason => exec_onHub hup rfl (Hub.fenceReentry_due hst hreason), ?_⟩
  intro back
  have hport : (h.resumed x stay).port x = _ := h.resumed_port x stay
  refine ⟨fun hst hfar henough hhold => ⟨fun hplain => ?_, fun hsealed hstays hann hkey hslot => ?_⟩,
    fun _ hno => exec_onHub (g := id) hup rfl (Hub.retrainReport_none hno), fun hst hheld hkey => ?_⟩
  · exact exec_onHub hup rfl (Hub.retrainReport_plain hst hfar henough hhold hplain)
  · have hreport := Hub.retrainReport_sealed hst hfar henough hhold hsealed hstays hann
    have hkey' : ((h.resumed x stay).port x).rxKey a.slot ≠ [] := by rw [hport]; exact hkey
    have hslot' : a.slot = ((h.resumed x stay).port x).rxSlot := by rw [hport]; exact hslot
    have hrx : ((h.resumed x stay).port x).rxCtr = p.rxCtr := by rw [hport]
    exact ⟨fun hctr => exec_onHub hup rfl (hreport.trans (Hub.adopt_higher hkey' hslot' (hrx ▸ hctr))),
      fun hctr => exec_onHub hup rfl (hreport.trans (Hub.adopt_lower hkey' hslot' (hrx ▸ hctr)))⟩
  · intro sealed
    have hnone : (h.port x).heldIn = [] := hheld
    refine ⟨fun hslot hctr => exec_onHub hup rfl ?_, fun hslot hctr => exec_onHub hup rfl ?_,
      fun hslot => exec_onHub hup rfl ?_⟩
    · rw [Hub.sealSyncDone_eq hst, Hub.adopt_higher hkey hslot hctr, Hub.port_updPort, hnone]
      rfl
    · rw [Hub.sealSyncDone_eq hst, Hub.adopt_lower hkey hslot hctr]
    · rw [Hub.sealSyncDone_eq hst, Hub.adopt_other hkey hslot, Hub.rxSwitch, Hub.event_port, Hub.port_updPort, hnone]
      rfl

/-! ### A cable that is inserted (R59, R61, R83, R428) -/

section
variable (h : Hub) (x : Nat) (b : Bool) (image : Option (List Byte))

@[simp] theorem Hub.idMem_updId (bus addr : Nat) (f : IdMem → IdMem) :
    (h.updId bus addr f).idMem bus addr = f (h.idMem bus addr) := Tbl.get_upd_self ..

/-- What a reading of a cable's record leaves in its memory: the record where it passes the checks, else nothing (R59, R428). -/
def cableMem (image : Option (List Byte)) (stuck : Bool) : IdMem :=
  match image with
  | some bs => if cableOk bs && !stuck then { st := 2, bytes := bs } else { st := 3 }
  | none => { st := 3 }

/-- A cable's record that is read changes its memory, and an event may say so. -/
theorem Hub.cableRecord_cases :
    let k := h.updId x (0x54 + b2n b) fun _ => cableMem image (h.bus.idFault.testBit x)
    h.cableRecord x b image = k ∨ h.cableRecord x b image = k.event 0x020B [.u8 x, .u8 (2 * x + b2n b), .u8 2] := by
  cases image with
  | none => exact .inr rfl
  | some bs =>
    by_cases hok : (cableOk bs && !h.bus.idFault.testBit x) = true
    · exact .inl (by simp only [Hub.cableRecord, cableMem, hok, if_true])
    · exact .inr (by simp only [Hub.cableRecord, cableMem, hok]; rfl)

/-- A cable that is read: the bus shows it, its insertion is recorded, and its memory holds what the reading left. -/
theorem Hub.cableRead_cases :
    let seen : Hub := { h with bus := { h.bus with cable := setBit h.bus.cable (2 * x + b2n b) true } }
    let k := (seen.event 0x020B [.u8 x, .u8 (2 * x + b2n b), .u8 0]).updId x (0x54 + b2n b)
      fun _ => cableMem image (h.bus.idFault.testBit x)
    h.cableRead x b image = k ∨ h.cableRead x b image = k.event 0x020B [.u8 x, .u8 (2 * x + b2n b), .u8 2] := by
  intro seen
  have hcases := Hub.cableRecord_cases (seen.event 0x020B [.u8 x, .u8 (2 * x + b2n b), .u8 0]) x b image
  rwa [Hub.event_bus_idFault] at hcases

/-- A reading leaves the ports, the registers and the hods alone. -/
theorem Hub.cableRead_keeps : (h.cableRead x b image).fab = h.fab ∧ (h.cableRead x b image).regs = h.regs ∧
    (h.cableRead x b image).hods = h.hods := by
  rcases h.cableRead_cases x b image with e | e <;> rw [e] <;> simp

theorem Hub.cableRead_idMem :
    (h.cableRead x b image).idMem x (0x54 + b2n b) = cableMem image (h.bus.idFault.testBit x) := by
  rcases h.cableRead_cases x b image with e | e <;> rw [e] <;> simp

theorem Hub.cableRead_cable : (h.cableRead x b image).bus.cable = setBit h.bus.cable (2 * x + b2n b) true := by
  rcases h.cableRead_cases x b image with e | e <;> rw [e] <;> simp [Hub.updId]

/-- The port of a cable that is inserted. -/
theorem Hub.cableIn_port : (h.cableIn x b image).port x =
    let p := h.port x
    { p with
      cblA := if b then p.cblA else true
      cblB := if b then true else p.cblB
      attempts := 0
      st := if p.st = .fenced ∨ p.st = .failed then .detect else p.st
      reinsert := p.reinsert || (p.st == .active && p.active != 0xFF) } := by
  have hread (k : Hub) : (k.cableRead x b image).port x = k.port x := Hub.port_congr (k.cableRead_keeps x b image).1 x
  cases b <;> simp [Hub.cableIn, hread, Port.fenced]

end

/-- Settles O7: an insertion changes the port, and the reading of the cable's record the bus; the rest keeps its value in both. -/
theorem cableInsertionShows : Obligations.CableInsertionShows := by
  intro s x cableB image hup
  obtain ⟨_, hregs, hhods⟩ := Hub.cableRead_keeps
    (s.dev.hub.updPort x fun p => if cableB then { p with cblB := true } else { p with cblA := true }) x cableB image
  refine ⟨_, onHub_up (fun h => h.cableIn x cableB image) hup, Hub.cableIn_port .., Hub.cableRead_cable .., ?_, hregs, hhods,
    rfl, rfl⟩
  refine (Hub.cableRead_idMem ..).trans ?_
  cases image <;> rfl

end Sys2Proof.Machine
end

section
/-!
Proofs of the family of the Uaman link: bricks received and the timers of the link layer (R73 to R76), and the seal exchange and
rekeying (R87, R486, R488).
-/

open Sys2Proof Sys2Proof.Machine

namespace Sys2Proof.Machine

section
variable {h : Hub} {x : Nat} {b : Brick}

/-! ### Bricks received on a plain port (R73, R75) -/

/-- The hub past the FEC counts of a slot (R93). -/
def Hub.fecCounted (h : Hub) (x corrected uncorrectable : Nat) : Hub :=
  let h := if corrected = 0 then h else h.bump (portReg x 0x38) corrected
  if uncorrectable = 0 then h else h.bump (portReg x 0x40) uncorrectable

theorem Hub.fecCounted_port (cor unc : Nat) : (h.fecCounted x cor unc).port x = h.port x := by
  simp only [Hub.fecCounted]
  (repeat' split) <;> rfl

/-- The hub past the acknowledgement that a brick carries (R75). -/
def Hub.acked (h : Hub) (x : Nat) (b : Brick) : Hub := if b.ackValid then h.updPort x (·.takeAck b.ack) else h

theorem Port.takeAck_rxNext (p : Port) (ack : BitVec 16) : (p.takeAck ack).rxNext = p.rxNext := by
  unfold Port.takeAck
  split <;> rfl

theorem Hub.acked_rxNext : ((h.acked x b).port x).rxNext = (h.port x).rxNext := by
  unfold Hub.acked
  split
  · rw [Hub.port_updPort, Port.takeAck_rxNext]
  · rfl

theorem Hub.receive_plain {cor unc : Nat} (hst : (h.port x).st = .active) (hplain : (h.port x).sealed = false) :
    h.receive x b cor unc =
      if b.check = b.crc then (h.fecCounted x cor unc).checkedBrick x b else (h.fecCounted x cor unc).badSlot x := by
  have hopen : ¬(h.port x).sealed = true := by simp [hplain]
  exact (if_neg (not_not_intro hst)).trans (if_neg hopen)

/-- A sequenced brick is accepted, dropped as a duplicate or answered by a NAK, by where its number lies (R73). -/
theorem Hub.checkedBrick_sequenced (hidle : b.is .idle = false) (hnak : b.is .nak = false) :
    h.checkedBrick x b =
      let k := h.acked x b
      let behind := ((h.port x).rxNext - b.seq).toNat
      if b.seq = (h.port x).rxNext then k.acceptBrick x b
      else if 0 < behind ∧ behind ≤ 2 ^ 31 then k.bump (portReg x 0x30)
      else k.wantNak x := by
  rw [← Hub.acked_rxNext (b := b)]
  have hi : ¬b.is .idle = true := by simp [hidle]
  have hn : ¬b.is .nak = true := by simp [hnak]
  exact (if_neg hi).trans (if_neg hn)

/-! ### Timers of the link layer (R74 to R76) -/

theorem Hub.nakRow_inWindow {seq : BitVec 32} {i : Nat} (hst : (h.port x).st = .active)
    (hi : (h.port x).retry.findIdx? (fun r => r.seq == seq) = some i) : h.nakRow x seq =
      (h.updPort x fun p => { p with resend := p.retry.length - i }).bump (portReg x 0x20) := by
  simp only [Hub.nakRow, hst, if_true, Hub.takeNak, hi]

theorem Hub.nakRepeat_due (hst : (h.port x).st = .active) (hwait : (h.port x).nakWait = true) :
    h.nakRepeat x = h.updPort x fun p => { p with nakOut := true } := if_pos ⟨hst, hwait⟩

theorem Hub.ackTimer_due (hst : (h.port x).st = .active) (hdue : 0 < (h.port x).ackDue) :
    h.ackTimer x = h.updPort x fun p => { p with ackOut := true } := if_pos ⟨hst, hdue⟩

theorem Hub.replay_due (hst : (h.port x).st = .active) (hretry : (h.port x).retry ≠ []) :
    h.replay x = (h.updPort x fun p => { p with resend := p.retry.length }).bump (portReg x 0x20) := if_pos ⟨hst, hretry⟩

/-! ### Rekeying (R87) -/

theorem Hub.rekeyRequest_due {slot : Bool} (hslot : (h.port x).rekeySlot = some slot) (hst : (h.port x).st = .active)
    (hsealed : (h.port x).sealed = true) (hidle : (h.port x).ex.xstate ≠ 1) : h.rekeyRequest x =
      (h.updPort x fun p => { p with ex := { p.ex with rekey := true, want := true, slot := slot, fails := 0 } }).rekeyStart x := by
  simp only [Hub.rekeyRequest, hslot]
  exact if_pos ⟨hst, hsealed, hidle⟩

theorem Hub.txSwitch_early (htx : (h.port x).txCtr < 2 ^ 40) : h.txSwitch x = h :=
  if_neg fun ⟨_, hlate, _⟩ => Nat.not_le.2 htx hlate

theorem Hub.rxLate_early (hrx : (h.port x).rxCtr < 2 ^ 40) : h.rxLate x = h :=
  if_neg fun ⟨_, hlate, _⟩ => Nat.not_le.2 hrx hlate

section
variable (hsealed : (h.port x).sealed = true)
include hsealed

theorem Hub.txSwitch_keyed (htx : 2 ^ 40 ≤ (h.port x).txCtr) (htop : (h.port x).txCtr < 2 ^ 44)
    (hkey : (h.port x).txKey (!(h.port x).txSlot) ≠ []) : h.txSwitch x =
      (h.updPort x fun p => { p with
        txSlot := !p.txSlot, txCtr := 0, overdue := false
        txKey0 := if p.txSlot then p.txKey0 else [], txKey1 := if p.txSlot then [] else p.txKey1 }).event 0x0208
          [.u8 x, .u8 0, .u8 (b2n (!(h.port x).txSlot))] :=
  (if_pos ⟨hsealed, htx, htop⟩).trans (if_pos hkey)

theorem Hub.txSwitch_overdue (htx : 2 ^ 40 ≤ (h.port x).txCtr) (htop : (h.port x).txCtr < 2 ^ 44)
    (hkey : (h.port x).txKey (!(h.port x).txSlot) = []) (hfirst : (h.port x).overdue = false) : h.txSwitch x =
      (h.updPort x fun p => { p with overdue := true }).event 0x0209 [.u8 x, .u8 0] :=
  (if_pos ⟨hsealed, htx, htop⟩).trans ((if_neg (not_not_intro hkey)).trans (if_neg (by simp [hfirst])))

theorem Hub.rxLate_overdue (hrx : 2 ^ 40 ≤ (h.port x).rxCtr) (htop : (h.port x).rxCtr < 2 ^ 44)
    (hkey : (h.port x).rxKey (!(h.port x).rxSlot) = []) (hfirst : (h.port x).rxOverdue = false) : h.rxLate x =
      (h.updPort x fun p => { p with rxOverdue := true }).event 0x0209 [.u8 x, .u8 1] :=
  if_pos ⟨hsealed, hrx, htop, hkey, hfirst⟩

end

/-! ### The exchange (R486, R488) -/

theorem Hub.sealReject_named {k : Hub} (htake : h.takeMgmt x (fun m => m == 0x43) = some (b, k))
    (hoffered : (k.port x).ex.xstate = 1) (hxid : b.sealXid = (k.port x).ex.xid) : h.sealReject x = k.sealFail x 0x05 := by
  simp only [Hub.sealReject, htake]
  exact if_pos ⟨hoffered, hxid⟩

theorem Hub.sealBrick_fragment {k : Hub} (htake : h.takeMgmt x (fun m => m != 0x30 && m != 0x43) = some (b, k))
    (hoffered : (k.port x).ex.xstate = 1) (hmsg : b.sealMsg = 0x41) (hxid : b.sealXid = (k.port x).ex.xid)
    (hok : fragmentOk (k.port x).ex b = true) : h.sealBrick x =
      if b.last then k.accept x ((k.port x).ex.body ++ b.data.drop 8)
      else k.updPort x fun p => { p with ex := { p.ex with body := (k.port x).ex.body ++ b.data.drop 8 } } := by
  simp only [Hub.sealBrick, htake]
  rw [if_neg (by simp [hoffered, hmsg, hxid]), if_neg (by simp [hok])]

end

/-- Settles O8: past its FEC counts and its acknowledgement, a brick goes where its CRC and its number take it. -/
theorem bricksAcceptedInSequence : Obligations.BricksAcceptedInSequence := by
  intro s x b cor unc hup p fec acked behind hst hplain
  have hreceive := Hub.receive_plain (b := b) (cor := cor) (unc := unc) hst hplain
  refine ⟨fun hbad => exec_onHub hup rfl (hreceive.trans (if_neg hbad)), fun hcrc hidle hnak => ?_⟩
  have hchecked := (hreceive.trans (if_pos hcrc)).trans (Hub.checkedBrick_sequenced hidle hnak)
  rw [Hub.fecCounted_port] at hchecked
  have hunexpected : 0 < behind → b.seq ≠ p.rxNext := fun hpos hseq => by
    simp only [behind, hseq, BitVec.sub_self] at hpos
    exact Nat.lt_irrefl 0 hpos
  refine ⟨fun hseq => ?_, fun hpos hnear => ?_, fun hfar => ?_⟩
  · exact exec_onHub hup rfl (hchecked.trans (if_pos hseq))
  · exact exec_onHub hup rfl (hchecked.trans ((if_neg (hunexpected hpos)).trans (if_pos ⟨hpos, hnear⟩)))
  · have hpos : 0 < behind := Nat.lt_trans (by decide) hfar
    have hnot : ¬(0 < behind ∧ behind ≤ 2 ^ 31) := fun hnear => Nat.not_le.2 hfar hnear.2
    exact exec_onHub hup rfl (hchecked.trans ((if_neg (hunexpected hpos)).trans (if_neg hnot)))

/-- Settles O9: each row is its operation with the timer's condition met. -/
theorem linkTimersActOnPort : Obligations.LinkTimersActOnPort := by
  intro s x seq hup p hst
  exact ⟨fun i hi => exec_onHub hup rfl (Hub.nakRow_inWindow hst hi),
    fun hwait => exec_onHub hup rfl (Hub.nakRepeat_due hst hwait),
    fun hdue => exec_onHub hup rfl (Hub.ackTimer_due hst hdue),
    fun hretry => exec_onHub hup rfl (Hub.replay_due hst hretry)⟩

/-- Settles O11: of the two directions of a rekey, the one whose counter is below 2^40 does nothing; the exchange's rows follow the
brick that the core takes. -/
theorem sealExchangeRows : Obligations.SealExchangeRows := by
  intro s x hup h p
  refine ⟨fun slot hslot hst hsealed hidle => exec_onHub hup rfl (Hub.rekeyRequest_due hslot hst hsealed hidle),
    fun hsealed htx htop hrx hkey => exec_onHub hup rfl ?_, fun hsealed htx htop hrx hkey hfirst => exec_onHub hup rfl ?_,
    fun hsealed htx hrx htop hkey hfirst => exec_onHub hup rfl ?_, fun hoffered => exec_onHub hup rfl (if_pos hoffered),
    fun b k htake hoffered hxid => exec_onHub hup rfl (Hub.sealReject_named htake hoffered hxid),
    fun b k htake => ?_⟩
  · rw [Hub.rekeySwitch, Hub.txSwitch_keyed hsealed htx htop hkey, Hub.rxLate_early (by simpa using hrx)]
  · rw [Hub.rekeySwitch, Hub.txSwitch_overdue hsealed htx htop hkey hfirst, Hub.rxLate_early (by simpa using hrx)]
  · rw [Hub.rekeySwitch, Hub.txSwitch_early htx, Hub.rxLate_overdue hsealed hrx htop hkey hfirst]
  · intro ex hoffered hmsg hxid hok
    exact exec_onHub hup rfl (Hub.sealBrick_fragment htake hoffered hmsg hxid hok)

end Sys2Proof.Machine
end

section
/-!
Proofs of the family of the Uaman link: the command bits of write-masked control registers (R95, R301, R313, R332, R365).
-/

open Sys2Proof Sys2Proof.Machine

namespace Sys2Proof.Machine

/-! ### The registers of command bits -/

/-- A row of command bits alone: no field of it clears, stores or is course-buffered (R365). -/
def RegRow.OnlyCommands (r : RegRow) : Prop :=
  r.mask (fun f => f.acc == .w1c) = 0 ∧ r.mask (fun f => f.acc == .rw && !f.cb) = 0 ∧ r.mask (fun f => f.acc == .rw && f.cb) = 0

/-- The rows of LINK.PORT_CTRL, HOTSWAP.CH_CTRL and LEAK.CTRL. -/
def portCtrlRow : RegRow := { base := 0x201004, n1 := 8, s1 := 0x1000, fields := [Map.wm 1 1, Map.wm 0 0] }
def chCtrlRow : RegRow := { base := 0xB0100C, n1 := 10, s1 := 0x1000, fields := [Map.wm 2 2, Map.wm 1 1, Map.wm 0 0] }
def leakCtrlRow : RegRow := { base := 0xD00004, fields := [Map.wm 5 0] }

theorem findRow_portCtrl : ∀ x : Fin 8, findRow (portReg x 4) = some portCtrlRow := by decide +kernel
theorem findRow_chCtrl : ∀ c : Fin 10, findRow (hsReg c 0xC) = some chCtrlRow := by decide +kernel
theorem findRow_leakCtrl : findRow 0xD00004 = some leakCtrlRow := by decide +kernel

theorem portReg_block (x : Fin 8) : portReg x 4 / 0x100000 = 2 := by unfold portReg; omega
theorem hsReg_block (c : Fin 10) : hsReg c 0xC / 0x100000 = 0xB := by unfold hsReg; omega

/-- In blocks without a register that a write treats by itself, a write goes field by field. -/
theorem Dev.writeReg_fields (d : Dev) (m : Master) (r : RegRow) {a : Nat} (v : Nat)
    (hblock : a / 0x100000 ∉ [0x0C, 0x0F, 0x12, 0x13, 0x14]) : d.writeReg m r a v = d.writeFields m r a v := by
  unfold Dev.writeReg
  split
  case h_10 =>
    have hsec : ¬(a / 0x100000 = 0x13 ∧ secBad r v) := fun h => hblock (by simp [h.1])
    exact congrArg (Dev.writeFields · m r a v) (if_neg hsec)
  all_goals exact absurd (by decide) hblock

/-- The word that writes command bits `cmd`: the bits with their mask in the upper half (R365). -/
def cmdWord (cmd : Nat) : Nat := 65536 * cmd + cmd

theorem cmdWord_upper {cmd : Nat} (hsmall : cmd < 65536) : cmdWord cmd / 2 ^ 16 % 2 ^ 16 = cmd := by
  have hquot : cmdWord cmd / 2 ^ 16 = cmd := by
    change (65536 * cmd + cmd) / 65536 = cmd
    omega
  rw [hquot]
  exact Nat.mod_eq_of_lt hsmall

/-- The mask selects the command bits of the word's lower half. -/
theorem mergeBits_cmdWord {cmd : Nat} (hsmall : cmd < 65536) : mergeBits cmd 0 (cmdWord cmd) = cmd := by
  have hand : cmdWord cmd &&& cmd = cmd := by
    refine Nat.eq_of_testBit_eq fun i => ?_
    rw [Nat.testBit_and, show cmdWord cmd = 2 ^ 16 * cmd + cmd from rfl, Nat.testBit_two_pow_mul_add _ hsmall]
    split
    next => exact Bool.and_self _
    next hi =>
      have hhigh : cmd < 2 ^ i := Nat.lt_of_lt_of_le hsmall (Nat.pow_le_pow_right Nat.two_pos (Nat.not_lt.1 hi))
      simp [Nat.testBit_lt_two_pow hhigh]
  simp [mergeBits, hand]

/-- A privileged master's write of command bits stages them alone, where nothing is staged at the register and no check of the
block refuses them. -/
theorem Dev.write_commands (d : Dev) {m : Master} {a cmd : Nat} {r : RegRow} (hpriv : d.hub.privileged m = true)
    (htxn : d.hub.openTxn m.req = none) (hlock : d.hub.lockedBy a = none) (hstaged : ∀ i ∈ d.hub.rb.staged, i.isRegAt a = false)
    (hrow : findRow a = some r) (hcmds : r.OnlyCommands) (halign : a % 4 = 0) (htop : a < 0x1600000)
    (hblock : a / 0x100000 ∉ [0x0C, 0x0F, 0x12, 0x13, 0x14])
    (hcmd : cmd &&& r.mask (fun f => f.acc == .wm) = cmd) (hpos : cmd ≠ 0) (hsmall : cmd < 65536)
    (hcheck : ∀ (e : Dev) (cfg : Nat → Nat), (e.checkReg cfg a).1 = true) :
    d.write m a 4 (cmdWord cmd) = d.hubMap (·.stage (.reg m.req.id a cmd cmd)) := by
  obtain ⟨hw1c, hrw, hcb⟩ := hcmds
  have hshape : shapeOf a 4 = .one a 0 4 := by
    have hbase : a / 4 * 4 = a := by omega
    simp [shapeOf, halign, hbase, Nat.not_le.2 htop]
  have hreach : reaches m a = true := by
    have h13 : a / 0x100000 ≠ 0x13 := fun e => hblock (by simp [e])
    simp [reaches, h13]
  have hright : d.hub.right m a = .has r true := by simp [Hub.right, hrow, hreach, hpriv]
  have hword : cmdWord cmd % 2 ^ 32 = cmdWord cmd := Nat.mod_eq_of_lt (by unfold cmdWord; omega)
  have hsel : wmSel (cmdWord cmd) (r.mask fun f => f.acc == .wm) = cmd := by
    rw [wmSel, cmdWord_upper hsmall, hcmd]
  have hpass : (d.checkWrite (stagedWrites d.hub.rb.staged) a cmd cmd).1 = true := hcheck _ _
  have hstage : d.stageWrite m a cmd (cmdWord cmd) = d.hubMap (·.stage (.reg m.req.id a cmd cmd)) := by
    simp [Dev.stageWrite, htxn, Dev.stageOutside_alone _ _ hlock hstaged, mergeBits_cmdWord hsmall, hpass]
  simp only [Dev.write, hshape, if_true, Dev.write32, hright, hword, Dev.writeReg_fields _ _ _ _ hblock, Dev.writeFields, hw1c, hrw,
    hcb, hsel]
  simp [hpos, hstage]

/-! ### No check refuses them -/

theorem arrIx_outside {a base n stride : Nat} (h : a < base ∨ base + n * stride ≤ a) : arrIx a base n stride = none :=
  if_neg fun hin => by omega

theorem Dev.checkReg_portCtrl (d : Dev) (cfg : Nat → Nat) (x : Fin 8) : (d.checkReg cfg (portReg x 4)).1 = true := by
  have hblock := portReg_block x
  have hoffset : portReg x 4 % 0x1000 = 4 := by unfold portReg; omega
  have hlow : 0x201004 ≤ portReg x 4 := by unfold portReg; omega
  have hhigh : portReg x 4 < 0x300000 := by unfold portReg; omega
  generalize portReg x 4 = a at hblock hoffset hlow hhigh
  have hcheck : d.checkReg cfg a = checkLow d cfg a := by simp [Dev.checkReg, hblock]
  have houtside (base n stride : Nat) (hbase : 0x300000 ≤ base) : arrIx a base n stride = none :=
    arrIx_outside (.inl (Nat.lt_of_lt_of_le hhigh hbase))
  have hne (b : Nat) (hb : b < 0x201000 ∨ 0x300000 ≤ b) : a ≠ b := by omega
  simp [hcheck, checkLow, hoffset, houtside, ownerTile, hne]

theorem Dev.checkReg_chCtrl (d : Dev) (cfg : Nat → Nat) (c : Fin 10) : (d.checkReg cfg (hsReg c 0xC)).1 = true := by
  have hblock := hsReg_block c
  have hoffset : (hsReg c 0xC - 0xB01000) % 0x1000 = 0xC := by unfold hsReg; omega
  have hne : hsReg c 0xC ≠ 0xB00004 := by unfold hsReg; omega
  have hcheck : d.checkReg cfg (hsReg c 0xC) = (checkHs cfg (hsReg c 0xC), some (0xB00000, 0)) := by
    simp [Dev.checkReg, hblock]
  simp [hcheck, checkHs, hoffset, hne]

theorem Dev.checkReg_leakCtrl (d : Dev) (cfg : Nat → Nat) : (d.checkReg cfg 0xD00004).1 = true := rfl

/-! ### The three registers' writes -/

section
variable {d : Dev} {m : Master} {cmd : Nat} (hpriv : d.hub.privileged m = true) (htxn : d.hub.openTxn m.req = none)
include hpriv htxn

theorem Dev.write_portCtrl {x : Fin 8} (hlock : d.hub.lockedBy (portReg x 4) = none)
    (hstaged : ∀ i ∈ d.hub.rb.staged, i.isRegAt (portReg x 4) = false) (hcmd : cmd &&& 3 = cmd) (hpos : cmd ≠ 0) :
    d.write m (portReg x 4) 4 (cmdWord cmd) = d.hubMap (·.stage (.reg m.req.id (portReg x 4) cmd cmd)) :=
  d.write_commands hpriv htxn hlock hstaged (findRow_portCtrl x) ⟨rfl, rfl, rfl⟩ (by unfold portReg; omega)
    (by unfold portReg; omega) (by simp [portReg_block]) hcmd hpos
    (Nat.lt_of_le_of_lt (hcmd ▸ Nat.and_le_right) (by decide)) fun e cfg => e.checkReg_portCtrl cfg x

theorem Dev.write_chCtrl {c : Fin 10} (hlock : d.hub.lockedBy (hsReg c 0xC) = none)
    (hstaged : ∀ i ∈ d.hub.rb.staged, i.isRegAt (hsReg c 0xC) = false) (hcmd : cmd &&& 7 = cmd) (hpos : cmd ≠ 0) :
    d.write m (hsReg c 0xC) 4 (cmdWord cmd) = d.hubMap (·.stage (.reg m.req.id (hsReg c 0xC) cmd cmd)) :=
  d.write_commands hpriv htxn hlock hstaged (findRow_chCtrl c) ⟨rfl, rfl, rfl⟩ (by unfold hsReg; omega)
    (by unfold hsReg; omega) (by simp [hsReg_block]) hcmd hpos
    (Nat.lt_of_le_of_lt (hcmd ▸ Nat.and_le_right) (by decide)) fun e cfg => e.checkReg_chCtrl cfg c

theorem Dev.write_leakCtrl (hlock : d.hub.lockedBy 0xD00004 = none)
    (hstaged : ∀ i ∈ d.hub.rb.staged, i.isRegAt 0xD00004 = false) (hcmd : cmd &&& 63 = cmd) (hpos : cmd ≠ 0) :
    d.write m 0xD00004 4 (cmdWord cmd) = d.hubMap (·.stage (.reg m.req.id 0xD00004 cmd cmd)) :=
  d.write_commands hpriv htxn hlock hstaged findRow_leakCtrl ⟨rfl, rfl, rfl⟩ (by decide) (by decide) (by decide) hcmd hpos
    (Nat.lt_of_le_of_lt (hcmd ▸ Nat.and_le_right) (by decide)) fun e cfg => e.checkReg_leakCtrl cfg

end

/-! ### What the boundary does with them -/

/-- A register that is no tile's owner or group takes effect by its block's rule. -/
theorem Dev.applyReg_write (d : Dev) (who : Nat) {a : Nat} (sel v : Nat) (hblock : a / 0x100000 ≠ 4) (hcfg : a ≠ 0xF00010) :
    d.applyReg who a sel v = d.hubMap (·.applyWrite who a sel v) := by
  have hout : a < 0x400000 ∨ 0x500000 ≤ a := by omega
  have howner : ownerTile a = none := arrIx_outside (by omega)
  have hgroup : arrIx a 0x400040 64 4 = none := arrIx_outside (by omega)
  have hpart : a ≠ 0x400004 := by omega
  simp only [Dev.applyReg, howner, hgroup, hpart, hcfg, if_false]

theorem Hub.applyWrite_portCtrl (h : Hub) (who : Nat) (x : Fin 8) (sel v : Nat) :
    h.applyWrite who (portReg x 4) sel v =
      let k := if (sel &&& v).testBit 0 then h.fullAttempt x else h
      if (sel &&& v).testBit 1 then k.fenceRelease x else k := by
  have hlink : 0x201000 ≤ portReg x 4 ∧ portReg x 4 < 0x209000 := by unfold portReg; omega
  have hport : (portReg x 4 - 0x201000) / 0x1000 = x := by unfold portReg; omega
  have hoffset : (portReg x 4 - 0x201000) % 0x1000 = 4 := by unfold portReg; omega
  simp only [Hub.applyWrite, hlink, hport, hoffset, and_self, if_true]

theorem Hub.applyWrite_chCtrl (h : Hub) (who : Nat) (c : Fin 10) (sel v : Nat) :
    h.applyWrite who (hsReg c 0xC) sel v = h.chCtrl c (sel &&& v) who := by
  have hlink : ¬(0x201000 ≤ hsReg c 0xC ∧ hsReg c 0xC < 0x209000) := by unfold hsReg; omega
  have hhs : 0xB01000 ≤ hsReg c 0xC ∧ hsReg c 0xC < 0xB0B000 := by unfold hsReg; omega
  have hch : (hsReg c 0xC - 0xB01000) / 0x1000 = c := by unfold hsReg; omega
  have hoffset : (hsReg c 0xC - 0xB01000) % 0x1000 = 0xC := by unfold hsReg; omega
  unfold Hub.applyWrite
  rw [if_neg hlink, if_pos hhs]
  -- With the difference a variable, its comparison with 0xC does not make the kernel count 0xB01000 down.
  generalize hsReg c 0xC - 0xB01000 = o at hch hoffset ⊢
  simp only [hch, hoffset]

theorem Hub.applyWrite_leakCtrl (h : Hub) (who sel v : Nat) : h.applyWrite who 0xD00004 sel v = h.leakCtrl (sel &&& v) who := rfl

section
variable (d : Dev) (who : Nat)

theorem Dev.applyReg_portCtrl (x : Fin 8) (cmd : Nat) : d.applyReg who (portReg x 4) cmd cmd = d.hubMap fun h =>
    let k := if cmd.testBit 0 then h.fullAttempt x else h
    if cmd.testBit 1 then k.fenceRelease x else k := by
  rw [Dev.applyReg_write d who _ _ (by unfold portReg; omega) (by unfold portReg; omega)]
  simp only [Hub.applyWrite_portCtrl, Nat.and_self]

theorem Dev.applyReg_chCtrl (c : Fin 10) (cmd : Nat) :
    d.applyReg who (hsReg c 0xC) cmd cmd = d.hubMap fun h => h.chCtrl c cmd who := by
  rw [Dev.applyReg_write d who _ _ (by unfold hsReg; omega) (by unfold hsReg; omega)]
  simp only [Hub.applyWrite_chCtrl, Nat.and_self]

theorem Dev.applyReg_leakCtrl (cmd : Nat) : d.applyReg who 0xD00004 cmd cmd = d.hubMap fun h => h.leakCtrl cmd who := by
  rw [Dev.applyReg_write d who _ _ (by decide) (by decide)]
  simp only [Hub.applyWrite_leakCtrl, Nat.and_self]

end

section
variable {h : Hub}

theorem Hub.fullAttempt_active {x : Nat} (hst : (h.port x).st = .active) :
    h.fullAttempt x = ((h.sealAbandon x).dispose x .detect).loseSync x := if_pos hst

theorem Hub.fenceRelease_fenced {x : Nat} (hst : (h.port x).st = .fenced ∨ (h.port x).st = .failed) :
    h.fenceRelease x = h.updPort x fun p => { p with st := .detect, attempts := 0 } :=
  if_pos (by simpa [Port.fenced] using hst)

theorem Hub.cmdOn_off {c : Nat} (hst : (h.hsCh c).st = .cmdOff) : h.cmdOn c =
    (h.pushAgain c).updHs c fun k => { k with st := if k.seated then .waitSlot else .waitSeat } := if_pos hst

theorem Hub.releaseCh_ok {c who : Nat} (hok : h.release? c = .ok []) : h.releaseCh c who =
    (h.updHs c (fun k => { k with st := if k.seated then .waitSlot else .waitSeat, retries := 0 })).event 0x0B04
      [.u8 c, .u8 who] := by
  simp only [Hub.releaseCh, hok, HodOut.ok]

end

/-- A change of the device's hub is known by what it makes of the hub that is there. -/
theorem Dev.hubMap_congr {d : Dev} {f g : Hub → Hub} (e : f d.hub = g d.hub) : d.hubMap f = d.hubMap g := by
  simp only [Dev.hubMap, e]

/-- Settles O18: each command's write is that of its word, which no check of its block refuses, and the boundary gives the bits to
the port, to the channel or to the ropes. -/
theorem controlBitsStaged : Obligations.ControlBitsStaged := by
  intro s m x c mask hup hpriv htxn h clear stages
  refine ⟨fun ⟨hlock, hstaged⟩ => ?_, fun ⟨hlock, hstaged⟩ => ?_, fun ⟨hlock, hstaged⟩ hmask => ?_, fun d who => ?_⟩
  · exact ⟨exec_onBase hup rfl (Dev.write_portCtrl (cmd := 1) hpriv htxn hlock hstaged (by decide) (by decide)),
      exec_onBase hup rfl (Dev.write_portCtrl (cmd := 2) hpriv htxn hlock hstaged (by decide) (by decide))⟩
  · exact ⟨exec_onBase hup rfl (Dev.write_chCtrl (cmd := 1) hpriv htxn hlock hstaged (by decide) (by decide)),
      exec_onBase hup rfl (Dev.write_chCtrl (cmd := 2) hpriv htxn hlock hstaged (by decide) (by decide)),
      exec_onBase hup rfl (Dev.write_chCtrl (cmd := 4) hpriv htxn hlock hstaged (by decide) (by decide))⟩
  · have hropes : mask.toNat &&& 63 = mask.toNat := (Nat.and_two_pow_sub_one_eq_mod _ 6).trans (Nat.mod_eq_of_lt mask.isLt)
    have hpos : mask.toNat ≠ 0 := fun e => hmask (BitVec.eq_of_toNat_eq e)
    exact exec_onBase hup rfl (Dev.write_leakCtrl hpriv htxn hlock hstaged hropes hpos)
  · refine ⟨d.applyReg_portCtrl who x 1, Hub.fullAttempt_active, fun hst => if_neg hst, fun hst => ?_, d.applyReg_chCtrl who c 1,
      fun hst => ?_, fun hok => ?_, d.applyReg_leakCtrl who mask.toNat⟩
    · exact (d.applyReg_portCtrl who x 2).trans (Dev.hubMap_congr (Hub.fenceRelease_fenced hst))
    · exact (d.applyReg_chCtrl who c 2).trans (Dev.hubMap_congr (Hub.cmdOn_off hst))
    · exact (d.applyReg_chCtrl who c 4).trans (Dev.hubMap_congr (Hub.releaseCh_ok hok))

end Sys2Proof.Machine
end

section
/-!
Proofs of the family of the mortar engines: descriptors, operands, chunks and the end of a collective (R153 to R161, R166).
-/

open Sys2Proof Sys2Proof.Machine

namespace Sys2Proof.Machine

/-- A brick is of one type. -/
theorem Brick.code_unique {b : Brick} {t u : BT} (ht : b.is t = true) (hu : b.is u = true) : t.code = u.code := by
  simp only [Brick.is, beq_iff_eq] at ht hu
  exact ht.symm.trans hu

section
variable {h : Hub} {x : Nat} {b : Brick}

/-! ### A descriptor served at the intake (R156) -/

theorem Hub.mortarDesc_served (hnext : h.nextMortar x h.fab.inbox = some b) (hdesc : b.is .mortarDesc = true) :
    h.mortarDesc x = (h.dropItem x b).takeDesc x b := by
  simp only [Hub.mortarDesc, hnext, hdesc, if_true]

theorem Hub.takeDesc_new (hnew : h.coll? b.part.toNat (bits b.addr.toNat 43 32) = none) : h.takeDesc x b = h.openColl x b := by
  simp only [Hub.takeDesc, hnew]

/-! ### A descriptor that names no open collective (R156, R160, R161, R166) -/

theorem Hub.openColl_full (hfull : 1024 ≤ h.mortar.colls.length) : h.openColl x b = h.rejectDesc x b 0x05 0xFF 0 true :=
  if_pos hfull

/-- The collective that a descriptor opens: its sender's has arrived, and nothing else. -/
def openedBy (x : Nat) (b : Brick) : Coll :=
  { part := b.part.toNat, id := bits b.addr.toNat 43 32, stream := b.stream.toNat, desc := b.payload.take 64, arrived := 2 ^ x }

section
variable (hroom : h.mortar.colls.length < 1024)
include hroom

theorem Hub.openColl_badDesc {r : Nat} (hcheck : h.descCheck x b = some r) :
    h.openColl x b = h.rejectDesc x b 0x03 0xFF r false := by
  simp only [Hub.openColl, Nat.not_le.mpr hroom, if_false, hcheck]

variable (hcheck : h.descCheck x b = none)
include hcheck

theorem Hub.openColl_portDown {y : Nat}
    (hdown : ((Desc.of (b.payload.take 64)).members.find? fun y => !(h.port y).up) = some y) :
    h.openColl x b = h.rejectDesc x b 0x02 ((Desc.of (b.payload.take 64)).rank y) 0 false := by
  simp only [Hub.openColl, Nat.not_le.mpr hroom, if_false, hcheck, hdown]

/-- Past every check but that of the stochastic window, the window alone decides whether the collective opens (R166). -/
theorem Hub.openColl_portsUp (hports : ((Desc.of (b.payload.take 64)).members.find? fun y => !(h.port y).up) = none) :
    h.openColl x b =
      let d := Desc.of (b.payload.take 64)
      let part := b.part.toNat
      let m := if d.stochastic then h.mortar.mark part d.seq else h.mortar
      if d.stochastic && h.srReuse part d.seq then h.rejectDesc x b 0x07 0xFF 0 false
      else { h with mortar := { m with colls := m.colls ++ [openedBy x b] } } := by
  simp only [Hub.openColl, Nat.not_le.mpr hroom, if_false, hcheck, hports, openedBy]

variable (hports : ((Desc.of (b.payload.take 64)).members.find? fun y => !(h.port y).up) = none)
include hports

theorem Hub.openColl_reused (hst : (Desc.of (b.payload.take 64)).stochastic = true)
    (hused : h.srReuse b.part.toNat (Desc.of (b.payload.take 64)).seq = true) :
    h.openColl x b = h.rejectDesc x b 0x07 0xFF 0 false :=
  (Hub.openColl_portsUp hroom hcheck hports).trans (if_pos (Bool.and_eq_true_iff.mpr ⟨hst, hused⟩))

theorem Hub.openColl_nearest (hst : (Desc.of (b.payload.take 64)).stochastic = false) :
    h.openColl x b = { h with mortar := { h.mortar with colls := h.mortar.colls ++ [openedBy x b] } } := by
  simp [Hub.openColl_portsUp hroom hcheck hports, hst, openedBy]

theorem Hub.openColl_stochastic (hst : (Desc.of (b.payload.take 64)).stochastic = true)
    (hfresh : h.srReuse b.part.toNat (Desc.of (b.payload.take 64)).seq = false) :
    h.openColl x b =
      let m := h.mortar.mark b.part.toNat (Desc.of (b.payload.take 64)).seq
      { h with mortar := { m with colls := m.colls ++ [openedBy x b] } } := by
  simp [Hub.openColl_portsUp hroom hcheck hports, hst, hfresh, openedBy]

end

/-! ### A further descriptor of an open collective (R156, R160, R161) -/

section
variable {c : Coll} (hcoll : h.coll? b.part.toNat (bits b.addr.toNat 43 32) = some c)
include hcoll

theorem Hub.takeDesc_again (hagain : c.arrived.testBit x = true) : h.takeDesc x b = h.endColl c 0x03 0xFF 0 := by
  simp only [Hub.takeDesc, hcoll, hagain, if_true]

variable (hfirst : c.arrived.testBit x = false)
include hfirst

theorem Hub.takeDesc_differs (hdiff : b.payload.take 64 ≠ c.desc ∨ b.poison = true) :
    h.takeDesc x b = h.endColl c 0x04 ((Desc.of c.desc).rank x) 0 := by
  simp only [Hub.takeDesc, hcoll, hfirst, Bool.false_eq_true, if_false, if_pos hdiff]

/-- A like descriptor of another accelerator joins where PMASK has its sender. -/
theorem Hub.takeDesc_like (hsame : b.payload.take 64 = c.desc) (hgood : b.poison = false) :
    h.takeDesc x b =
      if (Desc.of c.desc).pmask.testBit x = true then
        (h.updColl b.part.toNat (bits b.addr.toNat 43 32) fun c => { c with arrived := c.arrived + 2 ^ x }).finishColl
          b.part.toNat (bits b.addr.toNat 43 32)
      else h.endColl c 0x03 0xFF 0x08 := by
  cases hmask : (Desc.of c.desc).pmask.testBit x <;> simp [Hub.takeDesc, hcoll, hfirst, hsame, hgood, hmask]

end
end

/-- Settles O27: the brick served is the descriptor, and what becomes of it is read off the lemma about its case. -/
theorem descriptorOpensCollective : Obligations.DescriptorOpensCollective := by
  intro s x b hup hnext hdesc h d part id down opened
  have serve {k : Hub} (e : h.takeDesc x b = k) : exec (.mortarDesc x) s = .next (s.hubMap fun _ => k) :=
    exec_onHub hup rfl ((Hub.mortarDesc_served hnext hdesc).trans e)
  refine ⟨fun hnew => ?_, fun c hc => ?_⟩
  · have opens {k : Hub} (e : h.openColl x b = k) := serve ((Hub.takeDesc_new hnew).trans e)
    refine ⟨fun hfull => opens (Hub.openColl_full hfull), fun hroom =>
      ⟨fun r hr => opens (Hub.openColl_badDesc hroom hr), fun hcheck =>
      ⟨fun y hy => opens (Hub.openColl_portDown hroom hcheck hy),
        fun hports hst hused => opens (Hub.openColl_reused hroom hcheck hports hst hused),
        fun hports hst => opens (Hub.openColl_nearest hroom hcheck hports hst),
        fun hports hst hfresh => opens (Hub.openColl_stochastic hroom hcheck hports hst hfresh)⟩⟩⟩
  · refine ⟨fun hagain => serve (Hub.takeDesc_again hc hagain), fun hfirst hdiff => serve (Hub.takeDesc_differs hc hfirst hdiff),
      fun hfirst hsame hgood hmask => serve ((Hub.takeDesc_like hc hfirst hsame hgood).trans (if_neg ?_)),
      fun hfirst hsame hgood hmask => serve ((Hub.takeDesc_like hc hfirst hsame hgood).trans (if_pos ?_))⟩
    · rw [← hsame, Bool.not_eq_true]; exact hmask
    · rw [← hsame]; exact hmask

section
variable {h : Hub} {x : Nat} {b : Brick}

/-! ### An operand served at the intake (R152, R158) -/

theorem Hub.mortarOpnd_served (hnext : h.nextMortar x h.fab.inbox = some b) (hopnd : b.is .mortarOpnd = true) :
    h.mortarOpnd x = (h.dropItem x b).takeOpnd x b := by
  have hdesc : ¬b.is .mortarDesc = true := fun hdesc => absurd (Brick.code_unique hdesc hopnd) (by decide)
  simp only [Hub.mortarOpnd, hnext, hdesc, hopnd, if_true, Bool.false_eq_true, if_false]

theorem Hub.takeOpnd_unknown (hnone : h.coll? b.part.toNat (bits b.addr.toNat 43 32) = none) :
    h.takeOpnd x b = h.orphan x b :=
  if_pos (by simp only [Hub.isOrphan, hnone])

/-- An operand that none of the cases of R158 names is no orphan. -/
theorem Hub.isOrphan_fits {c : Coll} (hcoll : h.coll? b.part.toNat (bits b.addr.toNat 43 32) = some c)
    (hfrom : (Desc.of c.desc).contributors.contains x = true)
    (hedge : bits b.addr.toNat 30 0 % (Desc.of c.desc).inFmt.epb = 0) (hin : bits b.addr.toNat 30 0 < (Desc.of c.desc).count)
    (hnew : c.got.contains (x, bits b.addr.toNat 30 0) = false) (hvalue : b.addr.toNat.testBit 31 = false)
    (hlen : 256 - b.grout.toNat = (Desc.of c.desc).inFmt.dataLen ((Desc.of c.desc).chunkLen (bits b.addr.toNat 30 0))) :
    h.isOrphan x b = false := by
  simp only [Hub.isOrphan, hcoll, hfrom, hedge, hnew, hvalue, hlen, decide_eq_false (Nat.not_le.mpr hin), ne_eq,
    not_true_eq_false, decide_false, Bool.not_true, Bool.or_self]

/-- An operand in a chunk that is open (R158, R170). -/
def Coll.join (x off : Nat) (b : Brick) (c : Coll) : Coll :=
  { c with
    got := (x, off) :: c.got
    chunks := c.chunks.map fun k => if k.off == off then
      { k with ops := k.ops ++ [(x, b.data)], poison := k.poison || b.poison } else k }

/-- What a change of a key's collectives makes depends on the collectives of that key alone. -/
theorem Hub.updColl_congr {part id : Nat} {f g : Coll → Coll}
    (e : ∀ c ∈ h.mortar.colls, c.part = part → c.id = id → f c = g c) : h.updColl part id f = h.updColl part id g := by
  have hlist : (h.mortar.colls.map fun c => if c.part == part && c.id == id then f c else c) =
      h.mortar.colls.map fun c => if c.part == part && c.id == id then g c else c := by
    refine List.map_congr_left fun c hc => ?_
    split
    · next hkey =>
      obtain ⟨hpart, hid⟩ := Bool.and_eq_true_iff.mp hkey
      exact e c hc (eq_of_beq hpart) (eq_of_beq hid)
    · rfl
  simp only [Hub.updColl, hlist]

/-- An operand whose chunk is open, in every collective listed under its key, joins it. -/
theorem Hub.takeOpnd_joins (hfit : h.isOrphan x b = false)
    (hopen : ∀ c ∈ h.mortar.colls, c.part = b.part.toNat → c.id = bits b.addr.toNat 43 32 →
      (c.chunks.any (·.off == bits b.addr.toNat 30 0)) = true) :
    h.takeOpnd x b = h.updColl b.part.toNat (bits b.addr.toNat 43 32) (Coll.join x (bits b.addr.toNat 30 0) b) := by
  simp only [Hub.takeOpnd, hfit, Bool.false_eq_true, if_false]
  refine Hub.updColl_congr fun c hc hpart hid => ?_
  simp only [hopen c hc hpart hid, if_true, Coll.join]

end

/-! ### A chunk that may be complete (R154), and a collective's time-out (R160) -/

section
variable {d : Dev} {part id off : Nat} {c : Coll} {k : Chunk}

/-- A chunk that is open is delivered where it holds an operand of every contributor. -/
theorem Dev.chunkComplete_open (hcoll : d.hub.coll? part id = some c) (hchunk : c.chunks.find? (·.off == off) = some k) :
    d.chunkComplete part id off =
      if ((Desc.of c.desc).contributors.all fun y => k.ops.any (·.1 == y)) = true then d.deliver c k else d := by
  simp only [Dev.chunkComplete, hcoll, hchunk]

theorem Dev.chunkComplete_full (hcoll : d.hub.coll? part id = some c) (hchunk : c.chunks.find? (·.off == off) = some k)
    (hall : ∀ y ∈ (Desc.of c.desc).contributors, ∃ o ∈ k.ops, o.1 = y) : d.chunkComplete part id off = d.deliver c k :=
  (Dev.chunkComplete_open hcoll hchunk).trans (if_pos (by simpa using hall))

theorem Dev.chunkComplete_lacks (hcoll : d.hub.coll? part id = some c) (hchunk : c.chunks.find? (·.off == off) = some k)
    {y : Nat} (hy : y ∈ (Desc.of c.desc).contributors) (hlacks : ∀ o ∈ k.ops, o.1 ≠ y) : d.chunkComplete part id off = d := by
  refine (Dev.chunkComplete_open hcoll hchunk).trans (if_neg fun hall => ?_)
  obtain ⟨o, ho, hfrom⟩ := List.any_eq_true.mp (List.all_eq_true.mp hall y hy)
  exact hlacks o ho (eq_of_beq hfrom)

/-- Without RESULT_TO_HUB a delivery writes no tile (R155). -/
theorem Dev.deliver_mem (hregion : (Desc.of c.desc).toHub = false) : (d.deliver c k).mem = d.mem := by
  simp [Dev.deliver, hregion]

theorem Hub.collTimeout_open {h : Hub} (hcoll : h.coll? part id = some c) :
    h.collTimeout part id = h.endColl c 0x01 (h.stalledRank c) 0 := by
  simp only [Hub.collTimeout, hcoll]

end

/-! ### What holds of operands and chunks (R153, R154, R158, R160) -/

section
variable {s : State} {x part : Fin 8} {id off : Nat} {b : Brick} {c : Coll} {k : Chunk} (hup : s.dev.hub.up = true)
include hup

theorem exec_mortarOpnd_unknown (hnext : s.dev.hub.nextMortar x s.dev.hub.fab.inbox = some b) (hopnd : b.is .mortarOpnd = true)
    (hnone : (s.dev.hub.dropItem x b).coll? b.part.toNat (bits b.addr.toNat 43 32) = none) :
    exec (.mortarOpnd x) s = .next (s.hubMap fun _ => (s.dev.hub.dropItem x b).orphan x b) :=
  exec_onHub hup rfl ((Hub.mortarOpnd_served hnext hopnd).trans (Hub.takeOpnd_unknown hnone))

/-- With one collective listed under the operand's key, as the opening of R156 has it, an operand whose chunk is open joins it.
Without `hone` the claim fails (`not_operandsFillChunks`). -/
theorem exec_mortarOpnd_joins (hnext : s.dev.hub.nextMortar x s.dev.hub.fab.inbox = some b) (hopnd : b.is .mortarOpnd = true)
    (hcoll : (s.dev.hub.dropItem x b).coll? b.part.toNat (bits b.addr.toNat 43 32) = some c)
    (hone : ∀ c' ∈ s.dev.hub.mortar.colls, c'.part = b.part.toNat → c'.id = bits b.addr.toNat 43 32 → c' = c)
    (hfrom : (Desc.of c.desc).contributors.contains x.val = true)
    (hedge : bits b.addr.toNat 30 0 % (Desc.of c.desc).inFmt.epb = 0) (hin : bits b.addr.toNat 30 0 < (Desc.of c.desc).count)
    (hnew : c.got.contains (x.val, bits b.addr.toNat 30 0) = false) (hvalue : b.addr.toNat.testBit 31 = false)
    (hlen : 256 - b.grout.toNat = (Desc.of c.desc).inFmt.dataLen ((Desc.of c.desc).chunkLen (bits b.addr.toNat 30 0)))
    (hopen : (c.chunks.any (·.off == bits b.addr.toNat 30 0)) = true) :
    exec (.mortarOpnd x) s = .next (s.hubMap fun _ => (s.dev.hub.dropItem x b).updColl b.part.toNat (bits b.addr.toNat 43 32)
      (Coll.join x (bits b.addr.toNat 30 0) b)) := by
  have hfit := Hub.isOrphan_fits hcoll hfrom hedge hin hnew hvalue hlen
  refine exec_onHub hup rfl ((Hub.mortarOpnd_served hnext hopnd).trans (Hub.takeOpnd_joins hfit fun c' hc' hpart hid => ?_))
  exact hone c' hc' hpart hid ▸ hopen

theorem exec_chunkComplete_full (hcoll : s.dev.hub.coll? part id = some c) (hchunk : c.chunks.find? (·.off == off) = some k)
    (hall : ∀ y ∈ (Desc.of c.desc).contributors, ∃ o ∈ k.ops, o.1 = y) :
    exec (.chunkComplete part id off) s = .next (s.devMap (·.deliver c k)) :=
  exec_onBase hup rfl (Dev.chunkComplete_full hcoll hchunk hall)

theorem exec_chunkComplete_keepsMemories (hcoll : s.dev.hub.coll? part id = some c)
    (hchunk : c.chunks.find? (·.off == off) = some k)
    (hall : ∀ y ∈ (Desc.of c.desc).contributors, ∃ o ∈ k.ops, o.1 = y) (hregion : (Desc.of c.desc).toHub = false) :
    ∃ t, exec (.chunkComplete part id off) s = .next t ∧ t.dev.mem = s.dev.mem :=
  ⟨_, exec_chunkComplete_full hup hcoll hchunk hall, Dev.deliver_mem hregion⟩

theorem exec_chunkComplete_lacks (hcoll : s.dev.hub.coll? part id = some c) (hchunk : c.chunks.find? (·.off == off) = some k)
    {y : Nat} (hy : y ∈ (Desc.of c.desc).contributors) (hlacks : ∀ o ∈ k.ops, o.1 ≠ y) :
    exec (.chunkComplete part id off) s = .next s :=
  exec_onBase (g := fun d => d) hup rfl (Dev.chunkComplete_lacks hcoll hchunk hy hlacks)

theorem exec_collectiveTimeout_open (hcoll : s.dev.hub.coll? part id = some c) :
    exec (.collectiveTimeout part id) s = .next (s.hubMap fun h => h.endColl c 0x01 (h.stalledRank c) 0) :=
  exec_onHub hup rfl (Hub.collTimeout_open hcoll)

end

/-! ### A key listed twice -/

/-- An all-reduce of 64 FP32 elements of A0 alone. -/
def loneDesc : List Byte := [1, 1, 0, 0, 0, 0, 0, 0, 0, 0, 1, 0, 64]

/-- A0's operand of collective 0 in PT0, at element 0. -/
def loneOpnd : Brick := { typ := 0x11, vc := 2, dst := 0x98, payload := zeros 256 }

/-- That collective with the chunk at element 0 open. -/
def loneColl : Coll := { part := 0, id := 0, stream := 0, desc := loneDesc, arrived := 1, chunks := [{ off := 0, engine := 0 }] }

/-- A state in which the key is listed a second time, with no chunk open, and the operand waits at the intake. -/
def keyListedTwice : State := { dev := { hub := {
  up := true
  fab := { inbox := [{ unit := 0x98, port := 0, brick := loneOpnd }] }
  mortar := { colls := [loneColl, { loneColl with chunks := [] }] } } } }

/-- The number of open chunks of each listed collective. -/
def State.chunkCounts (s : State) : List Nat := s.dev.hub.mortar.colls.map (·.chunks.length)

/-- Refutes O28: in a state that lists the operand's key twice, with the chunk open in the first collective alone, the machine opens
the chunk in the second one too, while the statement has the second one's chunks stay as they are. What the statement says where
the key is listed once is `exec_mortarOpnd_joins`; its other clauses are the theorems beside it. -/
theorem not_operandsFillChunks : ¬ Obligations.OperandsFillChunks := by
  intro holds
  obtain ⟨hopnds, -⟩ := holds keyListedTwice 0 0 0 0 rfl
  have hnext : keyListedTwice.dev.hub.nextMortar 0 keyListedTwice.dev.hub.fab.inbox = some loneOpnd := by decide +kernel
  have hcoll : (keyListedTwice.dev.hub.dropItem 0 loneOpnd).coll? 0 0 = some loneColl := by decide +kernel
  have hlen : 256 - loneOpnd.grout.toNat = (Desc.of loneDesc).inFmt.dataLen ((Desc.of loneDesc).chunkLen 0) := by decide +kernel
  have hjoins := (hopnds loneOpnd hnext (by decide)).2 loneColl hcoll (by decide +kernel) (by decide +kernel) (by decide +kernel)
    rfl (by decide) hlen rfl
  have hmodel : exec (.mortarOpnd 0) keyListedTwice = .next (keyListedTwice.hubMap (·.mortarOpnd 0)) :=
    exec_onHub rfl rfl rfl
  have hsame := congrArg State.chunkCounts (Host.Outcome.next.inj (hmodel.symm.trans hjoins))
  have hopens : (keyListedTwice.hubMap (·.mortarOpnd 0)).chunkCounts = [1, 1] := by decide +kernel
  exact absurd (hopens.symm.trans hsame) (by decide +kernel)

end Sys2Proof.Machine
end

section
/-!
Proofs of the family of the token loop: the bricks at the sampler intake (R178 to R181, R201).
-/

open Sys2Proof Sys2Proof.Machine

namespace Sys2Proof.Machine

section
variable {d : Dev} {x : Nat} {i : InItem}

/-- The hub without a brick of its intake. -/
def Hub.without (h : Hub) (i : InItem) : Hub := { h with fab := { h.fab with inbox := h.fab.inbox.erase i } }

/-- The hub without that brick, its buffer's credit owed to the port. -/
def Hub.freed (h : Hub) (x : Nat) (i : InItem) : Hub := (h.without i).owe x i.brick.vc.toNat

/-- The brick served is the oldest of its port that can go on. -/
theorem Dev.logits_served (hgo : (d.lgGo [] d.hub.atSampler).find? (·.port == x) = some i) : d.logits x = d.takeLogits x i := by
  simp only [Dev.logits, hgo]

/-- Taking a brick changes neither the enables nor the failures of the samplers. -/
theorem Hub.without_smpsUp (h : Hub) (i : InItem) : (h.without i).smpsUp = h.smpsUp := rfl

/-- With no sampler up the brick is refused (R201). -/
theorem Dev.takeLogits_refused (hnone : d.hub.smpsUp = []) :
    d.takeLogits x i = d.hubMap fun h => (h.without i).refuseBrick x i.brick :=
  if_pos (List.isEmpty_iff.2 hnone)

/-! ### With a sampler up -/

variable (hsome : d.hub.smpsUp ≠ [])
include hsome

theorem Dev.takeLogits_up : d.takeLogits x i =
    if d.opens i.brick then
      match (d.hub.freed x i).pickSmp (d.slotsFor i.brick) with
      | some k => (d.hubMap (·.freed x i)).openStep x k i.brick
      | none => d
    else
      match (d.hub.freed x i).stepOf i.brick.stream.toNat with
      | some s =>
        if lgReserved i.brick || !(d.hub.freed x i).admits i.brick false ||
            badLogits (Prog.of s.prog) s.nodes.length s.got i.brick then
          d.hubMap fun h => (h.freed x i).orphanLogits x i.brick
        else d.hubMap fun h => (h.freed x i).addLogits x i.brick
      | none => d.hubMap fun h => (h.freed x i).orphanLogits x i.brick :=
  if_neg (mt List.isEmpty_iff.1 hsome)

/-- A brick that opens a step opens it on the sampler chosen (R178). -/
theorem Dev.takeLogits_opens {k : Nat} (hopens : d.opens i.brick = true)
    (hpick : (d.hub.freed x i).pickSmp (d.slotsFor i.brick) = some k) :
    d.takeLogits x i = (d.hubMap (·.freed x i)).openStep x k i.brick := by
  simp only [Dev.takeLogits_up hsome, hopens, if_true, hpick]

variable (hlater : d.opens i.brick = false)
include hlater

/-- A brick that fits the open step of its stream joins it (R179). -/
theorem Dev.takeLogits_joins {st : Step} (hstep : (d.hub.freed x i).stepOf i.brick.stream.toNat = some st)
    (hform : lgReserved i.brick = false) (hadmits : (d.hub.freed x i).admits i.brick false = true)
    (hfits : badLogits (Prog.of st.prog) st.nodes.length st.got i.brick = false) :
    d.takeLogits x i = d.hubMap fun h => (h.freed x i).addLogits x i.brick := by
  simp [Dev.takeLogits_up hsome, hlater, hstep, hform, hadmits, hfits]

/-- A brick of a stream without an open step that opens none is an orphan (R180). -/
theorem Dev.takeLogits_orphan (hstep : (d.hub.freed x i).stepOf i.brick.stream.toNat = none) :
    d.takeLogits x i = d.hubMap fun h => (h.freed x i).orphanLogits x i.brick := by
  simp [Dev.takeLogits_up hsome, hlater, hstep]

end

/-- Settles O30: the brick served is the one that the intake lets go on, and what becomes of it is read off the lemma about its
case. -/
theorem logitsEnterSteps : Obligations.LogitsEnterSteps := by
  intro s x i hup b taken freed hgo
  have serve {g : Dev → Dev} (e : s.dev.takeLogits x i = g s.dev) : exec (.logits x) s = .next (s.devMap g) :=
    exec_onBase hup rfl ((Dev.logits_served hgo).trans e)
  exact ⟨fun hnone => serve (Dev.takeLogits_refused hnone), fun hsome =>
    ⟨fun k hopens hpick => serve (Dev.takeLogits_opens hsome hopens hpick),
      fun st hlater hstep hform hadmits hfits => serve (Dev.takeLogits_joins hsome hlater hstep hform hadmits hfits),
      fun hlater hstep => serve (Dev.takeLogits_orphan hsome hlater hstep)⟩⟩

end Sys2Proof.Machine
end

section
/-!
Proofs of the family of the token loop: the end of a step (R179, R188, R197 to R199).
-/

open Sys2Proof Sys2Proof.Machine

namespace Sys2Proof.Machine

section
variable {d : Dev} {stream : Nat} {s : Step} (hstep : d.hub.stepOf stream = some s)
include hstep

/-! ### Steps that do not issue a token (R179, R198) -/

theorem Dev.tokenIssue_incomplete (hmissing : s.missing.isSome = true) : d.tokenIssue stream = d := by
  simp only [Dev.tokenIssue, hstep, hmissing, if_true]

theorem Dev.tokenIssue_poisoned (hfull : s.missing = none) (hpoison : s.poison = true) :
    d.tokenIssue stream = d.hubMap (·.failStep s 0x07 0) := by
  simp [Dev.tokenIssue, hstep, hfull, hpoison, Dev.hubMap]

theorem Hub.stepTimeout_incomplete {k : Nat} (hmissing : s.missing = some k) :
    d.hub.stepTimeout stream = d.hub.failStep s 0x01 k := by
  simp only [Hub.stepTimeout, hstep, hmissing]

end

/-! ### A step that holds the root set alone (R188, R192) -/

/-- The root set of a step without automaton. -/
def Dev.rootSet (d : Dev) (s : Step) : SetOut := d.targetSet s (Prog.of s.prog) 0 s.counts 0xFFFF

/-- The token of a step's first draw from a set: the best of the kept candidates, or the drawn one (R188). -/
def Step.tokenOf (s : Step) (set : SetOut) : Nat :=
  if (Prog.of s.prog).greedy then (set.kept.head?.map (·.tok)).getD 0
  else select (s.draw 0) (set.kept.map fun c => (c.tok, c.w))

section
variable {d : Dev} {s : Step} (hroot : s.nodes = [])
include hroot

theorem Step.paths_root : s.paths = [[]] := by
  simp [Step.paths, hroot, pathTo]

theorem Dev.nodeStates_root (hmask : (Prog.of s.prog).masked = false) : d.nodeStates s = [0xFFFF] := by
  simp [Dev.nodeStates, Step.paths_root hroot, hmask]

/-- The walk ends at the root: no node carries the token that is drawn there. -/
theorem walk_root (set : SetOut) (fuel : Nat) : walk (Prog.of s.prog) s [set] (fuel + 1) 0 0 = [(s.tokenOf set, 0)] := by
  simp [walk, Step.tokenOf, childWith, hroot]

end

section
variable {d : Dev} {stream : Nat} {s : Step} (hstep : d.hub.stepOf stream = some s) (hfull : s.missing = none)
  (hpoison : s.poison = false) (hspec : (Prog.of s.prog).spec = 0) (hmask : (Prog.of s.prog).masked = false)
  (hroot : s.nodes = [])
include hstep hfull hpoison hspec hmask hroot

/-- A step whose set leaves no token eligible ends with status 5 (R198). -/
theorem Dev.tokenIssue_noToken (hnone : (d.rootSet s).cand = []) : d.tokenIssue stream =
    d.hubMap fun h => h.endStep s (Prog.of s.prog).dest 5 0 (b2n (d.rootSet s).nan) 0xFFFF [] := by
  have hcand : (d.targetSet s (Prog.of s.prog) 0 s.counts 0xFFFF).cand = [] := hnone
  have hstate : d.hub.tokenState s = 0xFFFF := by simp [Hub.tokenState, hmask]
  simp [Dev.tokenIssue, hstep, hfull, hpoison, hspec, hmask, hroot, Dev.nodeStates_root hroot hmask, Step.paths_root hroot,
    hcand, hstate, Dev.hubMap, Dev.rootSet]

/-- Any other issues the token of its set; its count table and its automaton are not there to change (R197). -/
theorem Dev.tokenIssue_token (hpen : (Prog.of s.prog).penalty = false) (hsome : (d.rootSet s).cand ≠ []) : d.tokenIssue stream =
    d.hubMap fun h => (h.updStrm stream id).endStep s (Prog.of s.prog).dest 0 0 (b2n (d.rootSet s).nan) 0xFFFF
      [(s.tokenOf (d.rootSet s), 0)] := by
  have hcand : (d.targetSet s (Prog.of s.prog) 0 s.counts 0xFFFF).cand ≠ [] := hsome
  simp [Dev.tokenIssue, hstep, hfull, hpoison, hspec, hmask, hpen, hroot, Dev.nodeStates_root hroot hmask,
    Step.paths_root hroot, hcand, walk_root hroot]
  rfl

end

/-! ### What an issued token leaves (R197, R199) -/

section
variable {h : Hub} {s : Step} {dest detail flags aut : Nat} {toks : List (Nat × Nat)}

/-- The TOKEN payload of an issued step (R197). -/
def Step.payload (s : Step) (detail flags aut : Nat) (toks : List (Nat × Nat)) : List Byte :=
  tokenBytes 0 toks.length (toks.countP fun t => t.2 ≠ 0) (flags + 4 * b2n s.deferred) aut detail s.ctr.toNat toks

/-- The hub without an open step. -/
def Hub.closed (h : Hub) (s : Step) : Hub :=
  { h with smp := { h.smp with steps := h.smp.steps.filter (·.stream != s.stream) } }

/-- A stream's context after a step of it, where its counter is below its top. -/
def Strm.after (c : Strm) (payload : List Byte) : Strm :=
  { c with last := payload, step := c.step + 1, count := if c.st = .running then c.count + 1 else c.count }

/-- The TOKEN brick of a step that ends with OK. -/
def Step.tokenBrick (s : Step) (dest : Nat) (payload : List Byte) : Brick :=
  { mkBrick .token 1 s.part s.stream dest (0xA1 + s.smp) payload with poison := false }

/-- An end with OK closes the step, sends its TOKEN brick, moves the stream on, and counts the step and its accepted tokens. -/
theorem Hub.endStep_ok (hnext : (h.stream s.stream).step ≠ 0xFFFFFFFFFFFFFFFF) :
    h.endStep s dest 0 detail flags aut toks =
      let pl := s.payload detail flags aut toks
      ((((h.closed s).send dest (0xA1 + s.smp) (s.tokenBrick dest pl)).updStrm s.stream (·.after pl)).bump 0x700010).bump
        0x700030 (toks.countP fun t => t.2 ≠ 0) := by
  have hcount (b : Brick) : ((((h.closed s).send dest (0xA1 + s.smp) b).stream s.stream).step == 0xFFFFFFFFFFFFFFFF) = false := by
    rw [Hub.send_stream]
    exact beq_false_of_ne hnext
  simp only [Hub.closed] at hcount
  simp only [Hub.endStep, hcount, Bool.false_eq_true, if_false, if_true]
  rfl

section
variable (hnext : (h.stream s.stream).step ≠ 0xFFFFFFFFFFFFFFFF)
include hnext

theorem Hub.endStep_ok_steps : (h.endStep s dest 0 detail flags aut toks).smp.steps =
    h.smp.steps.filter (·.stream != s.stream) := by
  simp [Hub.endStep_ok hnext, Hub.closed]

theorem Hub.endStep_ok_stream : (h.endStep s dest 0 detail flags aut toks).stream s.stream =
    (h.stream s.stream).after (s.payload detail flags aut toks) := by
  rw [Hub.endStep_ok hnext, Hub.bump_stream, Hub.bump_stream, Hub.stream_updStrm, Hub.send_stream]
  rfl

theorem Hub.endStep_ok_reg : (h.endStep s dest 0 detail flags aut toks).reg = h.reg := by
  funext a
  rw [Hub.endStep_ok hnext, Hub.bump_reg, Hub.bump_reg, Hub.updStrm_reg, Hub.send_reg]
  rfl

end
end

/-- Settles O31: what the command answers is the operation's result for the step's case, and what an issued token leaves is
read off the end of the step. -/
theorem stepEndsWithToken : Obligations.StepEndsWithToken := by
  intro s stream st hup h p hstep
  refine ⟨fun hmissing => exec_onBase (g := id) hup rfl (Dev.tokenIssue_incomplete hstep hmissing),
    fun k hmissing => exec_onHub hup rfl (Hub.stepTimeout_incomplete hstep hmissing),
    fun hfull hpoison => exec_onBase hup rfl (Dev.tokenIssue_poisoned hstep hfull hpoison),
    fun hfull hpoison hspec hmask hpen hroot => ⟨fun hnone => ?_, fun hsome hnext hkey => ?_⟩⟩
  · exact exec_onBase hup rfl (Dev.tokenIssue_noToken hstep hfull hpoison hspec hmask hroot hnone)
  · have hnext' : ((s.dev.hub.updStrm stream.toNat id).stream st.stream).step ≠ 0xFFFFFFFFFFFFFFFF := by
      rwa [hkey, Hub.stream_updStrm, id, ← hkey]
    refine ⟨_, exec_onBase hup rfl (Dev.tokenIssue_token hstep hfull hpoison hspec hmask hroot hpen hsome), rfl,
      State.hubMap_mem .., State.hubMap_otp .., ?_⟩
    simp only [State.devMap_dev, Dev.hubMap_hub, Hub.endStep_ok_steps hnext', Hub.endStep_ok_stream hnext',
      Hub.endStep_ok_reg hnext']
    refine ⟨rfl, rfl, congrArg (· + 1) ?_, rfl⟩
    rw [hkey, Hub.stream_updStrm, id]

end Sys2Proof.Machine
end

section
/-!
The way of a hod request from its command to its service: the encoding of its arguments (R388), its header (R387), and intake
(R386, R390).
-/

open Sys2Proof Sys2Proof.Machine

namespace Sys2Proof.Machine

/-! ### Bytes -/

@[simp] theorem leBytes_length (n v : Nat) : (leBytes n v).length = n := by
  induction n generalizing v with
  | zero => rfl
  | succ n ih => simp [leBytes, ih]

theorem leNat_leBytes {n v : Nat} (hv : v < 256 ^ n) : leNat (leBytes n v) = v := by
  induction n generalizing v with
  | zero =>
    have : v < 1 := hv
    simp only [leBytes, leNat]
    omega
  | succ n ih =>
    have hrest : v / 256 < 256 ^ n := Nat.div_lt_of_lt_mul (by rwa [Nat.pow_succ'] at hv)
    simp only [leBytes, leNat, ih hrest, BitVec.toNat_ofNat]
    omega

@[simp] theorem padTo_length (n : Nat) (bs : List Byte) : (padTo n bs).length = n := by
  simp [padTo, zeros]
  omega

/-- Padding appends. -/
theorem prefix_padTo {n : Nat} {bs : List Byte} (h : bs.length ≤ n) : bs <+: padTo n bs :=
  ⟨zeros (n - bs.length), by simp [padTo, List.take_of_length_le h]⟩

/-- Bytes that stand in a string behind others are read there. -/
theorem slice_of_prefix {pre bs b : List Byte} (h : pre ++ bs <+: b) : slice b pre.length bs.length = bs := by
  obtain ⟨rest, rfl⟩ := h
  simp [slice, padTo, zeros]

theorem leNat_slice_of_prefix {pre b : List Byte} {w v : Nat} (h : pre ++ leBytes w v <+: b) (hv : v < 256 ^ w) :
    leNat (slice b pre.length w) = v := by
  have hslice := slice_of_prefix h
  rw [leBytes_length] at hslice
  rw [hslice, leNat_leBytes hv]

theorem le_alignUp {w : Nat} (hw : 0 < w) (o : Nat) : o ≤ alignUp o w := by
  have := Nat.div_add_mod (o + w - 1) w
  have := Nat.mod_lt (o + w - 1) hw
  have := Nat.mul_comm w ((o + w - 1) / w)
  unfold alignUp
  omega

/-! ### One field (R388) -/

section
variable {acc b : List Byte}

theorem prefix_align {w : Nat} (hw : 0 < w) (acc : List Byte) : acc <+: padTo (alignUp acc.length w) acc :=
  prefix_padTo (le_alignUp hw _)

/-- The entries of a list, each at its alignment. -/
def putWords (acc : List Byte) (vs : List Nat) : List Byte :=
  vs.foldl (fun b v => padTo (alignUp b.length 4) b ++ leBytes 4 v) acc

theorem prefix_putWords (vs : List Nat) (acc : List Byte) : acc <+: putWords acc vs := by
  induction vs generalizing acc with
  | nil => exact List.prefix_rfl
  | cons v vs ih => exact ((prefix_align (w := 4) (by decide) acc).trans (List.prefix_append ..)).trans (ih _)

/-- Encoded entries are read back, and end where their reading ends. -/
theorem read_putWords {vs : List Nat} (hvs : ∀ v ∈ vs, v < 2 ^ 32) (h : putWords acc vs <+: b) :
    (List.range vs.length).map (fun i => leNat (slice b (alignUp acc.length 4 + 4 * i) 4)) = vs ∧
      alignUp (putWords acc vs).length 4 = alignUp acc.length 4 + 4 * vs.length := by
  induction vs generalizing acc with
  | nil => simp [putWords]
  | cons v vs ih =>
    have hlen : (padTo (alignUp acc.length 4) acc ++ leBytes 4 v).length = alignUp acc.length 4 + 4 := by simp
    have halign : alignUp (alignUp acc.length 4 + 4) 4 = alignUp acc.length 4 + 4 := by unfold alignUp; omega
    obtain ⟨hread, hend⟩ := ih (acc := padTo (alignUp acc.length 4) acc ++ leBytes 4 v)
      (fun v hv => hvs v (List.mem_cons_of_mem _ hv)) h
    have hfirst : leNat (slice b (alignUp acc.length 4) 4) = v := by
      have hv := leNat_slice_of_prefix ((prefix_putWords vs _).trans h) (hvs v List.mem_cons_self)
      rwa [padTo_length] at hv
    rw [hlen, halign] at hread hend
    refine ⟨?_, ?_⟩
    · rw [List.length_cons, List.range_succ_eq_map, List.map_cons, List.map_map, Nat.mul_zero, Nat.add_zero, hfirst]
      refine congrArg (v :: ·) (Eq.trans (List.map_congr_left fun i _ => ?_) hread)
      simp only [Function.comp, Nat.succ_eq_add_one]
      congr 2
      omega
    · rw [List.length_cons]
      exact hend.trans (by omega)

theorem Arg.prefix_put (a : Arg) (acc : List Byte) (ha : ∀ w vs, a = .list w vs → w = 4) : acc <+: a.put acc := by
  have padded {w : Nat} (hw : 0 < w) (t : List Byte) : acc <+: padTo (alignUp acc.length w) acc ++ t :=
    (prefix_align hw acc).trans (List.prefix_append ..)
  cases a with
  | u8 v => exact List.prefix_append ..
  | u16 v | u32 v | u64 v | record bs => exact padded (by decide) _
  | list w vs =>
    obtain rfl := ha w vs rfl
    exact (padded (by decide) _).trans (prefix_putWords ..)
  | block bs => exact (padded (by decide) _).trans ((prefix_align (by decide) _).trans (List.prefix_append ..))

/-- A number at its alignment is read back. -/
theorem leNat_slice_aligned {w v : Nat} (h : padTo (alignUp acc.length w) acc ++ leBytes w v <+: b) (hv : v < 256 ^ w) :
    leNat (slice b (alignUp acc.length w) w) = v := by
  have hread := leNat_slice_of_prefix h hv
  rwa [padTo_length] at hread

theorem Fld.read_u8 {v : Nat} (hv : v < 2 ^ 8) (h : Arg.put acc (.u8 v) <+: b) :
    Fld.u8.read b acc.length = ([.u8 v], (Arg.put acc (.u8 v)).length) := by
  simp [Fld.read, Arg.put, leNat_slice_of_prefix (w := 1) h hv]

theorem Fld.read_u16 {v : Nat} (hv : v < 2 ^ 16) (h : Arg.put acc (.u16 v) <+: b) :
    Fld.u16.read b acc.length = ([.u16 v], (Arg.put acc (.u16 v)).length) := by
  simp [Fld.read, Arg.put, leNat_slice_aligned h hv]

theorem Fld.read_u32 {v : Nat} (hv : v < 2 ^ 32) (h : Arg.put acc (.u32 v) <+: b) :
    Fld.u32.read b acc.length = ([.u32 v], (Arg.put acc (.u32 v)).length) := by
  simp [Fld.read, Arg.put, leNat_slice_aligned h hv]

theorem Fld.read_u64 {v : Nat} (hv : v < 2 ^ 64) (h : Arg.put acc (.u64 v) <+: b) :
    Fld.u64.read b acc.length = ([.u64 v], (Arg.put acc (.u64 v)).length) := by
  simp [Fld.read, Arg.put, leNat_slice_aligned h hv]

theorem Fld.read_block {bs : List Byte} (hlen : bs.length ≤ 4080) (h : Arg.put acc (.block bs) <+: b) :
    Fld.block.read b acc.length = ([.block bs], (Arg.put acc (.block bs)).length) := by
  have hcount : leNat (slice b (alignUp acc.length 2) 2) = bs.length :=
    leNat_slice_aligned (((prefix_align (by decide) _).trans (List.prefix_append ..)).trans h) (by omega)
  have hbytes := slice_of_prefix h
  simp only [padTo_length, List.length_append, leBytes_length] at hbytes
  simp [Fld.read, Arg.put, hcount, Nat.min_eq_left hlen, hbytes]

theorem Fld.read_record {bs : List Byte} (h : Arg.put acc (.record bs) <+: b) :
    (Fld.record bs.length).read b acc.length = ([.record bs], (Arg.put acc (.record bs)).length) := by
  have hpre : padTo (alignUp acc.length 4) acc ++ bs <+: b :=
    ((List.prefix_append_right_inj _).2 (prefix_align (by decide) bs)).trans h
  have hbytes := slice_of_prefix hpre
  rw [padTo_length] at hbytes
  simp [Fld.read, Arg.put, hbytes]

/-- A list of words is read back, and its reading ends where its encoding does, up to the alignment of the whole. -/
theorem Fld.read_list {vs : List Nat} (hlen : vs.length ≤ 4080) (hvs : ∀ v ∈ vs, v < 2 ^ 32)
    (h : Arg.put acc (.list 4 vs) <+: b) :
    ((Fld.list 4).read b acc.length).1 = [.list 4 vs] ∧
      alignUp ((Fld.list 4).read b acc.length).2 4 = alignUp (Arg.put acc (.list 4 vs)).length 4 := by
  have hcount : leNat (slice b (alignUp acc.length 2) 2) = vs.length :=
    leNat_slice_aligned ((prefix_putWords ..).trans h) (by omega)
  obtain ⟨hread, hend⟩ := read_putWords hvs (acc := padTo (alignUp acc.length 2) acc ++ leBytes 2 vs.length) h
  simp only [padTo_length, List.length_append, leBytes_length] at hread hend
  have hwhole : alignUp (alignUp (alignUp acc.length 2 + 2) 4 + 4 * vs.length) 4 =
      alignUp (alignUp acc.length 2 + 2) 4 + 4 * vs.length := by unfold alignUp; omega
  refine ⟨by simp [Fld.read, hcount, Nat.min_eq_left hlen, hread], ?_⟩
  simp only [Fld.read, hcount, hwhole]
  exact hend.symm

/-- An optional field is read back with its flag. -/
theorem Fld.read_opt4 {f v : Nat} (hf : f < 2 ^ 8) (hv : v < 2 ^ 32) (h : Arg.put (Arg.put acc (.u8 f)) (.u32 v) <+: b) :
    (Fld.opt 4).read b acc.length = ([.u8 f, .u32 v], (Arg.put (Arg.put acc (.u8 f)) (.u32 v)).length) := by
  have hflag : leNat (slice b acc.length 1) = f := leNat_slice_of_prefix (((Arg.u32 v).prefix_put _ nofun).trans h) hf
  have hvalue : leNat (slice b (alignUp (acc ++ leBytes 1 f).length 4) 4) = v := leNat_slice_aligned h hv
  rw [List.length_append, leBytes_length] at hvalue
  simp [Fld.read, Arg.put, Arg.num, hflag, hvalue]

theorem Fld.read_opt8 {f v : Nat} (hf : f < 2 ^ 8) (hv : v < 2 ^ 64) (h : Arg.put (Arg.put acc (.u8 f)) (.u64 v) <+: b) :
    (Fld.opt 8).read b acc.length = ([.u8 f, .u64 v], (Arg.put (Arg.put acc (.u8 f)) (.u64 v)).length) := by
  have hflag : leNat (slice b acc.length 1) = f := leNat_slice_of_prefix (((Arg.u64 v).prefix_put _ nofun).trans h) hf
  have hvalue : leNat (slice b (alignUp (acc ++ leBytes 1 f).length 8) 8) = v := leNat_slice_aligned h hv
  rw [List.length_append, leBytes_length] at hvalue
  simp [Fld.read, Arg.put, Arg.num, hflag, hvalue]

end

/-! ### All fields (R388) -/

/-- The next field of a payload joins those read so far. -/
def readNext (b : List Byte) (a : List Arg × Nat) (f : Fld) : List Arg × Nat := (a.1 ++ (f.read b a.2).1, (f.read b a.2).2)

theorem readArgs_eq (fs : List Fld) (b : List Byte) :
    readArgs fs b = ((fs.foldl (readNext b) ([], 0)).1, alignUp (fs.foldl (readNext b) ([], 0)).2 4) := rfl

/-- The fields of `fs`, read behind `acc`, are `args`, and their reading ends where their encoding does, up to the alignment of
the whole. -/
def ReadsAs (b acc : List Byte) (fs : List Fld) (args : List Arg) : Prop :=
  ∀ pre : List Arg, (fs.foldl (readNext b) (pre, acc.length)).1 = pre ++ args ∧
    alignUp (fs.foldl (readNext b) (pre, acc.length)).2 4 = alignUp (args.foldl Arg.put acc).length 4

section
variable {b acc : List Byte} {f : Fld} {fs : List Fld} {args : List Arg}

theorem ReadsAs.cons {a : Arg} (hf : f.read b acc.length = ([a], (a.put acc).length)) (h : ReadsAs b (a.put acc) fs args) :
    ReadsAs b acc (f :: fs) (a :: args) := by
  intro pre
  simpa [readNext, hf] using h (pre ++ [a])

theorem ReadsAs.opt {a a' : Arg} (hf : f.read b acc.length = ([a, a'], (a'.put (a.put acc)).length))
    (h : ReadsAs b (a'.put (a.put acc)) fs args) : ReadsAs b acc (f :: fs) (a :: a' :: args) := by
  intro pre
  simpa [readNext, hf] using h (pre ++ [a, a'])

theorem Fits.width {w : Nat} {vs : List Nat} (h : Fits fs args) (hmem : Arg.list w vs ∈ args) : w = 4 := by
  fun_induction Fits fs args <;> simp_all

theorem Fits.prefix_puts (h : Fits fs args) (acc : List Byte) : acc <+: args.foldl Arg.put acc := by
  have hwidth : ∀ w vs, Arg.list w vs ∈ args → w = 4 := fun w vs => h.width
  clear h
  induction args generalizing acc with
  | nil => exact List.prefix_rfl
  | cons a args ih =>
    exact (a.prefix_put acc fun w vs e => hwidth w vs (e ▸ List.mem_cons_self)).trans
      (ih _ fun w vs hmem => hwidth w vs (List.mem_cons_of_mem _ hmem))

/-- Arguments that have the fields of a row are read back from their encoding. -/
theorem Fits.readsAs (h : Fits fs args) (hb : args.foldl Arg.put acc <+: b) : ReadsAs b acc fs args := by
  fun_induction Fits fs args generalizing acc with
  | case1 => exact fun pre => ⟨(List.append_nil pre).symm, rfl⟩
  | case2 fs v as ih => exact (ih h.2 hb).cons (Fld.read_u8 h.1 ((h.2.prefix_puts _).trans hb))
  | case3 fs v as ih => exact (ih h.2 hb).cons (Fld.read_u16 h.1 ((h.2.prefix_puts _).trans hb))
  | case4 fs v as ih => exact (ih h.2 hb).cons (Fld.read_u32 h.1 ((h.2.prefix_puts _).trans hb))
  | case5 fs v as ih => exact (ih h.2 hb).cons (Fld.read_u64 h.1 ((h.2.prefix_puts _).trans hb))
  | case6 w w' vs =>
    obtain ⟨rfl, rfl, hlen, hvs⟩ := h
    obtain ⟨hread, hend⟩ := Fld.read_list hlen hvs hb
    exact fun pre => ⟨congrArg (pre ++ ·) hread, hend⟩
  | case7 fs bs as ih => exact (ih h.2 hb).cons (Fld.read_block h.1 ((h.2.prefix_puts _).trans hb))
  | case8 n fs bs as ih =>
    obtain ⟨rfl, h⟩ := h
    exact (ih h hb).cons (Fld.read_record ((h.prefix_puts _).trans hb))
  | case9 fs f v as ih =>
    obtain ⟨hf, hv, h⟩ := h
    exact (ih h hb).opt (Fld.read_opt4 hf hv ((h.prefix_puts _).trans hb))
  | case10 fs f v as ih =>
    obtain ⟨hf, hv, h⟩ := h
    exact (ih h hb).opt (Fld.read_opt8 hf hv ((h.prefix_puts _).trans hb))
  | case11 => exact h.elim

theorem readArgs_encodeArgs (h : Fits fs args) : readArgs fs (encodeArgs args) = (args, (encodeArgs args).length) := by
  obtain ⟨hread, hend⟩ := h.readsAs (acc := []) (prefix_align (w := 4) (by decide) _) []
  rw [readArgs_eq]
  refine Prod.ext hread (hend.trans ?_)
  simp [encodeArgs]

end

/-! ### The header (R387) -/

theorem hodHead_length (op tag len flags txn status detail : Nat) : (hodHead op tag len flags txn status detail).length = 16 := rfl

theorem hodMsg_length (c : Call) (op : Nat) (args : List Arg) : (hodMsg c op args).length = 16 + (encodeArgs args).length := by
  simp [hodMsg, hodHead_length]

/-- The number that `w` bytes of a message from offset `o` spell. -/
def msgField (msg : List Byte) (o w : Nat) : Nat := leNat (slice msg o w)

section
variable {op tag len flags txn : Nat} {body : List Byte}

/-- The header of a request. -/
def reqHead (op tag len flags txn : Nat) : List Byte := hodHead op tag len flags txn 0 0

theorem reqHead_op (h : op < 65536) : msgField (reqHead op tag len flags txn ++ body) 0 2 = op :=
  leNat_slice_of_prefix (pre := []) ⟨_, rfl⟩ h

theorem reqHead_tag (h : tag < 65536) : msgField (reqHead op tag len flags txn ++ body) 2 2 = tag :=
  leNat_slice_of_prefix (pre := leBytes 2 op) ⟨_, rfl⟩ h

theorem reqHead_len (h : len < 65536) : msgField (reqHead op tag len flags txn ++ body) 4 2 = len :=
  leNat_slice_of_prefix (pre := leBytes 2 op ++ leBytes 2 tag) ⟨_, rfl⟩ h

theorem reqHead_flags (h : flags < 256) : msgField (reqHead op tag len flags txn ++ body) 6 1 = flags :=
  leNat_slice_of_prefix (pre := leBytes 2 op ++ leBytes 2 tag ++ leBytes 2 len) ⟨_, rfl⟩ h

theorem reqHead_version : msgField (reqHead op tag len flags txn ++ body) 7 1 = 1 :=
  leNat_slice_of_prefix (v := 1) (pre := leBytes 2 op ++ leBytes 2 tag ++ leBytes 2 len ++ leBytes 1 flags) ⟨_, rfl⟩ (by decide)

theorem reqHead_txn (h : txn < 65536) : msgField (reqHead op tag len flags txn ++ body) 8 2 = txn :=
  leNat_slice_of_prefix (pre := leBytes 2 op ++ leBytes 2 tag ++ leBytes 2 len ++ leBytes 1 flags ++ leBytes 1 1) ⟨_, rfl⟩ h

theorem reqHead_reserved : msgField (reqHead op tag len flags txn ++ body) 10 6 = 0 :=
  leNat_slice_of_prefix (v := 0)
    (pre := leBytes 2 op ++ leBytes 2 tag ++ leBytes 2 len ++ leBytes 1 flags ++ leBytes 1 1 ++ leBytes 2 txn) ⟨_, rfl⟩ (by decide)

end

/-! ### Intake (R386, R390) -/

/-- The hub with a message in a requester's window. -/
def Hub.loaded (h : Hub) (who : Requester) (msg : List Byte) : Hub :=
  h.updHod who.id fun k => { k with buf := k.buf.writeN 0 msg }

/-- The hub once a message is in the requester's window and rung; the rack chain has no window. -/
def Hub.rung (h : Hub) (c : Call) (msg : List Byte) : Hub :=
  if c.who = .rack then h
  else (h.loaded c.who msg).updHod c.who.id fun k => { k with phase := .pending, code := 0, tag := c.tag }

/-- The path that a command's request takes. -/
def Call.path (c : Call) (h : Hub) : Path := if c.who = .rack then .frame h.rack.mgrPos else .window

theorem Mem.readN_add (m : Mem) (a n k : Nat) : m.readN a (n + k) = m.readN a n ++ m.readN (a + n) k := by
  induction n generalizing a with
  | zero => simp [Mem.readN]
  | succ n ih =>
    have hnext : n + 1 + k = (n + k) + 1 := by omega
    have hfrom : a + 1 + n = a + (n + 1) := by omega
    simp only [hnext, Mem.readN, ih, List.cons_append, hfrom]

@[simp] theorem Mem.readN_length (m : Mem) (a n : Nat) : (m.readN a n).length = n := by
  induction n generalizing a with
  | zero => rfl
  | succ n ih => simp [Mem.readN, ih]

/-- A message written to a buffer is read back in its two parts. -/
theorem Mem.readN_message (m : Mem) {msg hd body : List Byte} {n : Nat} (hmsg : msg = hd ++ body) (hn : hd.length = n) :
    (m.writeN 0 msg).readN 0 n = hd ∧ (m.writeN 0 msg).readN n body.length = body := by
  subst hmsg hn
  have hwhole := m.readN_writeN 0 (hd ++ body)
  rw [List.length_append, Mem.readN_add, Nat.zero_add] at hwhole
  exact List.append_inj hwhole (Mem.readN_length ..)

theorem Hub.loaded_locked (h : Hub) (who : Requester) (msg : List Byte) :
    ((h.loaded who msg).hod who.id).locked = (h.hod who.id).locked := by
  rw [Hub.loaded, Hub.hod_updHod]
  rfl

theorem Hub.loaded_buf (h : Hub) (who : Requester) (msg : List Byte) :
    ((h.loaded who msg).hod who.id).buf = (h.hod who.id).buf.writeN 0 msg := by
  rw [Hub.loaded, Hub.hod_updHod]

theorem Hub.bufWrite_free {h : Hub} {who : Requester} {bs : List Byte} (hfree : (h.hod who.id).locked = false)
    (hfits : bs.length ≤ 4096) : h.bufWrite who 0 bs = h.loaded who bs := by
  simp [Hub.bufWrite, Hub.loaded, hfree, List.take_of_length_le hfits]

theorem Dev.hubMap_hubMap (d : Dev) (f g : Hub → Hub) : (d.hubMap f).hubMap g = d.hubMap fun h => g (f h) := rfl

/-- A free window whose buffer holds a message is rung with it (R386). -/
theorem Dev.ring_message {d : Dev} {who : Requester} {hd body : List Byte} (hwho : who ≠ .rack)
    (hfree : (d.hub.hod who.id).locked = false) (hhead : (d.hub.hod who.id).buf.readN 0 16 = hd)
    (hbody : (d.hub.hod who.id).buf.readN 16 body.length = body) (hlen : msgField hd 4 2 = body.length)
    (hfits : body.length ≤ 4080) :
    d.ring who = (d.hubMap (·.updHod who.id fun k => { k with phase := .pending, code := 0, tag := msgField hd 2 2 })).intake who
      .window (hd ++ body) := by
  simp only [msgField] at hlen
  simp [Dev.ring, hwho, hfree, hhead, hlen, Nat.min_eq_right hfits, hbody, msgField]

section
variable {d : Dev} {c : Call} {op : Nat} {args : List Arg}

/-- A request whose window is free is rung with its message. -/
theorem Dev.submit_rings (htag : c.tag < 65536) (hlen : (encodeArgs args).length ≤ 4080)
    (hfree : (d.hub.hod c.who.id).locked = false) :
    d.submit c op args = (d.hubMap (·.rung c (hodMsg c op args))).intake c.who (c.path d.hub) (hodMsg c op args) := by
  by_cases hrack : c.who = .rack
  · simp only [Dev.submit, hodMsg, Call.path, Hub.rung, hrack, if_true]
    rfl
  · have hfits : (hodMsg c op args).length ≤ 4096 := by rw [hodMsg_length]; omega
    have hmsg : hodMsg c op args = reqHead op c.tag (encodeArgs args).length (b2n c.idem) c.txn ++ encodeArgs args := rfl
    have hcount : msgField (reqHead op c.tag (encodeArgs args).length (b2n c.idem) c.txn ++ []) 4 2 = (encodeArgs args).length :=
      reqHead_len (by omega)
    have hname : msgField (reqHead op c.tag (encodeArgs args).length (b2n c.idem) c.txn ++ []) 2 2 = c.tag := reqHead_tag htag
    obtain ⟨hhead, hbody⟩ := (d.hub.hod c.who.id).buf.readN_message hmsg (hodHead_length ..)
    rw [← Hub.loaded_buf] at hhead hbody
    rw [List.append_nil] at hcount hname
    have hring := Dev.ring_message (d := d.hubMap (·.loaded c.who (hodMsg c op args))) hrack
      ((Hub.loaded_locked ..).trans hfree) hhead hbody hcount hlen
    rw [hname, ← hmsg, Dev.hubMap_hubMap] at hring
    simp only [Dev.submit, Call.path, Hub.rung, hrack, if_false]
    rw [← hring]
    exact congrArg (fun h : Hub => ({ d with hub := h } : Dev).ring c.who) (Hub.bufWrite_free hfree hfits)

/-- A request that repeats none is not screened out, where its requester has none outstanding (R383, R392). -/
theorem Hub.screen_fresh {h : Hub} {q : HodReq} (hout : (h.hod q.who.id).out = none) (hstale : (h.hod q.who.id).stale = [])
    (htags : ∀ e ∈ (h.hod q.who.id).tags, e.tag ≠ q.tag) : h.screen q = none := by
  have hfind : (h.hod q.who.id).tags.find? (·.tag == q.tag) = none := by simpa using htags
  have hold : (if q.idem then none else (h.hod q.who.id).tags.find? (·.tag == q.tag)) = none := by rw [hfind, ite_self]
  simp [Hub.screen, hold, hout, hstale]

/-- A request in progress: counted, outstanding, and shown as running. -/
def Hub.accepted (h : Hub) (q : HodReq) : Hub :=
  ((h.bump 0xF01010).updHod q.who.id fun k => { k with out := some q }).showPhase q .running

/-- A request that keeps to its row goes on to its service (R390). -/
theorem Dev.intakeLate_serves {q : HodReq} {r : OpRow} {payload : List Byte} {len : Nat} (hrow : findOp q.op = some r)
    (hread : readArgs r.args payload = (args, len)) (hro : q.idem = true → r.ro = true)
    (hright : d.hub.entitled r { q with args } = true) (htxn : d.hub.txnIdOk r { q with args } = true) :
    d.intakeLate q payload len = (d.hubMap fun h => (h.updHod q.who.id fun k =>
      { k with out := some { q with args } }).showPhase { q with args } .running).serve { q with args } := by
  have hidem : ¬(q.idem && !r.ro) = true := by simpa using hro
  simp [Dev.intakeLate, hrow, hread, hidem, hright, htxn]

/-- A well-formed request that repeats none comes to the checks of its row (R390). -/
theorem Dev.intake_late {h : Hub} (hop : op < 65536) (htag : c.tag < 65536) (hlen : (encodeArgs args).length ≤ 4080)
    (htxn : c.txn = 0) (hout : (d.hub.hod c.who.id).out = none) (hstale : (d.hub.hod c.who.id).stale = [])
    (htags : ∀ e ∈ (d.hub.hod c.who.id).tags, e.tag ≠ c.tag) :
    d.intake c.who (c.path h) (hodMsg c op args) =
      (d.hubMap (·.bump 0xF01010)).intakeLate { hodReq h c op args with args := [] } (encodeArgs args)
        (encodeArgs args).length := by
  have hflags : b2n c.idem ≤ 1 ∧ (b2n c.idem).testBit 0 = c.idem := by cases c.idem <;> decide
  have fop : leNat (slice (hodMsg c op args) 0 2) = op := reqHead_op hop
  have ftag : leNat (slice (hodMsg c op args) 2 2) = c.tag := reqHead_tag htag
  have flen : leNat (slice (hodMsg c op args) 4 2) = (encodeArgs args).length := reqHead_len (by omega)
  have fflags : leNat (slice (hodMsg c op args) 6 1) = b2n c.idem := reqHead_flags (by omega)
  have fversion : leNat (slice (hodMsg c op args) 7 1) = 1 := reqHead_version
  have ftxn : leNat (slice (hodMsg c op args) 8 2) = c.txn := reqHead_txn (by omega)
  have freserved : leNat (slice (hodMsg c op args) 10 6) = 0 := reqHead_reserved
  have fbody : slice (hodMsg c op args) 16 (encodeArgs args).length = encodeArgs args :=
    slice_of_prefix (pre := reqHead op c.tag (encodeArgs args).length (b2n c.idem) c.txn) List.prefix_rfl
  have hform : ¬(4080 < (encodeArgs args).length ∨ 1 < b2n c.idem) := by omega
  have hscreen (crc : Nat) : (d.hub.bump 0xF01010).screen
      { who := c.who, path := c.path h, op, tag := c.tag, txn := c.txn, idem := c.idem, crc } = none :=
    Hub.screen_fresh hout hstale htags
  unfold Dev.intake
  simp only [fop, ftag, flen, fflags, fversion, ftxn, freserved, hodMsg_length, Nat.min_eq_left hlen, fbody, hflags.2]
  simp only [ne_eq, not_true_eq_false, if_false, BEq.rfl, Bool.or_true, Bool.not_true, Bool.false_eq_true, or_self, or_false,
    hform, Dev.hubMap_hub, hscreen]
  rfl

/-- Ringing a window leaves what the requester has outstanding and what it has had answered. -/
theorem Hub.hod_rung (h : Hub) (c : Call) (msg : List Byte) :
    ((h.rung c msg).hod c.who.id).out = (h.hod c.who.id).out ∧ ((h.rung c msg).hod c.who.id).stale = (h.hod c.who.id).stale ∧
      ((h.rung c msg).hod c.who.id).tags = (h.hod c.who.id).tags := by
  unfold Hub.rung Hub.loaded
  split
  · exact ⟨rfl, rfl, rfl⟩
  · simp only [Hub.hod_updHod, and_self]

/-- It leaves the levels of the debug port and the core. -/
theorem Hub.rung_rest (h : Hub) (c : Call) (msg : List Byte) : (h.rung c msg).sec = h.sec ∧ (h.rung c msg).fw = h.fw := by
  unfold Hub.rung Hub.loaded
  split <;> exact ⟨rfl, rfl⟩

theorem Hub.entitled_congr {h h' : Hub} (hsec : h.sec = h'.sec) (r : OpRow) (q : HodReq) : h.entitled r q = h'.entitled r q := by
  simp only [Hub.entitled, hsec]

theorem hodTaken_eq (d : Dev) (c : Call) (op : Nat) (args : List Arg) (h : Hub) (msg : List Byte) :
    hodTaken d (hodReq h c op args) msg = (d.hubMap (·.rung c msg)).hubMap (·.accepted (hodReq h c op args)) := rfl

/-- Accepting a request leaves the core. -/
theorem Hub.accepted_fw (h : Hub) (q : HodReq) : (h.accepted q).fw = h.fw := by
  unfold Hub.accepted Hub.showPhase
  split <;> rfl

/-- A request whose requester is ready is executed (R386, R390). -/
theorem Dev.submit_executes {s : State} {r : OpRow} (hop : op < 65536) (hrow : findOp op = some r) (hready : HodReady s c r args)
    (htxn : c.txn = 0) : s.dev.submit c op args =
      let q := hodReq s.dev.hub c op args
      (hodTaken s.dev q (hodMsg c op args)).execute q := by
  obtain ⟨-, hcore, htag, -, hfree, -, hout, hstale, htags, hfits, hlen, hro, hright, -⟩ := hready
  obtain ⟨hsec, hfw⟩ := s.dev.hub.rung_rest c (hodMsg c op args)
  obtain ⟨hout', hstale', htags'⟩ := s.dev.hub.hod_rung c (hodMsg c op args)
  have hname : r.op = op := by simpa using List.find?_some hrow
  rw [hname] at hright
  rw [Dev.submit_rings htag hlen hfree,
    Dev.intake_late hop htag hlen htxn (hout'.trans hout) (hstale'.trans hstale) (htags' ▸ htags),
    Dev.intakeLate_serves hrow (readArgs_encodeArgs hfits) hro ((Hub.entitled_congr hsec _ _).trans hright)
      (by simp [Hub.txnIdOk, hodReq, htxn])]
  have hup : (hodTaken s.dev (hodReq s.dev.hub c op args) (hodMsg c op args)).hub.fw.phase = .up := by
    rw [hodTaken_eq, Dev.hubMap_hub, Dev.hubMap_hub, Hub.accepted_fw, hfw, hcore]
  change (hodTaken s.dev (hodReq s.dev.hub c op args) (hodMsg c op args)).serve _ = _
  simp only [Dev.serve, hup]
  rfl

/-- Outside a transaction, a request that takes effect at a boundary is staged for it (R396). -/
theorem Dev.execute_boundary {q : HodReq} {r : OpRow} (hrow : findOp q.op = some r) (hbnd : r.bnd = true) (htxn : q.txn = 0) :
    d.execute q = d.hubMap (·.conclude q false .boundary) := by
  simp only [Dev.execute, hrow, htxn, hbnd]
  split <;> simp

/-- The request of a command that is a hod request of the row `op` is staged, where the row takes effect at a boundary. What
remains to be shown of the command is the effect. -/
theorem hodStages_of_effect {i : Instr} {k : Dev → HodReq → Prop}
    (hexec : ∀ s, exec i s = onBase (fun d : Dev => d.submit c op args) s) (hop : op < 65536)
    (hbnd : (findOp op).all (·.bnd) = true) (heffect : ∀ (d : Dev) (q : HodReq), q.op = op → q.args = args → k d q) :
    HodStages c i op args k := by
  refine ⟨fun s r hrow hready htxn => ?_, heffect⟩
  have hup : s.dev.hub.up = true := hready.1
  have hrow' : r.bnd = true := by simpa [hrow] using hbnd
  exact exec_onBase hup (hexec s) ((Dev.submit_executes hop hrow hready htxn).trans (Dev.execute_boundary hrow hrow' htxn))

end

end Sys2Proof.Machine
end

section
/-!
Proofs of the family of the token loop: the samplers' self-tests (R201 to R203, R544).
-/

open Sys2Proof Sys2Proof.Machine

namespace Sys2Proof.Machine

/-- The hub with the rotation of the sampler tests at `r`. -/
def Hub.rotation (h : Hub) (r : Rotation) : Hub := { h with smp := { h.smp with st := r } }

section
variable {h : Hub}

/-! ### The rotation with both samplers up (R201, R203) -/

theorem Hub.smpsUp_both (h0 : h.smpUp 0 = true) (h1 : h.smpUp 1 = true) : h.smpsUp = [0, 1] := by
  simp [Hub.smpsUp, h0, h1]

/-- A test falls due after ST_INTERVAL courses, unless the hub throttles itself (R544). -/
theorem Hub.smpStStart_due (hon : h.bitAt 0x700000 2 = true) (hphase : h.smp.st.phase = .none)
    (hdue : h.fld 0x700000 31 16 ≤ h.smp.st.count) (h0 : h.smpUp 0 = true) (h1 : h.smpUp 1 = true)
    (hthrot : h.therm.throt = false) :
    h.smpStStart = h.rotation { h.smp.st with phase := .draining, count := 0 } :=
  if_pos ⟨hon, hphase, hdue, congrArg List.length (Hub.smpsUp_both h0 h1), hthrot⟩

theorem Hub.smpDrained_empty (hphase : h.smp.st.phase = .draining) (hempty : h.smp.open_ h.smp.st.unit = 0) :
    h.smpDrained = h.rotation { h.smp.st with phase := .testing } := if_pos ⟨hphase, hempty⟩

theorem Hub.smpDrainTimeout_skips (hphase : h.smp.st.phase = .draining) (hopen : h.smp.open_ h.smp.st.unit ≠ 0) :
    h.smpDrainTimeout = h.rotation
      { h.smp.st with phase := .none, skips := sat 255 (h.smp.st.skips + 1), unit := (h.smp.st.unit + 1) % 2 } :=
  if_pos ⟨hphase, hopen⟩

/-- A rotation's test ends and passes the turn on; a failure fails the sampler tested. -/
theorem Hub.smpStDone_tested (hphase : h.smp.st.phase = .testing) (ok : Bool) :
    h.smpStDone ok =
      let k := h.rotation { h.smp.st with phase := .none, unit := (h.smp.st.unit + 1) % 2 }
      if ok then k else k.smpFail h.smp.st.unit := if_pos hphase

/-! ### The slices with one sampler up (R202) -/

/-- Fifty slices make a test, and one that passes starts the count anew. -/
theorem Hub.smpStDone_slices (hphase : h.smp.st.phase ≠ .testing) (hfifty : 50 ≤ h.smp.slices) :
    h.smpStDone true = { h with smp := { h.smp with slices := 0 } } :=
  (if_neg hphase).trans (if_pos hfifty)

theorem Hub.sliceStart_runs {k : Nat} (hone : h.smpsUp = [k]) (hon : h.bitAt 0x700000 2 = true)
    (hout : h.smp.inSlice = false) (hfirst : h.smp.sliced = false) (hempty : h.smp.open_ k = 0) (hmore : h.smp.slices < 50)
    (hthrot : h.therm.throt = false) :
    h.sliceStart = { h with smp := { h.smp with inSlice := true, sliced := true, hodsHeld := 0 } } := by
  simp [Hub.sliceStart, hone, hon, hout, hfirst, hempty, hmore, hthrot]

/-- The streams whose openers wait at the intake, read in one pass. -/
theorem Dev.openersHeld_eq (d : Dev) : d.openersHeld =
    (d.hub.fab.inbox.filter fun i => i.unit == 0xA0 && d.opens i.brick).map (·.brick.stream.toNat) := by
  simp only [Dev.openersHeld, Hub.atSampler, List.filter_filter, Bool.and_comm]

/-- At the end of a slice the steps that waited on it are deferred ones, and their bricks and the hods that waited go on. -/
theorem Dev.endSlice_inSlice {d : Dev} (hin : d.hub.smp.inSlice = true) :
    d.endSlice = ((d.hubMap fun h => { h with smp := { h.smp with
      inSlice := false, slices := h.smp.slices + 1, hodsHeld := 0
      waiting := h.smp.waiting ++ d.openersHeld } }).drainLogits).hubMap (·.endDeferred) := by
  simp only [Dev.endSlice, Dev.sliceEnd, hin, if_true]

end

/-! ### What the hods of the samplers do (R204) -/

section
variable {d : Dev} {q : HodReq}

theorem smpProgWriteHod_writes {t o : Nat} {bs : List Byte} (hright : d.hub.tileRight q t = true)
    (hfits : d.hub.tileFits t = true) (halign : o % 256 = 0) (hin : o + 64 ≤ 2097152) (hlen : bs.length = 64)
    (hgood : d.hub.progCheck (d.hub.ownerReg t) bs = none)
    (hidle : ∀ x ∈ d.hub.smp.steps, overlaps t o 64 x.tile x.ofs 64 = false) :
    smpProgWriteHod q t o bs d = (d.tileWrite t o bs, .ok []) := by
  have hbusy : d.hub.smp.steps.any (fun s => overlaps t o 64 s.tile s.ofs 64) = false := by
    simpa using hidle
  simp [smpProgWriteHod, hright, hfits, halign, Nat.not_lt.2 hin, hlen, hgood, hbusy]

theorem smpTableWriteHod_writes {t o : Nat} {bs : List Byte} (hright : d.hub.tileRight q t = true)
    (hfits : d.hub.tileFits t = true) (halign : o % 256 = 0) (hin : o + bs.length ≤ 2097152) (hlo : 256 ≤ bs.length)
    (hhi : bs.length ≤ 3840) (hidle : ∀ x ∈ d.hub.smp.steps, x.part = d.hub.ownerReg t →
      ∀ r ∈ d.stepRanges x, overlaps t o bs.length r.1 r.2.1 r.2.2 = false) :
    smpTableWriteHod q t o bs d = (d.tileWrite t o bs, .ok []) := by
  have hbusy : d.hub.smp.steps.any (fun s => s.part == d.hub.ownerReg t &&
      (d.stepRanges s).any fun r => overlaps t o bs.length r.1 r.2.1 r.2.2) = false := by
    simpa using hidle
  simp [smpTableWriteHod, hright, hfits, halign, Nat.not_lt.2 hin, Nat.not_lt.2 hlo, Nat.not_lt.2 hhi, hbusy]

/-- A seed given with a binding starts the stream's draws anew (R194). -/
theorem smpBindHod_binds {s t o : Nat} (hstream : d.hub.streamRight q s = none) (hright : d.hub.tileRight q t = true)
    (htile : d.hub.hubTileOk ((d.hub.streamPart s).getD 0) t = true) (halign : o % 256 = 0) (hin : o + 64 ≤ 2097152)
    (seed : Option (BitVec 64)) :
    smpBindHod q s t o (seed.map BitVec.toNat) d = (d.hubMap fun h => h.updStrm s fun c => { c with
      prog := some (t, o), seed := seed.getD c.seed, step := if seed.isSome then 0 else c.step }, .ok []) := by
  cases seed <;> simp [smpBindHod, hstream, hright, htile, halign, Nat.not_lt.2 hin]

theorem smpLastHod_answers {s : Nat} (hstream : d.hub.streamRight q s = none) :
    smpLastHod q s d = (d, .ok [.block (d.hub.stream s).last, .u64 (d.hub.stream s).step.toNat]) := by
  simp only [smpLastHod, hstream]

/-- The device with a stream's automaton state set, where one is given. -/
def Dev.withAut (d : Dev) (s : Nat) (aut : Option Nat) : Dev := d.hubMap fun h => match aut with
  | some a => h.updStrm s fun c => { c with aut := a }
  | none => h

theorem Dev.withAut_tableOk (d : Dev) (s : Nat) (aut : Option Nat) (part t o n : Nat) :
    (d.withAut s aut).hub.tableOk part t o n = d.hub.tableOk part t o n := by
  cases aut <;> rfl

/-- The program that a stream is bound to. -/
def Dev.progOf (d : Dev) (s : Nat) : Option Prog := (d.boundProg ((d.hub.streamPart s).getD 0) s).map fun b => Prog.of b.2.2

/-- A program counts tokens, and its count table lies in a tile of the partition (R187). -/
def Dev.counting (d : Dev) (s : Nat) (p : Prog) : Prop :=
  p.penalty = true ∧ p.cntSize ≤ 2 ∧ d.hub.tableOk ((d.hub.streamPart s).getD 0) p.cntTile p.cntOfs (4 * p.cntLen) = true

section
variable {s : Nat} {aut : Option Nat} {toks : List Nat} (hstream : d.hub.streamRight q s = none)
  (hstate : ∀ a, aut = some a → a ≠ 0xFFFF → ∃ p, d.progOf s = some p ∧ p.stateIn a = true)
include hstream hstate

theorem smpStateSetHod_unbound (hprog : d.progOf s = none) (clear : Bool) :
    smpStateSetHod q s aut clear toks d = (d.withAut s aut, .ok []) := by
  have hnone : ((d.boundProg ((d.hub.streamPart s).getD 0) s).map fun b => Prog.of b.2.2) = none := hprog
  cases aut with
  | none => simp only [smpStateSetHod, hstream, hnone, Bool.false_eq_true, if_false, Dev.withAut]
  | some a =>
    have ha : a = 0xFFFF := by
      refine Decidable.byContradiction fun hne => ?_
      obtain ⟨p, hp, -⟩ := hstate a rfl hne
      rw [hprog] at hp
      cases hp
    simp [smpStateSetHod, hstream, hnone, ha, Dev.withAut]

variable {p : Prog} (hprog : d.progOf s = some p)
include hprog

/-- A request that names a state of the program sets it, and counts tokens in where the program counts. -/
theorem smpStateSetHod_bound (clear : Bool) : smpStateSetHod q s aut clear toks d =
    let d' := d.withAut s aut
    if p.penalty && decide (p.cntSize ≤ 2) && d'.hub.tableOk ((d.hub.streamPart s).getD 0) p.cntTile p.cntOfs (4 * p.cntLen) then
      let old := if clear then List.replicate p.cntLen 0
        else wordsOf 4 (d'.tileRead p.cntTile p.cntOfs (4 * p.cntLen)) p.cntLen
      let new := toks.foldl cntAdd old
      (if clear then d'.tileWrite p.cntTile p.cntOfs (wordsBytes new) else d'.countWrite p.cntTile p.cntOfs old new, .ok [])
    else (d', .ok []) := by
  have hsome : ((d.boundProg ((d.hub.streamPart s).getD 0) s).map fun b => Prog.of b.2.2) = some p := hprog
  cases aut with
  | none =>
    simp only [smpStateSetHod, hstream, hsome, Bool.false_eq_true, if_false]
    rfl
  | some a =>
    have ha : ¬(decide (a ≠ 0xFFFF) && !p.stateIn a) = true := by
      simp only [Bool.and_eq_true, decide_eq_true_eq, Bool.not_eq_true', not_and, Bool.not_eq_false]
      intro hne
      obtain ⟨p', hp', hin⟩ := hstate a rfl hne
      cases hprog.symm.trans hp'
      exact hin
    simp only [smpStateSetHod, hstream, hsome, if_neg ha]
    rfl

theorem smpStateSetHod_uncounted (hcount : ¬d.counting s p) (clear : Bool) :
    smpStateSetHod q s aut clear toks d = (d.withAut s aut, .ok []) := by
  refine (smpStateSetHod_bound hstream hstate hprog clear).trans (if_neg ?_)
  simpa [Dev.counting, Dev.withAut_tableOk] using hcount

variable (hcount : d.counting s p)
include hcount

theorem smpStateSetHod_cleared : smpStateSetHod q s aut true toks d = ((d.withAut s aut).tileWrite p.cntTile p.cntOfs
    (wordsBytes (toks.foldl cntAdd (List.replicate p.cntLen 0))), .ok []) := by
  refine (smpStateSetHod_bound hstream hstate hprog true).trans (if_pos ?_)
  simpa [Dev.counting, Dev.withAut_tableOk, and_assoc] using hcount

theorem smpStateSetHod_counted : smpStateSetHod q s aut false toks d =
    let old := wordsOf 4 ((d.withAut s aut).tileRead p.cntTile p.cntOfs (4 * p.cntLen)) p.cntLen
    ((d.withAut s aut).countWrite p.cntTile p.cntOfs old (toks.foldl cntAdd old), .ok []) := by
  refine (smpStateSetHod_bound hstream hstate hprog false).trans (if_pos ?_)
  simpa [Dev.counting, Dev.withAut_tableOk, and_assoc] using hcount

end
end

/-! ### From the opcodes to the hods (R399) -/

section
variable {d : Dev} {q : HodReq}

/-- An optional argument is the one that the request was given (R388). -/
theorem HodReq.opt_eq {i : Nat} {o : Option Nat} (hflag : q.num i = b2n o.isSome) (hvalue : q.num (i + 1) = o.getD 0) :
    q.opt i = o := by
  cases o <;> simp [HodReq.opt, hflag, hvalue, b2n]

theorem HodReq.choice_le {α : Type} {i field : Nat} {a : α} {k : Bool → α × HodOut} (h : q.num i ≤ 1) :
    q.choice i field a k = k (q.num i == 1) := if_neg (Nat.not_lt.2 h)

theorem b2n_le_one (b : Bool) : b2n b ≤ 1 := by cases b <;> decide

theorem Dev.effect_smpProgWrite {t o : Nat} {bs : List Byte} (hop : q.op = 0x0701)
    (hargs : q.args = [.u16 t, .u32 o, .record bs]) : d.effect q = smpProgWriteHod q t o bs d := by
  simp [Dev.effect, Dev.effectSampler, hop, HodReq.num, HodReq.bytes, hargs]

theorem Dev.effect_smpBind {s t o : Nat} {seed : Option Nat} (hop : q.op = 0x0702)
    (hargs : q.args = [.u16 s, .u16 t, .u32 o, .u8 (b2n seed.isSome), .u64 (seed.getD 0)]) :
    d.effect q = smpBindHod q s t o seed d := by
  have hopt : q.opt 3 = seed := HodReq.opt_eq (by simp [HodReq.num, hargs]) (by simp [HodReq.num, hargs])
  have hflag : q.num 3 ≤ 1 := by simpa [HodReq.num, hargs] using b2n_le_one _
  have hnums : q.num 0 = s ∧ q.num 1 = t ∧ q.num 2 = o := by simp [HodReq.num, hargs]
  simp [Dev.effect, Dev.effectSampler, hop, HodReq.choice_le hflag, hopt, hnums]

theorem Dev.effect_smpStateSet {s clear : Nat} {aut : Option Nat} {toks : List Nat} (hop : q.op = 0x0703)
    (hargs : q.args = [.u16 s, .u8 (b2n aut.isSome), .u32 (aut.getD 0), .u8 clear, .list 4 toks]) (hclear : clear ≤ 1)
    (hlen : toks.length ≤ 512) : d.effect q = smpStateSetHod q s aut (clear == 1) toks d := by
  have hopt : q.opt 1 = aut := HodReq.opt_eq (by simp [HodReq.num, hargs]) (by simp [HodReq.num, hargs])
  have hflag : q.num 1 ≤ 1 := by simpa [HodReq.num, hargs] using b2n_le_one _
  have hnums : q.num 0 = s ∧ q.num 3 = clear := by simp [HodReq.num, hargs]
  have hentries : q.entries 4 = toks := by simp [HodReq.entries, hargs]
  have hchoice : q.num 3 ≤ 1 := hnums.2 ▸ hclear
  simp [Dev.effect, Dev.effectSampler, hop, HodReq.choice_le hflag, HodReq.choice_le hchoice, hopt, hnums, hentries,
    Nat.not_lt.2 hlen]

theorem Dev.effect_smpLast {s : Nat} (hop : q.op = 0x0704) (hargs : q.args = [.u16 s]) : d.effect q = smpLastHod q s d := by
  simp [Dev.effect, Dev.effectSampler, hop, HodReq.num, hargs]

theorem Dev.effect_smpTableWrite {t o : Nat} {bs : List Byte} (hop : q.op = 0x0705)
    (hargs : q.args = [.u16 t, .u32 o, .block bs]) : d.effect q = smpTableWriteHod q t o bs d := by
  simp [Dev.effect, Dev.effectSampler, hop, HodReq.num, HodReq.bytes, hargs]

end

/-- The hods of the samplers are staged for the boundary, and there do what R204 says. -/
theorem samplerHodsAct : SamplerHodsAct := by
  intro c
  refine ⟨fun tile offset record => ?_, fun stream tile offset seed => ?_, fun stream aut clear tokens => ?_, fun stream => ?_,
    fun tile offset bytes => ?_⟩
  · refine hodStages_of_effect (fun _ => rfl) (by decide) (by decide) fun d q hop hargs => ?_
    intro hright hfits halign hin hlen hgood hidle
    exact (Dev.effect_smpProgWrite hop hargs).trans (smpProgWriteHod_writes hright hfits halign hin hlen hgood hidle)
  · refine hodStages_of_effect (fun _ => rfl) (by decide) (by decide) fun d q hop hargs => ?_
    intro hstream hright htile halign hin
    have hbind := (Dev.effect_smpBind (d := d) (seed := seed.map BitVec.toNat) hop (by rw [hargs, Option.isSome_map])).trans
      (smpBindHod_binds hstream hright htile halign hin seed)
    exact ⟨fun v hv => by simpa [hv] using hbind, fun hv => by simpa [hv] using hbind⟩
  · refine hodStages_of_effect (fun _ => rfl) (by decide) (by decide) fun d q hop hargs => ?_
    intro s toks p d' hstream hclear hlen hstate
    have hset := Dev.effect_smpStateSet (d := d) (aut := aut.map BitVec.toNat) hop (by rw [hargs, Option.isSome_map]) hclear
      (by rwa [List.length_map])
    have hstate' : ∀ a, aut.map BitVec.toNat = some a → a ≠ 0xFFFF → ∃ x, d.progOf s = some x ∧ x.stateIn a = true := by
      intro a ha hne
      obtain ⟨w, hw, rfl⟩ := Option.map_eq_some_iff.1 ha
      exact hstate w hw hne
    have hd' : d' = d.withAut s (aut.map BitVec.toNat) := by cases aut <;> rfl
    clear_value d'
    subst hd'
    refine ⟨fun hp => hset.trans (smpStateSetHod_unbound hstream hstate' hp _), fun x hx => ⟨fun hcount =>
      hset.trans (smpStateSetHod_uncounted hstream hstate' hx hcount _), fun hcount hone => ?_, fun hcount hzero => ?_⟩⟩
    · rw [hone] at hset
      exact hset.trans (smpStateSetHod_cleared hstream hstate' hx hcount)
    · rw [hzero] at hset
      exact hset.trans (smpStateSetHod_counted hstream hstate' hx hcount)
  · refine hodStages_of_effect (fun _ => rfl) (by decide) (by decide) fun d q hop hargs hstream => ?_
    exact (Dev.effect_smpLast hop hargs).trans (smpLastHod_answers hstream)
  · refine hodStages_of_effect (fun _ => rfl) (by decide) (by decide) fun d q hop hargs => ?_
    intro hright hfits halign hin hlo hhi hidle
    exact (Dev.effect_smpTableWrite hop hargs).trans (smpTableWriteHod_writes hright hfits halign hin hlo hhi hidle)

/-- Settles O32: each command of the self-tests is the operation that its row names, and what that operation does in each case is
read off the lemma about it; the hods are `samplerHodsAct`. -/
theorem samplerSelfTests : Obligations.SamplerSelfTests := by
  refine ⟨fun s hup => ?_, samplerHodsAct⟩
  intro h m set
  refine ⟨fun hon hphase hdue h0 h1 hthrot => exec_onHub hup rfl (Hub.smpStStart_due hon hphase hdue h0 h1 hthrot),
    fun hphase hempty => exec_onHub hup rfl (Hub.smpDrained_empty hphase hempty),
    fun hphase hopen => exec_onHub hup rfl (Hub.smpDrainTimeout_skips hphase hopen),
    fun hphase => exec_onHub hup rfl (Hub.smpStDone_tested hphase true),
    fun hphase => ⟨_, exec_onHub (g := (·.smpStDone false)) hup rfl rfl, rfl,
      State.hubMap_congr (Hub.smpStDone_tested hphase false)⟩,
    fun hphase hfifty => exec_onHub hup rfl (Hub.smpStDone_slices hphase hfifty),
    fun k hone hon hout hfirst hempty hmore hthrot =>
      exec_onHub hup rfl (Hub.sliceStart_runs hone hon hout hfirst hempty hmore hthrot),
    fun hin => exec_onBase hup rfl ((Dev.endSlice_inSlice hin).trans ?_)⟩
  rw [Dev.openersHeld_eq]
  rfl

end Sys2Proof.Machine
end

section
/-!
Proofs of the family of the streams: the dispatch of a queue's head and the end of a quantum (R216, R218, R219, R223, R224).
-/

open Sys2Proof Sys2Proof.Machine

namespace Sys2Proof.Machine

section
variable {h : Hub} {q : Nat}

/-! ### Which queue may dispatch (R218, R219) -/

/-- A hot context needs no slot (R210). -/
theorem Hub.makeHot_hot {st : Nat} (hhot : (h.stream st).hot = true) : h.makeHot st = some h := if_pos hhot

theorem Hub.dispatchable_throughput {st : Nat} (hlat : h.queueLat q = false) (hen : h.queueEn q = true)
    (hjob : h.jobRunning (h.queuePart q) = true) (hstages : h.stagesUp q = true) (hhead : (h.queue q).head? = some st)
    (hhot : (h.stream st).hot = true) (hroom : (h.runningOn q).length ≤ h.fld (queueCfg q) 15 8) :
    h.dispatchable q = true := by
  simp [Hub.dispatchable, hlat, hen, hjob, hstages, hhead, Hub.makeHot_hot hhot, Nat.lt_succ_iff.2 hroom]

/-- A throughput queue waits while a latency queue can dispatch. -/
theorem Hub.mayDispatch_throughput (hlat : h.queueLat q = false) (hready : h.dispatchable q = true)
    (hnone : ∀ k, k < 64 → h.queueLat k = true → h.dispatchable k = false) : h.mayDispatch q = true := by
  simpa [Hub.mayDispatch, hlat, hready] using hnone

theorem Hub.mayDispatch_latency (hlat : h.queueLat q = true) : h.mayDispatch q = h.latMay q := if_pos hlat

theorem Hub.mayDispatch_undispatchable (hnot : h.dispatchable q = false) : h.mayDispatch q = false := by
  simp [Hub.mayDispatch, Hub.latMay, Hub.turnAll, hnot]

theorem Hub.dispatch_may (hmay : h.mayDispatch q = true) : h.dispatch q = h.dispatchHead q none := if_pos hmay

theorem Hub.dispatch_mayNot (hnot : h.mayDispatch q = false) : h.dispatch q = h :=
  if_neg (Bool.eq_false_iff.1 hnot)

/-! ### What a dispatch of a hot head does (R221, R223, R224) -/

/-- Without PREFETCH no head is made hot ahead of its dispatch (R211). -/
theorem Hub.prefetch_off (hoff : h.bitAt 0x800004 0 = false) : h.prefetch = h := if_neg (Bool.eq_false_iff.1 hoff)

/-- The hub with a stream RUNNING on a queue under the next dispatch number, and no longer waiting in it. -/
def Hub.runHead (h : Hub) (q st : Nat) : Hub :=
  ({ h with str := { h.str with dseq := h.str.dseq + 1, ready := h.str.ready.upd [] q (fun l => l.erase st) } } : Hub).updStrm st
    fun c => { c with st := .running, reason := 0, onQueue := q, dseq := h.str.dseq + 1, count := 0, acks := 0 }

/-- DISPATCH of a throughput stream, sent to an accelerator as the queue is configured in `h`. -/
def Hub.dispatchMsg (h : Hub) (q st n : Nat) (user : List Byte) (g : Hub) (x : Nat) : Hub :=
  g.streamMsg x st (h.queuePart q) 0x01 0 q 0 0 (h.quantum q) n user

/-- DISPATCH sent to each of a list of accelerators. -/
def Hub.tellDispatch (h : Hub) (q st n : Nat) (user : List Byte) (xs : List Nat) : Hub :=
  xs.foldl (h.dispatchMsg q st n user) h

section
variable {st n : Nat} {user : List Byte} {g : Hub}

theorem Hub.dispatchMsg_regs (x : Nat) : (h.dispatchMsg q st n user g x).regs = g.regs := by
  simp only [Hub.dispatchMsg, Hub.streamMsg, Hub.send_regs]

theorem Hub.dispatchMsg_congr (hregs : g.regs = h.regs) : g.dispatchMsg q st n user = h.dispatchMsg q st n user := by
  have hpart : g.queuePart q = h.queuePart q := Hub.fld_congr hregs ..
  have hquantum : g.quantum q = h.quantum q := Hub.fld_congr hregs ..
  funext k x
  simp only [Hub.dispatchMsg, hpart, hquantum]

/-- Sending leaves the configuration alone, so that each message names what stood there before the first. -/
theorem Hub.foldl_dispatchMsg (xs : List Nat) (hregs : g.regs = h.regs) :
    xs.foldl (fun g x => g.dispatchMsg q st n user g x) g = xs.foldl (h.dispatchMsg q st n user) g := by
  induction xs generalizing g with
  | nil => simp only [List.foldl_nil]
  | cons x xs ih =>
    simp only [List.foldl_cons, Hub.dispatchMsg_congr hregs]
    exact ih ((Hub.dispatchMsg_regs x).trans hregs)

theorem Hub.tellDispatch_regs (st n : Nat) (user : List Byte) (xs : List Nat) : (h.tellDispatch q st n user xs).regs = h.regs := by
  have hfold : ∀ g : Hub, (xs.foldl (h.dispatchMsg q st n user) g).regs = g.regs := by
    induction xs with
    | nil => exact fun _ => rfl
    | cons x xs ih => exact fun g => (ih _).trans (Hub.dispatchMsg_regs x)
  exact hfold h

end

theorem Hub.countSwitch_regs (now cold : Bool) : (h.countSwitch q now cold).regs = h.regs := by
  unfold Hub.countSwitch
  split
  · rfl
  · split <;> rfl

theorem Hub.countSwitch_stream (now cold : Bool) (s : Nat) : (h.countSwitch q now cold).stream s = h.stream s := by
  unfold Hub.countSwitch
  split
  · rfl
  · split <;> rfl

theorem Hub.countSwitch_none (howing : h.owing q = none) (cold : Bool) : h.countSwitch q false cold = h := by
  simp [Hub.countSwitch, howing]

theorem Hub.countSwitch_some {k : Nat} (howing : h.owing q = some k) (cold : Bool) : h.countSwitch q false cold =
    (({ h with str := { h.str with owed := h.str.owed.upd 0 k (· - 1) } } : Hub).bump 0x800010).bump 0x800018 (b2n cold) := by
  simp [Hub.countSwitch, howing]

theorem Hub.runHead_owing (st : Nat) : (h.runHead q st).owing q = h.owing q := rfl

theorem Hub.runHead_stream_user (st : Nat) : ((h.runHead q st).stream st).user = (h.stream st).user := by
  simp only [Hub.runHead, Hub.stream_updStrm]
  rfl

/-- The hot head of a throughput queue runs, the switch is counted, and each stage is told (R223). -/
theorem Hub.dispatchHead_throughput {st : Nat} (hlat : h.queueLat q = false) (hhead : (h.queue q).head? = some st)
    (hhot : (h.stream st).hot = true) (hoff : h.bitAt 0x800004 0 = false) :
    h.dispatchHead q none = ((h.runHead q st).countSwitch q false false).tellDispatch q st (h.str.dseq + 1) (h.stream st).user
      (onesBelow 8 (h.queueStages q)) := by
  have hcold : h.coldIn (h.queuePart q) st = false := by simp [Hub.coldIn, hhot]
  have hregs : ((h.runHead q st).countSwitch q false false).regs = h.regs := Hub.countSwitch_regs ..
  have hstages : ((h.runHead q st).countSwitch q false false).queueStages q = h.queueStages q := Hub.fld_congr hregs ..
  have huser : (((h.runHead q st).countSwitch q false false).stream st).user = (h.stream st).user :=
    (congrArg Strm.user (Hub.countSwitch_stream ..)).trans (Hub.runHead_stream_user st)
  have hprefetch := Hub.prefetch_off ((Hub.bitAt_congr ((Hub.tellDispatch_regs (q := q) st (h.str.dseq + 1) (h.stream st).user
    (onesBelow 8 (h.queueStages q))).trans hregs) 0x800004 0).trans hoff)
  refine Eq.trans ?_ hprefetch
  rw [Hub.tellDispatch, ← Hub.foldl_dispatchMsg _ rfl]
  simp only [Hub.dispatchHead, hhead, hcold, hlat, Hub.makeHot_hot hhot, Bool.false_and, Bool.false_eq_true, if_false,
    Option.getD_some, Option.isSome_none, ← hstages, ← huser]
  rfl

/-! ### The end of a quantum (R219) -/

theorem Hub.streamWaits_own (hq : q < 64) (hen : h.queueEn q = true) (hne : h.queue q ≠ []) : h.streamWaits q = true := by
  simp only [Hub.streamWaits, List.any_eq_true, List.mem_range]
  exact ⟨q, hq, by simpa [hen] using hne⟩

/-- A stream of the throughput class yields to its own queue alone. -/
theorem Hub.streamWaits_empty (hlat : h.queueLat q = false) (hempty : h.queue q = []) : h.streamWaits q = false := by
  simp only [Hub.streamWaits, hlat, Bool.false_and, Bool.or_false, List.any_eq_false]
  intro k _
  by_cases hk : k = q <;> simp [hk, hempty]

section
variable {s : Nat} (hrun : (h.stream s).st = .running) (hset : h.quantum (h.stream s).onQueue ≠ 0)
  (hdue : h.quantum (h.stream s).onQueue ≤ (h.stream s).count)
include hrun hset hdue

theorem Hub.quantumEnd_yields (hwaits : h.streamWaits (h.stream s).onQueue = true) :
    h.quantumEnd s = (h.enterReady s).switchFrom s (h.stream s).onQueue (some 0x04) :=
  (if_pos ⟨hrun, hset, hdue⟩).trans (if_pos hwaits)

theorem Hub.quantumEnd_restarts (hnone : h.streamWaits (h.stream s).onQueue = false) :
    h.quantumEnd s = h.updStrm s fun c => { c with count := 0 } :=
  (if_pos ⟨hrun, hset, hdue⟩).trans (if_neg (Bool.eq_false_iff.1 hnone))

end

theorem Hub.quantumEnd_early {s : Nat} (hearly : (h.stream s).count < h.quantum (h.stream s).onQueue) : h.quantumEnd s = h :=
  if_neg fun ⟨_, _, hdue⟩ => Nat.not_le.2 hearly hdue

end

/-- Settles O33: a queue that may dispatch does what `Hub.dispatchHead` does, which for the hot head of a throughput queue is
`Hub.dispatchHead_throughput`; a quantum ends by whether a stream waits. -/
theorem queueDispatchesItsHead : Obligations.QueueDispatchesItsHead := by
  intro s q st hup h n c
  refine ⟨fun hlat hen hjob hstages hhead hhot hroom hnone hoff => ?_, fun hlat hmay => ?_, fun hnot => ?_,
    fun stream => ?_⟩
  · intro runs told
    have hready := Hub.dispatchable_throughput hlat hen hjob hstages hhead hhot hroom
    have hruns := (Hub.dispatch_may (Hub.mayDispatch_throughput hlat hready hnone)).trans
      (Hub.dispatchHead_throughput hlat hhead hhot hoff)
    refine ⟨fun howing => exec_onHub hup rfl ?_, fun k howing => exec_onHub hup rfl ?_⟩
    · rw [Hub.countSwitch_none ((Hub.runHead_owing st).trans howing)] at hruns
      exact hruns
    · rw [Hub.countSwitch_some ((Hub.runHead_owing st).trans howing)] at hruns
      exact hruns
  · exact exec_onHub hup rfl (Hub.dispatch_may ((Hub.mayDispatch_latency hlat).trans hmay))
  · exact exec_onHub (g := id) hup rfl (Hub.dispatch_mayNot (Hub.mayDispatch_undispatchable hnot))
  · intro c hrun
    refine ⟨fun hset hdue hq hlat => ⟨fun hen hne => ?_, fun hempty => ?_⟩, fun hearly => ?_⟩
    · exact exec_onHub hup rfl (Hub.quantumEnd_yields hrun hset hdue (Hub.streamWaits_own hq hen hne))
    · exact exec_onHub hup rfl (Hub.quantumEnd_restarts hrun hset hdue (Hub.streamWaits_empty hlat hempty))
    · exact exec_onHub (g := id) hup rfl (Hub.quantumEnd_early hearly)

end Sys2Proof.Machine
end

section
/-!
Proofs of the family of the streams: the messages of accelerators and the drain's limit (R213, R222).
-/

open Sys2Proof Sys2Proof.Machine

namespace Sys2Proof.Machine

/-- A message of the stream engine whose length and reserved fields are as R222 has them. -/
def Brick.msgFormed (b : Brick) : Prop :=
  b.is .mgmt = true ∧ b.grout = 200 ∧ dfield b.payload 1 1 < 4 ∧ dfield b.payload 6 2 = 0 ∧ dfield b.payload 12 4 = 0

/-- The hub with the message at the head of the stream engine's intake taken from its buffer. -/
def Hub.tookMsg (h : Hub) (x : Nat) (i : InItem) (rest : List InItem) : Hub :=
  ({ h with fab := { h.fab with inbox := rest } } : Hub).owe x i.brick.vc.toNat

section
variable {h : Hub} {x : Nat}

/-! ### The message at the head of the intake -/

section
variable {i : InItem} {rest : List InItem} {m : Nat}
  (htake : takeFirst (fun i => i.unit == 0xC3 && i.port == x) h.fab.inbox = some (i, rest))
  (hkind : dfield i.brick.payload 0 1 = m)
include htake hkind

theorem Hub.streamMessage_acts (hcheck : (h.tookMsg x i rest).msgCheck x i.brick = none) :
    h.streamMessage x m = (h.tookMsg x i rest).actMsg x i.brick := by
  unfold Hub.tookMsg at hcheck ⊢
  simp [Hub.streamMessage, htake, hkind, hcheck]

theorem Hub.streamMessage_naks {r : Nat} (hcheck : (h.tookMsg x i rest).msgCheck x i.brick = some r) :
    h.streamMessage x m = (h.tookMsg x i rest).streamNak x i.brick r := by
  unfold Hub.tookMsg at hcheck ⊢
  simp [Hub.streamMessage, htake, hkind, hcheck]

end

/-! ### The checks of a message (R222) -/

section
variable {b : Brick} (hformed : b.msgFormed) (hlo : 0x10 ≤ dfield b.payload 0 1) (hhi : dfield b.payload 0 1 ≤ 0x15)
include hformed hlo hhi

/-- A stream of another partition is refused before anything of the stream is looked at. -/
theorem Hub.msgCheck_foreign (hforeign : h.streamPart b.stream.toNat ≠ some b.part.toNat) : h.msgCheck x b = some 0x03 := by
  obtain ⟨hmgmt, hlen, hflags, hres, hres'⟩ := hformed
  simp [Hub.msgCheck, hmgmt, hlen, hres, hres', hforeign, Nat.not_lt.2 hlo, Nat.not_lt.2 hhi, Nat.not_le.2 hflags]

variable (hmine : h.streamPart b.stream.toNat = some b.part.toNat)
include hmine

theorem Hub.msgCheck_unqueued (hnone : (h.stream b.stream.toNat).queue = none) : h.msgCheck x b = some 0x04 := by
  obtain ⟨hmgmt, hlen, hflags, hres, hres'⟩ := hformed
  simp [Hub.msgCheck, hmgmt, hlen, hres, hres', hmine, hnone, Nat.not_lt.2 hlo, Nat.not_lt.2 hhi, Nat.not_le.2 hflags]

end

/-- The stages that may speak for a stream: those of its dispatch while it has one, else those of its queue. -/
def Strm.speaksOn (c : Strm) (k : Nat) : Nat := if c.st == .running || c.st == .draining then c.onQueue else k

/-- The states in which a message of kind `m` is admitted; REVOKE_ACK is also admitted where it names the last dispatch. -/
def Strm.admitsMsg (c : Strm) (m dseq : Nat) : Bool :=
  if m = 0x10 then c.st == .idle || c.st == .parked
  else if m = 0x15 then c.st == .draining || dseq == c.dseq
  else c.st == .running

section
variable {c : Strm} {m : Nat}

theorem Strm.speaksOn_dispatched {k : Nat} (hst : c.st = .running ∨ c.st = .draining) : c.speaksOn k = c.onQueue :=
  if_pos (by simpa using hst)

theorem Strm.speaksOn_waiting {k : Nat} (hrun : c.st ≠ .running) (hdrain : c.st ≠ .draining) : c.speaksOn k = k :=
  if_neg (by simp [hrun, hdrain])

theorem Strm.admitsMsg_ready (hst : c.st = .idle ∨ c.st = .parked) (n : Nat) : c.admitsMsg 0x10 n = true := by
  simpa [Strm.admitsMsg] using hst

theorem Strm.admitsMsg_draining (hdrain : c.st = .draining) (n : Nat) : c.admitsMsg 0x15 n = true := by
  simp [Strm.admitsMsg, hdrain]

/-- YIELD, PARK, DONE and FAULT are admitted from a RUNNING stream alone. -/
theorem Strm.admitsMsg_end (hlo : 0x11 ≤ m) (hhi : m ≤ 0x14) (n : Nat) : c.admitsMsg m n = (c.st == .running) :=
  (if_neg (by omega)).trans (if_neg (by omega))

end

section
variable {b : Brick} {k : Nat} (hformed : b.msgFormed) (hmine : h.streamPart b.stream.toNat = some b.part.toNat)
  (hqueue : (h.stream b.stream.toNat).queue = some k)
include hformed hmine hqueue

/-- A message from a stage that may speak for the stream is refused by the stream's state alone. -/
theorem Hub.msgCheck_stage (hlo : 0x10 ≤ dfield b.payload 0 1) (hhi : dfield b.payload 0 1 ≤ 0x15)
    (hstage : (h.queueStages ((h.stream b.stream.toNat).speaksOn k)).testBit x = true) :
    h.msgCheck x b = if (h.stream b.stream.toNat).admitsMsg (dfield b.payload 0 1) (dfield b.payload 16 8) then none
      else some 0x01 := by
  obtain ⟨hmgmt, hlen, hflags, hres, hres'⟩ := hformed
  simp only [Strm.speaksOn, Bool.or_eq_true, beq_iff_eq] at hstage
  simp [Hub.msgCheck, hmgmt, hlen, hres, hres', hmine, hqueue, hstage, Nat.not_lt.2 hlo, Nat.not_lt.2 hhi, Nat.not_le.2 hflags,
    Strm.admitsMsg]

theorem Hub.msgCheck_ready (hstage : (h.queueStages k).testBit x = true) (hkind : dfield b.payload 0 1 = 0x10)
    (hst : (h.stream b.stream.toNat).st = .idle ∨ (h.stream b.stream.toNat).st = .parked) : h.msgCheck x b = none := by
  have hspeaks : (h.stream b.stream.toNat).speaksOn k = k :=
    hst.elim (fun e => Strm.speaksOn_waiting (by simp [e]) (by simp [e])) fun e => Strm.speaksOn_waiting (by simp [e]) (by simp [e])
  refine (Hub.msgCheck_stage hformed hmine hqueue (by omega) (by omega) (by rwa [hspeaks])).trans (if_pos ?_)
  rw [hkind, Strm.admitsMsg_ready hst]

theorem Hub.msgCheck_running (hstage : (h.queueStages (h.stream b.stream.toNat).onQueue).testBit x = true)
    (hlo : 0x11 ≤ dfield b.payload 0 1) (hhi : dfield b.payload 0 1 ≤ 0x14) (hrun : (h.stream b.stream.toNat).st = .running) :
    h.msgCheck x b = none := by
  have hspeaks : (h.stream b.stream.toNat).speaksOn k = _ := Strm.speaksOn_dispatched (.inl hrun)
  refine (Hub.msgCheck_stage hformed hmine hqueue (by omega) (by omega) (by rwa [hspeaks])).trans (if_pos ?_)
  rw [Strm.admitsMsg_end hlo hhi, hrun, beq_self_eq_true]

theorem Hub.msgCheck_draining (hstage : (h.queueStages (h.stream b.stream.toNat).onQueue).testBit x = true)
    (hkind : dfield b.payload 0 1 = 0x15) (hdrain : (h.stream b.stream.toNat).st = .draining) : h.msgCheck x b = none := by
  have hspeaks : (h.stream b.stream.toNat).speaksOn k = _ := Strm.speaksOn_dispatched (.inr hdrain)
  refine (Hub.msgCheck_stage hformed hmine hqueue (by omega) (by omega) (by rwa [hspeaks])).trans (if_pos ?_)
  rw [hkind, Strm.admitsMsg_draining hdrain]

/-- A stream without a dispatch has none to end. -/
theorem Hub.msgCheck_notRunning (hstage : (h.queueStages k).testBit x = true)
    (hlo : 0x11 ≤ dfield b.payload 0 1) (hhi : dfield b.payload 0 1 ≤ 0x14) (hrun : (h.stream b.stream.toNat).st ≠ .running)
    (hdrain : (h.stream b.stream.toNat).st ≠ .draining) : h.msgCheck x b = some 0x01 := by
  have hspeaks : (h.stream b.stream.toNat).speaksOn k = k := Strm.speaksOn_waiting hrun hdrain
  refine (Hub.msgCheck_stage hformed hmine hqueue (by omega) (by omega) (by rwa [hspeaks])).trans (if_neg ?_)
  rwa [Strm.admitsMsg_end hlo hhi, beq_iff_eq]

end

/-! ### What an accepted message does (R213, R222) -/

section
variable {b : Brick}

theorem Hub.actMsg_ready (hkind : dfield b.payload 0 1 = 0x10) : h.actMsg x b =
    (h.updStrm b.stream.toNat fun c => { c with user := slice b.payload 24 32 }).enterReady b.stream.toNat := if_pos hkind

theorem Hub.actMsg_yield (hkind : dfield b.payload 0 1 = 0x11) : h.actMsg x b =
    (h.enterReady b.stream.toNat).switchFrom b.stream.toNat (h.stream b.stream.toNat).onQueue none := by
  simp [Hub.actMsg, hkind]

theorem Hub.actMsg_park (hkind : dfield b.payload 0 1 = 0x12) : h.actMsg x b =
    (h.updStrm b.stream.toNat fun c => { c with st := .parked, reason := 0x01 }).switchFrom b.stream.toNat
      (h.stream b.stream.toNat).onQueue none := by
  simp [Hub.actMsg, hkind]

theorem Hub.actMsg_done (hkind : dfield b.payload 0 1 = 0x13) : h.actMsg x b =
    (h.updStrm b.stream.toNat fun c => { c with st := .idle, reason := 0 }).switchFrom b.stream.toNat
      (h.stream b.stream.toNat).onQueue none := by
  simp [Hub.actMsg, hkind]

theorem Hub.actMsg_fault (hkind : dfield b.payload 0 1 = 0x14) :
    h.actMsg x b = (h.faultStream b.stream.toNat 0x13 x).prefetch := by
  simp [Hub.actMsg, hkind]

/-- An acknowledgement counts toward a drain in progress. -/
theorem Hub.actMsg_revokeAck (hkind : dfield b.payload 0 1 = 0x15) (hdrain : (h.stream b.stream.toNat).st = .draining) :
    h.actMsg x b =
      (h.updStrm b.stream.toNat fun c => { c with acks := c.acks ||| 2 ^ x }).drainCheck b.stream.toNat := by
  simp [Hub.actMsg, hkind, hdrain]

end

/-! ### The limit of a drain (R213, R523) -/

/-- The lowest stage that a drain waits for: one that has not acknowledged and is not fenced. -/
def Hub.silentStage (h : Hub) (s : Nat) : Option Nat :=
  (onesBelow 8 (h.queueStages (h.stream s).onQueue)).find? fun x => !(h.stream s).acks.testBit x && !(h.port x).fenced

section
variable {s : Nat} (hdrain : (h.stream s).st = .draining)
include hdrain

theorem Hub.drainTimeout_faults {y : Nat} (hsilent : h.silentStage s = some y) :
    h.drainTimeout s = (h.faultStream s 0x12 y).prefetch := by
  unfold Hub.silentStage at hsilent
  simp only [Hub.drainTimeout, hdrain, if_true, hsilent]

theorem Hub.drainTimeout_waits (hnone : h.silentStage s = none) : h.drainTimeout s = h := by
  unfold Hub.silentStage at hnone
  simp only [Hub.drainTimeout, hdrain, if_true, hnone]

end

end

end Sys2Proof.Machine
end

section
/-!
Proofs of the family of the streams: the hods of streams, jobs and partitions (R214 to R216, R225 to R228), and the statement
about messages and hods.
-/

open Sys2Proof Sys2Proof.Machine

namespace Sys2Proof.Machine

/-! ### What the hods of streams and jobs do -/

section
variable {h : Hub} {q : HodReq} {s : Nat}

section
variable (hright : h.streamRight q s = none)
include hright

/-- A hod on a stream of the requester's partition comes to its own effect (R228). -/
theorem Hub.onStream_right (f : Hub → Hub × HodOut) : h.onStream q s f = f h := by
  simp only [Hub.onStream, hright]

theorem streamReadyHod_queues (hst : h.stateAtClose s = .idle ∨ h.stateAtClose s = .parked) (hqueue : (h.stream s).queue ≠ none)
    (user : List Byte) : streamReadyHod q s user h =
      ((h.updStrm s fun c => { c with user := padTo 32 user }).enterReady s, .ok []) :=
  (Hub.onStream_right hright _).trans (if_neg fun hbad => hbad.elim (fun hne => hst.elim hne.1 hne.2) hqueue)

theorem streamParkHod_ready (hst : h.stateAtClose s = .ready) :
    streamParkHod q s h = (h.leaveReady s .parked 0x02, .ok []) :=
  (Hub.onStream_right hright _).trans (if_pos hst)

/-- A RUNNING stream's dispatch is revoked as it parks (R223). -/
theorem streamParkHod_running (hst : h.stateAtClose s = .running) : streamParkHod q s h =
    (((h.updStrm s fun c => { c with st := .parked, reason := 0x02 }).revoke s (h.queueStages (h.stream s).onQueue)
      0x01).prefetch, .ok []) := by
  refine (Hub.onStream_right hright _).trans ?_
  simp [hst]

theorem streamStopHod_stops (hidle : h.stateAtClose s ≠ .idle) (hfault : h.stateAtClose s ≠ .faulted) :
    streamStopHod q s h = (h.stopStream s 0x01, .ok []) :=
  (Hub.onStream_right hright _).trans (if_neg fun hbad => hbad.elim hidle hfault)

theorem streamResetHod_resets : streamResetHod q s h = (h.resetStream s, .ok []) := Hub.onStream_right hright _

/-- A stream is given an enabled queue of its partition; a READY one joins the new queue's tail (R216). -/
theorem streamSetQueueHod_moves {k : Nat} (hqueue : h.queueRight q k = true) (hk : k < 64) (hen : h.queueEn k = true)
    (hpart : h.streamPart s = some (h.queuePart k)) : streamSetQueueHod q s k h =
      if (h.stream s).st = .ready then
        (((h.leaveReady s .idle 0).updStrm s fun c => { c with queue := some k }).enterReady s, .ok [])
      else (h.updStrm s fun c => { c with queue := some k }, .ok []) := by
  refine (Hub.onStream_right hright _).trans ?_
  simp [hqueue, hen, hpart, Nat.not_le.2 hk]

theorem streamQueryHod_answers : streamQueryHod q s h = (h, .ok [.u8 (h.stream s).st.code, .u8 (h.stream s).reason,
    .u8 ((h.stream s).queue.getD 0), .u8 (b2n (h.latency s)), .u8 (b2n (h.stream s).hot), .u64 (h.stream s).step.toNat,
    .u64 (h.stream s).dseq]) := Hub.onStream_right hright _

end

section
variable {p : Nat} (hp : q.part p < 8)
include hp

/-- With a job plane, JOB_START of an enabled partition comes to the job's own checks (R225). -/
theorem jobStartHod_enabled (hen : h.partEn (q.part p) = true) (seed : Nat) :
    jobStartHod q p seed true h = h.jobStart (q.part p) seed := by
  simp [jobStartHod, hen, Nat.not_le.2 hp]

theorem jobEndHod_running (hjob : h.jobState (q.part p) = .running) : jobEndHod q p h = (h.jobEnd (q.part p), .wait) := by
  simp [jobEndHod, hjob, Nat.not_le.2 hp]

theorem jobEndHod_ending (hjob : h.jobState (q.part p) = .ending) : jobEndHod q p h = (h, .wait) := by
  simp [jobEndHod, hjob, Nat.not_le.2 hp]

end

theorem Hub.jobStart_busy {p : Nat} (hjob : h.jobState p ≠ .none) (seed : Nat) : h.jobStart p seed = (h, .fail .busy) :=
  if_pos hjob

/-- A job takes the next number of its partition, while one is left. -/
theorem Hub.jobStart_starts {p : Nat} (hjob : h.jobState p = .none) (hnum : Tbl.get 0 h.str.jobNum p ≠ 0xFFFFFFFF)
    (seed : Nat) : h.jobStart p seed = (({ h with
      str := { h.str with
        job := h.str.job.set .none p .running, jobNum := h.str.jobNum.set 0 p (Tbl.get 0 h.str.jobNum p + 1)
        srKey := h.str.srKey.set 0 p (seedKey srkLabel seed), drainFaults := h.str.drainFaults.set 0 p 0 }
      mortar := h.mortar.clearWindow p } : Hub).event 0x0802 [.u8 p, .u32 (Tbl.get 0 h.str.jobNum p + 1)] p, .ok []) :=
  (if_neg (not_not_intro hjob)).trans (if_neg hnum)

end

/-! ### From the opcodes to the hods (R399) -/

section
variable {d : Dev} {h : Hub} {q : HodReq}

/-- A request of the block of streams acts on the hub alone. -/
theorem Dev.effect_stream {f : Hub → Hub} {o : HodOut} (hblock : q.op / 256 = 0x08)
    (e : d.hub.effectStream q = (f d.hub, o)) : d.effect q = (d.hubMap f, o) := by
  simp only [Dev.effect, hblock, Dev.byHub, e]
  rfl

theorem Hub.effectStream_ready {s : Nat} {user : List Byte} (hop : q.op = 0x0801) (hargs : q.args = [.u16 s, .record user]) :
    h.effectStream q = streamReadyHod q s user h := by
  simp [Hub.effectStream, hop, HodReq.num, HodReq.bytes, hargs]

theorem Hub.effectStream_park {s : Nat} (hop : q.op = 0x0802) (hargs : q.args = [.u16 s]) :
    h.effectStream q = streamParkHod q s h := by
  simp [Hub.effectStream, hop, HodReq.num, hargs]

theorem Hub.effectStream_stop {s : Nat} (hop : q.op = 0x0803) (hargs : q.args = [.u16 s]) :
    h.effectStream q = streamStopHod q s h := by
  simp [Hub.effectStream, hop, HodReq.num, hargs]

theorem Hub.effectStream_reset {s : Nat} (hop : q.op = 0x0804) (hargs : q.args = [.u16 s]) :
    h.effectStream q = streamResetHod q s h := by
  simp [Hub.effectStream, hop, HodReq.num, hargs]

theorem Hub.effectStream_setQueue {s k : Nat} (hop : q.op = 0x0805) (hargs : q.args = [.u16 s, .u8 k]) :
    h.effectStream q = streamSetQueueHod q s k h := by
  simp [Hub.effectStream, hop, HodReq.num, hargs]

theorem Hub.effectStream_query {s : Nat} (hop : q.op = 0x0806) (hargs : q.args = [.u16 s]) :
    h.effectStream q = streamQueryHod q s h := by
  simp [Hub.effectStream, hop, HodReq.num, hargs]

theorem Hub.effectStream_jobStart {p seed : Nat} (hop : q.op = 0x0807) (hargs : q.args = [.u8 p, .u64 seed]) :
    h.effectStream q = jobStartHod q p seed h.fw.jp.isSome h := by
  simp [Hub.effectStream, hop, HodReq.num, hargs]

theorem Hub.effectStream_jobEnd {p : Nat} (hop : q.op = 0x0808) (hargs : q.args = [.u8 p]) :
    h.effectStream q = jobEndHod q p h := by
  simp [Hub.effectStream, hop, HodReq.num, hargs]

theorem Hub.effectStream_partSwitch {p : Nat} (hop : q.op = 0x0809) (hargs : q.args = [.u8 p]) :
    h.effectStream q = partSwitchHod q p h := by
  simp [Hub.effectStream, hop, HodReq.num, hargs]

end

/-- A hod of the block of streams is staged for the boundary, and there its effect on the device is the one on the hub. -/
theorem streamHodStages {c : Call} {i : Instr} {op : Nat} {args : List Arg} {k : Dev → HodReq → Prop}
    (hexec : ∀ s, exec i s = onBase (fun d : Dev => d.submit c op args) s) (hop : op / 256 = 0x08)
    (hbnd : (findOp op).all (·.bnd) = true)
    (heffect : ∀ (d : Dev) (q : HodReq), q.op = op → q.args = args →
      (∀ {f : Hub → Hub} {o : HodOut}, d.hub.effectStream q = (f d.hub, o) → d.effect q = (d.hubMap f, o)) → k d q) :
    HodStages c i op args k :=
  hodStages_of_effect hexec (by omega) hbnd fun d q hq hargs => heffect d q hq hargs (Dev.effect_stream (hq ▸ hop))

/-- The hods of streams, jobs and partitions are staged for the boundary, and there do what R213 to R216 and R225 to R228 say. -/
theorem streamHodsAct : StreamHodsAct := by
  intro c
  refine ⟨fun stream user => ?_, fun stream => ?_, fun stream => ?_, fun stream => ?_, fun stream queue => ?_, fun stream => ?_,
    fun part seed => ?_, fun part => ?_, fun part => ?_⟩
  · refine streamHodStages (fun _ => rfl) rfl (by decide) fun d q hop hargs act => ?_
    intro s hright hst hqueue
    exact act ((Hub.effectStream_ready hop hargs).trans (streamReadyHod_queues hright hst hqueue user))
  · refine streamHodStages (fun _ => rfl) rfl (by decide) fun d q hop hargs act => ?_
    intro s hright
    exact ⟨fun hst => act ((Hub.effectStream_park hop hargs).trans (streamParkHod_ready hright hst)),
      fun hst => act ((Hub.effectStream_park hop hargs).trans (streamParkHod_running hright hst))⟩
  · refine streamHodStages (fun _ => rfl) rfl (by decide) fun d q hop hargs act => ?_
    intro s hright hidle hfault
    exact act ((Hub.effectStream_stop hop hargs).trans (streamStopHod_stops hright hidle hfault))
  · refine streamHodStages (fun _ => rfl) rfl (by decide) fun d q hop hargs act hright => ?_
    exact act ((Hub.effectStream_reset hop hargs).trans (streamResetHod_resets hright))
  · refine streamHodStages (fun _ => rfl) rfl (by decide) fun d q hop hargs act => ?_
    intro hright hqueue hk hen hpart
    have hmove := (Hub.effectStream_setQueue hop hargs).trans (streamSetQueueHod_moves hright hqueue hk hen hpart)
    exact ⟨fun hst => act (hmove.trans (if_neg hst)), fun hst => act (hmove.trans (if_pos hst))⟩
  · refine streamHodStages (fun _ => rfl) rfl (by decide) fun d q hop hargs act => ?_
    intro k hright
    exact act (f := id) ((Hub.effectStream_query hop hargs).trans (streamQueryHod_answers hright))
  · refine streamHodStages (fun _ => rfl) rfl (by decide) fun d q hop hargs act => ?_
    intro p n hp hen hplane
    have hstart : d.hub.effectStream q = d.hub.jobStart p seed.toNat := by
      rw [Hub.effectStream_jobStart hop hargs, Option.isSome_iff_ne_none.2 hplane, jobStartHod_enabled hp hen]
    exact ⟨fun hjob => act (f := id) (hstart.trans (Hub.jobStart_busy hjob _)),
      fun hjob hnum => act (hstart.trans (Hub.jobStart_starts hjob hnum _))⟩
  · refine streamHodStages (fun _ => rfl) rfl (by decide) fun d q hop hargs act => ?_
    intro p hp
    exact ⟨fun hjob => act ((Hub.effectStream_jobEnd hop hargs).trans (jobEndHod_running hp hjob)),
      fun hjob => act (f := id) ((Hub.effectStream_jobEnd hop hargs).trans (jobEndHod_ending hp hjob))⟩
  · exact streamHodStages (fun _ => rfl) rfl (by decide) fun d q hop hargs act => act (Hub.effectStream_partSwitch hop hargs)

/-- Settles O34: each message and the limit of a drain are their operations with the checks met, and the hods are
`streamHodsAct`. -/
theorem streamMessagesAct : Obligations.StreamMessagesAct := by
  refine ⟨?_, streamHodsAct⟩
  intro s x i rest k hup b st m freed h c formed mine htake
  have act {r : Instr} {n : Nat} {g : Hub → Hub} (hc : exec r s = onHub (fun h => h.streamMessage x n) s) (hm : m = n)
      (hcheck : h.msgCheck x b = none) (e : h.actMsg x b = g s.dev.hub) : exec r s = .next (s.hubMap g) :=
    exec_onHub hup hc ((Hub.streamMessage_acts htake hm hcheck).trans e)
  have nak {r : Instr} {n reason : Nat} (hc : exec r s = onHub (fun h => h.streamMessage x n) s) (hm : m = n)
      (hcheck : h.msgCheck x b = some reason) : exec r s = .next (s.hubMap fun h => (freed h).streamNak x b reason) :=
    exec_onHub hup hc (Hub.streamMessage_naks htake hm hcheck)
  refine ⟨fun hformed hmine hqueue => ?_, fun hformed hm hforeign => ?_, fun hformed hm hmine hnone => ?_, fun stream => ?_⟩
  · have ends (hstage) (hrun) (hlo) (hhi) : h.msgCheck x b = none :=
      Hub.msgCheck_running hformed hmine hqueue hstage hlo hhi hrun
    exact ⟨fun hstage hm hst => act rfl hm (Hub.msgCheck_ready hformed hmine hqueue hstage hm hst) (Hub.actMsg_ready hm),
      fun hstage hrun =>
        ⟨fun hm => act rfl hm (ends hstage hrun (by omega) (by omega)) (Hub.actMsg_yield hm),
          fun hm => act rfl hm (ends hstage hrun (by omega) (by omega)) (Hub.actMsg_park hm),
          fun hm => act rfl hm (ends hstage hrun (by omega) (by omega)) (Hub.actMsg_done hm),
          fun hm => act rfl hm (ends hstage hrun (by omega) (by omega)) (Hub.actMsg_fault hm)⟩,
      fun hstage hdrain hm =>
        act rfl hm (Hub.msgCheck_draining hformed hmine hqueue hstage hm hdrain) (Hub.actMsg_revokeAck hm hdrain),
      fun hready hstage hm => nak rfl hm (Hub.msgCheck_notRunning hformed hmine hqueue hstage (by omega) (by omega)
        (by rw [hready]; decide) (by rw [hready]; decide))⟩
  · exact nak rfl hm (Hub.msgCheck_foreign hformed (by omega) (by omega) hforeign)
  · exact nak rfl hm (Hub.msgCheck_unqueued hformed (by omega) (by omega) hmine hnone)
  · intro c late hdrain
    exact ⟨fun y hsilent => exec_onHub hup rfl (Hub.drainTimeout_faults hdrain hsilent),
      fun hnone => exec_onHub (g := id) hup rfl (Hub.drainTimeout_waits hdrain hnone)⟩

end Sys2Proof.Machine
end

section
/-!
Proofs of the family of barriers and tallies: the bricks at the sync engine and the timers of its objects (R236 to R238, R242 to
R249).
-/

open Sys2Proof Sys2Proof.Machine

namespace Sys2Proof.Machine

/-! ### The brick at the head of the intake (R247) -/

section
variable {s : State} {x : Fin 8} {b : Brick} {h : Hub}

/-- A brick counted as a TALLY operation carries its number. -/
theorem syncKind_tally {k : Nat} (hkind : syncKind b = some k) (hk : k ≠ 0) : dfield b.payload 2 1 = k := by
  unfold syncKind at hkind
  split at hkind
  · exact absurd (Option.some.inj hkind).symm hk
  · split at hkind
    · dsimp only at hkind
      split at hkind
      · exact Option.some.inj hkind
      · exact absurd hkind nofun
    · exact absurd hkind nofun

/-- A well-formed brick at the head of the intake is taken, and is an arrival or a TALLY operation. -/
theorem SyncHead.syncBrick_eq {k : Nat} (hhead : SyncHead s x k b h) :
    s.dev.hub.syncBrick x k = if k = 0 then h.arrive x b else h.tallyOp x b := by
  obtain ⟨i, rest, htake, rfl, hkind, hformed, rfl⟩ := hhead
  simp [Hub.syncBrick, htake, hkind, hformed]

theorem SyncHead.operation {k : Nat} (hhead : SyncHead s x k b h) (hk : k ≠ 0) : dfield b.payload 2 1 = k := by
  obtain ⟨i, rest, -, rfl, hkind, -, -⟩ := hhead
  exact syncKind_tally hkind hk

variable (hup : s.dev.hub.up = true)
include hup

theorem exec_barrierArrive {h' : Hub} (hhead : SyncHead s x 0 b h) (e : h.arrive x b = h') :
    exec (.barrierArrive x) s = .next (s.hubMap fun _ => h') :=
  exec_onHub hup rfl (hhead.syncBrick_eq.trans e)

theorem exec_tallyOp {c : Instr} {k : Nat} {h' : Hub} (hc : exec c s = onHub (fun h => h.syncBrick x k) s)
    (hhead : SyncHead s x k b h) (hk : k ≠ 0) (e : h.tallyOp x b = h') : exec c s = .next (s.hubMap fun _ => h') :=
  exec_onHub hup hc (hhead.syncBrick_eq.trans ((if_neg hk).trans e))

end

/-! ### Arrivals at a barrier (R237, R249) -/

/-- The barrier with an arrival counted at place `k`. -/
def Barrier.counted (bar : Barrier) (k core : Nat) : Barrier :=
  { bar with counts := bar.counts.set k (bar.n k + 1), first := some (bar.first.getD (partyCode k, core)) }

theorem partyCode_acc (x : Fin 8) : partyCode x = x := if_pos x.isLt

section
variable {h : Hub} {p id phase k : Nat}

theorem Hub.arriveCheck_foreign (hforeign : h.barPart id ≠ some p) : h.arriveCheck p id phase k = some 0x06 := if_pos hforeign

section
variable {bar : Barrier} (hpart : h.barPart id = some p) (hbar : h.bar id = some bar)
include hpart hbar

theorem Hub.arriveCheck_uncounted (he : bar.e k = 0) : h.arriveCheck p id phase k = some 0x05 := by
  simp [Hub.arriveCheck, hpart, hbar, he]

/-- With every participant available, a participant's arrival is refused by its phase, then by its count. -/
theorem Hub.arriveCheck_available (he : bar.e k ≠ 0) (hgone : h.barGone p bar = none) : h.arriveCheck p id phase k =
    if phase ≠ bar.phase.toNat % 256 then some 0x03 else if bar.e k ≤ bar.n k then some 0x04 else none := by
  simp [Hub.arriveCheck, hpart, hbar, he, hgone]

end

theorem Hub.countArrival_eq {bar : Barrier} (hbar : h.bar id = some bar) (core : Nat) : h.countArrival p id k core =
    if (bar.counted k core).total ≤ (bar.counted k core).arrived then h.release p id (bar.counted k core)
    else h.setBar id (some (bar.counted k core)) := by
  simp only [Hub.countArrival, hbar]
  rfl

/-- Only FENCED names a party (R246). -/
theorem Hub.arriveErr_plain {kind : Nat} (hkind : kind ≠ 0x02) :
    h.arriveErr p id phase kind = { kind, obj := 0, id, phase } := by
  unfold Hub.arriveErr
  split
  · exact absurd rfl hkind
  · rfl

end

section
variable {h : Hub} {x : Nat} {b : Brick}

theorem Hub.arrive_refused {kind : Nat} (hkind : kind ≠ 0x02)
    (hcheck : h.arriveCheck b.part.toNat (dfield b.payload 0 2 % 4096) (dfield b.payload 2 1) x = some kind) :
    h.arrive x b = h.refuseSync x b.part.toNat
      { kind, obj := 0, id := dfield b.payload 0 2 % 4096, phase := dfield b.payload 2 1 } := by
  simp only [Hub.arrive, hcheck, Hub.arriveErr_plain hkind]

theorem Hub.arrive_counted (hcheck : h.arriveCheck b.part.toNat (dfield b.payload 0 2 % 4096) (dfield b.payload 2 1) x = none) :
    h.arrive x b = h.countArrival b.part.toNat (dfield b.payload 0 2 % 4096) x (dfield b.payload 3 1) := by
  simp only [Hub.arrive, hcheck]

end

/-! ### What the engine's answers leave of a tally -/

theorem Hub.tal_congr {h k : Hub} (e : h.sync = k.sync) (i : Nat) : h.tal i = k.tal i := by
  simp only [Hub.tal, e]

section
variable (h : Hub) (i : Nat)

@[simp] theorem Hub.tal_setTal_self (t : Option Tally) : (h.setTal i t).tal i = t := Tbl.get_set_self ..

@[simp] theorem Hub.syncError_sync (p : Nat) (ys : List Nat) (e : SyncErr) : (h.syncError p ys e).sync = h.sync :=
  foldl_keeps Hub.sync (fun h x => by simp) ys h

@[simp] theorem Hub.refuseSync_tal (x p : Nat) (e : SyncErr) : (h.refuseSync x p e).tal i = h.tal i :=
  Hub.tal_congr ((Hub.eventOnce_sync ..).trans (Hub.syncError_sync ..)) i

end

/-! ### TALLY operations (R242 to R244, R249) -/

/-- The parties that may ask for an operation: the producer for ADD_P and WAIT_LE, the consumer for ADD_C and WAIT_GE, and either
for READ (R242). -/
def Tally.admits (t : Tally) (x op : Nat) : Bool :=
  if op = 1 ∨ op = 4 then x == t.prod else if op = 2 ∨ op = 3 then x == t.cons else x == t.prod || x == t.cons

/-- The refusal that the counts and the pending waits of a tally bring (R243, R244). -/
def Tally.limit (t : Tally) (op arg : Nat) : Option Nat :=
  if op = 1 ∧ 0xFFFFFFFF < t.p + arg then some 0x08
  else if op = 2 ∧ t.p < t.c + arg then some 0x09
  else if (op = 3 ∧ t.ge.isSome) ∨ (op = 4 ∧ t.le.isSome) then some 0x0A
  else none

section
variable (t : Tally) (x arg : Nat)

theorem Tally.admits_addP : t.admits x 1 = true ↔ x = t.prod := by simp [Tally.admits]

theorem Tally.admits_addC : t.admits x 2 = true ↔ x = t.cons := by simp [Tally.admits]

theorem Tally.admits_waitGe : t.admits x 3 = true ↔ x = t.cons := by simp [Tally.admits]

theorem Tally.admits_waitLe : t.admits x 4 = true ↔ x = t.prod := by simp [Tally.admits]

theorem Tally.admits_read : t.admits x 5 = true ↔ x = t.prod ∨ x = t.cons := by simp [Tally.admits]

theorem Tally.limit_addP : t.limit 1 arg = if 0xFFFFFFFF < t.p + arg then some 0x08 else none := by simp [Tally.limit]

theorem Tally.limit_addC : t.limit 2 arg = if t.p < t.c + arg then some 0x09 else none := by simp [Tally.limit]

theorem Tally.limit_waitGe : t.limit 3 arg = if t.ge.isSome then some 0x0A else none := by simp [Tally.limit]

theorem Tally.limit_waitLe : t.limit 4 arg = if t.le.isSome then some 0x0A else none := by simp [Tally.limit]

theorem Tally.limit_read : t.limit 5 arg = none := by simp [Tally.limit]

end

theorem Tally.limit_kind {t : Tally} {op arg k : Nat} (hlimit : t.limit op arg = some k) : 0x08 ≤ k := by
  unfold Tally.limit at hlimit
  split at hlimit
  · cases hlimit
    decide
  · split at hlimit
    · cases hlimit
      decide
    · split at hlimit
      · cases hlimit
        decide
      · exact absurd hlimit nofun

/-- A tally that its partition's parties can use: configured, without ERROR, and both its parties available (R249). -/
structure Hub.TallyReady (h : Hub) (p id : Nat) (t : Tally) : Prop where
  part : h.talPart id = some p
  tal : h.tal id = some t
  noError : t.error = false
  producer : h.unavail t.prod p = false
  consumer : h.unavail t.cons p = false

section
variable {h : Hub} {x p id op arg : Nat} {t : Tally} (hready : h.TallyReady p id t)
include hready

theorem Hub.tallyCheck_stranger (hparty : t.admits x op = false) : h.tallyCheck x p id op arg = some (0x05, 0xFF) := by
  unfold Tally.admits at hparty
  simp [Hub.tallyCheck, hready.part, hready.tal, hparty]

theorem Hub.tallyCheck_party (hparty : t.admits x op = true) :
    h.tallyCheck x p id op arg = (t.limit op arg).map fun k => (k, 0xFF) := by
  unfold Tally.admits at hparty
  unfold Tally.limit
  simp [Hub.tallyCheck, hready.part, hready.tal, hparty, hready.noError, hready.producer, hready.consumer, apply_ite (Option.map _)]

end

section
variable {h : Hub} {x : Nat} {b : Brick} {t : Tally} {op : Nat}
  (hready : h.TallyReady b.part.toNat (dfield b.payload 0 2 % 16384) t) (hop : dfield b.payload 2 1 = op)
include hready hop

/-- An operation from another party is answered with NOT_MEMBER. -/
theorem Hub.tallyOp_stranger (hparty : t.admits x op = false) : h.tallyOp x b = h.refuseSync x b.part.toNat
    { kind := 0x05, obj := 1, id := dfield b.payload 0 2 % 16384 } := by
  subst hop
  simp [Hub.tallyOp, Hub.tallyCheck_stranger hready hparty, hready.tal]

variable (hparty : t.admits x op = true)
include hparty

/-- An operation past a limit of the tally is answered with the difference of the counts. -/
theorem Hub.tallyOp_refused {k : Nat} (hlimit : t.limit op (dfield b.payload 4 4) = some k) :
    h.tallyOp x b = h.refuseSync x b.part.toNat
      { kind := k, obj := 1, id := dfield b.payload 0 2 % 16384, value := t.p - t.c } := by
  subst hop
  have hkind := Tally.limit_kind hlimit
  have hvalue : ¬ (k = 0x06 ∨ k = 0x05) := by omega
  simp [Hub.tallyOp, Hub.tallyCheck_party hready hparty, hlimit, hready.tal, hvalue]

theorem Hub.tallyOp_acts (hlimit : t.limit op (dfield b.payload 4 4) = none) : h.tallyOp x b =
    if op = 1 then h.settleTally b.part.toNat (dfield b.payload 0 2 % 16384) { t with p := t.p + dfield b.payload 4 4 }
    else if op = 2 then h.settleTally b.part.toNat (dfield b.payload 0 2 % 16384) { t with c := t.c + dfield b.payload 4 4 }
    else if op = 3 then h.settleTally b.part.toNat (dfield b.payload 0 2 % 16384)
      { t with ge := some (dfield b.payload 4 4, dfield b.payload 3 1) }
    else if op = 4 then h.settleTally b.part.toNat (dfield b.payload 0 2 % 16384)
      { t with le := some (dfield b.payload 4 4, dfield b.payload 3 1) }
    else h.tallyReply b.part.toNat x (dfield b.payload 0 2 % 16384) 0x85 (dfield b.payload 3 1) (dfield b.payload 4 4) t := by
  subst hop
  simp only [Hub.tallyOp, Hub.tallyCheck_party hready hparty, hlimit, hready.tal, Option.map_none]

end

/-! ### Waits (R244) -/

section
variable (h : Hub) (p id : Nat) (t : Tally)

/-- Answering waits leaves the counts of a tally as they are. -/
theorem Hub.settleTally_counts : ∃ t', (h.settleTally p id t).tal id = some t' ∧ t'.p = t.p ∧ t'.c = t.c := by
  refine ⟨_, Hub.tal_setTal_self .., ?_⟩
  (repeat' split) <;> exact ⟨rfl, rfl⟩

variable {h p id t} {arg core : Nat} (hge : t.ge = none) (hle : t.le = none)
include hge hle

theorem Hub.settleTally_ge : h.settleTally p id { t with ge := some (arg, core) } =
    if arg ≤ t.p - t.c then
      (h.tallyReply p t.cons id 0x81 core arg { t with ge := some (arg, core) }).setTal id (some t)
    else h.setTal id (some { t with ge := some (arg, core) }) := by
  obtain ⟨prod, cons, window, alignBar, timeout, pc, cc, error, ge, le⟩ := t
  subst hge hle
  by_cases hmet : arg ≤ pc - cc
  · simp only [Hub.settleTally, if_pos hmet]
  · simp only [Hub.settleTally, if_neg hmet]

theorem Hub.settleTally_le : h.settleTally p id { t with le := some (arg, core) } =
    if t.p - t.c ≤ arg then
      (h.tallyReply p t.prod id 0x81 core arg { t with le := some (arg, core) }).setTal id (some t)
    else h.setTal id (some { t with le := some (arg, core) }) := by
  obtain ⟨prod, cons, window, alignBar, timeout, pc, cc, error, ge, le⟩ := t
  subst hge hle
  by_cases hmet : pc - cc ≤ arg
  · simp only [Hub.settleTally, if_pos hmet]
  · simp only [Hub.settleTally, if_neg hmet]

end

/-! ### The range of the counts (R243) -/

section
variable {h : Hub} {x : Nat} {b : Brick} {t : Tally}
  (hready : h.TallyReady b.part.toNat (dfield b.payload 0 2 % 16384) t)
include hready

/-- An operation that the party or a limit forbids leaves the tally as it is. -/
theorem Hub.tallyOp_forbidden {op : Nat} (hop : dfield b.payload 2 1 = op)
    (hforbidden : t.admits x op = true → t.limit op (dfield b.payload 4 4) ≠ none) :
    (h.tallyOp x b).tal (dfield b.payload 0 2 % 16384) = some t := by
  have htal : h.tal (dfield b.payload 0 2 % 16384) = some t := hready.tal
  cases hparty : t.admits x op with
  | false => rw [Hub.tallyOp_stranger hready hop hparty, Hub.refuseSync_tal, htal]
  | true =>
    obtain ⟨k, hlimit⟩ := Option.ne_none_iff_exists'.1 (hforbidden hparty)
    rw [Hub.tallyOp_refused hready hop hparty hlimit, Hub.refuseSync_tal, htal]

variable (hle : t.c ≤ t.p) (hmax : t.p ≤ 0xFFFFFFFF)
include hle hmax

/-- An ADD_P is forbidden or adds within the range of P. -/
theorem Hub.tallyOp_addP_keeps (hop : dfield b.payload 2 1 = 1) :
    ∃ t', (h.tallyOp x b).tal (dfield b.payload 0 2 % 16384) = some t' ∧ t'.c ≤ t'.p ∧ t'.p ≤ 0xFFFFFFFF ∧ t'.c = t.c := by
  by_cases hadd : x = t.prod ∧ t.p + dfield b.payload 4 4 ≤ 0xFFFFFFFF
  · obtain ⟨hx, hfits⟩ := hadd
    have hacts := Hub.tallyOp_acts hready hop ((t.admits_addP x).2 hx) ((t.limit_addP _).trans (if_neg (Nat.not_lt.2 hfits)))
    rw [hacts, if_pos rfl]
    obtain ⟨t', htal', hp', hc'⟩ := Hub.settleTally_counts h b.part.toNat (dfield b.payload 0 2 % 16384)
      { t with p := t.p + dfield b.payload 4 4 }
    dsimp only at hp' hc'
    exact ⟨t', htal', by omega, by omega, hc'⟩
  · refine ⟨t, Hub.tallyOp_forbidden hready hop fun hparty => ?_, hle, hmax, rfl⟩
    have hover : 0xFFFFFFFF < t.p + dfield b.payload 4 4 := Nat.not_le.1 fun hfits => hadd ⟨(t.admits_addP x).1 hparty, hfits⟩
    simp [Tally.limit_addP, hover]

/-- An ADD_C is forbidden or leaves C at most P. -/
theorem Hub.tallyOp_addC_keeps (hop : dfield b.payload 2 1 = 2) :
    ∃ t', (h.tallyOp x b).tal (dfield b.payload 0 2 % 16384) = some t' ∧ t'.c ≤ t'.p ∧ t'.p ≤ 0xFFFFFFFF ∧ t'.p = t.p := by
  by_cases hadd : x = t.cons ∧ t.c + dfield b.payload 4 4 ≤ t.p
  · obtain ⟨hx, hfits⟩ := hadd
    have hacts := Hub.tallyOp_acts hready hop ((t.admits_addC x).2 hx) ((t.limit_addC _).trans (if_neg (Nat.not_lt.2 hfits)))
    rw [hacts, if_neg (by decide), if_pos rfl]
    obtain ⟨t', htal', hp', hc'⟩ := Hub.settleTally_counts h b.part.toNat (dfield b.payload 0 2 % 16384)
      { t with c := t.c + dfield b.payload 4 4 }
    dsimp only at hp' hc'
    exact ⟨t', htal', by omega, by omega, hp'⟩
  · refine ⟨t, Hub.tallyOp_forbidden hready hop fun hparty => ?_, hle, hmax, rfl⟩
    have hunder : t.p < t.c + dfield b.payload 4 4 := Nat.not_le.1 fun hfits => hadd ⟨(t.admits_addC x).1 hparty, hfits⟩
    simp [Tally.limit_addC, hunder]

end

/-! ### Timers (R247, R248) -/

section
variable {h : Hub} {p id : Nat}

theorem Hub.barTimeout_idle {bar : Barrier} (hbar : h.drainSync.bar id = some bar) (hpart : h.drainSync.barPart id = some p)
    (hidle : bar.first = none) : h.barTimeout id = h.drainSync := by
  simp [Hub.barTimeout, Hub.barExpire, hbar, hpart, Barrier.waiting, hidle]

theorem Hub.barTimeout_ends {bar : Barrier} (hbar : h.drainSync.bar id = some bar) (hpart : h.drainSync.barPart id = some p)
    (hwaiting : bar.first ≠ none) : h.barTimeout id =
      ((((h.drainSync.setBar id (some bar.next)).syncError p bar.members (bar.err 0x01 id none)).bump 0x900018).flag
        0x900000 2).eventOnce 0x0901 p [.u8 p, .u8 0, .u16 id, .u8 (bar.err 0x01 id none).phase,
          .u8 (bar.err 0x01 id none).waiter, .u8 (bar.err 0x01 id none).short] p := by
  have hw : bar.waiting = true := Option.isSome_iff_ne_none.2 hwaiting
  simp only [Hub.barTimeout, Hub.barExpire, hbar, hpart, hw, if_true]

section
variable {t : Tally} (htal : h.drainSync.tal id = some t) (hpart : h.drainSync.talPart id = some p)
include htal hpart

theorem Hub.talTimeout_idle (hnone : t.ge = none) : h.talTimeout id true = h.drainSync := by
  simp [Hub.talTimeout, Hub.talExpire, htal, hpart, hnone]

theorem Hub.talTimeout_ge {w : Nat × Nat} (hwait : t.ge = some w) : h.talTimeout id true =
    ((((h.drainSync.setTal id (some { t with ge := none })).syncError p [t.cons] (t.err 0x01 id true w.2)).bump 0x900018).flag
      0x900000 2).eventOnce 0x0901 p [.u8 p, .u8 1, .u16 id, .u8 0, .u8 t.cons, .u8 t.prod] p := by
  simp [Hub.talTimeout, Hub.talExpire, htal, hpart, hwait, Tally.err]

theorem Hub.talTimeout_le {w : Nat × Nat} (hwait : t.le = some w) : h.talTimeout id false =
    ((((h.drainSync.setTal id (some { t with le := none })).syncError p [t.prod] (t.err 0x01 id false w.2)).bump 0x900018).flag
      0x900000 2).eventOnce 0x0901 p [.u8 p, .u8 1, .u16 id, .u8 0, .u8 t.prod, .u8 t.cons] p := by
  simp [Hub.talTimeout, Hub.talExpire, htal, hpart, hwait, Tally.err]

end

end

end Sys2Proof.Machine
end

section
/-!
Proofs of the family of barriers and tallies: their hods (R234, R241, R250, R251, R555).
-/

open Sys2Proof Sys2Proof.Machine

namespace Sys2Proof.Machine

/-! ### What the hods of barriers do -/

section
variable {h : Hub} {q : HodReq} {id : Nat}

section
variable (hright : objRight q (h.barPart id) = none)
include hright

/-- BAR_SET configures a barrier on which no phase is open (R234). -/
theorem barSetHod_sets {p pmask timeout align : Nat} {expect : List Nat} (hpart : h.barPart id = some p)
    (hfields : h.barFields p pmask expect timeout align = none) (hidle : ∀ b, h.bar id = some b → b.waiting = false) :
    barSetHod q id pmask expect timeout align h = (h.setBar id (some { pmask, expect, timeout, align }), .ok []) := by
  rw [hpart] at hright
  have hopen : (h.bar id).any (·.waiting) = false := (Option.any_eq_false ..).2 hidle
  simp [barSetHod, hpart, hright, hfields, hopen]

theorem barFreeHod_frees (hid : id < 4096) (hidle : ∀ b, h.bar id = some b → b.waiting = false) :
    barFreeHod q id h = (h.setBar id none, .ok []) := by
  have hopen : (h.bar id).any (·.waiting) = false := (Option.any_eq_false ..).2 hidle
  simp [barFreeHod, hright, hopen, Nat.not_le.2 hid]

theorem barResetHod_ends {b : Barrier} (hbar : h.bar id = some b) : barResetHod q id h =
    ((h.setBar id (some b.next)).syncError ((h.barPart id).getD 0) b.arrivers (b.err 0x0C id none), .ok []) := by
  simp [barResetHod, hright, hbar]

theorem barArriveHod_counts {p phase : Nat} (hpart : h.barPart id = some p) (hcheck : h.arriveCheck p id phase 8 = none) :
    barArriveHod q id phase h = (h.countArrival p id 8 q.who.id, .ok []) := by
  rw [hpart] at hright
  simp [barArriveHod, hpart, hright, hcheck]

theorem barQueryHod_free (hid : id < 4096) (hbar : h.bar id = none) :
    barQueryHod q id h = (h, .ok [.u8 0, .u32 0, .list 2 (List.replicate 9 0), .u8 0, .u32 0]) := by
  simp only [barQueryHod, hright, hbar, if_neg (Nat.not_le.2 hid)]

theorem barQueryHod_answers {b : Barrier} (hid : id < 4096) (hbar : h.bar id = some b) :
    barQueryHod q id h = (h.tick, .ok [.u8 (if b.waiting then 2 else 1), .u32 b.phase.toNat, .list 2 b.counts,
      .u8 ((List.range 8).foldl (fun m x =>
        if 0 < b.e x ∧ h.unavail x ((h.barPart id).getD 0) then m + 2 ^ x else m) 0),
      .u32 (if b.waiting then (Config.elapsed h.free).toNat % (b.timeout + 1) else 0)]) := by
  simp only [barQueryHod, hright, hbar, if_neg (Nat.not_le.2 hid)]

end

/-! ### What the hods of tallies do -/

/-- The hub with the pending waits of a configured tally ended as CLEARED (R251). -/
def Hub.clearedTally (h : Hub) (p id : Nat) : Hub :=
  match h.tal id with
  | some t => h.endWaits p id 0x0C t
  | none => h

section
variable (hright : objRight q (h.talPart id) = none)
include hright

/-- TALLY_SET configures a tally anew (R241). -/
theorem tallySetHod_sets {p prod cons window alignBar timeout : Nat} (hpart : h.talPart id = some p) (hprod : prod < 8)
    (hcons : cons < 8) (halign : alignBar = 0xFFFF ∨ h.barPart alignBar = some p) (hlo : 1 ≤ timeout)
    (hhi : timeout ≤ 60000000) : tallySetHod q id prod cons window alignBar timeout h =
      ((h.clearedTally p id).setTal id (some { prod, cons, window, alignBar, timeout }), .ok []) := by
  rw [hpart] at hright
  have hbound : ¬ (alignBar ≠ 0xFFFF ∧ h.barPart alignBar ≠ some p) := fun hbad => halign.elim hbad.1 hbad.2
  have htime : ¬ (timeout = 0 ∨ 60000000 < timeout) := by omega
  simp only [tallySetHod, hpart, hright, if_neg (Nat.not_le.2 hprod), if_neg (Nat.not_le.2 hcons), if_neg hbound, if_neg htime]
  rfl

theorem tallyQueryHod_free (hid : id < 16384) (htal : h.tal id = none) :
    tallyQueryHod q id h = (h, .ok [.u8 0, .u32 0, .u32 0, .u8 0]) := by
  simp only [tallyQueryHod, hright, htal, if_neg (Nat.not_le.2 hid)]

theorem tallyQueryHod_answers {t : Tally} (hid : id < 16384) (htal : h.tal id = some t) : tallyQueryHod q id h =
    (h, .ok [.u8 (if t.error then 2 else 1), .u32 t.p, .u32 t.c, .u8 (b2n t.ge.isSome + 2 * b2n t.le.isSome)]) := by
  simp only [tallyQueryHod, hright, htal, if_neg (Nat.not_le.2 hid)]

theorem tallyFreeHod_frees {t : Tally} (htal : h.tal id = some t) :
    tallyFreeHod q id h = ((h.endWaits ((h.talPart id).getD 0) id 0x0C t).setTal id none, .ok []) := by
  simp [tallyFreeHod, hright, htal]

theorem tallyFreeHod_free (hid : id < 16384) (htal : h.tal id = none) : tallyFreeHod q id h = (h, .ok []) := by
  simp [tallyFreeHod, hright, htal, Nat.not_le.2 hid]

end

end

/-! ### From the opcodes to the hods (R399) -/

section
variable {d : Dev} {h : Hub} {q : HodReq}

/-- A request of the block of the sync engine acts on the hub alone. -/
theorem Dev.effect_sync {f : Hub → Hub} {o : HodOut} (hblock : q.op / 256 = 0x09)
    (e : d.hub.effectSync q = (f d.hub, o)) : d.effect q = (d.hubMap f, o) := by
  simp only [Dev.effect, hblock, Dev.byHub, e]
  rfl

theorem Hub.effectSync_barSet {id : Nat} {r : List Byte} (hop : q.op = 0x0901) (hargs : q.args = [.u16 id, .record r]) :
    h.effectSync q = barSetHod q id (leNat (slice r 0 1)) ((List.range 9).map fun k => leNat (slice r (2 + 2 * k) 2))
      (leNat (slice r 20 4)) (leNat (slice r 24 2)) h := by
  simp [Hub.effectSync, hop, HodReq.num, HodReq.recField, HodReq.bytes, hargs]

theorem Hub.effectSync_barFree {id : Nat} (hop : q.op = 0x0902) (hargs : q.args = [.u16 id]) :
    h.effectSync q = barFreeHod q id h := by
  simp [Hub.effectSync, hop, HodReq.num, hargs]

theorem Hub.effectSync_barReset {id : Nat} (hop : q.op = 0x0903) (hargs : q.args = [.u16 id]) :
    h.effectSync q = barResetHod q id h := by
  simp [Hub.effectSync, hop, HodReq.num, hargs]

theorem Hub.effectSync_barArrive {id phase : Nat} (hop : q.op = 0x0904) (hargs : q.args = [.u16 id, .u8 phase]) :
    h.effectSync q = barArriveHod q id phase h := by
  simp [Hub.effectSync, hop, HodReq.num, hargs]

theorem Hub.effectSync_barQuery {id : Nat} (hop : q.op = 0x0905) (hargs : q.args = [.u16 id]) :
    h.effectSync q = barQueryHod q id h := by
  simp [Hub.effectSync, hop, HodReq.num, hargs]

theorem Hub.effectSync_tallySet {id : Nat} {r : List Byte} (hop : q.op = 0x0906) (hargs : q.args = [.u16 id, .record r]) :
    h.effectSync q = tallySetHod q id (leNat (slice r 0 1)) (leNat (slice r 1 1)) (leNat (slice r 4 4)) (leNat (slice r 8 2))
      (leNat (slice r 12 4)) h := by
  simp [Hub.effectSync, hop, HodReq.num, HodReq.recField, HodReq.bytes, hargs]

theorem Hub.effectSync_tallyQuery {id : Nat} (hop : q.op = 0x0907) (hargs : q.args = [.u16 id]) :
    h.effectSync q = tallyQueryHod q id h := by
  simp [Hub.effectSync, hop, HodReq.num, hargs]

theorem Hub.effectSync_tallyFree {id : Nat} (hop : q.op = 0x0908) (hargs : q.args = [.u16 id]) :
    h.effectSync q = tallyFreeHod q id h := by
  simp [Hub.effectSync, hop, HodReq.num, hargs]

end

/-- A hod of the block of the sync engine is staged for the boundary, and there its effect on the device is the one on the hub. -/
theorem syncHodStages {c : Call} {i : Instr} {op : Nat} {args : List Arg} {k : Dev → HodReq → Prop}
    (hexec : ∀ s, exec i s = onBase (fun d : Dev => d.submit c op args) s) (hop : op / 256 = 0x09)
    (hbnd : (findOp op).all (·.bnd) = true)
    (heffect : ∀ (d : Dev) (q : HodReq), q.op = op → q.args = args →
      (∀ {f : Hub → Hub} {o : HodOut}, d.hub.effectSync q = (f d.hub, o) → d.effect q = (d.hubMap f, o)) → k d q) :
    HodStages c i op args k :=
  hodStages_of_effect hexec (by omega) hbnd fun d q hq hargs => heffect d q hq hargs (Dev.effect_sync (hq ▸ hop))

/-- The hods of barriers are staged for the boundary, and there do what R234, R250, R251 and R555 say. -/
theorem barrierHodsAct : BarrierHodsAct := by
  intro c
  refine ⟨fun bar record => ?_, fun bar => ?_, fun bar => ?_, fun bar phase => ?_, fun bar => ?_⟩
  · refine syncHodStages (fun _ => rfl) rfl (by decide) fun d q hop hargs act => ?_
    intro id f expect hright p hpart hfields hidle
    exact act ((Hub.effectSync_barSet hop hargs).trans (barSetHod_sets hright hpart hfields hidle))
  · refine syncHodStages (fun _ => rfl) rfl (by decide) fun d q hop hargs act hright hid hidle => ?_
    exact act ((Hub.effectSync_barFree hop hargs).trans (barFreeHod_frees hright hid hidle))
  · refine syncHodStages (fun _ => rfl) rfl (by decide) fun d q hop hargs act hright b hbar => ?_
    exact act ((Hub.effectSync_barReset hop hargs).trans (barResetHod_ends hright hbar))
  · refine syncHodStages (fun _ => rfl) rfl (by decide) fun d q hop hargs act hright p hpart hcheck => ?_
    exact act ((Hub.effectSync_barArrive hop hargs).trans (barArriveHod_counts hright hpart hcheck))
  · refine syncHodStages (fun _ => rfl) rfl (by decide) fun d q hop hargs act => ?_
    intro n hright hid
    exact ⟨fun hbar => act (f := id) ((Hub.effectSync_barQuery hop hargs).trans (barQueryHod_free hright hid hbar)),
      fun b hbar => act ((Hub.effectSync_barQuery hop hargs).trans (barQueryHod_answers hright hid hbar))⟩

/-- The hods of tallies are staged for the boundary, and there do what R241, R251 and R555 say. -/
theorem tallyHodsAct : TallyHodsAct := by
  intro c
  refine ⟨fun tally record => ?_, fun tally => ?_, fun tally => ?_⟩
  · refine syncHodStages (fun _ => rfl) rfl (by decide) fun d q hop hargs act => ?_
    intro id f hright p hpart hprod hcons halign hlo hhi
    exact act ((Hub.effectSync_tallySet hop hargs).trans (tallySetHod_sets hright hpart hprod hcons halign hlo hhi))
  · refine syncHodStages (fun _ => rfl) rfl (by decide) fun d q hop hargs act hright hid => ?_
    have hquery := Hub.effectSync_tallyQuery (h := d.hub) hop hargs
    exact ⟨fun htal => act (f := id) (hquery.trans (tallyQueryHod_free hright hid htal)),
      fun t htal => act (f := id) (hquery.trans (tallyQueryHod_answers hright hid htal))⟩
  · refine syncHodStages (fun _ => rfl) rfl (by decide) fun d q hop hargs act => ?_
    intro n hright
    have hfree := Hub.effectSync_tallyFree (h := d.hub) hop hargs
    exact ⟨fun t htal => act (hfree.trans (tallyFreeHod_frees hright htal)),
      fun htal hid => act (f := id) (hfree.trans (tallyFreeHod_free hright hid htal))⟩

end Sys2Proof.Machine
end

section
/-!
Proofs of the family of barriers and tallies: the statements about arrivals, adds and waits, and timers (R237, R242 to R248).
-/

open Sys2Proof Sys2Proof.Machine

namespace Sys2Proof.Machine

/-- Settles O35: each arrival is counted or refused as `Hub.arriveCheck` has it, the timer ends a phase that has begun, and the
hods are `barrierHodsAct`. -/
theorem barrierCountsArrivals : Obligations.BarrierCountsArrivals := by
  refine ⟨?_, barrierHodsAct⟩
  intro s x b h bar hup p id phase arrival
  refine ⟨fun hhead => ⟨fun hforeign => ?_, fun hpart hbar => ⟨fun he => ?_, fun he hgone => ?_⟩⟩, fun id p hbar hpart => ?_⟩
  · exact exec_barrierArrive hup hhead (Hub.arrive_refused (by decide) (Hub.arriveCheck_foreign hforeign))
  · exact exec_barrierArrive hup hhead (Hub.arrive_refused (by decide) (Hub.arriveCheck_uncounted hpart hbar he))
  · have hcheck := Hub.arriveCheck_available (phase := phase) hpart hbar he hgone
    refine ⟨fun hphase => ?_, fun hphase hfull => ?_, fun hphase hleft => ?_⟩
    · exact exec_barrierArrive hup hhead (Hub.arrive_refused (by decide) (hcheck.trans (if_pos hphase)))
    · exact exec_barrierArrive hup hhead
        (Hub.arrive_refused (by decide) (hcheck.trans ((if_neg (not_not_intro hphase)).trans (if_pos hfull))))
    · have hcounted : bar.counted x (dfield b.payload 3 1) = arrival := by
        rw [Barrier.counted, partyCode_acc]
      have harrive := (Hub.arrive_counted (hcheck.trans ((if_neg (not_not_intro hphase)).trans
        (if_neg (Nat.not_le.2 hleft))))).trans (Hub.countArrival_eq hbar _)
      rw [hcounted] at harrive
      exact ⟨fun hmore => exec_barrierArrive hup hhead (harrive.trans (if_neg (Nat.not_le.2 hmore))),
        fun hall => exec_barrierArrive hup hhead (harrive.trans (if_pos hall))⟩
  · exact ⟨fun hidle => exec_onHub hup rfl (Hub.barTimeout_idle hbar hpart hidle),
      fun hwaiting => exec_onHub hup rfl (Hub.barTimeout_ends hbar hpart hwaiting)⟩

/-- Settles O36: an ADD past its limit is answered alone, and any ADD is forbidden or keeps the counts in range. -/
theorem tallyAddsNeverWrap : Obligations.TallyAddsNeverWrap := by
  intro s x b h t hup p id arg hpart htal herror hprod hcons
  have hready : h.TallyReady p id t := ⟨hpart, htal, herror, hprod, hcons⟩
  have refused {c : Instr} {k kind : Nat} (hc : exec c s = onHub (fun h => h.syncBrick x k) s) (hhead : SyncHead s x k b h)
      (hk : k ≠ 0) (hparty : t.admits x k = true) (hlimit : t.limit k arg = some kind) :
      exec c s = .next (s.hubMap fun _ => h.refuseSync x p { kind, obj := 1, id, value := t.p - t.c }) ∧
        (h.refuseSync x p { kind, obj := 1, id, value := t.p - t.c }).tal id = some t :=
    ⟨exec_tallyOp hup hc hhead hk (Hub.tallyOp_refused hready (hhead.operation hk) hparty hlimit),
      (Hub.refuseSync_tal ..).trans htal⟩
  refine ⟨fun hhead hx hover => ?_, fun hhead hx hunder => ?_, fun hle hmax => ⟨fun hhead => ?_, fun hhead => ?_⟩⟩
  · exact refused rfl hhead (by decide) ((t.admits_addP x).2 hx) ((t.limit_addP arg).trans (if_pos hover))
  · exact refused rfl hhead (by decide) ((t.admits_addC x).2 hx) ((t.limit_addC arg).trans (if_pos hunder))
  · obtain ⟨t', hkeeps⟩ := Hub.tallyOp_addP_keeps (x := x) hready hle hmax (hhead.operation (by decide))
    exact ⟨_, t', exec_tallyOp hup rfl hhead (by decide) rfl, hkeeps⟩
  · obtain ⟨t', hkeeps⟩ := Hub.tallyOp_addC_keeps (x := x) hready hle hmax (hhead.operation (by decide))
    exact ⟨_, t', exec_tallyOp hup rfl hhead (by decide) rfl, hkeeps⟩

/-- Settles O37: each operation within the limits of its tally acts, a second wait is past one, the timer ends a pending wait, and
the hods are `tallyHodsAct`. -/
theorem tallyOperationsAct : Obligations.TallyOperationsAct := by
  refine ⟨?_, tallyHodsAct⟩
  intro s x b h t hup p id core arg
  refine ⟨fun hpart htal herror hprod hcons => ?_, fun id p w htal hpart => ?_⟩
  · have hready : h.TallyReady p id t := ⟨hpart, htal, herror, hprod, hcons⟩
    have acts {k : Nat} (hhead : SyncHead s x k b h) (hk : k ≠ 0) (hparty : t.admits x k = true)
        (hlimit : t.limit k arg = none) := Hub.tallyOp_acts hready (hhead.operation hk) hparty hlimit
    refine ⟨fun hhead hx hfits => ?_, fun hhead hx hfits => ?_, fun hhead hx => ?_, fun hhead hx hge => ?_, fun hhead hx => ?_⟩
    · exact exec_tallyOp hup rfl hhead (by decide)
        (acts hhead (by decide) ((t.admits_addP x).2 hx) ((t.limit_addP arg).trans (if_neg (Nat.not_lt.2 hfits))))
    · exact exec_tallyOp hup rfl hhead (by decide)
        (acts hhead (by decide) ((t.admits_addC x).2 hx) ((t.limit_addC arg).trans (if_neg (Nat.not_lt.2 hfits))))
    · have hparty := (t.admits_waitGe x).2 hx
      have waits (hge : t.ge = none) (hle : t.le = none) : h.tallyOp x b = _ :=
        (acts hhead (by decide) hparty (by simp [Tally.limit_waitGe, hge])).trans (Hub.settleTally_ge hge hle)
      refine ⟨fun hge hle hmet => ?_, fun hge hle hunmet => ?_, fun hbusy => ?_⟩
      · exact exec_tallyOp hup rfl hhead (by decide) ((waits hge hle).trans (if_pos hmet))
      · exact exec_tallyOp hup rfl hhead (by decide) ((waits hge hle).trans (if_neg (Nat.not_le.2 hunmet)))
      · exact exec_tallyOp hup rfl hhead (by decide) (Hub.tallyOp_refused hready (hhead.operation (by decide)) hparty
          ((t.limit_waitGe arg).trans (if_pos (Option.isSome_iff_ne_none.2 hbusy))))
    · have waits (hle : t.le = none) : h.tallyOp x b = _ :=
        (acts hhead (by decide) ((t.admits_waitLe x).2 hx) (by simp [Tally.limit_waitLe, hle])).trans
          (Hub.settleTally_le hge hle)
      exact ⟨fun hle hmet => exec_tallyOp hup rfl hhead (by decide) ((waits hle).trans (if_pos hmet)),
        fun hle hunmet => exec_tallyOp hup rfl hhead (by decide) ((waits hle).trans (if_neg (Nat.not_le.2 hunmet)))⟩
    · exact exec_tallyOp hup rfl hhead (by decide) (acts hhead (by decide) ((t.admits_read x).2 hx) (t.limit_read arg))
  · exact ⟨fun hnone => exec_onHub hup rfl (Hub.talTimeout_idle htal hpart hnone),
      fun hge => exec_onHub hup rfl (Hub.talTimeout_ge htal hpart hge),
      fun hle => exec_onHub hup rfl (Hub.talTimeout_le htal hpart hle)⟩

end Sys2Proof.Machine
end

section
/-!
Proofs of the family of the governor: its hods (R287).
-/

open Sys2Proof Sys2Proof.Machine

namespace Sys2Proof.Machine

/-! ### What the hods of the governor do -/

section
variable {h : Hub} {q : HodReq} {x : Nat} (hright : q.who.isVf = false) (hx : x < 8)
include hright hx

theorem pwrQueryHod_answers : pwrQueryHod q x h =
    (h, .ok ([.u32 (h.grantReg x), .u16 (h.reasonNow x), .u16 (h.acc x).last] ++
      (List.range 16).flatMap (fun n => [Arg.u64 (h.ctr (thrTime x n)).val.toNat, .u64 (h.ctr (thrCount x n)).val.toNat]) ++
      [.u64 (h.ctr (accReg x 0x10)).val.toNat, .u16 (h.acc x).staleRun, .u8 (b2n (h.acc x).critical)])) := by
  simp only [pwrQueryHod, hright, Bool.false_eq_true, if_false, if_neg (Nat.not_le.2 hx)]

/-- PHASE_TABLE_SET writes the 64 entries of a table in which no entry has FMIN above FMAX (R287). -/
theorem phaseTableSetHod_writes {e : Nat → Nat} (hrange : ∀ n < 64, bits (e n) 7 0 ≤ bits (e n) 15 8) :
    phaseTableSetHod q x ((List.range 64).map e) h =
      ((List.range 64).foldl (fun h n => h.setReg (accReg x (0x200 + 4 * n)) (e n % 2 ^ 20)) h, .ok []) := by
  have hentry : ∀ n ∈ List.range 64, ((List.range 64).map e).getD n 0 = e n := fun n hn => by
    simp [List.getElem?_range (List.mem_range.1 hn)]
  have hvalid : ¬ (((List.range 64).map e).length ≠ 64 ∨
      ((List.range 64).map e).any (fun v => decide (bits v 15 8 < bits v 7 0)) = true) := by
    simpa using hrange
  have hwrites : (List.range 64).foldl
        (fun h n => h.setReg (accReg x (0x200 + 4 * n)) (((List.range 64).map e).getD n 0 % 2 ^ 20)) h =
      (List.range 64).foldl (fun h n => h.setReg (accReg x (0x200 + 4 * n)) (e n % 2 ^ 20)) h :=
    List.foldl_rel rfl fun n hn a b hab => by rw [hentry n hn, hab]
  simp only [phaseTableSetHod, hright, Bool.false_eq_true, if_false, if_neg (Nat.not_le.2 hx), if_neg hvalid, hwrites]

theorem estResetHod_one {ph : Nat} (hph : ph < 64) :
    estResetHod q x ph h = (h.setReg (accReg x (0x300 + 4 * ph)) 0, .ok []) := by
  have hone : ph ≠ 0xFF := by omega
  simp only [estResetHod, hright, Bool.false_eq_true, if_false, if_neg (Nat.not_le.2 hx), if_neg hone, if_neg (Nat.not_le.2 hph)]

theorem estResetHod_all : estResetHod q x 0xFF h =
    ((List.range 64).foldl (fun h n => h.setReg (accReg x (0x300 + 4 * n)) 0) h, .ok []) := by
  simp only [estResetHod, hright, Bool.false_eq_true, if_false, if_neg (Nat.not_le.2 hx), if_true]

end

/-! ### From the opcodes to the hods (R399) -/

section
variable {d : Dev} {h : Hub} {q : HodReq} {x : Nat}

/-- A request of a block from the governor's on, but for the firmware's, acts on the hub alone. -/
theorem Dev.effect_power {f : Hub → Hub} {o : HodOut} (hlo : 0x0A ≤ q.op / 256) (hfw : q.op / 256 ≠ 0x12)
    (e : d.hub.effectPower q = (f d.hub, o)) : d.effect q = (d.hubMap f, o) := by
  have hpower : d.effect q = d.byHub (·.effectPower q) := by
    unfold Dev.effect
    split
    case h_8 => rfl
    all_goals omega
  simp only [hpower, Dev.byHub, e]
  rfl

theorem Hub.effectPower_pwrQuery (hop : q.op = 0x0A01) (hargs : q.args = [.u8 x]) :
    h.effectPower q = pwrQueryHod q x h := by
  simp [Hub.effectPower, hop, HodReq.num, hargs]

theorem Hub.effectPower_phaseTableSet {r : List Byte} (hop : q.op = 0x0A02) (hargs : q.args = [.u8 x, .record r]) :
    h.effectPower q = phaseTableSetHod q x ((List.range 64).map fun n => leNat (slice r (4 * n) 4)) h := by
  simp [Hub.effectPower, hop, HodReq.num, HodReq.recField, HodReq.bytes, hargs]

theorem Hub.effectPower_estReset {ph : Nat} (hop : q.op = 0x0A03) (hargs : q.args = [.u8 x, .u8 ph]) :
    h.effectPower q = estResetHod q x ph h := by
  simp [Hub.effectPower, hop, HodReq.num, hargs]

end

/-- A hod of a block from the governor's on, but for the firmware's, is staged for the boundary where its row takes effect there,
and its effect on the device is the one on the hub. -/
theorem powerHodStages {c : Call} {i : Instr} {op : Nat} {args : List Arg} {k : Dev → HodReq → Prop}
    (hexec : ∀ s, exec i s = onBase (fun d : Dev => d.submit c op args) s) (hlo : 0x0A ≤ op / 256) (hfw : op / 256 ≠ 0x12)
    (hop : op < 65536) (hbnd : (findOp op).all (·.bnd) = true)
    (heffect : ∀ (d : Dev) (q : HodReq), q.op = op → q.args = args →
      (∀ {f : Hub → Hub} {o : HodOut}, d.hub.effectPower q = (f d.hub, o) → d.effect q = (d.hubMap f, o)) → k d q) :
    HodStages c i op args k :=
  hodStages_of_effect hexec hop hbnd fun d q hq hargs => heffect d q hq hargs (Dev.effect_power (hq ▸ hlo) (hq ▸ hfw))

/-- The hods of the governor are staged for the boundary, and there do what R287 says. -/
theorem governorHodsAct : GovernorHodsAct := by
  intro c
  refine ⟨fun acc => ?_, fun acc record => ?_, fun acc which => ?_⟩
  · refine powerHodStages (fun _ => rfl) (by decide) (by decide) (by decide) (by decide) fun d q hop hargs act => ?_
    intro x h hright hx
    exact act (f := id) ((Hub.effectPower_pwrQuery hop hargs).trans (pwrQueryHod_answers hright hx))
  · refine powerHodStages (fun _ => rfl) (by decide) (by decide) (by decide) (by decide) fun d q hop hargs act => ?_
    intro e hright hx hrange
    exact act ((Hub.effectPower_phaseTableSet hop hargs).trans (phaseTableSetHod_writes hright hx hrange))
  · refine powerHodStages (fun _ => rfl) (by decide) (by decide) (by decide) (by decide) fun d q hop hargs act hright hx => ?_
    have hreset := Hub.effectPower_estReset (h := d.hub) hop hargs
    refine ⟨fun hph => act (hreset.trans (estResetHod_one hright hx hph)), fun hall => act ?_⟩
    rw [hreset, hall]
    exact estResetHod_all hright hx

end Sys2Proof.Machine
end

section
/-!
Proofs of the family of the governor: telemetry, the lease, and the wires VRALERT and FLOW_LOSS (R258, R263, R268, R283, R284,
R306).
-/

open Sys2Proof Sys2Proof.Machine

namespace Sys2Proof.Machine

section
variable {h : Hub} {x : Nat}

/-! ### Telemetry (R258, R263) -/

section
variable {b : Brick} {k : Hub} (htake : h.takeBrick 0xC2 x .telemetry = some (b, k))
include htake

theorem Hub.telemetry_discarded (hbad : k.crs.closed = true ∨ telemOk b = false) :
    h.telemetry x = k.updAcc x fun g => { g with badTelem := sat 255 (g.badTelem + 1) } := by
  have hrefused : (k.crs.closed || !telemOk b) = true := by simpa using hbad
  simp only [Hub.telemetry, htake, hrefused, if_true]

variable (hopen : k.crs.closed = false) (hok : telemOk b = true)
include hopen hok

/-- Telemetry before the close replaces what was there, and then applies its ageing report, if it has one. -/
theorem Hub.telemetry_accepted : h.telemetry x =
    let taken := k.updAcc x fun g => { g with telem := some (telemOf b), fresh := true }
    if (leNat (slice b.payload 1 1)).testBit 0 then taken.ageing x (leNat (slice b.payload 3 1)) (leNat (slice b.payload 4 1))
    else taken := by
  simp only [Hub.telemetry, htake, hopen, hok, Bool.not_true, Bool.or_self, Bool.false_eq_true, if_false]

theorem Hub.telemetry_replaces (hage : (leNat (slice b.payload 1 1)).testBit 0 = false) :
    h.telemetry x = k.updAcc x fun g => { g with telem := some (telemOf b), fresh := true } :=
  (Hub.telemetry_accepted htake hopen hok).trans (if_neg (by simp [hage]))

theorem Hub.telemetry_ages (hage : (leNat (slice b.payload 1 1)).testBit 0 = true) : h.telemetry x =
    (k.updAcc x fun g => { g with telem := some (telemOf b), fresh := true }).ageing x (leNat (slice b.payload 3 1))
      (leNat (slice b.payload 4 1)) :=
  (Hub.telemetry_accepted htake hopen hok).trans (if_pos hage)

end

/-! ### The lease (R268) -/

theorem Hub.leaseExpiry_expired (hrounds : h.gov.rounds = 0) (hlease : h.gov.lease ≠ 0) : h.leaseExpiry =
    ({ h with gov := { h.gov with lease := 0 } }.flag 0xA0001C 1).event 0x0A08 [.u8 0xFF, .u32 (h.fld 0xA0000C 15 0)] :=
  if_pos ⟨hrounds, hlease⟩

/-! ### VRALERT (R284) -/

section
variable (hx : x < 8)
include hx

theorem Hub.vrAssert_first (hforced : (h.acc x).vrForced = false) :
    h.vrAssert x = h.reasonEdge x fun h => h.updAcc x fun g => { g with vrWire := true, vrForced := true } :=
  (if_neg (Nat.not_le.2 hx)).trans (if_neg (by simp [hforced]))

/-- An alert while ACCx_THROT_L is forced already ends the record of the one before. -/
theorem Hub.vrAssert_again (hforced : (h.acc x).vrForced = true) :
    h.vrAssert x = (h.event 0x0A01 [.u8 x, .u32 (Config.elapsed h.free).toNat]).tick :=
  (if_neg (Nat.not_le.2 hx)).trans (if_pos hforced)

theorem Hub.vrRelease_forced (hforced : (h.acc x).vrForced = true) : h.vrRelease x =
    ((h.reasonEdge x fun h => h.updAcc x fun g =>
      { g with vrWire := false, vrForced := false, vrHold := h.fld 0xA00018 15 8 }).event 0x0A01
        [.u8 x, .u32 (Config.elapsed h.free).toNat]).tick :=
  if_pos ⟨hx, hforced⟩

end

/-! ### FLOW_LOSS (R283, R306) -/

theorem Hub.flowAssert_first (hstop : h.hs.stop = false) : h.flowAssert =
    ({ h with hs := { h.hs with flowLoss := true } }.driveStop true).event 0x0A02 [.u8 1] :=
  if_neg (by simp [hstop])

theorem Hub.flowAssert_stopped (hstop : h.hs.stop = true) :
    h.flowAssert = { h with hs := { h.hs with flowLoss := true } } :=
  if_pos hstop

theorem Hub.flowDeassert_otherStep (hstep : h.hs.step ≠ 4) :
    h.flowDeassert = { h with hs := { h.hs with flowLoss := false } } :=
  if_neg hstep

/-- Step 4 of the tray sequence is complete where no flow is lost. -/
theorem Hub.seqStep_flowing (hstep : h.hs.step = 4) (hflow : h.hs.flowLoss = false) :
    h.seqStep = { h with hs := { h.hs with step := 5 } }.seqSettle := by
  simp [Hub.seqStep, hstep, hflow]

theorem Hub.flowDeassert_step4 (hstep : h.hs.step = 4) :
    h.flowDeassert = { h with hs := { h.hs with flowLoss := false, step := 5 } }.seqSettle :=
  (if_pos hstep).trans (Hub.seqStep_flowing hstep rfl)

theorem Hub.flowRelease_stopped (hstop : h.hs.stop = true) (hflow : h.hs.flowLoss = false) :
    h.flowRelease = (h.driveStop false).event 0x0A02 [.u8 0] :=
  if_pos (by simp [hstop, hflow])

end

/-! ### From an operation of the footing die to the command that runs it -/

/-- With both dies powered and running, a command of the footing die is what its operation makes of the hub that is there. -/
theorem exec_onFoot {c : Instr} {s : State} {f g : Hub → Hub} (haux : s.dev.hub.therm.aux = true) (hup : s.dev.hub.up = true)
    (hc : exec c s = onFoot f s) (e : f s.dev.hub = g s.dev.hub) : exec c s = .next (s.hubMap g) := by
  rw [hc, onFoot_up f haux hup, State.hubMap_congr e]

/-- Settles O38: telemetry and the lease are operations of the base die, the two wires are operations of the footing die, each with
its case's condition met, and the hods are `governorHodsAct`. -/
theorem governorInputsAct : Obligations.GovernorInputsAct := by
  refine ⟨?_, governorHodsAct⟩
  intro s x hup h
  refine ⟨fun b h' htake => ⟨fun hbad => ?_, fun hopen hok hage => ?_, fun hopen hok hage => ?_⟩,
    fun hrounds hlease => ?_, fun haux => ⟨fun hforced => ?_, fun hforced => ?_, fun hforced => ?_, fun hstop => ?_,
      fun hstop => ?_, fun hstep => ?_, fun hstep => ?_, fun hstop hflow => ?_⟩⟩
  · exact exec_onHub hup rfl (Hub.telemetry_discarded htake hbad)
  · exact exec_onHub hup rfl (Hub.telemetry_replaces htake hopen hok hage)
  · exact exec_onHub hup rfl (Hub.telemetry_ages htake hopen hok hage)
  · exact exec_onHub hup rfl (Hub.leaseExpiry_expired hrounds hlease)
  · exact exec_onFoot haux hup rfl (Hub.vrAssert_first x.isLt hforced)
  · exact exec_onFoot haux hup rfl (Hub.vrAssert_again x.isLt hforced)
  · exact exec_onFoot haux hup rfl (Hub.vrRelease_forced x.isLt hforced)
  · exact exec_onFoot haux hup rfl (Hub.flowAssert_first hstop)
  · exact exec_onFoot haux hup rfl (Hub.flowAssert_stopped hstop)
  · exact exec_onFoot haux hup rfl (Hub.flowDeassert_otherStep hstep)
  · exact exec_onFoot haux hup rfl (Hub.flowDeassert_step4 hstep)
  · exact exec_onFoot haux hup rfl (Hub.flowRelease_stopped hstop hflow)

end Sys2Proof.Machine
end

section
/-!
Proofs of the family of the tray's power path: the footing die at the rise of VIN_AUX (R306, R313, R376).
-/

open Sys2Proof Sys2Proof.Machine

namespace Sys2Proof.Machine

/-! ### What a footing die at its reset values reads -/

/-- A register that is not stored reads its reset value. -/
theorem Hub.reg_of_regs_nil {h : Hub} (hregs : h.regs = []) (a : Nat) : h.reg a = (regReset a).toNat := by
  rw [Hub.reg, hregs, Tbl.get]

theorem Hub.reg_setFld_self (h : Hub) (a i j v : Nat) : (h.setFld a i j v).reg a = putBits (h.reg a) i j v % 2 ^ 32 :=
  congrArg BitVec.toNat (Tbl.get_set_self ..)

/-- H8's CH_CFG keeps its reset value in liquid mode, and its EN is cleared in air mode. -/
theorem Hub.reg_footReset_eight (h : Hub) (liquid : Bool) (crit : BitVec 2) : (h.footReset liquid crit).reg (hsReg 8 0) =
    if liquid then (regReset (hsReg 8 0)).toNat else putBits (regReset (hsReg 8 0)).toNat 31 31 0 % 2 ^ 32 := by
  have hpumps : hsReg 8 0 ≠ coolReg 12 0 ∧ hsReg 8 0 ≠ coolReg 13 0 := by decide
  simp only [Hub.footReset, Hub.reg_pumpReset_ne _ hpumps.1 hpumps.2]
  split
  · exact Hub.reg_of_regs_nil rfl _
  · rw [Hub.reg_setFld_self, Hub.reg_of_regs_nil rfl]

/-- Beside the pumps' enables and H8's, every register of a footing die at its reset values reads its own. -/
theorem Hub.reg_footReset_ne (h : Hub) (liquid : Bool) (crit : BitVec 2) {a : Nat} (h8 : a ≠ hsReg 8 0)
    (h12 : a ≠ coolReg 12 0) (h13 : a ≠ coolReg 13 0) : (h.footReset liquid crit).reg a = (regReset a).toNat := by
  simp only [Hub.footReset, Hub.reg_pumpReset_ne _ h12 h13]
  split
  · exact Hub.reg_of_regs_nil rfl _
  · rw [Hub.reg_setFld_ne _ _ _ _ h8, Hub.reg_of_regs_nil rfl]

theorem Hub.hsEn_footReset_eight (h : Hub) (liquid : Bool) (crit : BitVec 2) : (h.footReset liquid crit).hsEn 8 = liquid := by
  rw [Hub.hsEn, Hub.bitAt, Hub.reg_footReset_eight]
  cases liquid <;> decide +kernel

theorem Hub.hsEn_footReset_nine (h : Hub) (liquid : Bool) (crit : BitVec 2) : (h.footReset liquid crit).hsEn 9 = true := by
  have hreset : (regReset (hsReg 9 0)).toNat.testBit 31 = true := by decide +kernel
  rw [Hub.hsEn, Hub.bitAt, Hub.reg_footReset_ne h liquid crit (by decide) (by decide) (by decide), hreset]

theorem Hub.hsCh_footReset_waitSeat (h : Hub) (liquid : Bool) (crit : BitVec 2) {c : Nat} :
    ((h.footReset liquid crit).hsCh c).st = .waitSeat := by
  simp only [Hub.hsCh, Hub.footReset_hs, Tbl.get]
  split
  · rfl
  · split <;> rfl

/-! ### The row itself -/

theorem exec_footingPowerOn (s : State) (liquid : Bool) (crit : BitVec 2) : exec (.footingPowerOn liquid crit) s =
    .next ⟨s.pending, ⟨Hub.footReset { s.dev.hub with therm := { s.dev.hub.therm with aux := true } } liquid crit,
      { s.dev.mem with tile := [], spill := [] }, s.dev.otp⟩⟩ := rfl

/-- Settles O13: VIN_AUX rising resets the footing die under the straps that it samples, and what the reset leaves is read off the
lemmas about it. -/
theorem footingPowerOnResets : Obligations.FootingPowerOnResets := by
  intro s liquid crit
  refine ⟨_, exec_footingPowerOn s liquid crit, baseHeldInReset_footReset s _ liquid crit, ?_⟩
  simp [Hub.shdn, Hub.footReset_therm, Hub.footReset_cool, Hub.hsEn_footReset_eight, Hub.hsEn_footReset_nine,
    Hub.hsCh_footReset_waitSeat]

end Sys2Proof.Machine
end

section
/-!
Proofs of the family of the tray's power path: lost clocks, self-throttle and switched domains (R309, R544, R549).
-/

open Sys2Proof Sys2Proof.Machine

namespace Sys2Proof.Machine

section
variable {h : Hub} {n : Nat}

/-! ### Lost and restored clocks (R549) -/

theorem Hub.refclkLoss_first (hlost : h.therm.refclkLost = false) : h.refclkLoss =
    (List.range 8).foldl (fun h x =>
        if (h.port x).st = .active then h.enterRetrain x 1 0 else h.updPort x fun p => { p with locked := 0 })
      (({ h with therm := { h.therm with refclkLost := true } }.flag 0x100038 1).event 0x0113 [.u8 0, .u8 0]) :=
  if_neg (by simp [hlost])

theorem Hub.refclkBack_lost (hlost : h.therm.refclkLost = true) : h.refclkBack =
    { h with therm := { h.therm with refclkLost := false } }.event 0x0113 [.u8 0, .u8 1] :=
  if_pos hlost

theorem Hub.clk32Loss_first (hsubst : h.therm.subst = false) : h.clk32Loss =
    ({ h with therm := { h.therm with subst := true } }.flag 0x100038 2).event 0x0113 [.u8 2, .u8 0] :=
  if_neg (by simp [hsubst])

theorem Hub.clk32Back_substituted (hsubst : h.therm.subst = true) : h.clk32Back =
    { h with therm := { h.therm with subst := false } }.event 0x0113 [.u8 2, .u8 1] :=
  if_pos hsubst

/-! ### Self-throttle (R544, R546) -/

/-- HUB_TJ is read off the die sensors alone. -/
theorem Hub.hubTj_withTherm (h : Hub) (t : Therm) : ({ h with therm := t } : Hub).hubTj = h.hubTj := rfl

/-- A VR alert enters self-throttle as its first cause, and the record keeps a temperature cause that stood. -/
theorem Hub.throtCause_alert_first (hthrot : h.therm.throt = false) : h.throtCause false true =
    { h with therm := { h.therm with throt := true, causeVr := true } }.event 0x0111
      [.u8 1, .u8 (b2n h.therm.causeTj), .u8 1, .u16 (unsigned 16 h.hubTj)] := by
  simp [Hub.throtCause, hthrot, Hub.throtEvent, Hub.hubTj_withTherm, b2n]

theorem Hub.throtCause_alert_throttled (hthrot : h.therm.throt = true) : h.throtCause false true =
    { h with therm := { h.therm with causeVr := true } } := by
  simp [Hub.throtCause, hthrot]

theorem Hub.throtExit_cool (hthrot : h.therm.throt = true) (htj : h.hubTj < 760) : h.throtExit =
    { h with therm := { h.therm with throt := false, causeTj := false, causeVr := false } }.event 0x0111
      [.u8 0, .u8 0, .u8 0, .u16 (unsigned 16 h.hubTj)] :=
  if_pos ⟨hthrot, htj⟩

/-! ### Switched domains (R172, R203, R309) -/

theorem Hub.domainUp_group (hlo : 64 ≤ n) (hhi : n < 128) (hstart : h.groupPower (n - 64) = .starting) : h.domainUp n =
    (groupTiles (n - 64)).foldl (fun h n => if (h.tileAt n).st = .unpowered then h.startTest n else h)
      (h.setGroup (n - 64) .on) :=
  (if_pos ⟨hlo, hhi⟩).trans (if_pos hstart)

theorem Hub.domainUp_engine (hlo : 128 ≤ n) (hhi : n < 152) (hen : h.bitAt 0x600004 (n - 128) = true)
    (hgood : h.mortar.failed.testBit (n - 128) = false) : h.domainUp n =
    { h with mortar := { h.mortar with on := setBit h.mortar.on (n - 128) true } }.mortarPause :=
  (if_neg (by omega)).trans ((if_pos ⟨hlo, hhi⟩).trans (if_pos (by simp [hen, hgood])))

theorem Hub.domainUp_sampler (hlo : 152 ≤ n) (hhi : n < 154) (hup : h.smpUp (n - 152) = true) : h.domainUp n =
    { h with smp := { h.smp with on := setBit h.smp.on (n - 152) true } }.noteSamplers :=
  (if_neg (by omega)).trans ((if_neg (by omega)).trans ((if_pos ⟨hlo, hhi⟩).trans (if_pos hup)))

theorem Hub.domainUp_seal (hlo : 154 ≤ n) (hhi : n < 162) (hwant : h.sealWanted (n - 154) = true) : h.domainUp n =
    h.updPort (n - 154) fun p => { p with sealUp := true } :=
  (if_neg (by omega)).trans ((if_neg (by omega)).trans ((if_neg (by omega)).trans ((if_pos ⟨hlo, hhi⟩).trans (if_pos hwant))))

end

/-- Settles O16: each row is its operation on the hub with the row's condition met. -/
theorem clockThrottleAndDomainRows : Obligations.ClockThrottleAndDomainRows := by
  intro s dom hup h
  refine ⟨fun hlost => ?_, fun hlost => ?_, fun hsubst => ?_, fun hsubst => ?_, fun hthrot => ?_, fun hthrot => ?_,
    fun hthrot htj => ?_, fun hlo hhi hstart => ?_, fun hlo hhi hen hgood => ?_, fun hlo hhi hsmp => ?_,
    fun hlo hhi hwant => ?_⟩
  · exact exec_onHub hup rfl (Hub.refclkLoss_first hlost)
  · exact exec_onHub hup rfl (Hub.refclkBack_lost hlost)
  · exact exec_onHub hup rfl (Hub.clk32Loss_first hsubst)
  · exact exec_onHub hup rfl (Hub.clk32Back_substituted hsubst)
  · exact exec_onHub hup rfl (Hub.throtCause_alert_first hthrot)
  · exact exec_onHub hup rfl (Hub.throtCause_alert_throttled hthrot)
  · exact exec_onHub hup rfl (Hub.throtExit_cool hthrot htj)
  · exact exec_onHub hup rfl (Hub.domainUp_group hlo hhi hstart)
  · exact exec_onHub hup rfl (Hub.domainUp_engine hlo hhi hen hgood)
  · exact exec_onHub hup rfl (Hub.domainUp_sampler hlo hhi hsmp)
  · exact exec_onHub hup rfl (Hub.domainUp_seal hlo hhi hwant)

end Sys2Proof.Machine
end

section
/-!
Proofs of the family of the tray's power path: the hods of the hot-swap channels and of the tray sequence (R301, R308, R310).
-/

open Sys2Proof Sys2Proof.Machine

namespace Sys2Proof.Machine

/-! ### What the hods of the channels and of the sequence do -/

theorem hsOffHod_vf {h : Hub} {q : HodReq} (hvf : q.who.isVf = true) (mask : Nat) : hsOffHod q mask h = (h, .refused) :=
  if_pos hvf

section
variable {h : Hub} {q : HodReq} (hright : q.who.isVf = false)
include hright

theorem hsOffHod_turnsOff (mask : Nat) : hsOffHod q mask h = ((onesBelow 10 mask).foldl (fun h c => h.hsOff c) h, .ok []) :=
  if_neg (by simp [hright])

theorem hsOnHod_turnsOn {mask : Nat} (hen : ∀ k ∈ onesBelow 10 mask, (h.hsCh k).st ≠ .disabled) :
    hsOnHod q mask h = ((onesBelow 10 mask).foldl (fun h c => h.cmdOn c) h, .ok []) :=
  (if_neg (by simp [hright])).trans (if_neg (by simpa using hen))

/-- HS_RELEASE of a channel whose hold has ended (R301). -/
theorem hsReleaseHod_releases {c : Nat} (hc : c < 10) (hst : (h.hsCh c).st = .latched ∨ (h.hsCh c).st = .held)
    (hhold : h.holdActive c = false) : hsReleaseHod q c h =
      ((h.updHs c fun k => { k with st := if k.seated then .waitSlot else .waitSeat, retries := 0 }).event 0x0B04
        [.u8 c, .u8 q.who.id], .ok []) := by
  have haccepts : h.release? c = .ok [] :=
    (if_neg (Nat.not_le.2 hc)).trans ((if_neg fun hne => hst.elim hne.1 hne.2).trans (if_neg (by simp [hhold])))
  simp only [hsReleaseHod, hright, Bool.false_eq_true, if_false, Hub.releaseCh, haccepts]
  rfl

theorem hsQueryHod_answers {c : Nat} (hc : c < 10) : hsQueryHod q c h =
    (h.tick, .ok [.u8 (h.hsCh c).st.code, .u8 (h.hsCh c).cause, .u16 (h.hsCh c).retries,
      .u32 (if (h.hsCh c).st = .backoff then (Config.elapsed h.free).toNat % (backoffMs (h.hsCh c).retries + 1) else 0),
      .u32 ((h.hsCh c).cur * 65536 + (h.hsCh c).vsrc), .u32 ((h.hsCh c).soa / 10 ^ 9),
      .u64 (h.ctr (hsReg c 0x18)).val.toNat]) :=
  (if_neg (by simp [hright])).trans (if_neg (Nat.not_le.2 hc))

theorem traySeqHod_busy (hup : h.hs.up = true) (down : Bool) : traySeqHod q down h = (h, .fail .busy) :=
  (if_neg (by simp [hright])).trans (if_pos (by simp [hup]))

theorem traySeqHod_starts (hup : h.hs.up = false) (hdown : h.hs.down = []) (down : Bool) :
    traySeqHod q down h = (if down then h.seqDown else h.seqUp, .ok []) :=
  (if_neg (by simp [hright])).trans (if_neg (by simp [hup, hdown]))

end

/-! ### From the opcodes to the hods (R399) -/

section
variable {h : Hub} {q : HodReq} {n : Nat}

theorem Hub.effectPower_hsOff (hop : q.op = 0x0B01) (hargs : q.args = [.u16 n]) : h.effectPower q = hsOffHod q n h := by
  simp [Hub.effectPower, hop, HodReq.num, hargs]

theorem Hub.effectPower_hsOn (hop : q.op = 0x0B02) (hargs : q.args = [.u16 n]) : h.effectPower q = hsOnHod q n h := by
  simp [Hub.effectPower, hop, HodReq.num, hargs]

theorem Hub.effectPower_hsRelease (hop : q.op = 0x0B03) (hargs : q.args = [.u8 n]) :
    h.effectPower q = hsReleaseHod q n h := by
  simp [Hub.effectPower, hop, HodReq.num, hargs]

theorem Hub.effectPower_hsQuery (hop : q.op = 0x0B04) (hargs : q.args = [.u8 n]) : h.effectPower q = hsQueryHod q n h := by
  simp [Hub.effectPower, hop, HodReq.num, hargs]

theorem Hub.effectPower_traySeq (hop : q.op = 0x0B05) (hargs : q.args = [.u8 n]) (hn : n ≤ 1) :
    h.effectPower q = traySeqHod q (n == 1) h := by
  have hnum : q.num 0 = n := by simp [HodReq.num, hargs]
  simp [Hub.effectPower, hop, HodReq.choice_le (hnum ▸ hn), hnum]

end

/-- The hods of the hot-swap channels are staged for the boundary, and there do what R301 and R310 say. -/
theorem channelHodsAct : ChannelHodsAct := by
  intro c
  refine ⟨fun mask => ?_, fun mask => ?_, fun ch => ?_, fun ch => ?_⟩
  · refine powerHodStages (fun _ => rfl) (by decide) (by decide) (by decide) (by decide) fun d q hop hargs act => ?_
    exact ⟨fun hvf => act (f := id) ((Hub.effectPower_hsOff hop hargs).trans (hsOffHod_vf hvf _)),
      fun hright => act ((Hub.effectPower_hsOff hop hargs).trans (hsOffHod_turnsOff hright _))⟩
  · refine powerHodStages (fun _ => rfl) (by decide) (by decide) (by decide) (by decide) fun d q hop hargs act => ?_
    exact fun hright hen => act ((Hub.effectPower_hsOn hop hargs).trans (hsOnHod_turnsOn hright hen))
  · refine powerHodStages (fun _ => rfl) (by decide) (by decide) (by decide) (by decide) fun d q hop hargs act => ?_
    exact fun hright hch hst hhold =>
      act ((Hub.effectPower_hsRelease hop hargs).trans (hsReleaseHod_releases hright hch hst hhold))
  · refine powerHodStages (fun _ => rfl) (by decide) (by decide) (by decide) (by decide) fun d q hop hargs act => ?_
    exact fun hright hch => act ((Hub.effectPower_hsQuery hop hargs).trans (hsQueryHod_answers hright hch))

/-- The hods of the tray sequence are staged for the boundary, and there do what R308 says. -/
theorem sequenceHodsAct : SequenceHodsAct := by
  intro c
  refine ⟨?_, ?_⟩
  · refine powerHodStages (fun _ => rfl) (by decide) (by decide) (by decide) (by decide) fun d q hop hargs act hright => ?_
    have hseq := Hub.effectPower_traySeq (h := d.hub) hop hargs (by decide)
    exact ⟨fun hup hdown => act (hseq.trans (traySeqHod_starts hright hup hdown _)),
      fun hup => act (f := id) (hseq.trans (traySeqHod_busy hright hup _))⟩
  · refine powerHodStages (fun _ => rfl) (by decide) (by decide) (by decide) (by decide) fun d q hop hargs act => ?_
    exact fun hright hup hdown =>
      act ((Hub.effectPower_traySeq hop hargs (by decide)).trans (traySeqHod_starts hright hup hdown _))

end Sys2Proof.Machine
end

section
/-!
Proofs of the family of the tray's power path: a hot-swap channel's seat, ramp, trips and retries (R295 to R304, R349).
-/

open Sys2Proof Sys2Proof.Machine

namespace Sys2Proof.Machine

/-! ### A fault met leaves the configuration registers (R522) -/

/-- A fault met changes one register, SAFETY's status. -/
theorem Hub.reg_faultMet_ne (h : Hub) (code : Nat) {a : Nat} (ha : a ≠ 0x1500000) : (h.faultMet code).reg a = h.reg a := by
  unfold Hub.faultMet
  split
  · rfl
  · exact (Hub.event_reg ..).trans (Hub.reg_setReg_ne _ _ ha)

section
variable {h : Hub}

/-! ### Seats (R295) -/

section
variable {x : Nat} (hx : x < 8)
include hx

theorem Hub.sledSeated_first (hseat : (h.hsCh x).seated = false) : h.sledSeated x =
    ((h.pushAgain x).updHs x fun k =>
      { k with seatA := true, seatB := true, st := if k.st = .waitSeat then .waitSlot else k.st }).event 0x0B05
        [.u8 x, .u8 0, .u8 (h.hsCh x).st.code] :=
  if_pos ⟨hx, hseat⟩

/-- A seated channel whose seat pin B rises loses its gate, its retries and its place. -/
theorem Hub.sledUnseated_seated (hseat : (h.hsCh x).seated = true) (hst : (h.hsCh x).st ≠ .disabled)
    (hhot : (h.hsCh x).hot = false) : h.sledUnseated x true =
      (((h.updHs x fun k => { k with seatB := false }).gateOff x .waitSeat 0x9).updHs x
        fun k => { k with retries := 0, hot := false }).event 0x0B05 [.u8 x, .u8 1, .u8 (h.hsCh x).st.code] := by
  simp only [Hub.sledUnseated, if_pos hx, if_true, hseat, Bool.not_true, Bool.false_eq_true, if_false, hhot, if_neg hst]

end

/-! ### The ramp (R297 to R299, R302, R307) -/

section
variable {c : Nat}

theorem Hub.rampStart_due (hstart : h.startable c = true) (hslot : 8 ≤ c ∨ h.nextSlot = some c) : h.rampStart c =
    (h.updHs c fun k => { k with st := .ramp, rst := decide (c < 8), fresh := true }).seqSettle :=
  if_pos (by simpa [hstart] using hslot)

theorem Hub.powerGood_ramping (hst : (h.hsCh c).st = .ramp) (ms peak : Nat) : h.powerGood c ms peak =
    (h.updHs c fun k => { k with st := .on }).event 0x0B01 [.u8 c, .u32 ms, .u32 peak] :=
  if_pos hst

theorem Hub.rstDelay_on (hc : c < 8) (hst : (h.hsCh c).st = .on) (hoff : (h.hsCh c).offPend = false)
    (hdown : h.hs.down.contains c = false) : h.rstDelay c = h.updHs c fun k => { k with rst := false } :=
  if_pos ⟨hc, hst, hoff, by rw [hdown, Bool.not_false]⟩

/-! ### Retries (R301) -/

theorem Hub.backoffEnd_backoff (hst : (h.hsCh c).st = .backoff) :
    h.backoffEnd c = h.updHs c fun k => { k with st := .waitSlot } :=
  if_pos hst

theorem Hub.retryReset_on (hst : (h.hsCh c).st = .on) : h.retryReset c = h.updHs c fun k => { k with retries := 0 } :=
  if_pos hst

/-! ### Trips (R298, R300, R301, R304, R349) -/

theorem HsCh.live_iff (k : HsCh) : k.live = true ↔ k.st = .ramp ∨ k.st = .on := by
  simp [HsCh.live]

/-- A trip as it is counted and recorded, before the channel turns off. -/
def Hub.tripNoted (h : Hub) (c cause retries cur vds : Nat) : Hub :=
  ((h.bump (hsReg c 0x18)).eventOnce 0x0B02 c [.u8 c, .u8 cause, .u8 retries, .u32 cur, .u32 vds]).faultMet 13

/-- What a trip leaves of a channel that has used `retries`: the latch past RETRY_MAX, and else a back-off with one more. -/
def Hub.tripped (h : Hub) (c cause retries cur vds : Nat) : Hub :=
  let g := h.tripNoted c cause retries cur vds
  if h.fld (hsReg c 0) 30 28 ≤ retries then (g.gateOff c .latched cause).event 0x0B03 [.u8 c, .u8 cause]
  else (g.gateOff c .backoff cause).updHs c fun k => { k with retries := k.retries + 1 }

/-- The record of a trip leaves RETRY_MAX. -/
theorem Hub.tripNoted_fld (h : Hub) {c : Nat} (hc : c < 10) (cause retries cur vds hi lo : Nat) :
    (h.tripNoted c cause retries cur vds).fld (hsReg c 0) hi lo = h.fld (hsReg c 0) hi lo := by
  have hother : hsReg c 0 ≠ 0x1500000 := by unfold hsReg; omega
  rw [Hub.fld, Hub.tripNoted, Hub.reg_faultMet_ne _ _ hother, Hub.eventOnce_reg]
  rfl

theorem Hub.trip_live (hc : c < 10) (hlive : (h.hsCh c).st = .ramp ∨ (h.hsCh c).st = .on) (cause cur vds : Nat) :
    h.trip c cause cur vds = h.tripped c cause (h.hsCh c).retries cur vds := by
  rw [Hub.tripped, ← h.tripNoted_fld hc cause (h.hsCh c).retries cur vds]
  exact if_neg (by simp [(HsCh.live_iff _).2 hlive])

theorem Hub.tripIf_in {st : ChState} (hst : (h.hsCh c).st = st) (cause cur vds : Nat) :
    h.tripIf c st cause cur vds = h.trip c cause cur vds :=
  if_pos hst

theorem Hub.enhLost_on (hst : (h.hsCh c).st = .on) (hsar : (h.hsCh c).sarFault = false) (cur vds : Nat) :
    h.enhLost c cur vds = h.trip c 6 cur vds :=
  (if_neg (by simp [hsar])).trans (Hub.tripIf_in hst ..)

theorem Hub.enhLost_sarFault (hsar : (h.hsCh c).sarFault = true) (cur vds : Nat) : h.enhLost c cur vds = h :=
  if_pos hsar

/-- An SOA accumulator past SOA_E is kept in the channel that it trips. -/
theorem Hub.soaTrip_live (hc : c < 10) (hlive : (h.hsCh c).st = .ramp ∨ (h.hsCh c).st = .on) {acc : Nat}
    (hpast : h.fld (hsReg c 8) 27 16 < acc) (cur vds : Nat) : h.soaTrip c acc cur vds =
      (h.updHs c fun k => { k with soa := acc * 10 ^ 9 }).tripped c 3 (h.hsCh c).retries cur vds := by
  have hkept := h.hsCh_updHs c fun k => { k with soa := acc * 10 ^ 9 }
  rw [Hub.soaTrip, if_pos hpast, Hub.trip_live hc (by simpa only [hkept] using hlive), hkept]

end

end

/-- Settles O39: each event of a channel is its operation with the channel in the state that the row asks for, every trip is
`Hub.tripped` with its cause, and the hods are `channelHodsAct`. -/
theorem hotSwapChannelActs : Obligations.HotSwapChannelActs := by
  refine ⟨?_, channelHodsAct⟩
  intro s x c cur vds hup haux h k tripped
  have trips {i : Instr} {f : Hub → Hub} {cause : Nat} (hi : exec i s = onFoot f s) (hlive : k.st = .ramp ∨ k.st = .on)
      (e : f h = h.trip c cause cur vds) : exec i s = .next (s.hubMap (tripped cause)) :=
    exec_onFoot haux hup hi (e.trans (Hub.trip_live c.isLt hlive cause cur vds))
  refine ⟨fun hseat => ?_, fun hseat hst hhot => ?_, fun hstart hslot => ?_, fun hst => ⟨fun ms peak => ?_, ?_⟩,
    fun hst => ⟨fun hc hoff hdown => ?_, fun hsar => ?_, fun hsar => ?_, ?_⟩, fun hlive => ⟨?_, ?_, fun acc hpast => ?_⟩,
    fun hst => ?_⟩
  · exact exec_onFoot haux hup rfl (Hub.sledSeated_first x.isLt hseat)
  · exact exec_onFoot haux hup rfl (Hub.sledUnseated_seated x.isLt hseat hst hhot)
  · exact exec_onFoot haux hup rfl (Hub.rampStart_due hstart hslot)
  · exact exec_onFoot haux hup rfl (Hub.powerGood_ramping hst ms peak)
  · exact trips rfl (.inl hst) (Hub.tripIf_in hst ..)
  · exact exec_onFoot haux hup rfl (Hub.rstDelay_on hc hst hoff hdown)
  · exact trips rfl (.inr hst) (Hub.enhLost_on hst hsar cur vds)
  · exact exec_onFoot (g := id) haux hup rfl (Hub.enhLost_sarFault hsar cur vds)
  · exact exec_onFoot haux hup rfl (Hub.retryReset_on hst)
  · exact trips rfl hlive rfl
  · exact trips rfl hlive rfl
  · exact exec_onFoot haux hup rfl (Hub.soaTrip_live c.isLt hlive hpast cur vds)
  · exact exec_onFoot haux hup rfl (Hub.backoffEnd_backoff hst)

end Sys2Proof.Machine
end

section
/-!
Proofs of the family of the tray's power path: the bus, SYS_SHDN_L and the tray sequence (R302, R303, R306, R308, R310, R327).
-/

open Sys2Proof Sys2Proof.Machine

namespace Sys2Proof.Machine

section
variable {h : Hub}

/-! ### The bus (R302) -/

section
variable {mv : Nat}

/-- The bus below its lower limit turns every live channel off, and is recorded where it had been within limits. -/
theorem Hub.busBad_low (hlow : mv < h.fld 0xB00004 7 0 * 100) (hgood : h.hs.busGood = true) :
    let live := (List.range 10).filter fun c => (h.hsCh c).live
    let cut := live.foldl (fun (h : Hub) c => h.gateOff c .waitSlot 0x7) { h with hs := { h.hs with vbus := mv } }
    h.busBad mv = (({ cut with hs := { cut.hs with busGood := false } } : Hub).flag 0xB00000 1).event 0x0B08
      [.u16 mv, .u16 (live.foldl (fun m c => m + 2 ^ c) 0)] := by
  intro live cut
  refine (if_neg fun hin => Nat.not_lt.2 hin.1 hlow).trans ((if_pos (by simp [hgood])).trans ?_)
  simp only [if_pos hlow]
  rfl

variable (hlo : h.fld 0xB00004 7 0 * 100 ≤ mv) (hhi : mv ≤ h.fld 0xB00004 15 8 * 100)
include hlo hhi

theorem Hub.busBad_within : h.busBad mv = { h with hs := { h.hs with vbus := mv } } := if_pos ⟨hlo, hhi⟩

theorem Hub.busOk_returns (hbad : h.hs.busGood = false) : h.busOk mv =
    ({ h with hs := { h.hs with vbus := mv, busGood := true } } : Hub).event 0x0B08 [.u16 mv, .u16 0] :=
  if_pos ⟨hlo, hhi, hbad⟩

end

/-! ### SYS_SHDN_L at its pin (R303, R327) -/

/-- The level of SYS_SHDN_L that the hub senses at its pin. -/
def Hub.withPin (h : Hub) (low : Bool) : Hub := { h with cool := { h.cool with shdnExt := low } }

theorem Hub.shdn_withPin_low (h : Hub) : (h.withPin true).shdn = true := by simp [Hub.shdn, Hub.withPin]

theorem Hub.shdn_withPin_high (h : Hub) : (h.withPin false).shdn = (h.cool.shdnCrit || h.therm.tripLatch) := by
  simp [Hub.shdn, Hub.withPin]

@[simp] theorem Hub.event_shdn (h : Hub) (c : Nat) (pl : List Arg) (p q : Nat) : (h.event c pl p q).shdn = h.shdn := by
  simp only [Hub.shdn, Hub.event_cool, Hub.event_therm]

/-- A change of the pin is recorded, and acts, where it changes SYS_SHDN_L. -/
theorem Hub.shdnPin_eq (h : Hub) (low : Bool) : h.shdnPin low =
    let k := (h.withPin low).event 0x0C04 [.u8 0xFF, .u16 0]
    if h.shdn = (h.withPin low).shdn then h.withPin low else if k.shdn then k.shdnFall else k.shdnRise := rfl

theorem Hub.shdnPin_falls (hhigh : h.shdn = false) :
    h.shdnPin true = ((h.withPin true).event 0x0C04 [.u8 0xFF, .u16 0]).shdnFall := by
  simp [Hub.shdnPin_eq, hhigh, Hub.shdn_withPin_low]

theorem Hub.shdnPin_rises (hpin : h.cool.shdnExt = true) (hcrit : h.cool.shdnCrit = false) (htrip : h.therm.tripLatch = false) :
    h.shdnPin false = ((h.withPin false).event 0x0C04 [.u8 0xFF, .u16 0]).shdnRise := by
  have hlow : h.shdn = true := by simp [Hub.shdn, hpin]
  simp [Hub.shdnPin_eq, hlow, Hub.shdn_withPin_high, hcrit, htrip]

theorem Hub.shdnPin_low_already (hlow : h.shdn = true) : h.shdnPin true = h.withPin true := by
  simp [Hub.shdnPin_eq, hlow, Hub.shdn_withPin_low]

/-- Another source holds SYS_SHDN_L low as the pin is let go. -/
theorem Hub.shdnPin_held (hpull : h.cool.shdnCrit = true ∨ h.therm.tripLatch = true) : h.shdnPin false = h.withPin false := by
  have hafter : (h.withPin false).shdn = true := by simpa [Hub.shdn_withPin_high] using hpull
  have hbefore : h.shdn = true := by
    rw [Hub.shdn, Bool.or_right_comm, ← Hub.shdn_withPin_high, hafter, Bool.true_or]
  simp [Hub.shdnPin_eq, hbefore, hafter]

/-! ### The sequence up (R306, R308) -/

theorem Hub.seqStep_two (hstep : h.hs.step = 2) : h.seqStep = { h with hs := { h.hs with step := 3 } } := if_pos hstep

theorem Hub.seqStep_three_on (hstep : h.hs.step = 3) (h8 : (h.hsCh 8).st = .on) (h9 : (h.hsCh 9).st = .on) :
    h.seqStep = { h with hs := { h.hs with step := 4 } } := by
  simp [Hub.seqStep, hstep, h8, h9]

/-- Step 3 waits while H8 is neither on nor out of service. -/
theorem Hub.seqStep_three_ramping (hstep : h.hs.step = 3) (h8 : (h.hsCh 8).st = .ramp) : h.seqStep = h := by
  simp [Hub.seqStep, hstep, h8]

/-- Air cooling waits for no flow. -/
theorem Hub.seqStep_four_air (hstep : h.hs.step = 4) (hair : h.cool.liquid = false) :
    h.seqStep = { h with hs := { h.hs with step := 5 } }.seqSettle := by
  simp [Hub.seqStep, hstep, hair]

section
variable (hstep : h.hs.step = 4) (hliquid : h.cool.liquid = true) (hflow : h.hs.flowLoss = true)
include hstep hliquid hflow

theorem Hub.seqStep_four_waits : h.seqStep = h := by
  simp [Hub.seqStep, hstep, hliquid, hflow]

theorem Hub.flowWait_flags : h.flowWait = (h.flag 0xB00000 3).event 0x0B09 [.u8 (h.fld 0xB00004 31 24)] :=
  if_pos ⟨hstep, hliquid, hflow⟩

end

theorem Hub.seqSettle_outside (hup : h.hs.up = false) : h.seqSettle = h := if_neg (by simp [hup])

/-- Step 5 ends the sequence once no sled waits for its slot. -/
theorem Hub.seqSettle_ends (hwait : ∀ x < 8, (h.hsCh x).st ≠ .waitSlot) (hstep : h.hs.step = 5) :
    h.seqSettle.hs.up = false := by
  cases hup : h.hs.up with
  | false => rw [Hub.seqSettle_outside hup, hup]
  | true => rw [Hub.seqSettle, if_pos (by simpa [hup, hstep] using hwait)]

/-! ### Gates turned off by command (R308, R310) -/

theorem Hub.cmdOff_on {c : Nat} (hst : (h.hsCh c).st = .on) : h.cmdOff c = h.gateOff c .cmdOff 0xD :=
  if_pos (by simp [(HsCh.live_iff _).2 (.inr hst)])

theorem Hub.seqDownStep_on {n : Nat} {rest : List Nat} (hdown : h.hs.down = n :: rest) (hst : (h.hsCh n).st = .on) :
    h.seqDownStep = ({ h with hs := { h.hs with down := rest } } : Hub).gateOff n .cmdOff 0xD := by
  simp only [Hub.seqDownStep, hdown]
  exact Hub.cmdOff_on hst

theorem Hub.offGate_on {c : Nat} (hoff : (h.hsCh c).offPend = true) (hst : (h.hsCh c).st = .on) :
    h.offGate c = h.gateOff c .cmdOff 0xD :=
  (if_pos hoff).trans ((if_pos ((HsCh.live_iff _).2 (.inr hst))).trans (Hub.cmdOff_on hst))

end

/-- Settles O40: each event of the bus, the pin and the sequence is its operation with the row's condition met, and the hods are
`sequenceHodsAct`. -/
theorem traySequenceActs : Obligations.TraySequenceActs := by
  refine ⟨?_, sequenceHodsAct⟩
  intro s c mv hup haux h uv ov live cut
  refine ⟨fun hlow hgood => ?_, fun hlo hhi => ?_, fun hlo hhi hbad => ?_, ?_⟩
  · exact exec_onFoot haux hup rfl (Hub.busBad_low hlow hgood)
  · exact exec_onFoot haux hup rfl (Hub.busBad_within hlo hhi)
  · exact exec_onFoot haux hup rfl (Hub.busOk_returns hlo hhi hbad)
  intro pin
  refine ⟨fun hhigh => ?_, fun hlow => ?_, fun hpin hcrit htrip => ?_, fun hpull => ?_, fun hstep => ?_, fun hstep h8 h9 => ?_,
    fun hstep h8 => ?_, fun hstep hflow => ?_, Hub.seqSettle_outside, Hub.seqSettle_ends,
    fun hstep hliquid hflow => ⟨?_, ?_⟩, fun n rest hdown hst => ?_, fun hoff hst => ?_⟩
  · exact exec_onFoot haux hup rfl (Hub.shdnPin_falls hhigh)
  · exact exec_onFoot haux hup rfl (Hub.shdnPin_low_already hlow)
  · exact exec_onFoot haux hup rfl (Hub.shdnPin_rises hpin hcrit htrip)
  · exact exec_onFoot haux hup rfl (Hub.shdnPin_held hpull)
  · exact exec_onHub hup rfl (Hub.seqStep_two hstep)
  · exact exec_onHub hup rfl (Hub.seqStep_three_on hstep h8 h9)
  · exact exec_onHub (g := id) hup rfl (Hub.seqStep_three_ramping hstep h8)
  · exact exec_onHub hup rfl (hflow.elim (Hub.seqStep_four_air hstep) (Hub.seqStep_flowing hstep))
  · exact exec_onHub (g := id) hup rfl (Hub.seqStep_four_waits hstep hliquid hflow)
  · exact exec_onHub hup rfl (Hub.flowWait_flags hstep hliquid hflow)
  · exact exec_onHub hup rfl (Hub.seqDownStep_on hdown hst)
  · exact exec_onFoot haux hup rfl (Hub.offGate_on hoff hst)

end Sys2Proof.Machine
end

section
/-!
Proofs of the family of cooling and leaks: the control registers (R323, R369, R376, R455, R466, R476).
-/

open Sys2Proof Sys2Proof.Machine

namespace Sys2Proof.Machine

/-! ### From a privileged master's write to its register's own rule -/

section
variable {d : Dev} {m : Master} (hpriv : d.hub.privileged m = true)
include hpriv

/-- A privileged master's write of a whole word, outside the block that SMBus does not reach, is the register's own. -/
theorem Dev.write_privileged {a v : Nat} {e : Dev} (hrow : (findRow a).isSome = true) (halign : a % 4 = 0)
    (htop : a < 0x1600000) (hblock : a / 0x100000 ≠ 0x13) (hword : v < 2 ^ 32) (hrule : ∀ r, d.writeReg m r a v = e) :
    d.write m a 4 v = e := by
  obtain ⟨r, hr⟩ := Option.isSome_iff_exists.1 hrow
  have hshape : shapeOf a 4 = .one a 0 4 := by
    have hbase : a / 4 * 4 = a := by omega
    simp [shapeOf, halign, hbase, Nat.not_le.2 htop]
  have hright : d.hub.right m a = .has r true := by simp [Hub.right, hr, reaches, hblock, hpriv]
  simp only [Dev.write, hshape, if_true, Nat.mod_eq_of_lt hword, Dev.write32, hright, hrule]

theorem Dev.write_resetCtrl {v : Nat} (hword : v < 2 ^ 32) : d.write m 0xF00034 4 v = d.hubMap (·.resetCtrl m v) :=
  Dev.write_privileged hpriv (by decide +kernel) (by decide) (by decide) (by decide) hword fun _ => rfl

theorem Dev.write_cfgRef (v : Word) : d.write m 0xF00010 4 v.toNat = d.cfgRef m v.toNat :=
  Dev.write_privileged hpriv (by decide +kernel) (by decide) (by decide) (by decide) v.isLt fun _ => rfl

theorem Dev.write_heartbeat (v : Word) : d.write m 0xC00008 4 v.toNat = d.hubMap (·.heartbeatWrite m v.toNat) :=
  Dev.write_privileged hpriv (by decide +kernel) (by decide) (by decide) (by decide) v.isLt fun _ => rfl

theorem Dev.write_fwCtrl {v : Nat} (hword : v < 2 ^ 32) : d.write m 0x1200008 4 v = d.fwCtrl m v :=
  Dev.write_privileged hpriv (by decide +kernel) (by decide) (by decide) (by decide) hword fun _ => rfl

end

/-! ### What each register's rule does -/

/-- WARM is the command bit of RESET_CTRL, and the debug port has no right to it (R376, R378). -/
theorem Hub.resetCtrl_warm {m : Master} (hm : m ≠ .debug) (h : Hub) : h.resetCtrl m (cmdWord 1) =
    h.updRb fun b => { b with warm := some (b.warm.getD (2, m.req.id)) } := by
  have hbit : (wmSel (cmdWord 1) 1 &&& cmdWord 1).testBit 0 = true := by decide
  simp [Hub.resetCtrl, hbit, hm]

/-- A word written whole stands by itself. -/
theorem mergeBits_whole (v : Word) : mergeBits 0xFFFFFFFF 0 v.toNat = v.toNat := by
  have hmask : v.toNat &&& 0xFFFFFFFF = v.toNat := (Nat.and_two_pow_sub_one_eq_mod _ 32).trans (Nat.mod_eq_of_lt v.isLt)
  simp [mergeBits, hmask]

/-- The reference has no check to pass, and its arrival leaves it outstanding (R369). -/
theorem Dev.cfgRef_staged {d : Dev} (m : Master) (v : Word) (hlock : d.hub.lockedBy 0xF00010 = none)
    (hstaged : ∀ i ∈ d.hub.rb.staged, i.isRegAt 0xF00010 = false) : d.cfgRef m v.toNat = d.hubMap fun h =>
      (h.stage (.reg m.req.id 0xF00010 0xFFFFFFFF v.toNat)).crcTo .pending := by
  have hpass : (d.checkWrite (stagedWrites d.hub.rb.staged) 0xF00010 0xFFFFFFFF v.toNat).1 = true := rfl
  simp only [Dev.cfgRef, Dev.stageOutside_alone _ _ hlock hstaged, mergeBits_whole, hpass, if_true]
  rfl

theorem Hub.heartbeatWrite_host {m : Master} (hm : m = .pf0 ∨ m = .smbus) (h : Hub) (v : Nat) :
    h.heartbeatWrite m v = (h.setReg 0xC00008 v).heartbeat := if_pos hm

/-- The core and the debug port store the word alone (R323). -/
theorem Hub.heartbeatWrite_other {m : Master} (hm : m = .core ∨ m = .debug) (h : Hub) (v : Nat) :
    h.heartbeatWrite m v = h.setReg 0xC00008 v := by
  rcases hm with rfl | rfl <;> rfl

section
variable (d : Dev)

theorem Dev.fwCtrl_other {m : Master} (hm : m ≠ .core) (v : Nat) : d.fwCtrl m v = d.hubMap (·.flag 0x1200000 0) := if_pos hm

/-- KICK is bit 0 of FW.CTRL, CONFIRM bit 1. -/
theorem Dev.fwCtrl_kick : d.fwCtrl .core (cmdWord 1) = d.kick := by
  have hcmd : wmSel (cmdWord 1) 3 &&& cmdWord 1 = 1 := by decide
  have hbits : Nat.testBit 1 0 = true ∧ Nat.testBit 1 1 = false := by decide
  simp [Dev.fwCtrl, hcmd, hbits]

theorem Dev.fwCtrl_confirm : d.fwCtrl .core (cmdWord 2) = d.confirm := by
  have hcmd : wmSel (cmdWord 2) 3 &&& cmdWord 2 = 2 := by decide
  have hbits : Nat.testBit 2 0 = false ∧ Nat.testBit 2 1 = true := by decide
  simp [Dev.fwCtrl, hcmd, hbits]

variable {d}

theorem Dev.kick_handover (hphase : d.hub.fw.phase = .handover) : d.kick = d.firstKick.coreReady := if_pos hphase

theorem Dev.kick_up (hphase : d.hub.fw.phase = .up) : d.kick = d := if_neg (by simp [hphase])

/-- The device after the running image's CONFIRM, as the boot-control record could be written or not (R466). -/
def Dev.confirmed (d : Dev) : Dev :=
  let isHub (q : HodReq) : Bool := q.args.head? == some (.u8 1)
  let w := d.hub.writeRecord fun r => { r with hub := d.hub.fw.slot }
  if w.1 then
    let k := w.2.updFw fun f => { f with trial := false, prev := none, stage := none }
    (({ d with hub := k.event 0x1205 [.u8 1, .u8 (b2n k.fw.slot), .u8 1] } : Dev).advance).hubMap
      (·.finishWaitIf 0x1203 isHub .ok 0 [])
  else { d with hub := w.2.finishWaitIf 0x1203 isHub .media 0 [] }

theorem Dev.confirm_trial (htrial : d.hub.fw.trial = true) (hphase : d.hub.fw.phase = .up) : d.confirm = d.confirmed := by
  refine (if_neg (by simp [htrial, hphase])).trans ?_
  simp only [Dev.confirmed]
  cases (d.hub.writeRecord fun r => { r with hub := d.hub.fw.slot }).1 with
  | true => exact if_neg (by simp)
  | false => exact if_pos (by simp)

end

/-- Settles O22: each command is its register's write, which goes on to the register's own rule, and the rule acts as the master
and the core's phase allow. -/
theorem controlRegistersAct : Obligations.ControlRegistersAct := by
  intro s m v hup hpriv h
  have hcore : h.privileged .core = true := rfl
  refine ⟨fun hm => ?_, fun hlock hstaged => ?_, fun hm => ?_, fun hm => ?_, fun hm => ⟨?_, ?_⟩, fun hphase => ?_,
    fun hphase => ?_, fun htrial hphase => ?_⟩
  · exact exec_onBase hup rfl ((Dev.write_resetCtrl hpriv (by decide)).trans (Dev.hubMap_congr (Hub.resetCtrl_warm hm _)))
  · exact exec_onBase hup rfl ((Dev.write_cfgRef hpriv v).trans (Dev.cfgRef_staged m v hlock hstaged))
  · exact exec_onBase hup rfl ((Dev.write_heartbeat hpriv v).trans (Dev.hubMap_congr (Hub.heartbeatWrite_host hm _ _)))
  · exact exec_onBase hup rfl ((Dev.write_heartbeat hpriv v).trans (Dev.hubMap_congr (Hub.heartbeatWrite_other hm _ _)))
  · exact exec_onBase hup rfl ((Dev.write_fwCtrl hpriv (by decide)).trans (Dev.fwCtrl_other _ hm _))
  · exact exec_onBase hup rfl ((Dev.write_fwCtrl hpriv (by decide)).trans (Dev.fwCtrl_other _ hm _))
  · exact exec_onBase hup rfl ((Dev.write_fwCtrl hcore (by decide)).trans ((Dev.fwCtrl_kick _).trans (Dev.kick_handover hphase)))
  · exact exec_onBase (g := id) hup rfl
      ((Dev.write_fwCtrl hcore (by decide)).trans ((Dev.fwCtrl_kick _).trans (Dev.kick_up hphase)))
  · exact exec_onBase (g := Dev.confirmed) hup rfl
      ((Dev.write_fwCtrl hcore (by decide)).trans ((Dev.fwCtrl_confirm _).trans (Dev.confirm_trial htrial hphase)))

end Sys2Proof.Machine
end

section
/-!
Proofs of the family of cooling and leaks: hods that are served at once, and the hods of cooling and of the leak ropes (R323, R332,
R333).
-/

open Sys2Proof Sys2Proof.Machine

namespace Sys2Proof.Machine

/-! ### Hods that are served at once (R386, R396) -/

section
variable {d : Dev} {c : Call} {op : Nat} {args : List Arg}

/-- A request that takes no effect at a boundary is served as it arrives, whether or not its requester has a transaction open. -/
theorem Dev.execute_now {q : HodReq} {r : OpRow} (hrow : findOp q.op = some r) (hnow : r.bnd = false) (htxn : q.txn = 0) :
    d.execute q = (d.serveNow q).1.hubMap (·.conclude q false (d.serveNow q).2) := by
  simp only [Dev.execute, hrow, htxn, hnow]
  split <;> simp

/-- The requester of an opcode that is closed to VFs is none (R399). -/
theorem HodReady.not_vf {s : State} {r : OpRow} (hready : HodReady s c r args) (hvf : r.vf = false) : c.who.isVf = false := by
  obtain ⟨-, -, -, -, -, -, -, -, -, -, -, -, hright, -⟩ := hready
  refine Bool.eq_false_iff.2 fun hwho => ?_
  have hwho' : (hodReq s.dev.hub c r.op args).who.isVf = true := hwho
  simp [Hub.entitled, hwho', hvf] at hright

/-- The request of a command that is a hod request of the row `op` is answered at once, where the row takes no effect at a boundary
and is closed to VFs. What remains to be shown of the command is the service. -/
theorem hodServes_of_service {i : Instr} {k : Dev → HodReq → (Dev → HodOut → Prop) → Prop}
    (hexec : ∀ s, exec i s = onBase (fun d : Dev => d.submit c op args) s) (hop : op < 65536)
    (hrow : (findOp op).all (fun r => !r.bnd && !r.vf) = true)
    (hserve : ∀ (d : Dev) (q : HodReq) (ans : Dev → HodOut → Prop), q.op = op → q.args = args → q.who = c.who →
      c.who.isVf = false → (∀ {d' : Dev} {o : HodOut}, d.serveNow q = (d', o) → ans d' o) → k d q ans) :
    HodServes c i op args k := by
  intro s r hfind hready htxn q
  obtain ⟨hnow, hvf⟩ : r.bnd = false ∧ r.vf = false := by simpa [hfind] using hrow
  have hup : s.dev.hub.up = true := hready.1
  refine hserve _ q _ rfl rfl rfl (hready.not_vf hvf) fun {d' o} hd => ?_
  have hserved := (Dev.submit_executes hop hfind hready htxn).trans (Dev.execute_now hfind hnow htxn)
  rw [hd] at hserved
  exact exec_onBase hup (hexec s) hserved

end

/-! ### What the hods of cooling and of the ropes do -/

section
variable {h : Hub} {q : HodReq} (hright : q.who.isVf = false)
include hright

theorem coolHeartbeatHod_host (hhost : q.who = .pf0 ∨ q.who = .smbus) : coolHeartbeatHod q h = (h.heartbeat, .ok []) := by
  simp [coolHeartbeatHod, hright, if_pos hhost]

theorem coolHeartbeatHod_other (hpf0 : q.who ≠ .pf0) (hsmbus : q.who ≠ .smbus) : coolHeartbeatHod q h = (h, .ok []) := by
  simp [coolHeartbeatHod, hright, hpf0, hsmbus]

theorem coolQueryHod_channel {n : Nat} (hn : n < 14) : coolQueryHod q true n h = (h, .ok [.u8 (h.coolCh n).st.code,
    .u16 ((h.coolCh n).cmd / permille), .u16 ((h.coolCh n).target / permille), .u16 (h.coolCh n).tach, .u16 (h.coolCh n).flow]) :=
  (if_neg (by simp [hright])).trans ((if_pos rfl).trans (if_neg (Nat.not_le.2 hn)))

theorem coolQueryHod_zone {n : Nat} (hn : n < 8) : coolQueryHod q false n h = (h, .ok [.u16 ((h.zone n).target / permille),
    .u16 (unsigned 16 (h.zone n).tz), .u8 (b2n (h.zone n).full + 2 * b2n (h.zone n).noInput), .u32 ((h.zone n).integ / 1000)]) :=
  (if_neg (by simp [hright])).trans ((if_neg Bool.false_ne_true).trans (if_neg (Nat.not_le.2 hn)))

/-- LEAK_CLEAR ends the actions of its ropes where each has been dry long enough (R332). -/
theorem leakClearHod_clears {mask : Nat}
    (hdry : ∀ r ∈ onesBelow 6 mask, (h.rope r).action = true → h.clearable r = true) : leakClearHod q mask h =
      ((onesBelow 6 mask).foldl (fun h r => h.leakClear r q.who.id) h, .ok []) :=
  (if_neg (by simp [hright])).trans (if_neg (by simpa using hdry))

theorem leakClearHod_busy {mask r : Nat} (hr : r ∈ onesBelow 6 mask) (haction : (h.rope r).action = true)
    (hwet : h.clearable r = false) : leakClearHod q mask h = (h, .fail .busy) :=
  (if_neg (by simp [hright])).trans (if_pos (List.any_eq_true.2 ⟨r, hr, by simp [haction, hwet]⟩))

theorem leakQueryHod_answers : leakQueryHod q h = (h, .ok ((List.range 6).map (fun r => Arg.u32 (h.rope r).meas) ++
    [.u8 ((List.range 6).foldl (fun m r => if (h.rope r).action then m + 2 ^ r else m) 0),
      .u64 (h.ctr 0xD00050).val.toNat])) :=
  if_neg (by simp [hright])

end

/-! ### From the opcodes to the hods (R399) -/

section
variable {d : Dev} {h : Hub} {q : HodReq} {n : Nat}

theorem Dev.serveNow_coolHeartbeat (hop : q.op = 0x0C01) : d.serveNow q = d.byHub (coolHeartbeatHod q) := by
  simp [Dev.serveNow, Hub.serveReg, hop]

theorem Dev.serveNow_leakQuery (hop : q.op = 0x0D02) : d.serveNow q = d.byHub (leakQueryHod q) := by
  simp [Dev.serveNow, Hub.serveReg, hop]

theorem Hub.effectPower_coolQuery {what : Nat} (hop : q.op = 0x0C02) (hargs : q.args = [.u8 what, .u8 n]) (hwhat : what ≤ 1) :
    h.effectPower q = coolQueryHod q (what == 1) n h := by
  have hnums : q.num 0 = what ∧ q.num 1 = n := by simp [HodReq.num, hargs]
  simp [Hub.effectPower, hop, HodReq.choice_le (hnums.1 ▸ hwhat), hnums]

theorem Hub.effectPower_leakClear (hop : q.op = 0x0D01) (hargs : q.args = [.u8 n]) : h.effectPower q = leakClearHod q n h := by
  simp [Hub.effectPower, hop, HodReq.num, hargs]

end

/-- The heartbeat is served at once, the query at the boundary, each as R323 and R333 say. -/
theorem coolingHodsAct : CoolingHodsAct := by
  intro c
  refine ⟨?_, fun what index => ?_⟩
  · refine hodServes_of_service (fun _ => rfl) (by decide) (by decide) fun d q ans hop _ hwho hright act => ?_
    rw [← hwho] at hright ⊢
    refine ⟨fun hhost => act ?_, fun hpf0 hsmbus => act ?_⟩
    · rw [Dev.serveNow_coolHeartbeat hop, Dev.byHub, coolHeartbeatHod_host hright hhost]
      rfl
    · rw [Dev.serveNow_coolHeartbeat hop, Dev.byHub, coolHeartbeatHod_other hright hpf0 hsmbus]
  · refine powerHodStages (fun _ => rfl) (by decide) (by decide) (by decide) (by decide) fun d q hop hargs act => ?_
    intro k z hright
    refine ⟨fun hwhat hindex => act (f := id) ?_, fun hwhat hindex => act (f := id) ?_⟩
    · rw [Hub.effectPower_coolQuery hop hargs (by omega), hwhat]
      exact coolQueryHod_channel hright hindex
    · rw [Hub.effectPower_coolQuery hop hargs (by omega), hwhat]
      exact coolQueryHod_zone hright hindex

/-- LEAK_CLEAR takes effect at the boundary and LEAK_QUERY is served at once, as R332 and R333 say. -/
theorem leakHodsAct : LeakHodsAct := by
  intro c
  refine ⟨fun mask => ?_, ?_⟩
  · refine powerHodStages (fun _ => rfl) (by decide) (by decide) (by decide) (by decide) fun d q hop hargs act hright => ?_
    exact ⟨fun hdry => act ((Hub.effectPower_leakClear hop hargs).trans (leakClearHod_clears hright hdry)),
      fun r hr haction hwet => act (f := id)
        ((Hub.effectPower_leakClear hop hargs).trans (leakClearHod_busy hright hr haction hwet))⟩
  · refine hodServes_of_service (fun _ => rfl) (by decide) (by decide) fun d q ans hop _ hwho hright act => ?_
    refine act ?_
    rw [Dev.serveNow_leakQuery hop, Dev.byHub, leakQueryHod_answers (hwho ▸ hright)]

end Sys2Proof.Machine
end

section
/-!
Proofs of the family of cooling and leaks: zones, channels, inputs and the critical threshold (R318, R319, R323, R324, R326 to
R328).
-/

open Sys2Proof Sys2Proof.Machine

namespace Sys2Proof.Machine

section
variable {h : Hub}

/-! ### Zones (R318, R319) -/

theorem Hub.zoneUpdate_due (hdue : h.cool.zoneDue = true) :
    h.zoneUpdate = ({ h with cool := { h.cool with zoneDue := false } } : Hub).coolBoundary := if_pos hdue

section
variable {z : Nat}

/-- A zone without a valid input asks for full duty. -/
theorem Hub.zoneLoop_starved (hnone : h.zoneInputs z h.snapInput = []) :
    h.zoneLoop z = h.updZone z fun k => { k with target := fullDuty, noInput := true } := by
  simp only [Hub.zoneLoop, hnone]

/-- A zone's state after its loop at the temperature `t` of its hottest valid input. -/
def Hub.zoneStep (h : Hub) (z : Nat) (t : Int) (k : Zone) : Zone :=
  let e : Int := t - (bits (h.reg (zoneReg z 0)) 9 0 : Nat)
  let integ := clampDuty 0 (roundInteg (k.integ + (h.fld (zoneReg z 0x20) 15 8 : Nat) * e * 1250))
  { k with integ, noInput := false, tz := t
           target := clampDuty (bits (h.reg (zoneReg z 0)) 19 10 * permille)
             ((h.fld (zoneReg z 0x20) 7 0 : Nat) * e * 12500 + integ) }

theorem Hub.zoneLoop_single {n : Nat} {t : Int} (hone : h.zoneInputs z h.snapInput = [(n, t)]) :
    h.zoneLoop z = h.updZone z (h.zoneStep z t) := by
  simp only [Hub.zoneLoop, hone]
  rfl

end

/-! ### Host silence (R323) -/

theorem Hub.hostSilence_first (hheard : h.cool.hostSilent = false) : h.hostSilence =
    ({ h with cool := { h.cool with hostSilent := true } } : Hub).event 0x0C05 [.u32 5] := if_neg (by simp [hheard])

/-! ### Fans and pumps (R324) -/

/-- The hub that has read a channel's tach. -/
def Hub.tachRead (h : Hub) (c tach : Nat) : Hub := h.updCool c fun k => { k with tach }

section
variable {c tach : Nat}

@[simp] theorem Hub.coolCh_tachRead (h : Hub) (c tach : Nat) : (h.tachRead c tach).coolCh c = { h.coolCh c with tach } :=
  h.coolCh_updCool c _

/-- The expected speed rests on the commanded duty, not on the speed read. -/
@[simp] theorem Hub.expected_tachRead (h : Hub) (c tach : Nat) : (h.tachRead c tach).expected c = h.expected c := by
  rw [Hub.expected, Hub.coolCh_tachRead]
  rfl

@[simp] theorem Hub.coolMon_tachRead (h : Hub) (c tach n : Nat) : (h.tachRead c tach).coolMon n = h.coolMon n := rfl

@[simp] theorem Hub.hsCh_tachRead (h : Hub) (c tach n : Nat) : (h.tachRead c tach).hsCh n = h.hsCh n := rfl

/-- The speed read is kept first, and what it is held to is then read off the channel. -/
theorem Hub.fanFail_eq (h : Hub) (c tach : Nat) : h.fanFail c tach =
    let k := h.tachRead c tach
    if c < 14 ∧ k.coolMon c ∧ (k.coolCh c).st = .ok ∧ (k.hsCh (busOf c)).st = .on ∧ 20000000 ≤ (k.coolCh c).cmd ∧
      5 * tach < k.expected c then k.updCool c fun k => { k with pend := some .failed } else k := rfl

theorem Hub.fanRecover_eq (h : Hub) (c tach : Nat) : h.fanRecover c tach =
    let k := h.tachRead c tach
    if (k.coolCh c).st = .failed ∧ k.expected c ≤ 2 * tach then k.updCool c fun k => { k with pend := some .ok } else k := rfl

theorem Hub.fanFail_slow (hc : c < 14) (hmon : h.coolMon c = true) (hst : (h.coolCh c).st = .ok)
    (hbus : (h.hsCh (busOf c)).st = .on) (hcmd : 20000000 ≤ (h.coolCh c).cmd) (hslow : 5 * tach < h.expected c) :
    h.fanFail c tach = (h.tachRead c tach).updCool c fun k => { k with pend := some .failed } := by
  simp [Hub.fanFail_eq, hc, hmon, hst, hbus, hcmd, hslow]

theorem Hub.fanRecover_fast (hst : (h.coolCh c).st = .failed) (hfast : h.expected c ≤ 2 * tach) :
    h.fanRecover c tach = (h.tachRead c tach).updCool c fun k => { k with pend := some .ok } := by
  simp [Hub.fanRecover_eq, hst, hfast]

theorem Hub.flowLow_warns {flow : Nat} (hpump : 12 ≤ c) (hc : c < 14) (hmon : h.coolMon c = true)
    (hlow : flow < 10 * h.fld (coolReg c 0x20) 31 16) : h.flowLow c flow =
      ((h.updCool c fun k => { k with flow }).flag 0xC00000 4).event 0x0C07 [.u8 c, .u16 flow] :=
  if_pos ⟨decide_eq_true hpump, hc, hmon, hlow⟩

end

/-! ### Inputs that fail and return (R326, R328) -/

section
variable {i : Nat}

/-- An input outside the remote diodes fails by itself. -/
theorem Hub.loseInput_alone (hlone : i < 8 ∨ 24 ≤ i) (code : Nat) : h.loseInput i code = h.failInput i code :=
  if_neg (by omega)

/-- An input fails once; in air mode the coolant inputs do not. -/
theorem Hub.failInput_first (hgood : h.inputFault i = false) (hused : i < 8 ∨ (24 ≤ i ∧ h.cool.liquid = true))
    (code : Nat) : h.failInput i code =
      (({ h with cool := { h.cool with fault := h.cool.fault + 2 ^ i } } : Hub).flag 0xC00000 3).event 0x0C03
        [.u8 i, .u8 (inputClass i), .u8 code] := by
  refine if_neg ?_
  rcases hused with hlow | ⟨-, hliquid⟩
  · simp only [hgood, Bool.false_eq_true, false_or]
    omega
  · simp [hgood, hliquid]

theorem Hub.sensorFault_first (hi : i < 26) (hgood : h.inputFault i = false)
    (hused : i < 8 ∨ (24 ≤ i ∧ h.cool.liquid = true)) (hread : (h.adcCh i).last = 4 ∨ (h.adcCh i).last = 5) : h.sensorFault i =
      ((({ h with cool := { h.cool with fault := h.cool.fault + 2 ^ i } } : Hub).flag 0xC00000 3).event 0x0C03
        [.u8 i, .u8 (inputClass i), .u8 (h.adcCh i).last]).faultMet 11 := by
  refine (if_pos ⟨hi, hread⟩).trans ?_
  rw [Hub.loseInput_alone (hused.imp_right And.left), Hub.failInput_first hgood hused]

theorem Hub.sensorRestore_failed (hi : i < 26) (hbad : h.inputFault i = true) (hlone : i < 8 ∨ 24 ≤ i)
    (hread : (h.adcCh i).last = 0) : h.sensorRestore i =
      ({ h with cool := { h.cool with fault := h.cool.fault - 2 ^ i } } : Hub).event 0x0C03
        [.u8 i, .u8 (inputClass i), .u8 0] :=
  (if_pos ⟨hi, hread⟩).trans ((if_neg (by omega)).trans (if_pos hbad))

end

/-! ### The critical threshold (R303, R327) -/

/-- The hub with the critical comparators pulling SYS_SHDN_L, or not. -/
def Hub.withCrit (h : Hub) (pull : Bool) : Hub := { h with cool := { h.cool with shdnCrit := pull } }

theorem Hub.shdn_withCrit_pull (h : Hub) : (h.withCrit true).shdn = true := by simp [Hub.shdn, Hub.withCrit]

theorem Hub.shdn_withCrit_release (h : Hub) : (h.withCrit false).shdn = (h.cool.shdnExt || h.therm.tripLatch) := by
  simp [Hub.shdn, Hub.withCrit]

/-- A change of the comparators is recorded, and acts, where it changes SYS_SHDN_L. -/
theorem Hub.driveShdn_crit (h : Hub) (pull : Bool) (input : Nat) (t : Int) :
    h.driveShdn (fun h => { h with cool := { h.cool with shdnCrit := pull } }) input t =
      let k := (h.withCrit pull).event 0x0C04 [.u8 input, .u16 (unsigned 16 t)]
      if h.shdn = (h.withCrit pull).shdn then h.withCrit pull else if k.shdn then k.shdnFall else k.shdnRise := rfl

theorem Hub.critTrip_reached {j : Nat} {t : Int} (hj : j < 24) (hhigh : h.shdn = false) (hrange : h.inputOpen j = false)
    (hhot : h.critAt ≤ t) :
    h.critTrip j t = ((h.withCrit true).event 0x0C04 [.u8 j, .u16 (unsigned 16 t)]).shdnFall := by
  refine (if_pos ⟨hj, hhot, by simp [hrange]⟩).trans ?_
  simp [Hub.driveShdn_crit, hhigh, Hub.shdn_withCrit_pull]

/-- A comparator is blind to an input that reads open or short. -/
theorem Hub.critTrip_unreached {j : Nat} {t : Int} (hnot : h.inputOpen j = true ∨ t < h.critAt) : h.critTrip j t = h := by
  refine if_neg fun ⟨_, hhot, hrange⟩ => ?_
  rcases hnot with hopen | hcool
  · simp [hopen] at hrange
  · exact Int.not_lt.2 hhot hcool

theorem Hub.critRelease_last (hcrit : h.cool.shdnCrit = true) (hpin : h.cool.shdnExt = false)
    (htrip : h.therm.tripLatch = false) :
    h.critRelease = ((h.withCrit false).event 0x0C04 [.u8 0xFF, .u16 0]).shdnRise := by
  have hlow : h.shdn = true := by simp [Hub.shdn, hcrit]
  have hzero : unsigned 16 0 = 0 := rfl
  refine (if_pos hcrit).trans ?_
  simp [Hub.driveShdn_crit, hlow, Hub.shdn_withCrit_release, hpin, htrip, hzero]

end

/-- Settles O41: each event is its operation with the row's condition met, a zone's loop is read off `Hub.zoneStep`, and the hods
are `coolingHodsAct`. -/
theorem coolingResponds : Obligations.CoolingResponds := by
  refine ⟨?_, coolingHodsAct⟩
  intro s c i v hup h k tach
  refine ⟨fun hdue => ?_, fun z hnone => ?_, fun z n t hone => ?_, fun hheard => ?_, fun hmon hst hbus hcmd hslow => ?_,
    fun hst hfast => ?_, fun hpump hmon hlow => ?_, fun hgood hused hread => ?_, fun hbad hlone hread => ?_,
    fun haux => ⟨fun j t hhigh hrange hhot => ?_, fun j t hnot => ?_, fun hcrit hpin htrip => ?_⟩⟩
  · exact exec_onHub hup rfl (Hub.zoneUpdate_due hdue)
  · rw [Hub.zoneLoop_starved hnone, Hub.zone_updZone]
    exact ⟨rfl, rfl⟩
  · rw [Hub.zoneLoop_single hone, Hub.zone_updZone]
    exact ⟨rfl, rfl, rfl⟩
  · exact exec_onHub hup rfl (Hub.hostSilence_first hheard)
  · exact exec_onHub hup rfl (Hub.fanFail_slow c.isLt hmon hst hbus hcmd hslow)
  · exact exec_onHub hup rfl (Hub.fanRecover_fast hst hfast)
  · exact exec_onHub hup rfl (Hub.flowLow_warns hpump c.isLt hmon hlow)
  · exact exec_onHub hup rfl (Hub.sensorFault_first i.isLt hgood hused hread)
  · exact exec_onHub hup rfl (Hub.sensorRestore_failed i.isLt hbad hlone hread)
  · exact exec_onFoot haux hup rfl (Hub.critTrip_reached j.isLt hhigh hrange hhot)
  · exact exec_onFoot (g := id) haux hup rfl (Hub.critTrip_unreached hnot)
  · exact exec_onFoot haux hup rfl (Hub.critRelease_last hcrit hpin htrip)

end Sys2Proof.Machine
end

section
/-!
Proofs of the family of cooling and leaks: the leak ropes (R329 to R331).
-/

open Sys2Proof Sys2Proof.Machine

namespace Sys2Proof.Machine

section
variable {h : Hub} {r : Nat} (hen : h.ropeEn r = true)
include hen

/-! ### Measurements (R329) -/

section
variable {res : Nat}

/-- A measurement of an enabled rope dries it or breaks its dry run, and the record of a rope that was open leaves it. -/
theorem Hub.rope_ropeRead (hin : res ≤ 1500) : (h.ropeRead r (some res)).rope r =
    let k := h.rope r
    { k with
      res, seen := true, known := true, st := if h.moistK r < res then 0 else k.st
      dryRun := if h.moistK r < res then sat 1000 (k.dryRun + 1) else 0 } := by
  have hsat : sat 2047 res = res := Nat.min_eq_right (by omega)
  simp only [Hub.ropeRead, hen, Bool.not_true, Bool.false_eq_true, if_false, hsat, hin, decide_true, Bool.and_true,
    decide_eq_true_eq]
  split
  · exact (Hub.rope_congr (Hub.event_cool ..) r).trans (h.rope_updRope r _)
  · exact h.rope_updRope r _

theorem Hub.rope_ropeRead_dry (hdry : h.moistK r < res) (hin : res ≤ 1500) : (h.ropeRead r (some res)).rope r =
    { h.rope r with res, seen := true, known := true, st := 0, dryRun := sat 1000 ((h.rope r).dryRun + 1) } := by
  simp only [Hub.rope_ropeRead hen hin, if_pos hdry]

theorem Hub.rope_ropeRead_moist (hmoist : res ≤ h.moistK r) (hin : res ≤ 1500) : (h.ropeRead r (some res)).rope r =
    { h.rope r with res, seen := true, known := true, dryRun := 0 } := by
  simp only [Hub.rope_ropeRead hen hin, if_neg (Nat.not_lt.2 hmoist)]

end

/-! ### Moist and open ropes (R329, R345) -/

theorem Hub.ropeMoist_dry (hknown : (h.rope r).known = true) (hst : (h.rope r).st = 0) (hlow : (h.rope r).res < h.moistK r) :
    h.ropeMoist r =
      (h.updRope r fun k => { k with st := 1, dryRun := 0 }).event 0x0D01 [.u8 r, .u16 (h.rope r).res] := by
  refine (if_pos ⟨hen, hknown, by simp [hst], by simp [hst], hlow⟩).trans ?_
  simp [hst]

theorem Hub.ropeOpen_opens (hst : (h.rope r).st ≠ 3) (hopen : 1500 < (h.rope r).res ∨ (h.rope r).seen = false) :
    h.ropeOpen r = (h.updRope r fun k => { k with st := 3, dryRun := 0 }).event 0x0D03 [.u8 r] :=
  if_pos ⟨hen, hst, hopen⟩

end

/-! ### A leak (R330, R331) -/

/-- The hub with a rope's action latched, H8 and the channels that the rope maps held, and in liquid mode the pumps stopped. -/
def Hub.leakHeld (h : Hub) (r : Nat) : Hub :=
  let h := h.updRope r fun k => { k with st := 2, dryRun := 0, action := true }
  let h := (List.range 9).foldl (fun h c => if c = 8 ∨ h.bitAt (ropeCfg r) c then h.holdCh c 0xB else h) h
  if h.cool.liquid then
    (h.updCool 12 fun k => { k with cmd := 0, st := .stopped }).updCool 13 fun k => { k with cmd := 0, st := .stopped } else h

/-- A rope's first leak acts, and is counted and recorded. -/
theorem Hub.leakAction_first {h : Hub} {r : Nat} (hen : h.ropeEn r = true) (hknown : (h.rope r).known = true)
    (hlow : (h.rope r).res < h.leakK r) (hst : (h.rope r).st ≠ 2) (hidle : (h.rope r).action = false) : h.leakAction r =
      ((h.leakHeld r).bump 0xD00050).event 0x0D02
        [.u8 r, .u16 (h.rope r).res, .u8 ((h.leakHeld r).fld (ropeCfg r) 7 0)] :=
  (if_pos ⟨hen, hknown, hlow, hst⟩).trans (if_neg (by simp [hidle]))

/-- Settles O42: each event of a rope is its operation with the row's condition met, a measurement is read back off
`Hub.rope_ropeRead`, and the hods are `leakHodsAct`. -/
theorem leakRopesAct : Obligations.LeakRopesAct := by
  refine ⟨?_, leakHodsAct⟩
  intro s r hup haux h k
  refine ⟨fun vs => ?_, fun res hen hdry hin => ?_, fun res hen hmoist hin => ?_, fun hen hknown hst hlow => ?_,
    fun hen hst hopen => ?_, fun hen hknown hlow hst hidle => ?_⟩
  · exact exec_onFoot haux hup rfl rfl
  · exact Hub.rope_ropeRead_dry hen hdry hin
  · exact Hub.rope_ropeRead_moist hen hmoist hin
  · exact exec_onFoot haux hup rfl (Hub.ropeMoist_dry hen hknown hst hlow)
  · exact exec_onFoot haux hup rfl (Hub.ropeOpen_opens hen hst hopen)
  · exact exec_onFoot haux hup rfl (Hub.leakAction_first hen hknown hlow hst hidle)

end Sys2Proof.Machine
end

section
/-!
Proofs about every step: what the operations of tiles, engines and samplers keep of the memories and the fuses (R480, R481).
-/

open Sys2Proof Sys2Proof.Machine

namespace Sys2Proof.Machine

/-! ### What lies between a device and a later one -/

/-- The memories are in canonical form. -/
structure Memories.Canonical (m : Memories) : Prop where
  tile : m.tile.wf = true
  spill : m.spill.wf = true
  flash : m.flash.wf = true

/-- No fuse of `o` is undone in `p` (R480, R481). -/
structure Otp.KeptIn (o p : Otp) : Prop where
  revoked : ∀ k, o.revoked.testBit k = true → p.revoked.testBit k = true
  ok0 : ∀ key, o.ok0 = some key → p.ok0 = some key
  ok1 : ∀ key, o.ok1 = some key → p.ok1 = some key
  dk : ∀ key, o.dk = some key → p.dk = some key
  arb : o.arb ≤ p.arb

theorem Otp.KeptIn.refl (o : Otp) : o.KeptIn o := ⟨fun _ => id, fun _ => id, fun _ => id, fun _ => id, Nat.le_refl _⟩

theorem Otp.KeptIn.trans {o p q : Otp} (h : o.KeptIn p) (h' : p.KeptIn q) : o.KeptIn q where
  revoked k hk := h'.revoked k (h.revoked k hk)
  ok0 key hk := h'.ok0 key (h.ok0 key hk)
  ok1 key hk := h'.ok1 key (h.ok1 key hk)
  dk key hk := h'.dk key (h.dk key hk)
  arb := Nat.le_trans h.arb h'.arb

/-- From `d` to `e`, canonical memories stay canonical and no fuse is undone. -/
structure Dev.Keeps (d e : Dev) : Prop where
  mem : d.mem.Canonical → e.mem.Canonical
  otp : d.otp.KeptIn e.otp

theorem Dev.Keeps.refl (d : Dev) : d.Keeps d := ⟨id, .refl _⟩

namespace Dev.Keeps

theorem ite {d x y : Dev} {p : Prop} [Decidable p] (hx : d.Keeps x) (hy : d.Keeps y) : d.Keeps (if p then x else y) := by
  split
  · exact hx
  · exact hy

/-- So for the device that a hod or a read leaves beside its answer. -/
theorem ite_fst {α : Type} {d : Dev} {x y : Dev × α} {p : Prop} [Decidable p] (hx : d.Keeps x.1) (hy : d.Keeps y.1) :
    d.Keeps (if p then x else y).1 := by
  split
  · exact hx
  · exact hy

variable {d e : Dev} (h : d.Keeps e)

theorem foldl {α : Type} {f : Dev → α → Dev} (hf : ∀ {e} a, d.Keeps e → d.Keeps (f e a)) (h : d.Keeps e) (l : List α) :
    d.Keeps (l.foldl f e) := by
  induction l generalizing e with
  | nil => exact h
  | cons a l ih => exact ih (hf a h)

include h

/-- The hub has no part in it. -/
theorem hub (k : Hub) : d.Keeps ⟨k, e.mem, e.otp⟩ := ⟨h.mem, h.otp⟩
theorem hubMap (f : Hub → Hub) : d.Keeps (e.hubMap f) := h.hub _
theorem onHub (f : Hub → Hub) : d.Keeps (e.onHub f) := h.hub _
theorem byHub (f : Hub → Hub × HodOut) : d.Keeps (e.byHub f).1 := h.hub _

/-- An operation on one memory that keeps its canonical form. -/
theorem setTile (k : Hub) {m : Mem} (hm : e.mem.tile.wf = true → m.wf = true) : d.Keeps ⟨k, { e.mem with tile := m }, e.otp⟩ :=
  ⟨fun c => ⟨hm (h.mem c).tile, (h.mem c).spill, (h.mem c).flash⟩, h.otp⟩
theorem setSpill (k : Hub) {m : Mem} (hm : e.mem.spill.wf = true → m.wf = true) : d.Keeps ⟨k, { e.mem with spill := m }, e.otp⟩ :=
  ⟨fun c => ⟨(h.mem c).tile, hm (h.mem c).spill, (h.mem c).flash⟩, h.otp⟩
theorem setFlash (k : Hub) {m : Mem} (hm : e.mem.flash.wf = true → m.wf = true) : d.Keeps ⟨k, { e.mem with flash := m }, e.otp⟩ :=
  ⟨fun c => ⟨(h.mem c).tile, (h.mem c).spill, hm (h.mem c).flash⟩, h.otp⟩

/-- A reset of the base die empties the tiles and the spill memory. -/
theorem emptied (k : Hub) : d.Keeps ⟨k, { e.mem with tile := [], spill := [] }, e.otp⟩ :=
  ⟨fun c => ⟨rfl, rfl, (h.mem c).flash⟩, h.otp⟩

/-! ### Tiles and spill -/

theorem zeroFrame (res : Bool) (f : Nat) : d.Keeps (e.zeroFrame res f) :=
  ite (h.setSpill _ (Mem.wf_zero _ _)) (h.setTile _ (Mem.wf_zero _ _))

theorem zeroTile (n : Nat) : d.Keeps (e.zeroTile n) := h.setTile _ fun hm => (Tbl.wf_filter _ hm).1

theorem putTile (a : Nat) (bs : List Byte) : d.Keeps (e.putTile a bs) := by
  refine ite (h.setTile _ (Mem.wf_writeN a bs)) (h.setTile _ fun hm => ?_)
  refine List.foldlRecOn (motive := fun m : Mem => m.wf = true) _ _ hm fun m hm kb _ => ?_
  dsimp only
  split
  · exact hm
  · exact Mem.wf_write _ _ hm

theorem writePage (p : Pte) (o : Nat) (bs : List Byte) : d.Keeps (e.writePage p o bs) :=
  ite (h.setSpill _ (Mem.wf_writeN _ bs)) (h.putTile _ bs)

theorem pageData (page o n req : Nat) : d.Keeps (e.pageData page o n req).1 := ite_fst (h.hub _) h

theorem pageWrite (page o : Nat) (bs : List Byte) (req : Nat) : d.Keeps (e.pageWrite page o bs req).1 :=
  (h.hubMap _).writePage ..

theorem serveRead (x : Nat) (b : Brick) (ecc : EccReport) : d.Keeps (e.serveRead x b ecc) := by
  unfold Dev.serveRead
  exact ((h.hubMap _).pageData ..).hubMap _

theorem serveWrite (x : Nat) (b : Brick) (ecc : EccReport) : d.Keeps (e.serveWrite x b ecc) := by
  unfold Dev.serveWrite
  exact (ite_fst (h.hub _) ((h.hubMap _).pageWrite ..)).hubMap _

theorem serveTile (x vc : Nat) (ecc : EccReport) (want : Option BT) (force : Bool) : d.Keeps (e.serveTile x vc ecc want force) := by
  unfold Dev.serveTile
  split
  · exact h
  · exact ite h (ite (h.hub _) (ite (h.hubMap _) (ite ((h.hub _).serveRead ..) ((h.hub _).serveWrite ..))))

theorem groupWoken (g : Nat) : d.Keeps (e.groupWoken g) := ite (foldl (fun _ h => h.serveTile ..) (h.hubMap _) _) h

theorem drainTiles : d.Keeps e.drainTiles := foldl (fun _ h => h.serveTile ..) h _

theorem bar4 (who : Master) (at_ : HostAccess) (wr : Option (List Byte)) (n : Nat) : d.Keeps (e.bar4 who at_ wr n) := by
  refine ite ?_ (h.hubMap _)
  dsimp only
  split
  · exact (h.hubMap _).pageWrite ..
  · exact ((h.hubMap _).pageData ..).hubMap _

theorem testComplete (n : Nat) (ok : Bool) : d.Keeps (e.testComplete n ok) := ite ((h.zeroTile n).hubMap _) h

theorem freePage (p : Nat) : d.Keeps (e.freePage p) := ite h (ite (h.hubMap _) ((h.zeroFrame ..).hubMap _))

theorem copyPage (p : Pte) (toSpill : Bool) (dst : Nat) : d.Keeps (e.copyPage p toSpill dst) :=
  (foldl (fun _ h => ite (h.setSpill _ (Mem.wf_write _ _)) (h.setTile _ (Mem.wf_write _ _))) (h.zeroFrame ..) _).zeroFrame ..

theorem moveDone (m : MoveEnd) : d.Keeps (e.moveDone m) := by
  unfold Dev.moveDone
  split
  · exact h
  · exact ((h.hubMap _).copyPage ..).hubMap _

theorem tileBoundary : d.Keeps e.tileBoundary := by
  unfold Dev.tileBoundary
  exact (foldl (fun p h => h.freePage p) h _).hubMap _

theorem tileWrite (t o : Nat) (bs : List Byte) : d.Keeps (e.tileWrite t o bs) := foldl (fun _ h => h.putTile ..) (h.hubMap _) _

/-! ### The engines -/

theorem deliver (c : Coll) (k : Chunk) : d.Keeps (e.deliver c k) := by
  unfold Dev.deliver
  exact (foldl (fun _ h => foldl (fun _ h => h.tileWrite ..) h _) h _).hubMap _

theorem chunkComplete (part id off : Nat) : d.Keeps (e.chunkComplete part id off) := by
  unfold Dev.chunkComplete
  split
  · exact h
  · dsimp only
    split
    · exact ite (h.deliver ..) h
    · refine ite ?_ h
      split
      · exact ite (h.deliver ..) h
      · exact h

theorem mortarRun (n : Nat) : d.Keeps (e.mortarRun n) := by
  induction n generalizing e with
  | zero => exact h
  | succ n ih =>
    unfold Dev.mortarRun
    split
    · exact ih (h.hubMap _)
    · split
      · exact ih (h.deliver ..)
      · exact h

theorem countWrite (t o : Nat) (old new : List Nat) : d.Keeps (e.countWrite t o old new) :=
  foldl (fun _ h => ite h (h.tileWrite ..)) h _

/-! ### The samplers -/

theorem openStep (x smp : Nat) (b : Brick) : d.Keeps (e.openStep x smp b) := by
  unfold Dev.openStep
  dsimp only
  split
  · exact h.hub _
  · refine ite (h.hub _) ?_
    split
    · exact h.hub _
    · refine ite (h.hub _) (ite (h.hub _) (ite (h.hub _) ?_))
      split
      · exact h.hub _
      · exact h.hub _

theorem takeLogits (x : Nat) (i : InItem) : d.Keeps (e.takeLogits x i) := by
  refine ite (h.hub _) (ite ?_ ?_)
  · split
    · exact (h.hub _).openStep ..
    · exact h
  · split
    · exact ite (h.hub _) (h.hub _)
    · exact h.hub _

theorem logits (x : Nat) : d.Keeps (e.logits x) := by
  unfold Dev.logits
  split
  · exact h.takeLogits ..
  · exact h

theorem logitsRun (n : Nat) : d.Keeps (e.logitsRun n) := by
  induction n generalizing e with
  | zero => exact h
  | succ n ih =>
    unfold Dev.logitsRun
    split
    · exact ih (h.takeLogits ..)
    · exact h

theorem drainLogits : d.Keeps e.drainLogits := h.logitsRun _

theorem tokenIssue (stream : Nat) : d.Keeps (e.tokenIssue stream) := by
  unfold Dev.tokenIssue
  split
  · exact h
  · refine ite h (ite (h.hub _) (ite (h.hub _) (ite (h.hub _) ?_)))
    dsimp only
    split
    · exact h.hub _
    · exact (ite (h.countWrite ..) h).hubMap _

theorem sliceEnd : d.Keeps e.sliceEnd := ite (h.hubMap _).drainLogits h

theorem writeContexts : d.Keeps e.writeContexts := by
  unfold Dev.writeContexts
  refine (foldl (fun s h => ?_) h _).hubMap _
  split
  · exact (h.tileWrite ..).hubMap _
  · exact h

end Dev.Keeps

end Sys2Proof.Machine
end

section
/-!
Proofs about every step: what firmware, the hods, the boundary, the resets and the buses keep of the memories and the fuses (R480,
R481).
-/

open Sys2Proof Sys2Proof.Machine

namespace Sys2Proof.Machine

/-- Programming leaves every cell that was programmed as it was (R480). -/
theorem Otp.keptIn_program (o : Otp) (w : OtpWrite) : o.KeptIn (o.program w) := by
  have kept {x y : Option (List Byte)} {key : List Byte} (hx : x.isNone = true) (he : x = some key) : y = some key := by
    simp [he] at hx
  cases w with
  | revoke k => exact ⟨fun j hj => by simp [Otp.program, hj], fun _ => id, fun _ => id, fun _ => id, Nat.le_refl _⟩
  | ok0 key =>
    change o.KeptIn (if o.ok0.isNone then { o with ok0 := some (padTo 96 key) } else o)
    split
    · next hnone => exact ⟨fun _ => id, fun _ => kept hnone, fun _ => id, fun _ => id, Nat.le_refl _⟩
    · exact .refl _
  | ok1 key =>
    change o.KeptIn (if o.ok1.isNone then { o with ok1 := some (padTo 96 key) } else o)
    split
    · next hnone => exact ⟨fun _ => id, fun _ => id, fun _ => kept hnone, fun _ => id, Nat.le_refl _⟩
    · exact .refl _
  | dk key =>
    change o.KeptIn (if o.dk.isNone then { o with dk := some (padTo 96 key) } else o)
    split
    · next hnone => exact ⟨fun _ => id, fun _ => id, fun _ => id, fun _ => kept hnone, Nat.le_refl _⟩
    · exact .refl _

namespace Dev.Keeps

variable {d e : Dev} (h : d.Keeps e)
include h

/-! ### Firmware and fuses -/

theorem flashWrite (a : Nat) (bs : List Byte) : d.Keeps (e.flashWrite a bs) := h.setFlash _ (Mem.wf_writeN _ _)

theorem flashErase (a n : Nat) : d.Keeps (e.flashErase a n) := h.setFlash _ (Mem.wf_zero _ _)

theorem verify (kind t : Nat) : d.Keeps (e.verify kind t).2.2 := h.hub _

theorem romBoot (cause : Nat) (kiln : Bool) : d.Keeps (e.romBoot cause kiln) :=
  ite (h.hub _) (ite (h.hub _) (ite (h.hub _) (h.hub _)))

theorem crashLoop : d.Keeps e.crashLoop := ite h (ite (h.hub _) (ite (h.hub _) (h.hub _)))

theorem checkCopies : d.Keeps e.checkCopies := by
  unfold Dev.checkCopies
  exact (foldl (fun _ h => ite h (ite (h.hub _) (h.hub _))) h _).onHub _

theorem firstKick : d.Keeps e.firstKick := ite h (ite (h.hub _) (h.onHub _).checkCopies)

/-- The anti-rollback count rises by a fuse (R481). -/
theorem arb_succ (k : Hub) : d.Keeps ⟨k, e.mem, { e.otp with arb := e.otp.arb + 1 }⟩ :=
  ⟨h.mem, h.otp.trans ⟨fun _ => id, fun _ => id, fun _ => id, fun _ => id, Nat.le_succ _⟩⟩

theorem blow (n : Nat) : d.Keeps (e.blow n) := by
  induction n generalizing e with
  | zero => exact h
  | succ n ih => exact ite (ih (h.arb_succ _)) (h.hub _)

theorem advance : d.Keeps e.advance := ite ((h.blow _).onHub _) h

theorem confirm : d.Keeps e.confirm := ite h (ite (h.hub _) ((h.hub _).advance.onHub _))

theorem otpProgram (w : OtpWrite) : d.Keeps (e.otpProgram w) := ite ⟨h.mem, h.otp.trans (Otp.keptIn_program _ w)⟩ h

theorem pushStart : d.Keeps e.pushStart := by
  refine ite h ?_
  split
  · exact h
  · have hverified {p : Prop} [Decidable p] {kind t : Nat} : d.Keeps (if p then (e.verify kind t).2.2 else e) := ite (h.verify ..) h
    exact ite (hverified.onHub _) (hverified.onHub _)

/-! ### The hods -/

variable (q : HodReq)

theorem writeChunk (t o : Nat) (bs : List Byte) : d.Keeps (e.writeChunk t o bs).1 := by
  have herased {f f' : Hub → Hub} : d.Keeps (if o = 0 then (e.onHub f).flashErase (targetBase t) (targetSize t) else e.onHub f') :=
    ite ((h.onHub _).flashErase ..) (h.onHub _)
  exact ite_fst h (ite_fst h (ite_fst (((herased.onHub _).flashWrite ..).hub _) (herased.hub _)))

theorem fwWriteHod (t o : Nat) (bs : List Byte) : d.Keeps (Machine.fwWriteHod q t o bs e).1 :=
  ite_fst h (ite_fst h (ite_fst h (ite_fst h (h.writeChunk ..))))

theorem accImageWriteHod (t o : Nat) (bs : List Byte) : d.Keeps (Machine.accImageWriteHod q t o bs e).1 :=
  ite_fst h (ite_fst h (ite_fst h (ite_fst h (h.writeChunk ..))))

theorem fwVerifyHod (kind t : Nat) : d.Keeps (Machine.fwVerifyHod q kind t e).1 :=
  ite_fst h (ite_fst h (ite_fst h (ite_fst (h.verify ..) (ite_fst (h.verify ..) ((h.verify ..).hub _)))))

theorem jobplaneLoadHod (flags o : Nat) (bs : List Byte) : d.Keeps (Machine.jobplaneLoadHod q flags o bs e).1 := by
  refine ite_fst h (ite_fst h ?_)
  have hfirst {f : Hub → Hub} : d.Keeps (if flags.testBit 0 then e.onHub f else e) := ite (h.onHub _) h
  generalize (if flags.testBit 0 then some [] else e.hub.fw.jpPart) = part
  cases part with
  | none => exact hfirst
  | some p =>
    refine ite_fst hfirst (ite_fst ?_ ?_)
    · exact hfirst.hub _
    dsimp only
    generalize Dev.moduleCheck _ _ = verdict
    split
    · exact hfirst.hub _
    · exact hfirst.hub _
    · exact hfirst.hub _
    · exact ite_fst (hfirst.hub _) (hfirst.hub _)

theorem jtagUnlockHod (mode level dur : Nat) (sig : List Byte) : d.Keeps (Machine.jtagUnlockHod q mode level dur sig e).1 := by
  refine ite_fst h (ite_fst (h.hub _) (ite_fst ?_ (ite_fst (h.hub _) h)))
  unfold unlockLevel
  split
  · exact h
  · refine ite_fst (h.hub _) (ite_fst (h.hub _) (ite_fst (h.hub _) ?_))
    split
    · exact h.hub _
    · exact h.hub _

theorem secQueryHod : d.Keeps (Machine.secQueryHod q e).1 := ite_fst h h

theorem serveFw : d.Keeps (e.serveFw q).1 := by
  unfold Dev.serveFw
  split
  · exact h.fwWriteHod ..
  · exact h.fwVerifyHod ..
  · exact h.byHub _
  · exact h.byHub _
  · exact h.jobplaneLoadHod ..
  · exact h.accImageWriteHod ..

theorem serveTop : d.Keeps (e.serveTop q).1 := by
  unfold Dev.serveTop
  split
  case h_6 => exact h.secQueryHod q
  case h_7 => exact h.jtagUnlockHod ..
  all_goals exact h.byHub _

theorem serveNow : d.Keeps (e.serveNow q).1 := by
  unfold Dev.serveNow
  split
  case h_5 => exact h.serveFw q
  case h_6 => exact h.serveTop q
  all_goals exact h.byHub _

theorem pageAllocHod (part n : Nat) (pin : Bool) : d.Keeps (Machine.pageAllocHod q part n pin e).1 := by
  unfold Machine.pageAllocHod
  split
  · exact foldl (fun _ h => h.zeroFrame ..) (h.hub _) _
  · exact h.hub _

theorem pageFreeHod (ps : List Nat) : d.Keeps (Machine.pageFreeHod q ps e).1 :=
  ite_fst h (ite_fst h (foldl (fun p h => h.freePage p) h _))

theorem leaseSetHod (p lessees writer : Nat) : d.Keeps (Machine.leaseSetHod q p lessees writer e).1 :=
  ite_fst h (ite_fst h (ite_fst h (ite_fst h (h.hub _))))

theorem pagePinHod (p : Nat) (unpin : Bool) : d.Keeps (Machine.pagePinHod q p unpin e).1 :=
  ite_fst h (ite_fst h (ite_fst (h.hub _) (ite_fst (ite_fst h (h.hub _)) (ite_fst (h.hub _) (h.hub _)))))

theorem pteReadHod (p : Nat) : d.Keeps (Machine.pteReadHod q p e).1 := ite_fst h (ite_fst h h)

theorem pageMoveHod (p : Nat) (demote : Bool) : d.Keeps (Machine.pageMoveHod q p demote e).1 :=
  ite_fst h (ite_fst h (ite_fst h (h.hub _)))

/-- An enumeration argument picks one of two services, or none where it is out of range. -/
theorem choice (i field : Nat) {k : Bool → Dev × HodOut} (hk : ∀ b, d.Keeps (k b).1) : d.Keeps (q.choice i field e k).1 :=
  ite_fst h (hk _)

theorem effectTile : d.Keeps (e.effectTile q).1 := by
  unfold Dev.effectTile
  split
  · exact h.choice q _ _ fun _ => ite_fst h (h.pageAllocHod ..)
  · exact ite_fst h (h.pageFreeHod ..)
  · exact h.leaseSetHod ..
  · exact h.choice q _ _ fun _ => h.pagePinHod ..
  · exact h.pteReadHod ..
  · exact h.choice q _ _ fun _ => h.pageMoveHod ..

theorem effectMortar : d.Keeps (e.effectMortar q).1 := by
  unfold Dev.effectMortar
  split
  · exact ite_fst h (ite_fst h (ite_fst h (ite_fst h (ite_fst h (h.tileWrite ..)))))
  · exact ite_fst h (ite_fst h (ite_fst h (ite_fst h (h.hub _))))
  · unfold collAbortHod
    split
    · exact h
    · exact h.hub _

theorem smpStateSetHod (s : Nat) (aut : Option Nat) (clear : Bool) (toks : List Nat) :
    d.Keeps (Machine.smpStateSetHod q s aut clear toks e).1 := by
  unfold Machine.smpStateSetHod
  split
  · exact h
  · refine ite_fst h ?_
    dsimp only
    split
    · exact ite_fst (ite ((h.hub _).tileWrite ..) ((h.hub _).countWrite ..)) (h.hub _)
    · exact h.hub _

theorem effectSampler : d.Keeps (e.effectSampler q).1 := by
  unfold Dev.effectSampler
  split
  · exact ite_fst h (ite_fst h (ite_fst h (ite_fst h (ite_fst h (h.tileWrite ..)))))
  · refine h.choice q _ _ fun _ => ?_
    unfold smpBindHod
    split
    · exact h
    · exact ite_fst h (ite_fst h (ite_fst h (h.hub _)))
  · exact h.choice q _ _ fun _ => h.choice q _ _ fun _ => ite_fst h (h.smpStateSetHod ..)
  · unfold smpLastHod
    split
    · exact h
    · exact h
  · exact ite_fst h (ite_fst h (ite_fst h (ite_fst h (ite_fst h (h.tileWrite ..)))))

theorem effect : d.Keeps (e.effect q).1 := by
  unfold Dev.effect
  split
  · exact h.effectTile q
  · exact h.effectTile q
  · exact h.effectMortar q
  · exact h.effectSampler q
  all_goals exact h.byHub _

theorem execute : d.Keeps (e.execute q) := by
  unfold Dev.execute
  split
  · exact h
  · refine hubMap ?_ _
    split
    · exact ite_fst (ite_fst (h.byHub _) h) (ite_fst h (h.serveNow q))
    · exact ite_fst h (ite_fst h (h.serveNow q))

theorem serve : d.Keeps (e.serve q) := by
  unfold Dev.serve
  split
  · exact h.execute q
  · exact ite (h.execute q) (h.hubMap _)
  · exact h.hubMap _
  · exact h.hubMap _

theorem coreReady : d.Keeps e.coreReady := ite (foldl (fun q h => h.serve q) (h.hubMap _) _) h

theorem intakeLate (payload : List Byte) (len : Nat) : d.Keeps (e.intakeLate q payload len) := by
  unfold Dev.intakeLate
  dsimp only
  split
  · exact h.hubMap _
  · exact ite (h.hubMap _) (ite (h.hubMap _) (ite (h.hubMap _) (ite (h.hubMap _) ((h.hubMap _).serve _))))

omit q

theorem intake (who : Requester) (path : Path) (msg : List Byte) : d.Keeps (e.intake who path msg) := by
  refine ite (h.hub _) (ite (h.hub _) ?_)
  split
  · exact h.hub _
  · exact (h.hubMap _).intakeLate ..

theorem ring (who : Requester) : d.Keeps (e.ring who) := ite h (ite (h.hubMap _) ((h.hubMap _).intake ..))

theorem windowReg (who : Requester) (ofs v : Nat) : d.Keeps (e.windowReg who ofs v) :=
  ite (ite (h.ring _) h) (ite (h.hubMap _) h)

theorem windowWrite (who : Requester) (ofs : Nat) (bs : List Byte) : d.Keeps (e.windowWrite who ofs bs) :=
  ite (h.hubMap _) (ite (h.windowReg ..) (ite ((h.windowReg ..).windowReg ..) (h.hubMap _)))

theorem submit (c : Call) (op : Nat) (args : List Arg) : d.Keeps (e.submit c op args) := ite (h.intake ..) ((h.hubMap _).ring _)

end Dev.Keeps

end Sys2Proof.Machine
end

section
/-!
Proofs about every step: what the boundary, the resets, the messages, the registers and the SMBus commands keep of the memories and the
fuses (R480, R481).
-/

open Sys2Proof Sys2Proof.Machine

namespace Sys2Proof.Machine

namespace Dev.Keeps

variable {d e : Dev} (h : d.Keeps e)
include h

/-! ### The boundary -/

theorem applyReg (who a sel v : Nat) : d.Keeps (e.applyReg who a sel v) := by
  unfold Dev.applyReg
  split
  · exact h.hubMap _
  · exact h.hubMap _
  · exact h.hubMap _

theorem effectAt (g : Gone) (q : HodReq) : d.Keeps (e.effectAt g q).1 := ite_fst (ite (h.hubMap _) h) (h.effect q)

theorem applyOutside (g : Gone) (i : TxnItem) : d.Keeps (e.applyOutside g i) := by
  cases i with
  | reg who a sel v => exact h.applyReg ..
  | hod q => exact (h.effectAt g q).hub _

theorem applyInside (g : Gone) (i : TxnItem) : d.Keeps (e.applyInside g i) := by
  cases i with
  | reg who a sel v => exact h.applyReg ..
  | hod q => exact h.effectAt g q

section
variable {f : Dev → TxnItem → Dev} (hf : ∀ {e : Dev} (i : TxnItem), d.Keeps e → d.Keeps (f e i))
include hf

theorem inStep (s : StepOf) (l : List TxnItem) : d.Keeps (e.inStep f s l) := foldl hf h _

theorem partsStep (l : List TxnItem) : d.Keeps (e.partsStep f l) := by
  unfold Dev.partsStep
  exact foldl (fun _ h => h.hubMap _) (inStep (foldl (fun _ h => h.hubMap _) h _) hf _ _) _

end

variable (out : List TxnItem) (cs : List (List TxnItem))

theorem step3 : d.Keeps (e.step3 out cs).1 := by
  unfold Dev.step3
  exact foldl (fun l h => h.partsStep (fun i h => h.applyInside _ i) l) ((h.hubMap _).partsStep (fun i h => h.applyOutside _ i) out) cs

theorem steps456 (g : Gone) : d.Keeps (e.steps456 g out cs) := by
  have hboth {e : Dev} (h : d.Keeps e) (s : StepOf) :
      d.Keeps (cs.foldl (fun d l => d.inStep (Dev.applyInside g) s l) (e.inStep (Dev.applyOutside g) s out)) :=
    foldl (fun l h => h.inStep (fun i h => h.applyInside _ i) s l) (h.inStep (fun i h => h.applyOutside _ i) s out) cs
  unfold Dev.steps456
  exact (hboth ((hboth ((hboth (h.hubMap _) _).hubMap _) _).hubMap _) _).hubMap _

omit out cs

theorem recheck : d.Keeps e.recheck := by
  unfold Dev.recheck
  refine foldl (fun i h => ?_) h _
  cases i with
  | reg who a sel v => exact h.hubMap _
  | hod q => exact h

theorem unitsAtBoundary : d.Keeps e.unitsAtBoundary := by
  unfold Dev.unitsAtBoundary
  exact ((h.hubMap _).tileBoundary).hubMap _

theorem applyChanges (was : Nat) (out kept : List TxnItem) (ps : List Plan) : d.Keeps (e.applyChanges was out kept ps) := by
  unfold Dev.applyChanges
  exact (((((h.hubMap _).step3 ..).steps456 ..).hubMap _).unitsAtBoundary.hubMap _ |>.hubMap _).hubMap _

theorem drainUnits : d.Keeps e.drainUnits := ((h.drainTiles.mortarRun _).drainLogits.hubMap _).writeContexts

theorem fullBoundary : d.Keeps e.fullBoundary := by
  unfold Dev.fullBoundary
  exact ((h.hubMap _).drainUnits.recheck.hubMap _).applyChanges ..

theorem courseBoundary : d.Keeps e.courseBoundary := by
  refine ite (h.hubMap _) ?_
  split
  · exact h.hubMap _
  · exact h.fullBoundary

/-! ### Resets -/

theorem baseReset : d.Keeps e.baseReset := h.emptied _

theorem powerOnReset (rise : Bool) : d.Keeps (e.powerOnReset rise) := (h.hubMap _).baseReset

theorem footingPowerOn (liquid : Bool) (crit : BitVec 2) : d.Keeps (e.footingPowerOn liquid crit) := h.emptied _

theorem auxLoss : d.Keeps e.auxLoss := h.emptied _

theorem supplyLoss : d.Keeps e.supplyLoss := (h.hubMap _).baseReset

theorem crystalLoss : d.Keeps e.crystalLoss := (h.hubMap _).baseReset

theorem thermTrip : d.Keeps e.thermTrip := by
  unfold Dev.thermTrip
  split
  · exact (h.hubMap _).baseReset
  · exact h

theorem dtsRow (readings : List Int) (back : Nat) : d.Keeps (e.dtsRow readings back) := (h.hubMap _).thermTrip

/-! ### SPDM and MCTP messages -/

theorem keyExchange (q : SpdmMsg) : d.Keeps (e.keyExchange q).1 :=
  ite_fst h (ite_fst h (ite_fst h (ite_fst h (h.hub _))))

theorem atStage (q : SpdmMsg) (n : Nat) {r : Dev × List Byte} (hr : d.Keeps r.1) : d.Keeps (e.atStage q n r).1 := ite_fst hr h

theorem spdm (q : SpdmMsg) : d.Keeps (e.spdm q).1 :=
  ite_fst h <| ite_fst (h.hub _) <| ite_fst (h.atStage _ _ (h.hub _)) <| ite_fst (h.atStage _ _ (h.hub _)) <|
    ite_fst (h.atStage _ _ h) <| ite_fst (h.atStage _ _ h) <| ite_fst (h.atStage _ _ (h.hub _)) <|
    ite_fst (h.atStage _ _ (h.hub _)) <| ite_fst (h.atStage _ _ (h.keyExchange q)) <|
    ite_fst (h.hub _) <| ite_fst (h.hub _) <| ite_fst (h.hub _) <| ite_fst (h.hub _) h

theorem spdmMessage (q : SpdmMsg) : d.Keeps (e.spdmMessage q) := by
  refine ite (h.onHub _) (onHub (onHub (ite_fst ?_ (h.hub _)) _) _)
  exact (h.onHub _).spdm q

theorem spdmRow (code : Nat) (q : SpdmMsg) : d.Keeps (e.spdmRow code q) := h.spdmMessage _

theorem spdmOther (code : Nat) (q : SpdmMsg) : d.Keeps (e.spdmOther code q) := ite h (h.spdmRow ..)

theorem mctpHod (a : Assembly) : d.Keeps (e.mctpHod a) := ite (h.hubMap _) (ite (h.hubMap _) (ite (h.hubMap _) (h.intake ..)))

theorem mctpMessage (slave : Nat) (a : Assembly) : d.Keeps (e.mctpMessage slave a) := by
  unfold Dev.mctpMessage
  split
  · exact h.hubMap _
  · exact h.spdmMessage _
  · exact h.mctpHod a
  · exact h.hubMap _

theorem asmPut (slave : Nat) (a : Assembly) (eom : Bool) : d.Keeps (e.asmPut slave a eom) :=
  ite ((h.hubMap _).hubMap _) (ite ((h.hubMap _).mctpMessage ..) ((h.hubMap _).hubMap _))

theorem mctpPacket (pcie : Bool) (slave : Nat) (p : List Byte) : d.Keeps (e.mctpPacket pcie slave p) := by
  refine ite (h.hubMap _) (ite ((h.hubMap _).asmPut ..) ?_)
  split
  · exact ite (h.asmPut ..) (h.hubMap _)
  · exact h.hubMap _

theorem packetIn (pcie toVf : Bool) (p : List Byte) : d.Keeps (e.packetIn pcie toVf p) := ite h (h.mctpPacket ..)

theorem hodFrame (f : Frame) : d.Keeps (e.hodFrame f) := ite ((h.hubMap _).intake ..) (h.hubMap _)

/-! ### Registers -/

theorem read32 (m : Master) (a : Nat) : d.Keeps (e.read32 m a).1 := by
  unfold Dev.read32
  split
  · exact h
  · exact h.hubMap _
  · dsimp only
    split
    · exact h.hub _
    · exact ite_fst (h.hub _) (h.hub _)
    · exact ite ((ite (h.hubMap _) h : d.Keeps (if _ then e.hubMap _ else e)).hubMap _) (ite (h.hubMap _) h)

theorem read (m : Master) (a size : Nat) : d.Keeps (e.read m a size) := by
  unfold Dev.read
  split
  · exact h.hubMap _
  · exact h.hubMap _
  · exact (h.read32 ..).hubMap _
  · exact ((h.read32 ..).read32 ..).hubMap _

theorem stageOutside (who a sel v : Nat) : d.Keeps (e.stageOutside who a sel v) := ite (h.hubMap _) (ite (h.hubMap _) (h.hubMap _))

theorem stageWrite (m : Master) (a sel v : Nat) : d.Keeps (e.stageWrite m a sel v) := by
  unfold Dev.stageWrite
  split
  · exact ite (h.hubMap _) (h.hubMap _)
  · exact h.stageOutside ..

theorem kick : d.Keeps e.kick := ite h.firstKick.coreReady h

theorem fwCtrl (m : Master) (v : Nat) : d.Keeps (e.fwCtrl m v) := ite (h.hubMap _) (ite (confirm (ite h.kick h)) (ite h.kick h))

theorem cfgRef (m : Master) (v : Nat) : d.Keeps (e.cfgRef m v) := (h.stageOutside ..).hubMap _

theorem writeFields (m : Master) (r : RegRow) (a v : Nat) : d.Keeps (e.writeFields m r a v) := by
  have hset {e : Dev} (h : d.Keeps e) {p : Prop} [Decidable p] (f : Hub → Hub) :
      d.Keeps (if p then e.hubMap f else e) := ite (h.hubMap f) h
  have hstage {e : Dev} (h : d.Keeps e) (sel : Nat) :
      d.Keeps (if sel ≠ 0 then e.stageWrite m a sel v else e) := ite (h.stageWrite ..) h
  exact hstage (hstage (hset (hset h _) _) _) _

theorem writeReg (m : Master) (r : RegRow) (a v : Nat) : d.Keeps (e.writeReg m r a v) := by
  unfold Dev.writeReg
  split
  case h_1 => exact h.cfgRef ..
  case h_6 => exact h.fwCtrl ..
  case h_10 => exact (ite (h.hubMap _) h).writeFields ..
  all_goals exact h.hubMap _

theorem write32 (m : Master) (a v : Nat) : d.Keeps (e.write32 m a v) := by
  unfold Dev.write32
  split
  · exact h
  · exact h.hubMap _
  · exact h.writeReg ..
  · exact h

theorem write (m : Master) (a size v : Nat) : d.Keeps (e.write m a size v) := by
  unfold Dev.write
  split
  · exact h.hubMap _
  · exact h.hubMap _
  · exact ite (h.write32 ..) (h.hubMap _)
  · exact (h.write32 ..).write32 ..

/-! ### SMBus transfers -/

section
variable {k : Dev → Dev} (hk : ∀ {e : Dev}, d.Keeps e → d.Keeps (k e))
include hk

theorem smbMatch : d.Keeps (e.smbMatch k) := ite h (ite (hk (h.hubMap _)) (h.hubMap _))

theorem smbStart : d.Keeps (e.smbStart k) := h.smbMatch fun h => hk (h.hubMap _)

theorem smbWrite (code : Nat) (data : List Byte) (pec : Option Nat) : d.Keeps (e.smbWrite code data pec k) := by
  refine h.smbStart fun h => ite (h.hubMap _) ?_
  cases pec with
  | some p => exact ite (hk (h.hubMap _)) (h.hubMap _)
  | none => exact ite (h.hubMap _) (hk (h.hubMap _))

theorem smbBlock (code count : Nat) (data : List Byte) (pec : Option Nat) (allowed : Hub → Bool) :
    d.Keeps (e.smbBlock code count data pec allowed k) :=
  ite (h.smbStart fun h => ite (h.hubMap _) (h.hubMap _)) (ite (h.smbStart fun h => h.hubMap _) (h.smbWrite hk ..))

end

section
variable {k : Dev → Dev × List Byte} (hk : ∀ {e : Dev}, d.Keeps e → d.Keeps (k e).1)
include hk

theorem smbRead (code n : Nat) (pec : Bool) : d.Keeps (e.smbRead code n pec k) := h.smbStart fun h => hubMap (ite_fst (hk h) h) _

theorem smbBlockRead (code n : Nat) (pec : Bool) : d.Keeps (e.smbBlockRead code n pec k) :=
  smbRead (k := fun d => ((k d).1, leBytes 1 (k d).2.length ++ (k d).2)) h hk ..

end

theorem cmdMctpWrite (data : List Byte) (pec : Option Nat) : d.Keeps (e.cmdMctpWrite data pec) := by
  unfold Dev.cmdMctpWrite
  refine h.smbStart (fun h => ?_)
  refine ite (h.hubMap _) ?_
  cases pec with
  | none => exact h.hubMap _
  | some p => exact ite ((h.hubMap _).mctpPacket ..) (h.hubMap _)

theorem cmdMctpRead (pec : Bool) : d.Keeps (e.cmdMctpRead pec) := by
  refine h.smbBlockRead (fun h => ?_) ..
  split
  · exact h.hub _
  · exact h

theorem readRun (a n : Nat) : d.Keeps (e.readRun a n).1 := by
  induction n generalizing e a with
  | zero => exact h
  | succ n ih => exact ih (h.read ..) _

theorem writeRun (a n : Nat) (data : List Byte) : d.Keeps (e.writeRun a data n) := by
  induction n generalizing e a data with
  | zero => exact h
  | succ n ih => exact ih (h.write ..) _ _

theorem cmdRegRead (n : Nat) (pec : Bool) : d.Keeps (e.cmdRegRead n pec) := by
  refine ite (h.smbStart fun h => h.hubMap _) (h.smbBlockRead (fun h => ?_) ..)
  exact (h.readRun ..).hub _

theorem cmdRegWrite (count : Nat) (data : List Byte) (pec : Option Nat) : d.Keeps (e.cmdRegWrite count data pec) :=
  h.smbBlock (fun h => (h.writeRun ..).hubMap _) ..

theorem cmdHodRing (v : Nat) (pec : Option Nat) : d.Keeps (e.cmdHodRing v pec) := h.smbWrite (fun h => ite (h.ring _) (h.hubMap _)) ..

theorem cmdUnknown (code : Nat) : d.Keeps (e.cmdUnknown code) := h.smbStart fun h => ite h (h.hubMap _)

/-! ### Rows that join several operations -/

theorem bootRow : d.Keeps e.bootRow := ite ((h.hubMap _).romBoot ..).coreReady h

theorem endSlice : d.Keeps e.endSlice := ite (h.sliceEnd.hubMap _) h

theorem crashRow : d.Keeps e.crashRow := h.crashLoop.coreReady

end Dev.Keeps

end Sys2Proof.Machine
end

section
/-!
Proofs about every step: what the step of each command keeps of the memories and the fuses (R480, R481), and what a step is (log
entry 3).
-/

open Sys2Proof Sys2Proof.Machine

namespace Sys2Proof.Machine

/-- The supplies' events reset the base die or the footing die, or act on the hub alone. -/
theorem exec_keeps_of_supply {c : Instr} (hsup : SupplyCommand c = true) :
    ∃ f : Dev → Dev, (∀ s, exec c s = always f s) ∧ ∀ d : Dev, d.Keeps (f d) := by
  cases c <;> cases hsup
  case footingPowerOn => exact ⟨_, fun _ => rfl, fun d => (Dev.Keeps.refl d).footingPowerOn ..⟩
  case powerOnReset => exact ⟨_, fun _ => rfl, fun d => (Dev.Keeps.refl d).powerOnReset _⟩
  case crystalLost => exact ⟨_, fun _ => rfl, fun d => (Dev.Keeps.refl d).crystalLoss⟩
  case vinAuxLoss => exact ⟨_, fun _ => rfl, fun d => (Dev.Keeps.refl d).auxLoss⟩
  case baseSupplyLoss => exact ⟨_, fun _ => rfl, fun d => (Dev.Keeps.refl d).supplyLoss⟩
  case hubRstDeassert | crystalRestored | thermtripLatchRelease => exact ⟨_, fun _ => rfl, fun d => (Dev.Keeps.refl d).hubMap _⟩

theorem footing_leavesMemories {c : Instr} (hmem : LeavesMemories c = false) : FootingCommand c = false := by
  cases c <;> cases hmem <;> rfl

/-- The commands of the base die that reach a memory or the fuses: register accesses, transfers and messages each through their own
operation, and every other one submits a hod request. -/
theorem exec_keeps_of_base {c : Instr} (hsup : SupplyCommand c = false) (hfoot : FootingCommand c = false)
    (hmem : LeavesMemories c = false) : ∃ f : Dev → Dev, (∀ s, exec c s = onBase f s) ∧ ∀ d : Dev, d.Keeps (f d) := by
  cases c <;> cases hsup <;> cases hfoot <;> cases hmem <;> refine ⟨_, fun _ => rfl, fun d => ?_⟩ <;> have h := Dev.Keeps.refl d
  case accPushStart => exact h.pushStart
  case alertMaskRead => exact h.smbRead (fun h => h) ..
  case alertMaskWrite => exact h.smbWrite (fun h => h.hubMap _) ..
  case alertResponse => exact h.smbMatch fun h => h.hubMap _
  case bar4Access => exact h.bar4 ..
  case cfgRefWrite | chCtrlOff | chCtrlOn | chCtrlRelease | crsPeriodWrite | fwCtrlConfirm | fwCtrlKick | heartbeatWrite |
      leakCtrlClear | pairHiWrite | portCtrlFenceRelease | portCtrlRetrain | registerWrite | resetCtrlWarm | txnCtrlAbort |
      txnCtrlBegin | txnCtrlCommit | wallRefWrite => exact h.write ..
  case challenge | endSession | finish | getCapabilities | getCertificate | getDigests | getMeasurements | getVersion |
      heartbeat | keyExchange | keyUpdate | negotiateAlgorithms => exact h.spdmRow ..
  case chunkComplete => exact h.chunkComplete ..
  case course => exact h.smbBlockRead (fun h => h.hub _) ..
  case courseBoundary => exact h.courseBoundary
  case crashLoop => exact h.crashRow
  case deviceId => exact h.smbBlockRead (fun h => h) ..
  case dtsUpdate => exact h.dtsRow ..
  case groupWakeComplete => exact h.groupWoken ..
  case hod => exact h.hodFrame ..
  case hodBufWrite => exact h.windowWrite ..
  case hodDataRead => exact Dev.Keeps.ite (h.smbStart fun h => h.hubMap _) (h.smbBlockRead (fun h => h.hub _) ..)
  case hodDataWrite => exact h.smbBlock (fun h => h.hubMap _) ..
  case hodPtr => exact h.smbWrite (fun h => .ite (h.hubMap _) (h.hubMap _)) ..
  case hodRing => exact h.ring ..
  case hodStatus => exact h.smbBlockRead (fun h => h) ..
  case logits => exact h.logits ..
  case mctpBlockRead => exact h.cmdMctpRead ..
  case mctpBlockWrite => exact h.cmdMctpWrite ..
  case mctpPacketReceived => exact h.packetIn ..
  case migrationComplete => exact h.moveDone ..
  case otpFuseProgram => exact h.otpProgram ..
  case pairHiRead | pairLoRead | rcRead => exact h.read ..
  case readReq | write => exact h.serveTile ..
  case regAddr => exact h.smbBlock (fun h => h.hubMap _) ..
  case regDataRead => exact h.cmdRegRead ..
  case regDataWrite => exact h.cmdRegWrite ..
  case romBoot => exact h.bootRow
  case sledIdReadComplete => exact h.hubMap _
  case smbCmdStatus => exact h.smbRead (fun h => h) ..
  case smbHodRing => exact h.cmdHodRing ..
  case smbUnknownCommand => exact h.cmdUnknown ..
  case smbWakeMatch => exact h.smbMatch fun h => h
  case smpSliceEnd => exact h.endSlice
  case spdmUnsupportedRequest => exact h.spdmOther ..
  case statusClear => exact h.smbWrite (fun h => h.hubMap _) ..
  case tileTestComplete => exact h.testComplete ..
  case tokenIssue => exact h.tokenIssue ..
  all_goals exact h.submit ..

/-- Every command keeps canonical memories canonical and undoes no fuse. -/
theorem exec_keeps (c : Instr) {s t : State} (h : exec c s = .next t) : s.dev.Keeps t.dev := by
  obtain ⟨u, hu, _, _, _, hleaves⟩ := everyCommandCompletes c s
  cases hu.symm.trans h
  cases hsup : SupplyCommand c with
  | true =>
    obtain ⟨f, hf, hkeeps⟩ := exec_keeps_of_supply hsup
    cases (hf s).symm.trans h
    exact hkeeps _
  | false =>
    cases hmem : LeavesMemories c with
    | true =>
      obtain ⟨hm, ho⟩ := hleaves hmem
      exact ⟨fun hc => hm ▸ hc, ho ▸ .refl _⟩
    | false =>
      obtain ⟨f, hf, hkeeps⟩ := exec_keeps_of_base hsup (footing_leavesMemories hmem) hmem
      cases (hf s).symm.trans h
      exact .ite (hkeeps _) (.refl _)

theorem memoriesCanonical_iff (s : State) : MemoriesCanonical s ↔ s.dev.mem.Canonical :=
  ⟨fun ⟨tile, spill, flash⟩ => ⟨tile, spill, flash⟩, fun c => ⟨c.tile, c.spill, c.flash⟩⟩

/-- Settles O57: `step` asks for the front of the queue. -/
theorem stepRunsTheFrontCommand : Obligations.StepRunsTheFrontCommand := by
  intro s
  exact ⟨fun c rest h => by simp only [step, h], fun h => by simp only [step, h]⟩

/-- Settles O60: a step runs its front command, and every command keeps what the statement names. -/
theorem stepsKeepMemoriesAndFuses : Obligations.StepsKeepMemoriesAndFuses := by
  intro s t hstep
  obtain ⟨hrun, hidle⟩ := stepRunsTheFrontCommand s
  have hkeeps : s.dev.Keeps t.dev := by
    cases hp : s.pending with
    | nil =>
      cases (hidle hp).symm.trans hstep
      exact .refl _
    | cons c rest => exact exec_keeps (s := { s with pending := rest }) c ((hrun c rest hp).symm.trans hstep)
  obtain ⟨hmem, hotp⟩ := hkeeps
  rw [memoriesCanonical_iff, memoriesCanonical_iff]
  exact ⟨hmem, hotp.revoked, fun key => ⟨hotp.ok0 key, hotp.ok1 key, hotp.dk key⟩, hotp.arb⟩

end Sys2Proof.Machine
end

section
/-!
Proofs of the hods' family: a request's payload reads back, every request of a ready requester is executed, and what the requester of a
staged one sees (R372, R385 to R390, R396).
-/

open Sys2Proof Sys2Proof.Machine

namespace Sys2Proof.Machine

/-- Settles O45: reading the fields in order undoes laying the arguments out in order. -/
theorem hodArgumentsReadBack : Obligations.HodArgumentsReadBack := fun _ _ h => readArgs_encodeArgs h

/-- Each command of a hod request submits it with its opcode and its arguments. -/
theorem exec_hodRow {c : Call} {i : Instr} {op : Nat} {args : List Arg} (h : HodRow c i op args) (s : State) :
    exec i s = onBase (fun d => d.submit c op args) s := by
  cases h <;> rfl

theorem HodRow.op_lt {c : Call} {i : Instr} {op : Nat} {args : List Arg} (h : HodRow c i op args) : op < 65536 := by
  cases h <;> decide

theorem Hub.openTxn_congr {h h' : Hub} (hrb : h.rb = h'.rb) (who : Requester) : h.openTxn who = h'.openTxn who := by
  simp only [Hub.openTxn, hrb]

theorem Hub.txnIdOk_congr {h h' : Hub} (hrb : h.rb = h'.rb) (r : OpRow) (q : HodReq) : h.txnIdOk r q = h'.txnIdOk r q := by
  simp only [Hub.txnIdOk, Hub.openTxn_congr hrb]

theorem Hub.showPhase_rest (h : Hub) (q : HodReq) (p : HodPhase) : (h.showPhase q p).rb = h.rb ∧ (h.showPhase q p).smp = h.smp ∧
    (h.showPhase q p).sec = h.sec := by
  unfold Hub.showPhase
  split <;> exact ⟨rfl, rfl, rfl⟩

/-- What a window shows of its request in progress: a timed one waits. -/
theorem Hub.hod_showPhase {h : Hub} {q : HodReq} (p : HodPhase) (hpath : q.path = .window) :
    let k := (h.showPhase q p).hod q.who.id
    let p := if h.timed q then .waiting else p
    k.phase = p ∧ (p = .waiting → k.code = 0x15) ∧ (p = .deferred → k.code = 0x1B) := by
  simp only [Hub.showPhase, if_pos hpath, Hub.hod_updHod]
  exact ⟨trivial, fun hp => by simp only [hp], fun hp => by simp only [hp]⟩

/-- It leaves the rest of the hod. -/
theorem Hub.hod_showPhase_rest (h : Hub) (q : HodReq) (p : HodPhase) :
    let k := (h.showPhase q p).hod q.who.id
    k.out = (h.hod q.who.id).out ∧ k.tag = (h.hod q.who.id).tag ∧ k.tags = (h.hod q.who.id).tags := by
  unfold Hub.showPhase
  split
  · simp only [Hub.hod_updHod, and_self]
  · exact ⟨rfl, rfl, rfl⟩

/-- Ringing a window and accepting its request leave the transactions, what is staged, the samplers and the debug levels. -/
theorem hodTaken_rest (d : Dev) (c : Call) (op : Nat) (args : List Arg) :
    let h := (hodTaken d (hodReq d.hub c op args) (hodMsg c op args)).hub
    h.rb = d.hub.rb ∧ h.smp = d.hub.smp ∧ h.sec = d.hub.sec := by
  have hrung : (d.hub.rung c (hodMsg c op args)).rb = d.hub.rb ∧ (d.hub.rung c (hodMsg c op args)).smp = d.hub.smp ∧
      (d.hub.rung c (hodMsg c op args)).sec = d.hub.sec := by
    unfold Hub.rung Hub.loaded
    split <;> exact ⟨rfl, rfl, rfl⟩
  obtain ⟨hrb, hsmp, hsec⟩ := hrung
  obtain ⟨hrb', hsmp', hsec'⟩ := Hub.showPhase_rest (((d.hub.rung c (hodMsg c op args)).bump 0xF01010).updHod c.who.id fun k =>
    { k with out := some (hodReq d.hub c op args) }) (hodReq d.hub c op args) .running
  exact ⟨hrb'.trans hrb, hsmp'.trans hsmp, hsec'.trans hsec⟩

section
variable {d : Dev} {c : Call} {op : Nat} {args : List Arg} {s : State} {r : OpRow}

/-- A well-formed request that repeats none comes to the checks of its row (R390), whatever transaction it names. -/
theorem Dev.intake_request {h : Hub} (hop : op < 65536) (htag : c.tag < 65536) (hlen : (encodeArgs args).length ≤ 4080)
    (htxn : c.txn < 65536) (hout : (d.hub.hod c.who.id).out = none) (hstale : (d.hub.hod c.who.id).stale = [])
    (htags : ∀ e ∈ (d.hub.hod c.who.id).tags, e.tag ≠ c.tag) :
    d.intake c.who (c.path h) (hodMsg c op args) =
      (d.hubMap (·.bump 0xF01010)).intakeLate { hodReq h c op args with args := [] } (encodeArgs args)
        (encodeArgs args).length := by
  have hflags : b2n c.idem ≤ 1 ∧ (b2n c.idem).testBit 0 = c.idem := by cases c.idem <;> decide
  have fop : leNat (slice (hodMsg c op args) 0 2) = op := reqHead_op hop
  have ftag : leNat (slice (hodMsg c op args) 2 2) = c.tag := reqHead_tag htag
  have flen : leNat (slice (hodMsg c op args) 4 2) = (encodeArgs args).length := reqHead_len (by omega)
  have fflags : leNat (slice (hodMsg c op args) 6 1) = b2n c.idem := reqHead_flags (by omega)
  have fversion : leNat (slice (hodMsg c op args) 7 1) = 1 := reqHead_version
  have ftxn : leNat (slice (hodMsg c op args) 8 2) = c.txn := reqHead_txn htxn
  have freserved : leNat (slice (hodMsg c op args) 10 6) = 0 := reqHead_reserved
  have fbody : slice (hodMsg c op args) 16 (encodeArgs args).length = encodeArgs args :=
    slice_of_prefix (pre := reqHead op c.tag (encodeArgs args).length (b2n c.idem) c.txn) List.prefix_rfl
  have hform : ¬(4080 < (encodeArgs args).length ∨ 1 < b2n c.idem) := by omega
  have hscreen (crc : Nat) : (d.hub.bump 0xF01010).screen
      { who := c.who, path := c.path h, op, tag := c.tag, txn := c.txn, idem := c.idem, crc } = none :=
    Hub.screen_fresh hout hstale htags
  unfold Dev.intake
  simp only [fop, ftag, flen, fflags, fversion, ftxn, freserved, hodMsg_length, Nat.min_eq_left hlen, fbody, hflags.2]
  simp only [ne_eq, not_true_eq_false, if_false, BEq.rfl, Bool.or_true, Bool.not_true, Bool.false_eq_true, or_self, or_false,
    hform, Dev.hubMap_hub, hscreen]
  rfl

/-- A request whose requester is ready is executed (R386, R390). -/
theorem Dev.submit_ready (hop : op < 65536) (hrow : findOp op = some r) (hready : HodReady s c r args) :
    s.dev.submit c op args =
      let q := hodReq s.dev.hub c op args
      (hodTaken s.dev q (hodMsg c op args)).execute q := by
  obtain ⟨-, hcore, htag, htxn, hfree, -, hout, hstale, htags, hfits, hlen, hro, hright, hopen⟩ := hready
  obtain ⟨hsec, hfw⟩ := s.dev.hub.rung_rest c (hodMsg c op args)
  have hrb : (s.dev.hub.rung c (hodMsg c op args)).rb = s.dev.hub.rb := by
    unfold Hub.rung Hub.loaded
    split <;> rfl
  obtain ⟨hout', hstale', htags'⟩ := s.dev.hub.hod_rung c (hodMsg c op args)
  have hname : r.op = op := by simpa using List.find?_some hrow
  rw [hname] at hright hopen
  rw [Dev.submit_rings htag hlen hfree,
    Dev.intake_request hop htag hlen htxn (hout'.trans hout) (hstale'.trans hstale) (htags' ▸ htags),
    Dev.intakeLate_serves hrow (readArgs_encodeArgs hfits) hro ((Hub.entitled_congr hsec _ _).trans hright)
      ((Hub.txnIdOk_congr hrb _ _).trans hopen)]
  have hup : (hodTaken s.dev (hodReq s.dev.hub c op args) (hodMsg c op args)).hub.fw.phase = .up := by
    rw [hodTaken_eq, Dev.hubMap_hub, Dev.hubMap_hub, Hub.accepted_fw, hfw, hcore]
  change (hodTaken s.dev (hodReq s.dev.hub c op args) (hodMsg c op args)).serve _ = _
  simp only [Dev.serve, hup]
  rfl

/-- A request of its requester's OPEN transaction is staged there (R372). -/
theorem Dev.execute_staged {q : HodReq} {t : Txn} (hrow : findOp q.op = some r) (hne : q.txn ≠ 0)
    (hopen : d.hub.openTxn q.who = some t) (hok : d.hub.txnIdOk r q = true) :
    d.execute q = d.hubMap fun h => (h.stageHod t q).1.conclude q false (h.stageHod t q).2 := by
  have hid : q.txn = t.id ∧ r.txn = true := by simp_all [Hub.txnIdOk]
  simp only [Dev.execute, hrow, hopen, if_pos hne, if_pos hid]
  rfl

end

/-- Settles O46: intake hands the request to its execution, which asks for the transaction and for the row's boundary. -/
theorem hodRequestsExecute : Obligations.HodRequestsExecute := by
  intro s c i op args r hi hrow hready q taken
  have hup : s.dev.hub.up = true := hready.1
  have hexec {g : Dev → Dev} (he : (taken s.dev).execute q = g s.dev) : exec i s = .next (s.devMap g) :=
    exec_onBase hup (exec_hodRow hi s) ((Dev.submit_ready hi.op_lt hrow hready).trans he)
  refine ⟨fun htxn hbnd => hexec (Dev.execute_boundary hrow hbnd htxn), fun htxn hnow => hexec (Dev.execute_now hrow hnow htxn),
    fun t hne hopen => hexec (Dev.execute_staged hrow hne ?_ ?_)⟩
  all_goals obtain ⟨hrb, -, -⟩ := hodTaken_rest s.dev c op args
  · exact (Hub.openTxn_congr hrb _).trans hopen
  · have hname : r.op = op := by simpa using List.find?_some hrow
    obtain ⟨-, -, -, -, -, -, -, -, -, -, -, -, -, hok⟩ := hready
    rw [hname] at hok
    exact (Hub.txnIdOk_congr hrb _ _).trans hok

/-! ### What a staged request leaves to be seen (R385, R396) -/

theorem Hub.refPending_rest (h : Hub) : h.refPending.hods = h.hods ∧ h.refPending.rb.staged = h.rb.staged ∧
    h.refPending.rb.txns = h.rb.txns := by
  unfold Hub.refPending Hub.crcTo
  split <;> exact ⟨rfl, rfl, rfl⟩

/-- A request that is to take effect at a boundary is the last of what is staged, and its window shows what it waits for. -/
theorem Hub.conclude_boundary (h : Hub) (q : HodReq) (due : Bool) :
    (h.conclude q due .boundary).rb.staged = h.rb.staged ++ [.hod q] ∧ (h.conclude q due .boundary).rb.txns = h.rb.txns ∧
      (h.conclude q due .boundary).hod q.who.id =
        ((h.stage (.hod q)).showPhase q (if q.op / 256 = 0x07 ∧ h.smp.inSlice then .deferred else .waiting)).hod q.who.id := by
  have hshown (p : HodPhase) : ((h.stage (.hod q)).showPhase q p).rb = (h.stage (.hod q)).rb := (Hub.showPhase_rest ..).1
  obtain ⟨hhods, hstaged, htxns⟩ := Hub.refPending_rest ((h.stage (.hod q)).showPhase q .waiting)
  by_cases hslice : q.op / 256 = 0x07 ∧ h.smp.inSlice
  · have href : q.op ≠ 0x0F04 := by omega
    simp only [Hub.conclude, if_pos hslice, if_neg href, hshown]
    exact ⟨rfl, rfl, rfl⟩
  · simp only [Hub.conclude, if_neg hslice]
    split
    · exact ⟨hstaged.trans (by rw [hshown]; rfl), htxns.trans (by rw [hshown]; rfl), Hub.hod_congr hhods _⟩
    · exact ⟨by rw [hshown]; rfl, by rw [hshown]; rfl, rfl⟩

/-- A taken request is outstanding in its window, whose answered requests stay. -/
theorem hod_hodTaken {d : Dev} {c : Call} {op : Nat} {args : List Arg} (hwho : c.who ≠ .rack) :
    let k := (hodTaken d (hodReq d.hub c op args) (hodMsg c op args)).hub.hod c.who.id
    k.out = some (hodReq d.hub c op args) ∧ k.tag = c.tag ∧ k.tags = (d.hub.hod c.who.id).tags := by
  obtain ⟨-, -, htags⟩ := d.hub.hod_rung c (hodMsg c op args)
  have htag : ((d.hub.rung c (hodMsg c op args)).hod c.who.id).tag = c.tag := by rw [Hub.rung, if_neg hwho, Hub.hod_updHod]
  obtain ⟨hout', htag', htags'⟩ := Hub.hod_showPhase_rest (((d.hub.rung c (hodMsg c op args)).bump 0xF01010).updHod c.who.id fun k =>
    { k with out := some (hodReq d.hub c op args) }) (hodReq d.hub c op args) .running
  have hwho' : (hodReq d.hub c op args).who = c.who := rfl
  rw [hwho', Hub.hod_updHod] at hout' htag' htags'
  exact ⟨hout', htag'.trans htag, htags'.trans htags⟩

/-- Settles O47: the request is staged as it is taken, and the window shows the wait for its boundary. -/
theorem stagedHodsWait : Obligations.StagedHodsWait := by
  intro s c i op args r hi hrow hready hbnd htxn hwho q
  obtain ⟨hstages, -, -⟩ := hodRequestsExecute s c i op args r hi hrow hready
  obtain ⟨hrb, hsmp, hsec⟩ := hodTaken_rest s.dev c op args
  obtain ⟨hout, htag, htags⟩ := hod_hodTaken (d := s.dev) (op := op) (args := args) hwho
  have hpath : q.path = .window := if_neg hwho
  obtain ⟨hstaged, htxns, hhod⟩ := (hodTaken s.dev q (hodMsg c op args)).hub.conclude_boundary q false
  let shown : HodPhase := if q.op / 256 = 0x07 ∧ s.dev.hub.smp.inSlice then .deferred else .waiting
  have hslices : (hodTaken s.dev q (hodMsg c op args)).hub.smp.inSlice = s.dev.hub.smp.inSlice := congrArg (·.inSlice) hsmp
  rw [hslices] at hhod
  obtain ⟨hphase, hwaiting, hdeferred⟩ := Hub.hod_showPhase (h := (hodTaken s.dev q (hodMsg c op args)).hub.stage (.hod q)) shown hpath
  obtain ⟨hout', htag', htags'⟩ := Hub.hod_showPhase_rest ((hodTaken s.dev q (hodMsg c op args)).hub.stage (.hod q)) q shown
  have htimed : ((hodTaken s.dev q (hodMsg c op args)).hub.stage (.hod q)).timed q = s.dev.hub.timed q :=
    congrArg (fun x : Sec => q.who.isVf || (q.who == .debug && decide (x.level < 2))) hsec
  rw [htimed] at hphase hwaiting hdeferred
  refine ⟨_, hstages htxn hbnd, rfl, rfl, rfl, hstaged.trans (by rw [hrb]), htxns.trans (by rw [hrb]), ?_⟩
  intro k
  have hk : k = _ := hhod
  rw [hk]
  refine ⟨hout'.trans hout, htag'.trans htag, htags'.trans htags, fun hwait => ?_, fun hop hslice hnow => ?_⟩
  · have hno : ¬(q.op / 256 = 0x07 ∧ s.dev.hub.smp.inSlice = true) := fun ⟨h7, hin⟩ => by
      rcases hwait with h | h
      · exact h h7
      · simp [h] at hin
    have hshown : (if s.dev.hub.timed q then .waiting else shown) = HodPhase.waiting := by simp only [shown, if_neg hno, ite_self]
    exact ⟨hphase.trans hshown, hwaiting hshown⟩
  · have hyes : q.op / 256 = 0x07 ∧ s.dev.hub.smp.inSlice = true := ⟨hop, hslice⟩
    have hshown : (if s.dev.hub.timed q then .waiting else shown) = HodPhase.deferred := by simp [shown, hyes, hnow]
    exact ⟨hphase.trans hshown, hdeferred hshown⟩

end Sys2Proof.Machine
end

section
/-!
Proofs of the register conventions: how an access lies in BAR0, the writes (R360, R361), and the 64-bit pairs and read-clear fields (R362 to
R366, R514).
-/

open Sys2Proof Sys2Proof.Machine

namespace Sys2Proof.Machine

/-! ### How an access lies in the register file (R360) -/

theorem shapeOf_unmapped {a size : Nat} (h : 0x1600000 ≤ a) : shapeOf a size = .unmapped := if_pos h

theorem shapeOf_word {a : Nat} (hmapped : a < 0x1600000) (halign : a % 4 = 0) : shapeOf a 4 = .one a 0 4 := by
  have hbase : a / 4 * 4 = a := by omega
  simp [shapeOf, Nat.not_le.2 hmapped, halign, hbase]

theorem shapeOf_pair {a : Nat} (hmapped : a < 0x1600000) (halign : a % 8 = 0) : shapeOf a 8 = .two a := by
  simp [shapeOf, Nat.not_le.2 hmapped, halign]

/-! ### Writes (R360, R361) -/

section
variable {d : Dev} {m : Master} {a size v : Nat}

theorem Dev.write_unmapped (h : 0x1600000 ≤ a) : d.write m a size v = d.hubMap (·.flag 0xF00000 0) := by
  simp only [Dev.write, shapeOf_unmapped h]

/-- A write that crosses a register, is not of four bytes, or is of eight bytes out of place. -/
theorem Dev.write_misplaced (hmapped : a < 0x1600000) (hword : ¬(size = 4 ∧ a % 4 = 0)) (hpair : ¬(size = 8 ∧ a % 8 = 0)) :
    d.write m a size v = d.hubMap (·.flag 0xF00000 1) := by
  rw [Dev.write, shapeOf, if_neg (Nat.not_le.2 hmapped), if_neg hpair]
  by_cases hpart : 1 ≤ size ∧ size ≤ 4 ∧ a % 4 + size ≤ 4
  · have hsize : size ≠ 4 := by omega
    simp only [if_pos hpart, if_neg hsize]
    rfl
  · simp only [if_neg hpart]
    rfl

theorem Dev.write_word (hmapped : a < 0x1600000) (halign : a % 4 = 0) : d.write m a 4 v = d.write32 m a (v % 2 ^ 32) := by
  simp only [Dev.write, shapeOf_word hmapped halign, if_true]

theorem Dev.write_pair (hmapped : a < 0x1600000) (halign : a % 8 = 0) (hv : v < 2 ^ 64) :
    d.write m a 8 v = (d.write32 m a (v % 2 ^ 32)).write32 m (a + 4) (v / 2 ^ 32) := by
  simp only [Dev.write, shapeOf_pair hmapped halign, Nat.mod_eq_of_lt (Nat.div_lt_of_lt_mul hv : v / 2 ^ 32 < 2 ^ 32)]

theorem Dev.write32_nothing (h : d.hub.right m a = .nothing) : d.write32 m a v = d := by simp only [Dev.write32, h]

theorem Dev.write32_denied (h : d.hub.right m a = .denied) : d.write32 m a v = d.hubMap (·.bump 0xF00040) := by
  simp only [Dev.write32, h, Hub.deny]

theorem Dev.write32_privileged {r : RegRow} (h : d.hub.right m a = .has r true) : d.write32 m a v = d.writeReg m r a v := by
  simp only [Dev.write32, h]

theorem Dev.write32_unprivileged {r : RegRow} (h : d.hub.right m a = .has r false) : d.write32 m a v = d := by
  simp only [Dev.write32, h]

end

/-- The row of TILE.PTE_SEL: one stored field. -/
def pteSelRow : RegRow := { base := 0x401000, fields := [Map.rw 20 0 0] }

theorem findRow_pteSel : findRow 0x401000 = some pteSelRow := by decide +kernel

theorem Dev.writeReg_pteSel (d : Dev) (m : Master) (v : Nat) :
    d.writeReg m pteSelRow 0x401000 v = d.hubMap (·.setReg 0x401000 (mergeBits 0x1FFFFF (d.hub.reg 0x401000) v)) := by
  have hw1c : pteSelRow.mask (fun f => f.acc == .w1c) = 0 := rfl
  have hrw : pteSelRow.mask (fun f => f.acc == .rw && !f.cb) = 0x1FFFFF := rfl
  have hcb : pteSelRow.mask (fun f => f.acc == .rw && f.cb) = 0 := rfl
  have hwm : pteSelRow.mask (fun f => f.acc == .wm) = 0 := rfl
  rw [Dev.writeReg_fields _ _ _ _ (by decide)]
  simp only [Dev.writeFields, hw1c, hrw, hcb, hwm, wmSel, Nat.and_zero, ne_eq, not_true_eq_false, if_false]
  exact (if_pos (by decide)).trans (Dev.hubMap_congr rfl)

theorem Dev.write_pteSel {d : Dev} {m : Master} (hpriv : d.hub.privileged m = true) (v : Nat) :
    d.write m 0x401000 4 v = d.hubMap (·.setReg 0x401000 (mergeBits 0x1FFFFF (d.hub.reg 0x401000) (v % 2 ^ 32))) := by
  have hright : d.hub.right m 0x401000 = .has pteSelRow true := by simp [Hub.right, findRow_pteSel, reaches, hpriv]
  rw [Dev.write_word (by decide) (by decide), Dev.write32_privileged hright, Dev.writeReg_pteSel]

/-- Settles O20: the access's place in the register file, then its master's rights, decide what a write comes to. -/
theorem registerWriteHandling : Obligations.RegisterWriteHandling := by
  intro s m a size v hup h mapped whole
  have hexec {g : Dev → Dev} (he : s.dev.write m a.toNat size v.toNat = g s.dev) :
      exec (.registerWrite m a size v) s = .next (s.devMap g) := exec_onBase hup rfl he
  have hword {g : Dev → Dev} (hm : mapped) (hw : whole) (he : s.dev.write32 m a.toNat (v.toNat % 2 ^ 32) = g s.dev) :
      exec (.registerWrite m a size v) s = .next (s.devMap g) :=
    hexec (by rw [hw.1, Dev.write_word hm hw.2, he])
  refine ⟨fun hm => hexec (Dev.write_unmapped (Nat.not_lt.1 hm)), fun hm hw hp => hexec (Dev.write_misplaced hm hw hp),
    fun hm hw hrow => hword (g := id) hm hw (Dev.write32_nothing ?_), fun hm hw hr => hword hm hw (Dev.write32_denied hr),
    fun r hm hw hr => hword hm hw (Dev.write32_privileged hr), fun r hm hw hr => hword (g := id) hm hw (Dev.write32_unprivileged hr),
    fun hm hsize halign => hexec ?_, fun ha hsize hpriv => hexec ?_⟩
  · simp only [Hub.right, hrow]
  · rw [hsize, Dev.write_pair hm halign v.isLt]
  · have hofs : a.toNat = 0x401000 := congrArg BitVec.toNat ha
    rw [hofs, hsize]
    exact Dev.write_pteSel hpriv v.toNat

/-! ### Reads of a word (R362, R363, R366) -/

/-- Every field of the register map lies within a word. -/
theorem regMap_fields_fit : (regMap.all fun r => r.fields.all fun f => decide (f.hi < 32 ∧ f.lo ≤ f.hi)) = true := by decide +kernel

theorem maskBits_lt {hi lo : Nat} (hhi : hi < 32) (hlo : lo ≤ hi) : maskBits hi lo < 2 ^ 32 := by
  calc maskBits hi lo < 2 ^ (hi + 1 - lo) * 2 ^ lo := Nat.mul_lt_mul_of_pos_right (Nat.sub_lt (by positivity) Nat.one_pos) (by positivity)
    _ = 2 ^ (hi + 1) := by rw [← Nat.pow_add, Nat.sub_add_cancel (by omega)]
    _ ≤ 2 ^ 32 := Nat.pow_le_pow_right Nat.two_pos hhi

theorem RegRow.mask_lt {r : RegRow} (hfit : ∀ f ∈ r.fields, f.hi < 32 ∧ f.lo ≤ f.hi) (p : Field → Bool) : r.mask p < 2 ^ 32 := by
  refine List.foldlRecOn (motive := fun m : Nat => m < 2 ^ 32) _ _ (by decide) fun m hm f hf => ?_
  split
  · obtain ⟨hhi, hlo⟩ := hfit f hf
    exact Nat.or_lt_two_pow hm (maskBits_lt hhi hlo)
  · exact hm

theorem findRow_mem {a : Nat} {r : RegRow} (h : findRow a = some r) : r ∈ regMap ∧ r.has a = true := by
  unfold findRow at h
  split at h
  · simp at h
  · split at h
    · have hhas := List.find?_some h
      exact ⟨List.mem_of_find?_eq_some h, hhas⟩
    · simp at h

theorem Hub.findRow_of_has {h : Hub} {m : Master} {a : Nat} {r : RegRow} {priv : Bool} (hr : h.right m a = .has r priv) :
    findRow a = some r := by
  unfold Hub.right at hr
  split at hr
  · simp at hr
  · next row hrow =>
    have hsame : row = r := by
      split at hr
      · simp at hr
      · split at hr
        · exact (Right.has.inj hr).1
        · split at hr
          · simp at hr
          · exact (Right.has.inj hr).1
    exact hsame ▸ hrow

section
variable {d : Dev} {m : Master} {a : Nat} {r : RegRow} {priv : Bool}

/-- What a master has of a register fits in a word. -/
theorem Hub.maskFor_lt {h : Hub} (hr : h.right m a = .has r priv) (p : Field → Bool) : r.maskFor priv p < 2 ^ 32 := by
  obtain ⟨hmem, -⟩ := findRow_mem (Hub.findRow_of_has hr)
  have hfit := List.all_eq_true.1 regMap_fields_fit r hmem
  exact RegRow.mask_lt (fun f hf => by simpa using List.all_eq_true.1 hfit f hf) _

/-- The read of a word puts the register's value on the bus. -/
theorem Dev.read_word (hmapped : a < 0x1600000) (halign : a % 4 = 0) {d' : Dev} {v mask : Nat}
    (hread : d.read32 m a = (d', v &&& mask)) (hmask : mask < 2 ^ 32) : d.read m a 4 = d'.hubMap (·.rdata (v &&& mask)) := by
  have hv : v &&& mask < 2 ^ 32 := Nat.and_lt_two_pow _ hmask
  have hword : (v &&& mask) / 256 ^ 0 % 256 ^ 4 = v &&& mask := by
    rw [Nat.pow_zero, Nat.div_one]
    exact Nat.mod_eq_of_lt hv
  simp only [Dev.read, shapeOf_word hmapped halign, hread, hword]

theorem Dev.read32_lo (hr : d.hub.right m a = .has r priv) (hhalf : r.half = .lo) :
    d.read32 m a = ((d.readLo m a).1, (d.readLo m a).2 &&& r.maskFor priv (fun _ => true)) := by
  simp only [Dev.read32, hr, hhalf]

theorem Dev.read32_hi (hr : d.hub.right m a = .has r priv) (hhalf : r.half = .hi) :
    d.read32 m a = ((d.readHi m a).1, (d.readHi m a).2 &&& r.maskFor priv (fun _ => true)) := by
  simp only [Dev.read32, hr, hhalf]

end

/-- The row of SENSE.VMON_EXT: a monitor's extremes, which a read clears. -/
def vmonExtRow : RegRow := { base := 0xE00780, n1 := 24, s1 := 0x4, fields := [Map.rc 31 0] }

/-- An offset that lies in a row lies below its end. -/
theorem RegRow.has_bounds {r : RegRow} {a : Nat} (h : r.has a = true) : r.base ≤ a ∧ a ≤ r.base + r.n1 * r.s1 + r.n2 * r.s2 := by
  obtain ⟨i, hi, ho⟩ := List.any_eq_true.1 h
  obtain ⟨hlow, hin⟩ := Bool.and_eq_true_iff.1 ho
  have hlow : r.base + i * r.s1 ≤ a := of_decide_eq_true hlow
  have hrow : i * r.s1 ≤ r.n1 * r.s1 := Nat.mul_le_mul_right _ (List.mem_range.1 hi).le
  refine ⟨by omega, ?_⟩
  split at hin
  · have := of_decide_eq_true hin
    omega
  · obtain ⟨hmod, hdiv⟩ := Bool.and_eq_true_iff.1 hin
    have hcell : r.s2 * ((a - (r.base + i * r.s1)) / r.s2) ≤ r.s2 * r.n2 := Nat.mul_le_mul_left _ (of_decide_eq_true hdiv : _ < _).le
    have := Nat.div_add_mod (a - (r.base + i * r.s1)) r.s2
    have := of_decide_eq_true hmod
    have := Nat.mul_comm r.s2 r.n2
    omega

/-- No other row reaches among the monitors' extremes. -/
theorem vmonExt_alone : (regMap.all fun r => r == vmonExtRow ||
    decide (r.base + r.n1 * r.s1 + r.n2 * r.s2 < 0xE00780 ∨ 0xE007E0 ≤ r.base)) = true := by decide +kernel

theorem eq_vmonExtRow {r : RegRow} {a : Nat} (hrow : findRow a = some r) (hlow : 0xE00780 ≤ a) (hhigh : a < 0xE007E0) :
    r = vmonExtRow := by
  obtain ⟨hmem, hhas⟩ := findRow_mem hrow
  obtain ⟨hbase, hend⟩ := RegRow.has_bounds hhas
  rcases Bool.or_eq_true_iff.1 (List.all_eq_true.1 vmonExt_alone r hmem) with h | h
  · exact beq_iff_eq.1 h
  · have := of_decide_eq_true h
    omega

/-- A read of a monitor's extremes clears them (R351, R366). -/
theorem Dev.read32_vmonExt {d : Dev} {m : Master} {k : Nat} (hk : k < 24)
    (hr : d.hub.right m (0xE00780 + 4 * k) = .has vmonExtRow true) : d.read32 m (0xE00780 + 4 * k) =
      (d.hubMap fun h => { h with sense := { h.sense with vmon := h.sense.vmon.upd {} k fun v => { v with ext := none } } },
        d.view m (0xE00780 + 4 * k) &&& vmonExtRow.maskFor true (fun _ => true)) := by
  have hix : arrIx (0xE00780 + 4 * k) 0xE00780 24 4 = some k := by
    rw [arrIx, if_pos (by omega)]
    congr 1
    omega
  have hhalf : vmonExtRow.half = .none := rfl
  have hrc : (true && vmonExtRow.fields.any (·.acc == .rc)) = true := rfl
  have hck : 0xE00780 + 4 * k ≠ 0x100010 := by omega
  simp only [Dev.read32, hr, hhalf, hrc, if_true, if_neg hck, Hub.clearRc, hix]

/-! ### The HI write of EVREC.WALL_REF (R364, R514) -/

theorem Dev.write_wallHi {d : Dev} {m : Master} {r : RegRow} (hr : d.hub.right m 0x140001C = .has r true) (v : Word) :
    d.write m 0x140001C 4 v.toNat = d.hubMap (·.wallHi m v.toNat) := by
  rw [Dev.write_word (by decide) (by decide), Dev.write32_privileged hr, Nat.mod_eq_of_lt v.isLt]
  rfl

theorem Hub.wallHi_held {h : Hub} {m : Master} {lo : Nat} (hheld : (h.shadow m).held = some (0x1400018, lo)) (v : Nat) :
    h.wallHi m v = (h.setShadow m fun k => { k with held := none }).setWall (v * 2 ^ 32 + lo) 0 := by
  simp only [Hub.wallHi, hheld]

theorem Hub.wallHi_none {h : Hub} {m : Master} (hheld : (h.shadow m).held = none) (v : Nat) : h.wallHi m v = h.flag 0xF00000 1 := by
  simp only [Hub.wallHi, hheld]
  rfl

theorem exec_wallRefWrite {m : Master} {a : Word} (hofs : a.toNat = 0x140001C) (v : Word) (s : State) :
    exec (.wallRefWrite m v) s = exec (.pairHiWrite m a v) s :=
  congrArg (fun o => onBase (fun d => d.write m o 4 v.toNat) s) hofs.symm

/-- Settles O19: each access is the read or the write of its row's half, and what the bus shows fits in a word. -/
theorem pairAccesses : Obligations.PairAccesses := by
  intro s m a v r priv hup hr halign hmapped d mask sh
  have hmask : mask < 2 ^ 32 := Hub.maskFor_lt hr _
  refine ⟨fun hhalf => exec_onBase hup rfl ?_, fun hhalf haddr => exec_onBase hup rfl ?_, fun hhalf haddr => exec_onBase hup rfl ?_,
    fun lo hpriv ha hheld => ?_, fun hpriv ha hheld => ?_, fun k hpriv hk ha => exec_onBase hup rfl ?_⟩
  · rw [Dev.read_word hmapped halign (Dev.read32_lo hr hhalf) hmask]
    rfl
  · rw [Dev.read_word hmapped halign (Dev.read32_hi hr hhalf) hmask, Dev.readHi, if_pos haddr]
    rfl
  · rw [Dev.read_word hmapped halign (Dev.read32_hi hr hhalf) hmask, Dev.readHi, if_neg haddr]
    rfl
  · have hofs : a.toNat = 0x140001C := congrArg BitVec.toNat ha
    rw [hofs] at hr
    refine ⟨exec_onBase hup rfl ?_, ?_⟩
    · rw [hofs, Dev.write_wallHi (hpriv ▸ hr)]
      exact Dev.hubMap_congr (Hub.wallHi_held hheld _)
    · exact exec_wallRefWrite hofs v s
  · have hofs : a.toNat = 0x140001C := congrArg BitVec.toNat ha
    rw [hofs] at hr
    refine ⟨exec_onBase hup rfl ?_, ?_⟩
    · rw [hofs, Dev.write_wallHi (hpriv ▸ hr)]
      exact Dev.hubMap_congr (Hub.wallHi_none hheld _)
    · exact exec_wallRefWrite hofs v s
  · rw [ha] at hr ⊢
    obtain rfl := eq_vmonExtRow (Hub.findRow_of_has hr) (by omega) (by omega)
    subst hpriv
    rw [Dev.read_word (by omega) (by omega) (Dev.read32_vmonExt hk hr) hmask]
    rfl

end Sys2Proof.Machine
end

section
/-!
Proofs of the register conventions: transactions by register (R371, R373 to R375) and the hods of transactions (R369, R371, R373, R374).
-/

open Sys2Proof Sys2Proof.Machine

namespace Sys2Proof.Machine

/-! ### REG.TXN_CTRL (R371, R373, R374) -/

/-- A privileged master is no VF (R361). -/
theorem Hub.isVf_of_privileged {h : Hub} {m : Master} (hpriv : h.privileged m = true) : m.req.isVf = false := by
  cases m with
  | vf n => simp [Hub.privileged] at hpriv
  | core | pf0 | smbus | debug => rfl

theorem Dev.write_txnCtrl {d : Dev} {m : Master} (hpriv : d.hub.privileged m = true) {v : Nat} (hword : v < 2 ^ 32) :
    d.write m 0xF00020 4 v = d.hubMap (·.txnCtrl m v) :=
  Dev.write_privileged hpriv (by decide +kernel) (by decide) (by decide) (by decide) hword fun _ => rfl

section
variable {h : Hub} {m : Master} {t : Txn}

theorem Hub.txnCtrl_begin (h : Hub) (m : Master) : h.txnCtrl m 0x00010001 = (h.txnBegin m.req).1 := rfl

theorem Hub.txnCtrl_commit (hopen : h.openTxn m.req = some t) : h.txnCtrl m 0x00020002 = h.txnCommit t none none := by
  change (match h.openTxn m.req with
    | none => h
    | some t => h.txnCommit t none none) = _
  rw [hopen]

theorem Hub.txnCtrl_commitRef (hopen : h.openTxn m.req = some t) :
    h.txnCtrl m 0x000A000A = h.txnCommit t (some (Tbl.get 0 h.rb.txnRef m.req.id)) none := by
  change (match h.openTxn m.req with
    | none => h
    | some t => h.txnCommit t (some (Tbl.get 0 h.rb.txnRef m.req.id)) none) = _
  rw [hopen]

theorem Hub.txnCtrl_abort (hopen : h.openTxn m.req = some t) : h.txnCtrl m 0x00040004 = h.dropTxn t.id := by
  change (match h.openTxn m.req with
    | none => h
    | some t => h.dropTxn t.id) = _
  rw [hopen]

end

/-! ### What the commands do -/

section
variable {h : Hub} {r : Requester} {t : Txn}

/-- A requester with no transaction OPEN takes a slot that is free: a VF its own, another one of the eight shared ones (R371). -/
theorem Hub.txnBegin_opens (hopen : h.openTxn r = none)
    (hfree : if r.isVf then ∀ t ∈ h.rb.txns, t.owner ≠ r else h.rb.txns.countP (fun t => !t.owner.isVf) < 8) :
    h.txnBegin r = (h.updRb fun b => { b with txns := b.txns ++ [{ id := h.freshTxnId, owner := r }], lastId := h.freshTxnId },
      .ok [.u16 h.freshTxnId]) := by
  have hfull : (if r.isVf then h.rb.txns.any (·.owner == r) else decide (8 ≤ h.rb.txns.countP (fun t => !t.owner.isVf))) = false := by
    split at hfree
    · next hvf => simpa [hvf] using hfree
    · next hvf => simpa [hvf] using hfree
  simp only [Hub.txnBegin, hopen, hfull]
  rfl

theorem Hub.txnBegin_busy (hopen : h.openTxn r ≠ none) : h.txnBegin r = (h, .fail .busy) :=
  if_pos (Option.isSome_iff_ne_none.2 hopen)

/-- Seventeen ids in a row are distinct, so that sixteen transactions leave one of them free (R371). -/
theorem Hub.freshTxnId_fresh (hfew : h.rb.txns.length ≤ 16) :
    1 ≤ h.freshTxnId ∧ h.freshTxnId ≤ 0xFFFF ∧ ∀ t ∈ h.rb.txns, t.id ≠ h.freshTxnId := by
  let ids := (List.range 17).map fun k => (h.rb.lastId + k) % 65535 + 1
  have hids : ids.Nodup := by
    refine List.Nodup.map_on (fun i hi j hj e => ?_) List.nodup_range
    rw [List.mem_range] at hi hj
    omega
  cases hfind : ids.find? (fun i => !h.rb.txns.any (·.id == i)) with
  | some i =>
    have hfresh : h.freshTxnId = i := congrArg (·.getD 1) hfind
    obtain ⟨k, -, hk⟩ := List.mem_map.1 (List.mem_of_find?_eq_some hfind)
    have hnone : ∀ t ∈ h.rb.txns, t.id ≠ i := by simpa using List.find?_some hfind
    rw [hfresh]
    exact ⟨by omega, by omega, hnone⟩
  | none =>
    have htaken : ids ⊆ h.rb.txns.map (·.id) := fun i hi => by
      simpa using List.find?_eq_none.1 hfind i hi
    have hcount := (List.subperm_of_subset hids htaken).length_le
    simp only [ids, List.length_map, List.length_range] at hcount
    omega

/-- A commit that brings no reference (R373). -/
theorem Hub.txnCommit_plain (hbrings : t.brings = false) (q : Option HodReq) : h.txnCommit t none q = h.updRb fun b => { b with
    txns := b.txns.filter (·.id != t.id) ++ [{ t with phase := .commitPending, age := 0, ref := none, commit := q }] } := by
  simp [Hub.txnCommit, hbrings]

theorem Hub.txnAbort_open {id : Nat} (hopen : h.openTxn r = some t) (hid : t.id = id) : h.txnAbort r id = (h.dropTxn t.id, .ok []) := by
  simp [Hub.txnAbort, hopen, hid]

theorem Hub.txnOpenTimeout_old {id : Nat} (hfind : h.rb.txns.find? (fun t => t.id == id && t.phase == .opened) = some t)
    (hage : h.fld 0xF0002C 31 16 ≤ t.age) : h.txnOpenTimeout id = h.hubAbort t 1 := by
  simp only [Hub.txnOpenTimeout, hfind, if_pos hage]

theorem Hub.stageMaxTimeout_old {id : Nat} (hfind : h.rb.txns.find? (fun t => t.id == id && t.phase == .staging) = some t)
    (hage : h.fld 0xF0002C 15 0 ≤ t.age) : h.stageMaxTimeout id = h.stageTimeout t := by
  simp only [Hub.stageMaxTimeout, hfind, if_pos hage]

end

/-! ### The hods of transactions -/

/-- The request of a command that is a hod request of a row without an effect at a boundary is answered at once. What remains to be shown
of the command is the service. -/
theorem hodServes_of_answer {c : Call} {i : Instr} {op : Nat} {args : List Arg} {k : Dev → HodReq → (Dev → HodOut → Prop) → Prop}
    (hi : HodRow c i op args) (hnow : (findOp op).all (fun r => !r.bnd) = true)
    (hserve : ∀ (d : Dev) (q : HodReq) (ans : Dev → HodOut → Prop), q.op = op → q.args = args → q.who = c.who →
      (∀ {d' : Dev} {o : HodOut}, d.serveNow q = (d', o) → ans d' o) → k d q ans) : HodServes c i op args k := by
  intro s r hrow hready htxn q
  have hbnd : r.bnd = false := by simpa [hrow] using hnow
  refine hserve _ q _ rfl rfl rfl fun {d' o} hd => ?_
  obtain ⟨-, hserved, -⟩ := hodRequestsExecute s c i op args r hi hrow hready
  exact (hserved htxn hbnd).trans (congrArg (fun a : Dev × HodOut =>
    Host.Outcome.next (s.devMap fun _ => a.1.hubMap (·.conclude q false a.2))) hd)

/-- That of one that takes effect at a boundary is staged. What remains to be shown is the effect. -/
theorem hodStages_of_row {c : Call} {i : Instr} {op : Nat} {args : List Arg} {k : Dev → HodReq → Prop} (hi : HodRow c i op args)
    (hbnd : (findOp op).all (·.bnd) = true) (heffect : ∀ (d : Dev) (q : HodReq), q.op = op → q.args = args → k d q) :
    HodStages c i op args k :=
  hodStages_of_effect (exec_hodRow hi) hi.op_lt hbnd heffect

/-- A hod of the system block is served by the registers' service. -/
theorem Dev.serveNow_system {d : Dev} {q : HodReq} (hop : q.op / 256 = 0x0F) : d.serveNow q = d.byHub (·.serveReg q) := by
  simp only [Dev.serveNow, hop]

theorem txnCommitHod_open {h : Hub} {q : HodReq} {t : Txn} {id : Nat} {ref : Option Word}
    (hargs : q.args = [.u16 id, .u8 (b2n ref.isSome), .u32 ((ref.map BitVec.toNat).getD 0)]) (hopen : h.openTxn q.who = some t)
    (hid : t.id = id) : txnCommitHod q h = (h.txnCommit t (ref.map BitVec.toNat) (some q), .wait) := by
  have hnum : q.num 0 = id ∧ q.num 1 = b2n ref.isSome ∧ q.num 2 = (ref.map BitVec.toNat).getD 0 := by simp [HodReq.num, hargs]
  obtain ⟨hnum0, hnum1, hnum2⟩ := hnum
  have hopt : q.opt 1 = ref.map BitVec.toNat := by
    rw [HodReq.opt, hnum1, hnum2]
    cases ref with
    | none => rfl
    | some v => rfl
  have hpresent : q.num 1 ≤ 1 := hnum1 ▸ b2n_le_one _
  simp only [txnCommitHod, hopen, hnum0, hid, HodReq.choice_le hpresent, hopt]
  simp

/-- Each hod of transactions is the operation that the command bit of its kind runs. -/
theorem transactionHodsAct : TransactionHodsAct := by
  intro c
  refine ⟨hodServes_of_answer .txnBegin (by decide) ?_, fun id ref => hodServes_of_answer (.txnCommit id ref) (by decide) ?_,
    fun id => hodServes_of_answer (.txnAbort id) (by decide) ?_, fun ref => hodStages_of_row (.cfgRefSet ref) (by decide) ?_⟩
  · intro d q ans hop hargs hwho act
    have hserve : d.serveNow q = d.byHub (·.txnBegin q.who) := by
      rw [Dev.serveNow_system (by rw [hop])]
      simp only [Hub.serveReg, hop]
    refine ⟨fun hopen => act ?_, fun hopen hfree => act ?_⟩
    · rw [hserve, Dev.byHub, Hub.txnBegin_busy hopen]
    · rw [hserve, Dev.byHub, Hub.txnBegin_opens hopen hfree]
      rfl
  · intro d q ans hop hargs hwho act t hopen hid
    refine act ?_
    rw [Dev.serveNow_system (by rw [hop])]
    simp only [Hub.serveReg, hop, Dev.byHub, txnCommitHod_open hargs hopen hid]
    rfl
  · intro d q ans hop hargs hwho act t hopen hid
    have hnum : q.num 0 = id.toNat := by simp [HodReq.num, hargs]
    refine act ?_
    rw [Dev.serveNow_system (by rw [hop])]
    simp only [Hub.serveReg, hop, Dev.byHub, hnum, Hub.txnAbort_open hopen hid]
    rfl
  · intro d q hop hargs
    have hnum : q.num 0 = ref.toNat := by simp [HodReq.num, hargs]
    simp [Dev.effect, hop, Hub.effectPower, hnum, Dev.byHub]
    rfl

/-- Settles O21: a command bit of TXN_CTRL is the operation of its transaction, a time-out is that of the transaction it names, and the
hods are `transactionHodsAct`. -/
theorem transactionsByRegister : Obligations.TransactionsByRegister := by
  refine ⟨?_, transactionHodsAct⟩
  intro s m ref id t hup hpriv h
  refine ⟨fun hopen hfree => ⟨exec_onBase hup rfl ?_, Hub.freshTxnId_fresh⟩, fun hopen href hbrings => exec_onBase hup rfl ?_,
    fun hopen href => exec_onBase hup rfl ?_, fun hopen => exec_onBase hup rfl ?_,
    fun hfind hage => exec_onHub hup rfl (Hub.txnOpenTimeout_old hfind hage),
    fun hfind hage => exec_onHub hup rfl (Hub.stageMaxTimeout_old hfind hage)⟩
  · have hslot : if m.req.isVf then ∀ t ∈ h.rb.txns, t.owner ≠ m.req else h.rb.txns.countP (fun t => !t.owner.isVf) < 8 := by
      simpa [Hub.isVf_of_privileged hpriv] using hfree
    exact (Dev.write_txnCtrl hpriv (by decide)).trans (Dev.hubMap_congr
      ((Hub.txnCtrl_begin h m).trans (congrArg Prod.fst (Hub.txnBegin_opens hopen hslot))))
  · subst href
    exact (Dev.write_txnCtrl hpriv (by decide)).trans
      (Dev.hubMap_congr ((Hub.txnCtrl_commit hopen).trans (Hub.txnCommit_plain hbrings none)))
  · subst href
    exact (Dev.write_txnCtrl hpriv (by decide)).trans (Dev.hubMap_congr (Hub.txnCtrl_commitRef hopen))
  · exact (Dev.write_txnCtrl hpriv (by decide)).trans (Dev.hubMap_congr (Hub.txnCtrl_abort hopen))

end Sys2Proof.Machine
end

section
/-!
Proofs of the supplies' family: the start of the base die (R502, R545, R549, R550).
-/

open Sys2Proof Sys2Proof.Machine

namespace Sys2Proof.Machine

/-! ### The start (R502, R545, R549, R550) -/

/-- The hub with the straps sampled, before the first record. -/
def Hub.sampled (h : Hub) (b : Boot) : Hub := { h with
  up := true
  ev := { h.ev with footCount := some 0 }
  rb := { h.rb with cause := if h.therm.auxLost then 0 else 1 }
  bus := { h.bus with smbAddr := 0x60 + b.smbAddr.toNat }
  hs := { h.hs with step := 2 }
  therm := { h.therm with
    auxLost := false, tripped := false, xtalLost := false
    straps := { h.therm.straps with smbAddr := b.smbAddr, mgrEn := b.mgrEn, bootKiln := b.bootKiln } } }

/-- The hub with its first record, 0x1405. -/
def Hub.firstRecord (h : Hub) (b : Boot) : Hub :=
  (h.sampled b).event 0x1405 [.u8 (h.sampled b).rb.cause, .u8 (b2n h.therm.auxLost), .u8 (h.ev.footCount.getD 0xFF)]

/-- What the start of the base die leaves alone once the straps are sampled: the first records of the shadow, the footing die's view of
the supplies, the straps and the register block. -/
structure Hub.StartedFrom (h k : Hub) : Prop where
  up : k.up = h.up
  therm : k.therm = h.therm
  smbAddr : k.bus.smbAddr = h.bus.smbAddr
  rb : k.rb = h.rb
  shadow : h.ev.shadow <+: k.ev.shadow

theorem Hub.StartedFrom.refl (h : Hub) : h.StartedFrom h := ⟨rfl, rfl, rfl, rfl, List.prefix_rfl⟩

/-- An event's record enters the shadow where it is open to it. -/
theorem Hub.event_shadow (h : Hub) (c : Nat) (pl : List Arg) (p q : Nat) : (h.event c pl p q).ev.shadow =
    if !h.ev.full && h.ev.open_ c then h.ev.shadow ++ [h.mkRec c pl p q] else h.ev.shadow := by
  unfold Hub.event
  dsimp only
  (repeat' split) <;> rfl

theorem Hub.event_shadow_prefix (h : Hub) (c : Nat) (pl : List Arg) (p q : Nat) : h.ev.shadow <+: (h.event c pl p q).ev.shadow := by
  rw [Hub.event_shadow]
  split
  · exact List.prefix_append ..
  · exact List.prefix_rfl

theorem Hub.event_smbAddr (h : Hub) (c : Nat) (pl : List Arg) (p q : Nat) : (h.event c pl p q).bus.smbAddr = h.bus.smbAddr := by
  unfold Hub.event
  dsimp only
  (repeat' split) <;> rfl

namespace Hub.StartedFrom

variable {h k : Hub} (s : h.StartedFrom k)

theorem foldl {α : Type} {f : Hub → α → Hub} (hf : ∀ {k} a, h.StartedFrom k → h.StartedFrom (f k a)) (s : h.StartedFrom k)
    (l : List α) : h.StartedFrom (l.foldl f k) := by
  induction l generalizing k with
  | nil => exact s
  | cons a l ih => exact ih (hf a s)

theorem ite {x y : Hub} {p : Prop} [Decidable p] (hx : h.StartedFrom x) (hy : h.StartedFrom y) : h.StartedFrom (if p then x else y) := by
  split
  · exact hx
  · exact hy

section
include s

/-- An update of the other blocks. -/
theorem same {k' : Hub} (e : (k'.up, k'.therm, k'.bus.smbAddr, k'.rb, k'.ev.shadow) =
    (k.up, k.therm, k.bus.smbAddr, k.rb, k.ev.shadow)) : h.StartedFrom k' := by
  simp only [Prod.mk.injEq] at e
  obtain ⟨hup, htherm, hsmb, hrb, hshadow⟩ := e
  exact ⟨hup.trans s.up, htherm.trans s.therm, hsmb.trans s.smbAddr, hrb.trans s.rb, hshadow ▸ s.shadow⟩

theorem event (c : Nat) (pl : List Arg) (p q : Nat) : h.StartedFrom (k.event c pl p q) :=
  ⟨(Hub.event_up ..).trans s.up, (Hub.event_therm ..).trans s.therm, (Hub.event_smbAddr ..).trans s.smbAddr,
    (Hub.event_rb ..).trans s.rb, s.shadow.trans (Hub.event_shadow_prefix ..)⟩

theorem bootRepair (bad : List Nat) : h.StartedFrom (k.bootRepair bad) := by
  refine foldl (fun n s => ?_) s _
  dsimp only
  split
  · exact s.same rfl
  · exact ite s (s.same rfl)

theorem trainSpill (gib bad : Nat) : h.StartedFrom (k.trainSpill gib bad) := by
  refine ite s (ite (event ?_ ..) ?_)
  · exact s.same rfl
  · exact s.same rfl

theorem fixedSeats : h.StartedFrom k.fixedSeats := by
  refine foldl (fun _ s => ?_) s _
  exact ite (s.same rfl) (ite (s.same rfl) s)

theorem id8Read : h.StartedFrom k.id8Read := s.same rfl

theorem cooling (c : Cooling) : h.StartedFrom { k with cool := c } := s.same rfl

theorem courseReasons (x old : Nat) : h.StartedFrom (k.courseReasons x old) := by
  have hcounted : h.StartedFrom (k.countEntries x old) := by
    refine foldl (fun _ s => ?_) s _
    exact ite s (s.same rfl)
  exact hcounted.same rfl

theorem newSpillKeys (part : Nat) : h.StartedFrom (k.newSpillKeys part) := by
  refine ite (event ?_ ..) ?_
  · exact s.same rfl
  · exact s.same rfl

theorem updRack (f : Rack → Rack) : h.StartedFrom (k.updRack f) := s.same rfl

theorem setRole (r : Role) (cause : Nat) : h.StartedFrom (k.setRole r cause) := ite s ((s.updRack _).event ..)

theorem enumerated (count : Nat) : h.StartedFrom (k.enumerated count) := by
  have hev {f : Rack → Rack} {pl : List Arg} : h.StartedFrom ((k.updRack f).event 0x1101 pl) := (s.updRack f).event ..
  exact ite (hev.setRole ..) (ite hev (ite (hev.setRole ..) (hev.setRole ..)))

theorem takePosition (p : Nat) : h.StartedFrom (k.takePosition p) := ite (s.updRack _) (((s.updRack _).setRole ..).event ..)

theorem walkOn (p : Nat) : h.StartedFrom (k.walkOn p) :=
  ite (s.updRack _) (ite (enumerated (ite (s.updRack _) s) p) (ite (s.updRack _) s))

theorem enumStart : h.StartedFrom k.enumStart :=
  ite (((s.updRack _).updRack _).setRole ..) (ite (s.updRack _) (((s.updRack _).takePosition 1).walkOn 1))

end

/-- The rest of the start adds records and leaves what the straps gave. -/
theorem startBase (h : Hub) (b : Boot) : (h.firstRecord b).StartedFrom (h.startBase b) := by
  have hfirst := refl (h.firstRecord b)
  have hflag : (h.firstRecord b).StartedFrom ((h.firstRecord b).flag 0x100030 31) := hfirst.same rfl
  have htrip {pl : List Arg} : (h.firstRecord b).StartedFrom
      (if h.therm.tripped then ((h.firstRecord b).flag 0x100030 31).event 0x0112 pl else h.firstRecord b) :=
    ite (hflag.event ..) hfirst
  unfold Hub.startBase
  refine enumStart (foldl (fun p s => s.newSpillKeys p) (cooling (foldl (fun x s => s.courseReasons x 1)
    (id8Read (fixedSeats (trainSpill (bootRepair ?_ _) ..))) _) _) _)
  exact ite (htrip.event ..) htrip

end Hub.StartedFrom

/-- With the shadow empty, the record of the start is the first (R502). -/
theorem Hub.firstRecord_head (h : Hub) (b : Boot) (hempty : h.ev.shadow = []) (hfull : h.ev.full = false) :
    ((h.firstRecord b).ev.shadow.head?.map (·.code)) = some 0x1405 := by
  have hopen : (!(h.sampled b).ev.full && (h.sampled b).ev.open_ 0x1405) = true := by
    simp [Hub.sampled, Evrec.open_, hempty, hfull]
  have hnone : (h.sampled b).ev.shadow = [] := hempty
  rw [Hub.firstRecord, Hub.event_shadow, if_pos hopen, hnone]
  rfl

/-- What the base die shows once started. -/
theorem Hub.startBase_starts (h : Hub) (b : Boot) :
    let k := h.startBase b
    k.up = true ∧ k.therm.straps.smbAddr = b.smbAddr ∧ k.therm.straps.mgrEn = b.mgrEn ∧ k.therm.straps.bootKiln = b.bootKiln ∧
      k.bus.smbAddr = 0x60 + b.smbAddr.toNat ∧ k.rb.cause = (if h.therm.auxLost then 0 else 1) ∧ k.therm.xtalLost = false ∧
      (h.ev.shadow = [] → h.ev.full = false → (k.ev.shadow.head?.map (·.code)) = some 0x1405) := by
  have s := Hub.StartedFrom.startBase h b
  have htherm := s.therm.trans (Hub.event_therm ..)
  refine ⟨s.up.trans (Hub.event_up ..), congrArg (·.straps.smbAddr) htherm, congrArg (·.straps.mgrEn) htherm,
    congrArg (·.straps.bootKiln) htherm, s.smbAddr.trans (Hub.event_smbAddr ..), congrArg (·.cause) (s.rb.trans (Hub.event_rb ..)),
    congrArg (·.xtalLost) htherm, fun hempty hfull => ?_⟩
  have hhead := h.firstRecord_head b hempty hfull
  obtain ⟨rest, hrest⟩ := s.shadow
  rw [← hrest]
  cases hshadow : (h.firstRecord b).ev.shadow with
  | nil => simp [hshadow] at hhead
  | cons r l => simpa [hshadow] using hhead

theorem Hub.mayStart_ready {h : Hub} (hup : h.up = false) (hsupply : h.therm.supply = true) (haux : h.therm.aux = true)
    (htrip : h.therm.tripLatch = false) : h.mayStart = true := by simp [Hub.mayStart, hup, hsupply, haux, htrip]

theorem Hub.rstDeassert_starts {h : Hub} {b : Boot} (hmay : h.mayStart = true) (hxtal : h.therm.xtalLost = false) :
    h.rstDeassert b = h.startBase b := if_pos (by simp [hmay, hxtal])

theorem Hub.crystalBack_starts {h : Hub} {b : Boot} (hmay : h.mayStart = true) (hxtal : h.therm.xtalLost = true) :
    h.crystalBack b = h.startBase b := (if_pos hxtal).trans (if_pos hmay)

theorem Hub.tripRelease_latched {h : Hub} (hup : h.up = false) (htrip : h.therm.tripLatch = true) : h.tripRelease =
    h.driveShdn (fun h => { h with therm := { h.therm with tripLatch := false } }) 0xFF h.therm.tripReading :=
  if_pos ⟨htrip, by simp [hup]⟩

theorem State.hubMap_congr_next {s : State} {f g : Hub → Hub} (e : f s.dev.hub = g s.dev.hub) :
    (Host.Outcome.next (s.hubMap f) : Answer) = .next (s.hubMap g) := by rw [State.hubMap_congr e]

/-- Settles O14: the rise of HUB_RST_L and the crystal's return both run the start. -/
theorem baseDieStarts : Obligations.BaseDieStarts := by
  intro s b h started
  refine ⟨fun hup hsupply haux htrip => ?_, fun hup htrip => State.hubMap_congr_next (Hub.tripRelease_latched hup htrip)⟩
  have hmay : s.dev.hub.mayStart = true := Hub.mayStart_ready hup hsupply haux htrip
  obtain ⟨hup', haddr, hmgr, hkiln, hsmb, hcause, hxtal', hhead⟩ := s.dev.hub.startBase_starts b
  have hstarted : started (s.hubMap (·.startBase b)) := ⟨hup', haddr, hmgr, hkiln, hsmb, hcause, hxtal', hhead, rfl, rfl, rfl⟩
  exact ⟨fun hxtal => ⟨_, State.hubMap_congr_next (Hub.rstDeassert_starts hmay hxtal), hstarted⟩,
    fun hxtal => ⟨_, State.hubMap_congr_next (Hub.crystalBack_starts hmay hxtal), hstarted⟩⟩

end Sys2Proof.Machine
end

section
/-!
Proofs of the buses' family: the SMBus target's commands (R414 to R421, R431).
-/

open Sys2Proof Sys2Proof.Machine

namespace Sys2Proof.Machine

/-! ### Transfers (R415, R416, R431) -/

theorem leBytes_byte (v : Byte) : leBytes 1 v.toNat = [v] := by simp [leBytes]

/-- A read's answer: its bytes, with the PEC over the whole transfer where the controller asks for it (R416). -/
def Hub.smbAnswer (h : Hub) (code : Nat) (pec : Bool) (bs : List Byte) : Hub :=
  h.updBus fun b => { b with
    nack := false
    rsp := if pec then bs ++ leBytes 1 (crc8 (leBytes 1 (2 * h.bus.smbAddr) ++ leBytes 1 code ++
             leBytes 1 (2 * h.bus.smbAddr + 1) ++ bs)) else bs }

/-- A write's PEC byte is right, or it carries none where none is required (R416). -/
def PecRight (h : Hub) (pec : Option Byte) (code : Nat) (data : List Byte) : Prop :=
  (∃ p, pec = some p ∧ p.toNat = h.writePec code data) ∨ (pec = none ∧ h.bitAt 0x1000000 0 = false)

section
variable {d : Dev} (hready : SmbReady d.hub)
include hready

/-- With the target ready, an address match wakes nothing and the transfer goes on (R422). -/
theorem Dev.smbMatch_ready (k : Dev → Dev) : d.smbMatch k = k d := by
  obtain ⟨-, hrst, hclocks, hawake, hone, htwo⟩ := hready
  have hwake : d.hubMap (·.wakeUp 0) = d := by
    have hidle : d.hub.wakeUp 0 = d.hub := by simp [Hub.wakeUp, hawake, hone, htwo]
    simp only [Dev.hubMap, hidle]
  simp [Dev.smbMatch, hrst, hwake, hclocks, hawake]

theorem Dev.smbStart_ready (k : Dev → Dev) : d.smbStart k = k (d.hubMap (·.bump 0x1000010)) := Dev.smbMatch_ready hready _

/-- An awake target serves every command (R422). -/
theorem smbServes_ready (code : Nat) : (d.hub.bump 0x1000010).smbServes code = true := by
  obtain ⟨-, -, -, hawake, -⟩ := hready
  simp [Hub.smbServes, hawake]

section
variable {code : Nat} {data : List Byte} {pec : Option Byte} (k : Dev → Dev)

theorem Dev.smbWrite_right (hpec : PecRight d.hub pec code data) :
    d.smbWrite code data (pec.map BitVec.toNat) k = k (d.hubMap fun h => (h.bump 0x1000010).smbAck) := by
  have hserves := smbServes_ready hready code
  rw [Dev.smbWrite, Dev.smbStart_ready hready]
  rcases hpec with ⟨p, rfl, hp⟩ | ⟨rfl, hbit⟩
  · have hsum : p.toNat = (d.hub.bump 0x1000010).writePec code data := hp
    simp [hserves, ← hsum, Dev.hubMap_hubMap]
  · have hbit' : (d.hub.bump 0x1000010).bitAt 0x1000000 0 = false := hbit
    simp [hserves, hbit, Dev.hubMap_hubMap]

theorem Dev.smbWrite_wrong {p : Byte} (hpec : p.toNat ≠ d.hub.writePec code data) :
    d.smbWrite code data (some p.toNat) k = d.hubMap fun h => (h.bump 0x1000010).pecFail code := by
  have hserves := smbServes_ready hready code
  have hsum : p.toNat ≠ (d.hub.bump 0x1000010).writePec code data := hpec
  rw [Dev.smbWrite, Dev.smbStart_ready hready]
  simp [hserves, hsum, Dev.hubMap_hubMap]

theorem Dev.smbWrite_missing (hbit : d.hub.bitAt 0x1000000 0 = true) :
    d.smbWrite code data none k = d.hubMap fun h => (h.bump 0x1000010).smbAck.updBus (fun b => { b with pecErr := true }) := by
  have hserves := smbServes_ready hready code
  rw [Dev.smbWrite, Dev.smbStart_ready hready]
  simp [hserves, hbit, Dev.hubMap_hubMap]

end

section
variable {code count : Nat} {data : List Byte} {pec : Option Byte} {allowed : Hub → Bool} (k : Dev → Dev)
  (hmet : allowed (d.hub.bump 0x1000010) = allowed d.hub)
include hmet

/-- A count that the command does not allow is NACKed (R415). -/
theorem Dev.smbBlock_refused {p : Option Nat} (hcount : allowed d.hub = false) :
    d.smbBlock code count data p allowed k = d.hubMap fun h => (h.bump 0x1000010).smbNack := by
  simp [Dev.smbBlock, Dev.smbStart_ready hready, hcount, hmet, Dev.hubMap_hubMap]

/-- A block that ends short of its count is discarded (R415). -/
theorem Dev.smbBlock_short {p : Option Nat} (hcount : allowed d.hub = true) (hshort : data.length < count) :
    d.smbBlock code count data p allowed k = d.hubMap fun h => (h.bump 0x1000010).smbAck := by
  simp [Dev.smbBlock, Dev.smbStart_ready hready, hcount, hmet, hshort, smbServes_ready hready, Dev.hubMap_hubMap]

omit hmet in
theorem Dev.smbBlock_right (hcount : allowed d.hub = true) (hfull : count ≤ data.length)
    (hpec : PecRight d.hub pec code (leBytes 1 count ++ data.take count)) :
    d.smbBlock code count data (pec.map BitVec.toNat) allowed k = k (d.hubMap fun h => (h.bump 0x1000010).smbAck) := by
  rw [Dev.smbBlock, if_neg (Nat.not_lt.2 hfull)]
  simp only [hcount, Bool.not_true, Bool.false_eq_true, if_false]
  exact Dev.smbWrite_right hready k hpec

end

theorem Dev.smbRead_ready (code n : Nat) (pec : Bool) (k : Dev → Dev × List Byte) : d.smbRead code n pec k =
    (k (d.hubMap (·.bump 0x1000010))).1.hubMap (·.smbAnswer code pec (k (d.hubMap (·.bump 0x1000010))).2) := by
  have hserves := smbServes_ready hready code
  rw [Dev.smbRead, Dev.smbStart_ready hready]
  simp only [Dev.hubMap_hub, hserves, if_true]
  generalize k (d.hubMap (·.bump 0x1000010)) = r
  rfl

theorem Dev.smbBlockRead_ready (code n : Nat) (pec : Bool) (k : Dev → Dev × List Byte) : d.smbBlockRead code n pec k =
    (k (d.hubMap (·.bump 0x1000010))).1.hubMap (·.smbAnswer code pec
      (leBytes 1 (k (d.hubMap (·.bump 0x1000010))).2.length ++ (k (d.hubMap (·.bump 0x1000010))).2)) :=
  Dev.smbRead_ready hready code (n + 1) pec fun d => ((k d).1, leBytes 1 (k d).2.length ++ (k d).2)

end

/-! ### The commands (R414, R417 to R421) -/

section
variable {d : Dev} (hready : SmbReady d.hub)
include hready

/-- An inbound packet is taken only under a right PEC byte (R416, R421). -/
theorem Dev.cmdMctpWrite_right {data : List Byte} {p : Byte} (hdata : data ≠ []) (hlen : data.length ≤ 255)
    (hp : p.toNat = d.hub.writePec 0x0F (leBytes 1 data.length ++ data)) : d.cmdMctpWrite data (some p.toNat) =
      (d.hubMap fun h => (h.bump 0x1000010).smbAck).mctpPacket false (leNat (data.take 1)) (data.drop 1) := by
  have hserves := smbServes_ready hready 0x0F
  have hsum : p.toNat = (d.hub.bump 0x1000010).writePec 0x0F (leBytes 1 data.length ++ data) := hp
  rw [Dev.cmdMctpWrite, Dev.smbStart_ready hready]
  simp [hserves, hdata, Nat.not_lt.2 hlen, ← hsum, Dev.hubMap_hubMap]

theorem Dev.cmdMctpRead_empty (hout : d.hub.bus.out = []) (pec : Bool) :
    d.cmdMctpRead pec = d.hubMap fun h => (h.bump 0x1000010).smbAnswer 0x0F pec (leBytes 1 0) := by
  have hout' : (d.hub.bump 0x1000010).bus.out = [] := hout
  rw [Dev.cmdMctpRead, Dev.smbBlockRead_ready hready]
  simp only [Dev.hubMap_hub, hout']
  rfl

theorem Dev.cmdMctpRead_first {p : List Byte} {rest : List (List Byte)} (hout : d.hub.bus.out = p :: rest) (pec : Bool) :
    d.cmdMctpRead pec = d.hubMap fun h =>
      ((h.bump 0x1000010).updBus fun b => { b with out := rest }).smbAnswer 0x0F pec (leBytes 1 p.length ++ p) := by
  have hout' : (d.hub.bump 0x1000010).bus.out = p :: rest := hout
  rw [Dev.cmdMctpRead, Dev.smbBlockRead_ready hready]
  simp only [Dev.hubMap_hub, hout']
  rfl

theorem Dev.cmdMctpWrite_missing {data : List Byte} (hdata : data ≠ []) (hlen : data.length ≤ 255) : d.cmdMctpWrite data none =
    d.hubMap fun h => ((h.bump 0x1000010).smbAck.updBus fun b =>
      { b with pecErr := b.pecErr || (h.bump 0x1000010).bitAt 0x1000000 0 }).mctpDrop false (leNat (slice data 3 1)) 1 := by
  have hserves := smbServes_ready hready 0x0F
  rw [Dev.cmdMctpWrite, Dev.smbStart_ready hready]
  simp [hserves, hdata, Nat.not_lt.2 hlen, Dev.hubMap_hubMap]

end

theorem regCount_iff (n : Nat) : regCount n = true ↔ 4 ≤ n ∧ n ≤ 252 ∧ n % 4 = 0 := by
  simp [regCount, and_assoc]

theorem hodCount_iff (h : Hub) (n : Nat) : h.hodCount n = true ↔ 1 ≤ n ∧ n ≤ 255 ∧ h.bus.hodPtr + n ≤ 4096 := by
  simp [Hub.hodCount, and_assoc]

theorem hodCount_refused {h : Hub} {n : Nat} (hn : n = 0 ∨ 4096 < h.bus.hodPtr + n) : h.hodCount n = false := by
  rw [Bool.eq_false_iff, ne_eq, hodCount_iff]
  omega

theorem regCount_refused {n : Nat} (hn : n < 4 ∨ 252 < n ∨ n % 4 ≠ 0) : regCount n = false := by
  rw [Bool.eq_false_iff, ne_eq, regCount_iff]
  omega

/-- Settles O53: a ready target runs each command's own effect on the hub that has counted the transfer. -/
theorem smbusCommandsServed : Obligations.SmbusCommandsServed := by
  intro s pec rd hready h sum right ack refuse rsp met run
  have hup : s.dev.hub.up = true := hready.1
  have pecRight {code : Nat} {data : List Byte} {bs : List Byte} (hbs : leBytes 1 code ++ data = bs) (hp : right bs) :
      PecRight s.dev.hub pec code data := by
    rcases hp with ⟨p, hpec, hsum⟩ | hnone
    · exact Or.inl ⟨p, hpec, hsum.trans (by rw [Hub.writePec, List.append_assoc, hbs])⟩
    · exact Or.inr hnone
  refine ⟨fun v => ⟨fun hp => exec_onBase hup rfl ?_, fun p hpec hp => exec_onBase hup rfl ?_, fun hpec hbit => exec_onBase hup rfl ?_,
    fun hp => exec_onBase hup rfl ?_, fun hv hp => exec_onBase hup rfl ?_, fun hv hp => exec_onBase hup rfl ?_⟩,
    fun v hp => ⟨fun hlow => exec_onBase hup rfl ?_, fun hhigh => exec_onBase hup rfl ?_⟩,
    fun n data => ⟨fun hn => exec_onBase hup rfl ?_, fun hn hshort => exec_onBase hup rfl ?_, fun hn hfull hp => exec_onBase hup rfl ?_,
      fun hn => ⟨exec_onBase hup rfl ?_, exec_onBase hup rfl ?_⟩,
      fun hlow hhigh hmod => ⟨fun hfull hp => exec_onBase hup rfl ?_, exec_onBase hup rfl ?_⟩,
      fun hn => ⟨exec_onBase hup rfl ?_, exec_onBase hup rfl ?_⟩,
      fun hn hend => ⟨exec_onBase hup rfl ?_, fun hfull hp => exec_onBase hup rfl ?_⟩⟩,
    exec_onBase hup rfl ?_, exec_onBase hup rfl ?_, exec_onBase hup rfl ?_, exec_onBase hup rfl ?_,
    exec_onBase hup rfl ?_, fun hout => exec_onBase hup rfl ?_, fun p rest hout => exec_onBase hup rfl ?_,
    fun data hdata hlen => ⟨fun p hpec hp => exec_onBase hup rfl ?_, fun hpec => exec_onBase hup rfl ?_⟩, exec_onBase hup rfl ?_,
    fun code hcode => exec_onBase hup rfl ?_⟩
  · exact Dev.smbWrite_right hready _ (pecRight (by rw [leBytes_byte]; rfl) hp)
  · subst hpec
    have hsum : p.toNat ≠ s.dev.hub.writePec 1 (leBytes 1 v.toNat) := by
      rw [leBytes_byte, Hub.writePec, List.append_assoc]
      exact hp
    exact Dev.smbWrite_wrong hready _ hsum
  · subst hpec
    exact Dev.smbWrite_missing hready _ hbit
  · exact Dev.smbWrite_right hready _ (pecRight (by rw [leBytes_byte]; rfl) hp)
  · have hring : v.toNat ≠ 1 := fun e => hv (BitVec.eq_of_toNat_eq e)
    exact (Dev.smbWrite_right hready _ (pecRight (by rw [leBytes_byte]; rfl) hp)).trans (if_neg hring)
  · subst hv
    exact Dev.smbWrite_right hready _ (pecRight rfl hp)
  · exact (Dev.smbWrite_right hready _ (pecRight rfl hp)).trans (if_pos hlow)
  · exact (Dev.smbWrite_right hready _ (pecRight rfl hp)).trans (if_neg (Nat.not_lt.2 hhigh))
  · exact Dev.smbBlock_refused hready _ rfl (by simpa using hn)
  · exact Dev.smbBlock_short hready _ rfl (by simpa using hn) (hn ▸ hshort)
  · rw [hn]
    exact Dev.smbBlock_right hready _ rfl hfull (pecRight rfl hp)
  · have hcount := regCount_refused hn
    exact Dev.smbBlock_refused hready _ rfl hcount
  · have hcount := regCount_refused hn
    exact (if_pos (by rw [hcount]; rfl)).trans (Dev.smbStart_ready hready _)
  · have hcount : regCount n.toNat = true := (regCount_iff _).2 ⟨hlow, hhigh, hmod⟩
    exact Dev.smbBlock_right hready _ hcount hfull (pecRight (by rw [leBytes_byte]; rfl) hp)
  · have hcount : regCount n.toNat = true := (regCount_iff _).2 ⟨hlow, hhigh, hmod⟩
    exact (if_neg (by simp [hcount])).trans (Dev.smbBlockRead_ready hready ..)
  · have hcount : s.dev.hub.hodCount n.toNat = false := hodCount_refused hn
    exact (if_pos (by rw [hcount]; rfl)).trans (Dev.smbStart_ready hready _)
  · have hcount : s.dev.hub.hodCount n.toNat = false := hodCount_refused hn
    exact Dev.smbBlock_refused hready _ rfl hcount
  · have hcount : s.dev.hub.hodCount n.toNat = true := (hodCount_iff _ _).2 ⟨by omega, by have := n.isLt; omega, hend⟩
    exact (if_neg (by simp [hcount])).trans (Dev.smbBlockRead_ready hready ..)
  · have hcount : s.dev.hub.hodCount n.toNat = true := (hodCount_iff _ _).2 ⟨by omega, by have := n.isLt; omega, hend⟩
    exact Dev.smbBlock_right hready _ hcount hfull (pecRight (by rw [leBytes_byte]; rfl) hp)
  · exact Dev.smbRead_ready hready ..
  · exact Dev.smbRead_ready hready ..
  · exact Dev.smbBlockRead_ready hready ..
  · exact Dev.smbBlockRead_ready hready ..
  · exact Dev.smbBlockRead_ready hready ..
  · exact Dev.cmdMctpRead_empty hready hout rd
  · exact Dev.cmdMctpRead_first hready hout rd
  · subst hpec
    exact Dev.cmdMctpWrite_right hready hdata hlen (hp.trans (by rw [Hub.writePec, List.append_assoc, List.append_assoc]; rfl))
  · subst hpec
    exact Dev.cmdMctpWrite_missing hready hdata hlen
  · exact Dev.smbMatch_ready hready _
  · have hunknown : smbCodes.contains code.toNat = false := by simpa using hcode
    rw [Dev.cmdUnknown, Dev.smbStart_ready hready, hunknown]
    rfl

end Sys2Proof.Machine
end

section
/-!
Proofs of the SPDM responder (R403, R404, R482, R483, R489) and of the hods of security (R480, R493, R495).
-/

open Sys2Proof Sys2Proof.Machine

namespace Sys2Proof.Machine

theorem Hub.bump_eid (h : Hub) (a n : Nat) (pcie : Bool) : (h.bump a n).eid pcie = h.eid pcie := rfl

theorem Dev.hubMap_id (d : Dev) : d.hubMap id = d := rfl

/-! ### Messages (R403, R404, R482) -/

/-- The request that a command makes of its code and body: GET_VERSION names version 1.0, every other 1.3. -/
def SpdmMsg.coded (m : SpdmMsg) (code : Nat) : SpdmMsg :=
  { m with bytes := [if code = 0x84 then 0x10 else 0x13, BitVec.ofNat 8 code] ++ m.bytes }

@[simp] theorem SpdmMsg.coded_pcie (m : SpdmMsg) (code : Nat) : (m.coded code).pcie = m.pcie := rfl
@[simp] theorem SpdmMsg.coded_eid (m : SpdmMsg) (code : Nat) : (m.coded code).eid = m.eid := rfl
@[simp] theorem SpdmMsg.coded_tag (m : SpdmMsg) (code : Nat) : (m.coded code).tag = m.tag := rfl

/-- The session of a request is that of its carrier, whatever the bytes. -/
theorem Hub.session_coded (h : Hub) (m : SpdmMsg) (code : Nat) : h.session (m.coded code) = h.session m := rfl

@[simp] theorem Hub.sessionUsed_coded (h : Hub) (m : SpdmMsg) (code : Nat) : h.sessionUsed (m.coded code) = h.sessionUsed m := by
  simp only [Hub.sessionUsed, Hub.session_coded]

theorem Dev.spdmRow_eq (d : Dev) (code : Nat) (m : SpdmMsg) : d.spdmRow code m = d.spdmMessage (m.coded code) := rfl

section
variable (m : SpdmMsg) {code : Nat}

theorem SpdmMsg.coded_version (hcode : code ≠ 0x84) : (m.coded code).at_ 0 1 = 0x13 := by
  simp [SpdmMsg.at_, SpdmMsg.coded, slice, padTo, zeros, leNat, hcode]

theorem SpdmMsg.coded_getVersion : (m.coded 0x84).at_ 0 1 = 0x10 := by
  simp [SpdmMsg.at_, SpdmMsg.coded, slice, padTo, zeros, leNat]

theorem SpdmMsg.coded_code (hcode : code < 256) : (m.coded code).at_ 1 1 = code := by
  simp [SpdmMsg.at_, SpdmMsg.coded, slice, padTo, zeros, leNat, Nat.mod_eq_of_lt hcode]

end

theorem Dev.spdmOther_unlisted (d : Dev) (m : SpdmMsg) {code : Nat} (hout : code ∉ spdmCodes) :
    d.spdmOther code m = d.spdmRow code m :=
  if_neg (by simpa using hout)

section
variable {d : Dev} {q : SpdmMsg}

/-- Without an endpoint id a message is discarded (R403). -/
theorem Dev.spdmMessage_noEid (heid : d.hub.eid q.pcie = 0) : d.spdmMessage q = d.hubMap (·.mctpDrop q.pcie q.eid 4) := if_pos heid

/-- The responder's answer takes a sequence number of its session and goes out on the binding. -/
def Hub.spdmOut (h : Hub) (q : SpdmMsg) (r : List Byte) : Hub :=
  (h.sessionUsed q).mctpSend q.pcie q.eid q.tag (leBytes 1 0x05 ++ r)
def Dev.spdmSend (q : SpdmMsg) (r : Dev × List Byte) : Dev := r.1.hubMap (·.spdmOut q r.2)

/-- While no firmware runs the answer is Busy (R482). -/
theorem Dev.spdmMessage_busy (heid : d.hub.eid q.pcie ≠ 0) (hphase : d.hub.fw.phase = .off ∨ d.hub.fw.phase = .kiln) :
    d.spdmMessage q = Dev.spdmSend q (d.hubMap (·.bump 0x1300030), spdmError 0x03 0) := by
  have hdown : ¬ (d.hub.fw.phase = .up ∨ d.hub.fw.phase = .handover) := by rcases hphase with h | h <;> simp [h]
  exact (if_neg heid).trans (congrArg (Dev.spdmSend q) (if_neg hdown))

/-- While the firmware runs a message is served (R482). -/
theorem Dev.spdmMessage_up (heid : d.hub.eid q.pcie ≠ 0) (hphase : d.hub.fw.phase = .up) :
    d.spdmMessage q = Dev.spdmSend q ((d.hubMap (·.bump 0x1300030)).spdm q) :=
  (if_neg heid).trans (congrArg (Dev.spdmSend q) (if_pos (Or.inl hphase)))

end

/-! ### Requests (R482, R483) -/

section
variable (d : Dev) {m q : SpdmMsg}

theorem Dev.spdm_version (hver : q.at_ 0 1 ≠ (if q.at_ 1 1 = 0x84 then 0x10 else 0x13)) :
    d.spdm q = (d, spdmRsp 0x7F 0x41 0 []) := if_pos hver

theorem Dev.spdm_getVersion : d.spdm (m.coded 0x84) = (d.hubMap (·.setConn m.pcie 1), [0x10, 0x04, 0, 0, 0, 1, 0x00, 0x13]) := by
  simp only [Dev.spdm, SpdmMsg.coded_getVersion, SpdmMsg.coded_code m (show 0x84 < 256 by decide)]
  rfl

section
variable (hver : q.at_ 0 1 = 0x13)
include hver

theorem Dev.spdm_getCapabilities (hcode : q.at_ 1 1 = 0xE1) : ∃ r, r.take 2 = [0x13, 0x61] ∧
    d.spdm q = d.atStage q 1 (d.hubMap (·.setConn q.pcie 2), r) :=
  ⟨_, rfl, by simp only [Dev.spdm, hver, hcode]; rfl⟩

theorem Dev.spdm_negotiateAlgorithms (hcode : q.at_ 1 1 = 0xE3) :
    d.spdm q = d.atStage q 2 (d.hubMap (·.setConn q.pcie 3), q.algorithms) := by
  simp only [Dev.spdm, hver, hcode]
  rfl

theorem Dev.spdm_getDigests (hcode : q.at_ 1 1 = 0x81) :
    d.spdm q = d.atStage q 3 (d, spdmRsp 0x01 1 1 (sha384 d.hub.spdmChain)) := by
  simp only [Dev.spdm, hver, hcode]
  rfl

theorem Dev.spdm_getCertificate (hcode : q.at_ 1 1 = 0x82) : d.spdm q = d.atStage q 3 (d, q.slot0 (d.hub.certificate q)) := by
  simp only [Dev.spdm, hver, hcode]
  rfl

theorem Dev.spdm_challenge (hcode : q.at_ 1 1 = 0x83) :
    d.spdm q = d.atStage q 3 (d.hubMap (·.tick), q.slot0 (d.challengeAuth q)) := by
  simp only [Dev.spdm, hver, hcode]
  rfl

theorem Dev.spdm_getMeasurements (hcode : q.at_ 1 1 = 0xE0) : d.spdm q = d.atStage q 3 (d.hubMap (·.tick), d.measurements q) := by
  simp only [Dev.spdm, hver, hcode]
  rfl

theorem Dev.spdm_keyExchange (hcode : q.at_ 1 1 = 0xE4) : d.spdm q = d.atStage q 3 (d.keyExchange q) := by
  simp only [Dev.spdm, hver, hcode]
  rfl

theorem Dev.spdm_finish (hcode : q.at_ 1 1 = 0xE5) {f : Hub → Hub} {r : List Byte}
    (hact : d.hub.finishSession q = (f d.hub, r)) : d.spdm q = (d.hubMap f, r) := by
  simp only [Dev.spdm, hver, hcode, hact]
  rfl

theorem Dev.spdm_heartbeat (hcode : q.at_ 1 1 = 0xE8) {f : Hub → Hub} {r : List Byte}
    (hact : d.hub.heartbeatSession q = (f d.hub, r)) : d.spdm q = (d.hubMap f, r) := by
  simp only [Dev.spdm, hver, hcode, hact]
  rfl

theorem Dev.spdm_keyUpdate (hcode : q.at_ 1 1 = 0xE9) {f : Hub → Hub} {r : List Byte}
    (hact : d.hub.keyUpdate q = (f d.hub, r)) : d.spdm q = (d.hubMap f, r) := by
  simp only [Dev.spdm, hver, hcode, hact]
  rfl

theorem Dev.spdm_endSession (hcode : q.at_ 1 1 = 0xEC) {f : Hub → Hub} {r : List Byte}
    (hact : d.hub.endSession q = (f d.hub, r)) : d.spdm q = (d.hubMap f, r) := by
  simp only [Dev.spdm, hver, hcode, hact]
  rfl

theorem Dev.spdm_unsupported (hcode : q.at_ 1 1 ∉ spdmCodes) : d.spdm q = (d, spdmRsp 0x7F 0x07 (q.at_ 1 1) []) := by
  simp only [spdmCodes, List.mem_cons, List.not_mem_nil, or_false, not_or] at hcode
  simp only [Dev.spdm, hver, hcode]
  rfl

end

end

section
variable {d : Dev} {q : SpdmMsg} {n : Nat} (r : Dev × List Byte)

theorem Dev.atStage_reached (hconn : n ≤ d.hub.conn q.pcie) : d.atStage q n r = r := if_pos hconn

theorem Dev.atStage_early (hconn : d.hub.conn q.pcie < n) : d.atStage q n r = (d, spdmError 0x04 0) := if_neg (Nat.not_le.2 hconn)

end

section
variable {q : SpdmMsg} (r : List Byte)

theorem SpdmMsg.slot0_served (hslot : q.at_ 2 1 % 16 = 0) : q.slot0 r = r := if_pos hslot

theorem SpdmMsg.slot0_other {code : Nat} (hcode : q.at_ 1 1 = code) (hslot : q.at_ 2 1 % 16 ≠ 0) :
    q.slot0 r = spdmRsp 0x7F 0x07 code [] :=
  (if_neg hslot).trans (congrArg spdmUnsupported hcode)

end

section
variable {d : Dev} {q : SpdmMsg}

/-- The manifest and the device mode are not supported (R482). -/
theorem Dev.measurements_unsupported (hop : q.at_ 3 1 = 0xFD ∨ q.at_ 3 1 = 0xFE) : d.measurements q = spdmRsp 0x7F 0x07 0xE0 [] :=
  if_pos (hop.elim .inl fun h => .inr (.inl h))

theorem Dev.keyExchange_unsupported (hopt : q.at_ 3 1 ≠ 0) : d.keyExchange q = (d, spdmRsp 0x7F 0x07 0xE4 []) := if_pos hopt

theorem Dev.keyExchange_busy (hopt : q.at_ 3 1 = 0) (hrng : d.hub.sec.rng = false) : d.keyExchange q = (d, spdmError 0x05 0) := by
  simp [Dev.keyExchange, hopt, hrng]

theorem Dev.keyExchange_full (hopt : q.at_ 3 1 = 0) (hrng : d.hub.sec.rng = true) (hfull : 4 ≤ d.hub.sec.sessions.length) :
    d.keyExchange q = (d, spdmError 0x0A 0) := by
  simp [Dev.keyExchange, hopt, hrng, hfull]

/-- A session is added, and nothing but the hub changes (R482, R489). -/
theorem Dev.keyExchange_opens (hopt : q.at_ 3 1 = 0) (hrng : d.hub.sec.rng = true) (hroom : d.hub.sec.sessions.length < 4)
    (hcurve : onCurve (pointOf (slice q.bytes 40 96)) = true) : ∃ f r, d.keyExchange q = (d.hubMap f, r) ∧
      (f d.hub).sec.sessions = d.hub.sec.sessions ++
        [{ id := (d.hub.sec.sessionId + 1) % 65536 * 65536 + q.at_ 4 2, pcie := q.pcie }] := by
  simp only [Dev.keyExchange, hopt, hrng, if_neg (Nat.not_le.2 hroom), hcurve, ne_eq, not_true_eq_false, if_false,
    Bool.true_eq_false]
  exact ⟨fun _ => _, _, rfl, rfl⟩

end

/-! ### Sessions (R482, R490) -/

section
variable {h : Hub} {q : SpdmMsg} {x : Session} (hfind : h.session q = some x)
include hfind

theorem Hub.inSession_other {opening : Bool} (hopen : x.open_ = !opening) (f : Session → Hub → Hub × List Byte) :
    h.inSession q opening f = f x h := by
  simp [Hub.inSession, hfind, hopen]

theorem Hub.finishSession_opens (hopen : x.open_ = false) (hmac : q.macOk = true) : h.finishSession q =
    ((h.updSession x fun s => { s with open_ := true }).event 0x1301 [.u8 (b2n (!x.pcie)), .u32 x.id, .u8 0],
      spdmRsp 0x65 0 0 []) :=
  (Hub.inSession_other hfind (opening := true) hopen _).trans (if_pos hmac)

theorem Hub.finishSession_drops (hopen : x.open_ = false) (hmac : q.macOk = false) :
    h.finishSession q = (h.dropSession x, spdmError 0x06 0) :=
  (Hub.inSession_other hfind (opening := true) hopen _).trans (if_neg (Bool.eq_false_iff.1 hmac))

theorem Hub.heartbeatSession_open (hopen : x.open_ = true) : h.heartbeatSession q = (h, spdmRsp 0x68 0 0 []) :=
  Hub.inSession_other hfind (opening := false) hopen _

theorem Hub.keyUpdate_open (hopen : x.open_ = true) : h.keyUpdate q =
    (h.updSession x fun s => { s with keys := s.keys + 1, seq := 0 }, spdmRsp 0x69 (q.at_ 2 1) (q.at_ 3 1) []) :=
  Hub.inSession_other hfind (opening := false) hopen _

theorem Hub.endSession_open (hopen : x.open_ = true) : h.endSession q =
    ((h.dropSession x).event 0x1301 [.u8 (b2n (!x.pcie)), .u32 x.id, .u8 1], spdmRsp 0x6C 0 0 []) :=
  Hub.inSession_other hfind (opening := false) hopen _

theorem Hub.sessionUsed_next (hseq : x.seq + 1 < 2 ^ 64) : h.sessionUsed q = h.updSession x fun s => { s with seq := s.seq + 1 } := by
  simp only [Hub.sessionUsed, hfind, if_pos hseq]

theorem Hub.sessionUsed_last (hseq : 2 ^ 64 ≤ x.seq + 1) :
    h.sessionUsed q = (h.dropSession x).event 0x1301 [.u8 (b2n (!x.pcie)), .u32 x.id, .u8 1] := by
  simp only [Hub.sessionUsed, hfind, if_neg (Nat.not_lt.2 hseq), Hub.sessionEvent]

end

/-- A message outside every session uses no sequence number. -/
theorem Hub.sessionUsed_none {h : Hub} {q : SpdmMsg} (hsid : q.sid = none) : h.sessionUsed q = h := by
  have hfind : h.session q = none := by simp [Hub.session, hsid]
  simp only [Hub.sessionUsed, hfind]

@[simp] theorem Hub.mctpSend_sec (h : Hub) (pcie : Bool) (dst tag : Nat) (msg : List Byte) :
    (h.mctpSend pcie dst tag msg).sec = h.sec := by
  simp only [Hub.mctpSend]
  repeat' split
  all_goals simp

/-! ### The commands of the responder -/

theorem Hub.spdmOut_coded (h : Hub) (m : SpdmMsg) (code : Nat) (r : List Byte) : h.spdmOut (m.coded code) r = h.spdmOut m r := by
  simp only [Hub.spdmOut, Hub.sessionUsed_coded, SpdmMsg.coded_pcie, SpdmMsg.coded_eid, SpdmMsg.coded_tag]

theorem Dev.spdmSend_coded (d : Dev) (f : Hub → Hub) (m : SpdmMsg) (code : Nat) (r : List Byte) :
    Dev.spdmSend (m.coded code) (d.hubMap f, r) = d.hubMap fun h => (f h).spdmOut m r := by
  simp only [Dev.spdmSend, Hub.spdmOut_coded]
  exact Dev.hubMap_hubMap d f _

section
variable {s : State} {m : SpdmMsg} {i : Instr} {code : Nat} (hup : s.dev.hub.up = true)
  (hi : ∀ s, exec i s = onBase (fun d => d.spdmRow code m) s) (heid : s.dev.hub.eid m.pcie ≠ 0)
include hup hi heid

theorem exec_spdm_busy (hphase : s.dev.hub.fw.phase = .off ∨ s.dev.hub.fw.phase = .kiln) : exec i s =
    .next (s.hubMap fun h => (h.bump 0x1300030).spdmOut m (spdmError 0x03 0)) := by
  refine exec_onBase hup (hi s) ?_
  rw [Dev.spdmRow_eq, Dev.spdmMessage_busy (q := m.coded code) heid hphase, Dev.spdmSend_coded]

variable (hphase : s.dev.hub.fw.phase = .up)
include hphase

/-- A command of the responder is what the service of its request says, on the counted message. -/
theorem exec_spdm {f : Hub → Hub} {r : List Byte}
    (hserve : (s.dev.hubMap (·.bump 0x1300030)).spdm (m.coded code) = ((s.dev.hubMap (·.bump 0x1300030)).hubMap f, r)) :
    exec i s = .next (s.hubMap fun h => (f (h.bump 0x1300030)).spdmOut m r) := by
  refine exec_onBase hup (hi s) ?_
  rw [Dev.spdmRow_eq, Dev.spdmMessage_up (q := m.coded code) heid hphase, hserve, Dev.hubMap_hubMap, Dev.spdmSend_coded]

/-- Where the service changes nothing, the message is counted and answered. -/
theorem exec_spdm_same {r : List Byte}
    (hserve : (s.dev.hubMap (·.bump 0x1300030)).spdm (m.coded code) = (s.dev.hubMap (·.bump 0x1300030), r)) :
    exec i s = .next (s.hubMap fun h => (h.bump 0x1300030).spdmOut m r) :=
  exec_spdm (f := id) hup hi heid hphase (hserve.trans (congrArg (·, r) (Dev.hubMap_id _).symm))

end

section
variable {s : State} {m : SpdmMsg} (hup : s.dev.hub.up = true) (heid : s.dev.hub.eid m.pcie ≠ 0) (hphase : s.dev.hub.fw.phase = .up)
include hup heid hphase

/-- KEY_EXCHANGE with room for a session adds it and leaves the memories and the fuses alone. -/
theorem exec_keyExchange_opens {d : Dev} (hd : d = s.dev.hubMap (·.bump 0x1300030)) (hconn : 3 ≤ d.hub.conn m.pcie)
    (hopt : (m.coded 0xE4).at_ 3 1 = 0) (hrng : d.hub.sec.rng = true) (hroom : d.hub.sec.sessions.length < 4) (hsid : m.sid = none)
    (hcurve : onCurve (pointOf (slice (m.coded 0xE4).bytes 40 96)) = true) :
    ∃ t, exec (.keyExchange m) s = .next t ∧ t.dev.mem = s.dev.mem ∧ t.dev.otp = s.dev.otp ∧
      t.dev.hub.sec.sessions = d.hub.sec.sessions ++
        [{ id := (d.hub.sec.sessionId + 1) % 65536 * 65536 + (m.coded 0xE4).at_ 4 2, pcie := m.pcie }] := by
  subst hd
  obtain ⟨f, r, hserve, hsessions⟩ := Dev.keyExchange_opens hopt hrng hroom hcurve
  refine ⟨_, exec_spdm hup (fun _ => rfl) heid hphase ((Dev.spdm_keyExchange _ (m.coded_version (by decide))
    (m.coded_code (by decide))).trans ((Dev.atStage_reached (d := s.dev.hubMap (·.bump 0x1300030))
    (q := m.coded 0xE4) _ hconn).trans hserve)), rfl, rfl, ?_⟩
  rw [State.hubMap_hub, Hub.spdmOut, Hub.mctpSend_sec, Hub.sessionUsed_none hsid]
  exact hsessions

end

/-! ### The hods of security (R480, R493, R495) -/

section
variable {d : Dev} {q : HodReq}

section
variable (hright : q.who.isVf = false)
include hright

theorem secQueryHod_answers : secQueryHod q d = (d, .ok ([.u32 d.hub.secStatus, .u32 d.otp.arb, .u32 d.hub.sec.debugWord,
    .u32 d.keysWord, .u32 (d.hub.reg 0x1300004), .record (padTo 48 Config.deviceCert),
    .record (if d.hub.fw.run.isSome then padTo 48 (Config.aliasCert d.hub.aliasContents) else zeros 48)] ++
    (List.range 8).map (fun x => .u32 (d.hub.portSeal x)))) :=
  if_neg (by simp [hright])

theorem jtagUnlockHod_challenge (level dur : Nat) (sig : List Byte) :
    jtagUnlockHod q 0 level dur sig d = d.byHub unlockChallenge := by
  simp [jtagUnlockHod, hright, Dev.byHub]

theorem jtagUnlockHod_level (level dur : Nat) (sig : List Byte) :
    jtagUnlockHod q 1 level dur sig d = unlockLevel q.who.id level dur sig d := by
  simp [jtagUnlockHod, hright]

theorem jtagUnlockHod_relock (level dur : Nat) (sig : List Byte) :
    jtagUnlockHod q 2 level dur sig d = (d.hubMap (·.setNextLevel 0 0 q.who.id 0xFF), .wait) := by
  simp [jtagUnlockHod, hright, Dev.onHub, Dev.hubMap]

end

theorem unlockChallenge_fresh {h : Hub} (hrng : h.sec.rng = true) : unlockChallenge h =
    (h.draw.2.updSec fun s => { s with challenge := some h.draw.1, asked := 0 },
      .ok [.record (padTo 48 (Config.drbg h.draw.1)), .u64 Config.serial.toNat]) := if_pos hrng

theorem unlockChallenge_busy {h : Hub} (hrng : h.sec.rng = false) : unlockChallenge h = (h, .fail .busy) :=
  if_neg (Bool.eq_false_iff.1 hrng)

/-- A token in time for its challenge, for a level and a duration that there are, uses the challenge up; what follows depends on the key
that signed it (R493). -/
theorem unlockLevel_used {who level dur n : Nat} {sig : List Byte} (hchal : d.hub.sec.challenge = some n) (hlevel : 1 ≤ level)
    (hlevel' : level ≤ 2) (hdur : 1 ≤ dur) (hdur' : dur ≤ 86400) (hasked : d.hub.sec.asked ≤ 60000000) :
    unlockLevel who level dur sig d = ((d.otp.tokenKey level (unlockBytes n level dur) sig).elim
      ((d.hubMap (·.updSec fun s => { s with challenge := none })).hubMap (·.flag 0x1300000 2), .badArg 4)
      fun k => ((d.hubMap (·.updSec fun s => { s with challenge := none })).hubMap (·.setNextLevel level dur who k), .wait)) := by
  have hin : ¬ (level = 0 ∨ 2 < level) ∧ ¬ (dur = 0 ∨ 86400 < dur) ∧ ¬ 60000000 < d.hub.sec.asked := by omega
  obtain ⟨hinLevel, hinDur, hinTime⟩ := hin
  simp only [unlockLevel, hchal, hinLevel, hinDur, Dev.onHub, Hub.updSec, hinTime, if_false, Dev.hubMap]
  cases d.otp.tokenKey level (unlockBytes n level dur) sig with
  | none => rfl
  | some k => rfl

theorem Dev.serveNow_secQuery (hop : q.op = 0x1301) : d.serveNow q = secQueryHod q d := by
  simp only [Dev.serveNow, hop, Dev.serveTop]

theorem Dev.serveNow_jtagUnlock {mode level dur : Nat} {sig : List Byte} (hop : q.op = 0x1302)
    (hargs : q.args = [.u8 mode, .u8 level, .u32 dur, .block sig]) : d.serveNow q = jtagUnlockHod q mode level dur sig d := by
  have hnum : q.num 0 = mode ∧ q.num 1 = level ∧ q.num 2 = dur ∧ q.bytes 3 = sig := by simp [HodReq.num, HodReq.bytes, hargs]
  obtain ⟨hmode, hlevel, hdur, hsig⟩ := hnum
  simp only [Dev.serveNow, hop, Dev.serveTop, hmode, hlevel, hdur, hsig]

end

/-- SEC_QUERY answers what the block holds; JTAG_UNLOCK does what its mode says. -/
theorem securityHodsAct : SecurityHodsAct := by
  intro c
  refine ⟨?_, ?_, fun level duration token => ?_, ?_⟩
  · refine hodServes_of_service (fun _ => rfl) (by decide) (by decide) fun d q ans hop _ hwho hright act => act ?_
    rw [Dev.serveNow_secQuery hop, secQueryHod_answers (hwho ▸ hright)]
  · refine hodServes_of_service (fun _ => rfl) (by decide) (by decide) fun d q ans hop hargs hwho hright act => ?_
    have hserve : d.serveNow q = d.byHub unlockChallenge := by
      rw [Dev.serveNow_jtagUnlock hop hargs, jtagUnlockHod_challenge (hwho ▸ hright)]
    refine ⟨fun hrng => act ?_, fun hrng => act ?_⟩
    · rw [hserve, Dev.byHub, unlockChallenge_fresh hrng]
      rfl
    · rw [hserve, Dev.byHub, unlockChallenge_busy hrng]
  · refine hodServes_of_service (fun _ => rfl) (by decide) (by decide) fun d q ans hop hargs hwho hright act => ?_
    intro used n hchal hlevel hlevel' hdur hdur' hasked
    have hserve := (Dev.serveNow_jtagUnlock (d := d) hop hargs).trans <| (jtagUnlockHod_level (hwho ▸ hright) ..).trans <|
      unlockLevel_used (sig := token) hchal hlevel hlevel' hdur hdur' hasked
    refine ⟨fun k hkey => act ?_, fun hkey => act ?_⟩
    · rw [hserve, hkey, Option.elim_some]
    · rw [hserve, hkey, Option.elim_none]
  · refine hodServes_of_service (fun _ => rfl) (by decide) (by decide) fun d q ans hop hargs hwho hright act => act ?_
    rw [Dev.serveNow_jtagUnlock hop hargs, jtagUnlockHod_relock (hwho ▸ hright)]

/-- Settles O51: a message is turned away, answered Busy or served as its binding's endpoint id and the core's phase say; what the
service of each code answers is the equation of that code; the hods are `securityHodsAct`. -/
theorem spdmResponds : Obligations.SpdmResponds := by
  refine ⟨fun s m hup => ?_, fun d m hver => d.spdm_version hver,
    fun h m x hfind => ⟨Hub.sessionUsed_next hfind, Hub.sessionUsed_last hfind⟩, securityHodsAct⟩
  intro d h req gives
  have heid_eq : h.eid m.pcie = s.dev.hub.eid m.pcie := Hub.bump_eid ..
  have hphase_eq : h.fw.phase = s.dev.hub.fw.phase := congrArg Fw.phase (Hub.bump_fw ..)
  refine ⟨fun heid => ?_, fun heid hphase => ?_, fun heid hphase => ?_⟩
  · exact exec_onBase hup rfl (Dev.spdmMessage_noEid (q := m.coded 0x81) (heid_eq.symm.trans heid))
  · exact exec_spdm_busy hup (fun _ => rfl) (fun h0 => heid (heid_eq.trans h0)) (hphase_eq ▸ hphase)
  have heid' : s.dev.hub.eid m.pcie ≠ 0 := fun h0 => heid (heid_eq.trans h0)
  have hphase' : s.dev.hub.fw.phase = .up := hphase_eq.symm.trans hphase
  have hver {code : Nat} (hne : code ≠ 0x84) := m.coded_version hne
  have hcode {code : Nat} (hlt : code < 256) := m.coded_code hlt
  have acts {i : Instr} {code : Nat} (f : Hub → Hub) {r : List Byte} (hi : ∀ s, exec i s = onBase (fun d => d.spdmRow code m) s)
      (hserve : d.spdm (m.coded code) = (d.hubMap f, r)) : exec i s = gives f r :=
    exec_spdm hup hi heid' hphase' hserve
  have answers {i : Instr} {code : Nat} {r : List Byte} (hi : ∀ s, exec i s = onBase (fun d => d.spdmRow code m) s)
      (hserve : d.spdm (m.coded code) = (d, r)) : exec i s = gives id r :=
    exec_spdm_same hup hi heid' hphase' hserve
  have hcap := d.spdm_getCapabilities (hver (by decide)) (hcode (code := 0xE1) (by decide))
  have halg := d.spdm_negotiateAlgorithms (hver (by decide)) (hcode (code := 0xE3) (by decide))
  refine ⟨acts (·.setConn m.pcie 1) (fun _ => rfl) d.spdm_getVersion, fun hconn => ?_, fun hconn => ?_, fun hconn => ?_,
    fun hconn => ?_, fun x hfind => ⟨fun hopen => ⟨fun hmac => ?_, fun hmac => ?_⟩, fun hopen => ⟨?_, ?_, ?_⟩⟩, fun code hout => ?_⟩
  · obtain ⟨r, hr, hcap⟩ := hcap
    exact ⟨r, acts (·.setConn m.pcie 2) (fun _ => rfl) (hcap.trans (Dev.atStage_reached _ hconn)), hr⟩
  · obtain ⟨r, hr, hcap⟩ := hcap
    exact answers (fun _ => rfl) (hcap.trans (Dev.atStage_early _ (hconn ▸ Nat.zero_lt_one)))
  · exact acts (·.setConn m.pcie 3) (fun _ => rfl) (halg.trans (Dev.atStage_reached _ hconn))
  · have at3 {code : Nat} (r : Dev × List Byte) : d.atStage (m.coded code) 3 r = r := Dev.atStage_reached r hconn
    have hdig := d.spdm_getDigests (hver (by decide)) (hcode (code := 0x81) (by decide))
    have hcert := d.spdm_getCertificate (hver (by decide)) (hcode (code := 0x82) (by decide))
    have hchal := d.spdm_challenge (hver (by decide)) (hcode (code := 0x83) (by decide))
    have hmeas := d.spdm_getMeasurements (hver (by decide)) (hcode (code := 0xE0) (by decide))
    have hkey := d.spdm_keyExchange (hver (by decide)) (hcode (code := 0xE4) (by decide))
    rw [at3] at hdig hcert hchal hmeas hkey
    refine ⟨answers (fun _ => rfl) hdig, fun hslot => ?_, fun hslot => ?_, fun hslot => ?_, fun hslot => ?_, fun hop => ?_,
      fun hopt => ?_, acts (·.tick) (fun _ => rfl) hmeas, fun hopt => ⟨fun hrng => ?_, fun hrng hfull => ?_,
        fun hrng hroom hsid hcurve => ?_⟩⟩
    · exact answers (fun _ => rfl) (hcert.trans (congrArg (d, ·) (SpdmMsg.slot0_served _ hslot)))
    · exact answers (fun _ => rfl) (hcert.trans (congrArg (d, ·) (SpdmMsg.slot0_other _ (hcode (by decide)) hslot)))
    · exact acts (·.tick) (fun _ => rfl) (hchal.trans (congrArg (d.hubMap (·.tick), ·) (SpdmMsg.slot0_served _ hslot)))
    · exact acts (·.tick) (fun _ => rfl)
        (hchal.trans (congrArg (d.hubMap (·.tick), ·) (SpdmMsg.slot0_other _ (hcode (by decide)) hslot)))
    · exact acts (·.tick) (fun _ => rfl) (hmeas.trans (congrArg (d.hubMap (·.tick), ·) (Dev.measurements_unsupported hop)))
    · exact answers (fun _ => rfl) (hkey.trans (Dev.keyExchange_unsupported hopt))
    · exact answers (fun _ => rfl) (hkey.trans (Dev.keyExchange_busy hopt hrng))
    · exact answers (fun _ => rfl) (hkey.trans (Dev.keyExchange_full hopt hrng hfull))
    · exact exec_keyExchange_opens hup heid' hphase' rfl hconn hopt hrng hroom hsid hcurve
  · exact acts (fun h => (h.updSession x fun s => { s with open_ := true }).event 0x1301 [.u8 (b2n (!x.pcie)), .u32 x.id, .u8 0])
      (fun _ => rfl) (d.spdm_finish (hver (by decide)) (hcode (by decide)) (Hub.finishSession_opens hfind hopen hmac))
  · exact acts (·.dropSession x)
      (fun _ => rfl) (d.spdm_finish (hver (by decide)) (hcode (by decide)) (Hub.finishSession_drops hfind hopen hmac))
  · exact acts id (fun _ => rfl) (d.spdm_heartbeat (hver (by decide)) (hcode (by decide)) (Hub.heartbeatSession_open hfind hopen))
  · exact acts (·.updSession x fun s => { s with keys := s.keys + 1, seq := 0 })
      (fun _ => rfl) (d.spdm_keyUpdate (hver (by decide)) (hcode (by decide)) (Hub.keyUpdate_open hfind hopen))
  · exact acts (fun h => (h.dropSession x).event 0x1301 [.u8 (b2n (!x.pcie)), .u32 x.id, .u8 1])
      (fun _ => rfl) (d.spdm_endSession (hver (by decide)) (hcode (by decide)) (Hub.endSession_open hfind hopen))
  · have hcode := m.coded_code code.isLt
    have hother (s : State) : exec (.spdmUnsupportedRequest code m) s = onBase (fun d => d.spdmRow code.toNat m) s :=
      congrArg (onBase · s) (funext fun d => d.spdmOther_unlisted m hout)
    have hne : code.toNat ≠ 0x84 := fun h84 => hout (h84 ▸ by decide)
    have hserve := d.spdm_unsupported (m.coded_version hne) (hcode.symm ▸ hout)
    rw [hcode] at hserve
    exact answers hother hserve

end Sys2Proof.Machine
end

section
/-!
Proofs of the management core: restarts, the trial that fails, and the crash loop (R455, R456, R466).
-/

open Sys2Proof Sys2Proof.Machine

namespace Sys2Proof.Machine

/-! ### A finished request changes one register, the hods' status (R403, R421) -/

section
variable {a : Nat} (ha : a ≠ 0xF01000)
include ha

theorem Hub.reg_mctpSend_ne (h : Hub) (pcie : Bool) (dst tag : Nat) (msg : List Byte) :
    (h.mctpSend pcie dst tag msg).reg a = h.reg a := by
  cases pcie with
  | true => rfl
  | false =>
    simp only [Hub.mctpSend, Bool.false_eq_true, if_false]
    split
    · exact (Hub.event_reg ..).trans (Hub.reg_setReg_ne _ _ ha)
    · rfl

theorem Hub.reg_respond_ne (h : Hub) (q : HodReq) (msg : List Byte) (st : Nat) : (h.respond q msg st).reg a = h.reg a := by
  simp only [Hub.respond]
  split
  · exact Hub.reg_mctpSend_ne ha ..
  · rfl
  · repeat' split
    all_goals rfl

theorem Hub.reg_deliver_ne (h : Hub) (q : HodReq) (msg : List Byte) (st : Nat) : (h.deliver q msg st).reg a = h.reg a := by
  simp only [Hub.deliver]
  split
  · rfl
  · exact Hub.reg_respond_ne ha ..

theorem Hub.reg_finish_ne (h : Hub) (c : Held) : (h.finish c).reg a = h.reg a := by
  simp only [Hub.finish, Hub.releaseRsp]
  split
  · rfl
  · refine (Hub.reg_deliver_ne ha ..).trans ?_
    repeat' split
    all_goals rfl

theorem Hub.reg_finishWaitIf_ne (h : Hub) (op : Nat) (p : HodReq → Bool) (st : Status) (n : Nat) (pl : List Byte) :
    (h.finishWaitIf op p st n pl).reg a = h.reg a :=
  foldl_keeps (·.reg a) (fun h _ => h.reg_finish_ne ha _) _ _

end

/-! ### What a restart leaves alone (R455) -/

/-- The tiles, the power path, the security block and the core, but for the pushes. -/
structure CoreFrame where
  tile : Tiles
  hs : HotSwap
  sec : Sec
  fw : Fw

def Hub.coreFrame (h : Hub) : CoreFrame := { tile := h.tile, hs := h.hs, sec := h.sec, fw := { h.fw with acc := [] } }

@[simp] theorem Hub.event_coreFrame (h : Hub) (c : Nat) (pl : List Arg) (p q : Nat) : (h.event c pl p q).coreFrame = h.coreFrame := by
  simp [Hub.coreFrame]

theorem Hub.AnsweredFrom.coreFrame {k h : Hub} (hk : k.AnsweredFrom h) : k.coreFrame = h.coreFrame := by
  obtain ⟨_, _, _, _, _, _, _, rfl⟩ := hk
  rfl

theorem Hub.faultMet_coreFrame (h : Hub) (code : Nat) : (h.faultMet code).coreFrame = h.coreFrame := by
  unfold Hub.faultMet
  split
  · rfl
  · simp [Hub.coreFrame]

theorem Hub.faultBegin_coreFrame (h : Hub) (code : Nat) : (h.faultBegin code).coreFrame = h.coreFrame := h.faultMet_coreFrame code

theorem Hub.restartPushes_coreFrame (h : Hub) : h.restartPushes.coreFrame = h.coreFrame :=
  foldl_keeps Hub.coreFrame (fun h x => by split <;> rfl) _ h

theorem Hub.abortFor_coreFrame (h : Hub) (r : Requester) (cause : Nat) : (h.abortFor r cause).coreFrame = h.coreFrame := by
  unfold Hub.abortFor
  split
  · simp [Hub.hubAbort, Hub.dropTxn, Hub.coreFrame]
  · rfl

theorem Hub.crashMax_congr {h k : Hub} (hreg : k.reg 0x1200010 = h.reg 0x1200010) : k.crashMax = h.crashMax := by
  simp only [Hub.crashMax, Hub.fld, hreg]

theorem Hub.faultBegin_crashMax (h : Hub) (code : Nat) : (h.faultBegin code).crashMax = h.crashMax :=
  Hub.crashMax_congr (h.reg_faultMet_ne code (by decide))

/-! ### Restarts (R455, R466) -/

/-- What a restart of the core makes of the hub: the image handed over to, the restart's cause and count, and no more. -/
structure Hub.RestartedFrom (t h : Hub) (cause aged : Nat) (i : Option Image) : Prop where
  tile : t.tile = h.tile
  hs : t.hs = h.hs
  alias_ : t.sec.alias_ = h.sec.level
  run : t.fw.run = i
  trial : t.fw.trial = false
  cause : t.fw.cause = cause
  restarts : t.fw.restarts = sat 255 (h.fw.restarts - aged + 1)
  bcr0 : t.fw.bcr0 = h.fw.bcr0
  bcr1 : t.fw.bcr1 = h.fw.bcr1
  phase : t.fw.phase = if h.crashMax ≤ sat 255 (h.fw.restarts - aged + 1) then .off else .handover

/-- The restart counted: the ROM hands over, under the debug level that holds now. -/
def Hub.counted (h : Hub) (cause aged : Nat) : Hub :=
  let h := h.updFw (fun f => { (f.countRestart aged) with phase := .handover, cause, jpPart := none })
  { h with sec := { h.sec with alias_ := h.sec.level } }

/-- Once RESTARTS has reached CRASH_MAX the image is started no more (R456). -/
def Hub.stopAtMax (h : Hub) : Hub := if h.crashMax ≤ h.fw.restarts then h.updFw (fun f => { f with phase := .off }) else h

/-- The record of a restart, and what ends with it (R377, R472). -/
def Hub.restartRecorded (h : Hub) (cause : Nat) : Hub :=
  ((h.tick.bump 0x1200028).event 0x1204 [.u8 cause, .u32 (Config.elapsed h.free).toNat]).restartPushes.abortFor .core 2

theorem Hub.restartRecorded_coreFrame (h : Hub) (cause : Nat) : (h.restartRecorded cause).coreFrame = h.coreFrame := by
  rw [Hub.restartRecorded, Hub.abortFor_coreFrame, Hub.restartPushes_coreFrame, Hub.event_coreFrame]
  rfl

/-- The restart itself, once a fault has begun and a trial that failed has been reverted. -/
def Hub.handOver (h : Hub) (cause aged : Nat) : Hub := (h.counted cause aged).stopAtMax.restartRecorded cause

theorem Hub.stopAtMax_coreFrame (h : Hub) : h.stopAtMax.coreFrame = { h.coreFrame with fw := { h.coreFrame.fw with
    phase := if h.crashMax ≤ h.fw.restarts then .off else h.fw.phase } } := by
  unfold Hub.stopAtMax
  split <;> rfl

theorem Hub.RestartedFrom.of_coreFrame {t h : Hub} {cause aged : Nat} (htrial : h.fw.trial = false)
    (hframe : t.coreFrame = { (h.counted cause aged).coreFrame with fw := { (h.counted cause aged).coreFrame.fw with
      phase := if (h.counted cause aged).crashMax ≤ (h.counted cause aged).fw.restarts then .off
        else (h.counted cause aged).fw.phase } }) : t.RestartedFrom h cause aged h.fw.run :=
  have hfw := (congrArg CoreFrame.fw hframe :)
  { tile := (congrArg CoreFrame.tile hframe :)
    hs := (congrArg CoreFrame.hs hframe :)
    alias_ := (congrArg (·.sec.alias_) hframe :)
    run := (congrArg Fw.run hfw :)
    trial := (congrArg Fw.trial hfw :).trans htrial
    cause := (congrArg Fw.cause hfw :)
    restarts := (congrArg Fw.restarts hfw :)
    bcr0 := (congrArg Fw.bcr0 hfw :)
    bcr1 := (congrArg Fw.bcr1 hfw :)
    phase := (congrArg Fw.phase hfw :) }

theorem Hub.handOver_restartedFrom (h : Hub) (cause aged : Nat) (htrial : h.fw.trial = false) :
    (h.handOver cause aged).RestartedFrom h cause aged h.fw.run :=
  .of_coreFrame htrial ((Hub.restartRecorded_coreFrame ..).trans (Hub.stopAtMax_coreFrame _))

/-- What a restart keeps or starts from is the same on two hubs. -/
structure Hub.AgreesOn (k h : Hub) : Prop where
  tile : k.tile = h.tile
  hs : k.hs = h.hs
  level : k.sec.level = h.sec.level
  restarts : k.fw.restarts = h.fw.restarts
  bcr0 : k.fw.bcr0 = h.fw.bcr0
  bcr1 : k.fw.bcr1 = h.fw.bcr1
  crashMax : k.crashMax = h.crashMax

theorem Hub.AgreesOn.of_frame {k h : Hub} (hframe : k.coreFrame = h.coreFrame) (hmax : k.crashMax = h.crashMax) : k.AgreesOn h where
  tile := (congrArg CoreFrame.tile hframe :)
  hs := (congrArg CoreFrame.hs hframe :)
  level := (congrArg (·.sec.level) hframe :)
  restarts := (congrArg (·.fw.restarts) hframe :)
  bcr0 := (congrArg (·.fw.bcr0) hframe :)
  bcr1 := (congrArg (·.fw.bcr1) hframe :)
  crashMax := hmax

theorem Hub.RestartedFrom.of_agrees {t k h : Hub} {cause aged : Nat} {i j : Option Image} (ht : t.RestartedFrom k cause aged i)
    (hk : k.AgreesOn h) (hi : i = j) : t.RestartedFrom h cause aged j where
  tile := ht.tile.trans hk.tile
  hs := ht.hs.trans hk.hs
  alias_ := ht.alias_.trans hk.level
  run := ht.run.trans hi
  trial := ht.trial
  cause := ht.cause
  restarts := hk.restarts ▸ ht.restarts
  bcr0 := ht.bcr0.trans hk.bcr0
  bcr1 := ht.bcr1.trans hk.bcr1
  phase := by rw [ht.phase, hk.crashMax, hk.restarts]

/-- The hub at the start of a restart: a fault of the core has begun, or was in progress, or there is none. -/
def Hub.faulted (h : Hub) (fault : Bool) : Hub := if fault && !(h.safety.faults.any (·.1 == 8)) then h.faultBegin 8 else h

theorem Hub.faulted_coreFrame (h : Hub) (fault : Bool) : (h.faulted fault).coreFrame = h.coreFrame := by
  unfold Hub.faulted
  split
  · exact h.faultBegin_coreFrame 8
  · rfl

theorem Hub.faulted_crashMax (h : Hub) (fault : Bool) : (h.faulted fault).crashMax = h.crashMax := by
  unfold Hub.faulted
  split
  · exact h.faultBegin_crashMax 8
  · rfl

theorem Hub.faulted_agrees (h : Hub) (fault : Bool) : (h.faulted fault).AgreesOn h :=
  .of_frame (h.faulted_coreFrame fault) (h.faulted_crashMax fault)

theorem Hub.revert_coreFrame (h : Hub) : h.revert.coreFrame = { h.coreFrame with fw := { h.coreFrame.fw with
    run := h.fw.prev, prev := none, stage := none, trial := false, slot := (h.fw.prev.map (·.slot)).getD h.fw.slot } } :=
  (Hub.finishWaitIf_answeredFrom ..).coreFrame.trans (Hub.event_coreFrame ..)

theorem Hub.revert_crashMax (h : Hub) : h.revert.crashMax = h.crashMax :=
  Hub.crashMax_congr ((Hub.reg_finishWaitIf_ne (by decide) ..).trans
    ((Hub.event_reg ..).trans (Hub.reg_setReg_ne _ _ (by decide))))

theorem Hub.AgreesOn.of_revert {k h : Hub} (hframe : k.coreFrame = { h.coreFrame with fw := { h.coreFrame.fw with
    run := h.fw.prev, prev := none, stage := none, trial := false, slot := (h.fw.prev.map (·.slot)).getD h.fw.slot } })
    (hmax : k.crashMax = h.crashMax) : k.AgreesOn h where
  tile := (congrArg CoreFrame.tile hframe :)
  hs := (congrArg CoreFrame.hs hframe :)
  level := (congrArg (·.sec.level) hframe :)
  restarts := (congrArg (·.fw.restarts) hframe :)
  bcr0 := (congrArg (·.fw.bcr0) hframe :)
  bcr1 := (congrArg (·.fw.bcr1) hframe :)
  crashMax := hmax

section
variable {h : Hub} (cause aged : Nat) (fault : Bool)

/-- A restart outside a trial hands over to the running region (R455). -/
theorem Hub.coreRestart_again (htrial : h.fw.trial = false) :
    (h.coreRestart cause aged fault).RestartedFrom h cause aged h.fw.run := by
  have heq : h.coreRestart cause aged fault = (h.faulted fault).handOver cause aged := by
    simp only [Hub.coreRestart, htrial, Bool.false_and, Bool.false_eq_true, if_false]
    rfl
  have hframe := h.faulted_coreFrame fault
  have hagrees := h.faulted_agrees fault
  rw [heq]
  generalize h.faulted fault = k at hframe hagrees
  have hrun : k.fw.run = h.fw.run := (congrArg (·.fw.run) hframe :)
  have htrial' : k.fw.trial = h.fw.trial := (congrArg (·.fw.trial) hframe :)
  exact (k.handOver_restartedFrom cause aged (htrial'.trans htrial)).of_agrees hagrees hrun

/-- A restart in a trial goes back to the previous region (R466). -/
theorem Hub.coreRestart_reverts (htrial : h.fw.trial = true) (hcause : cause ≠ 4) :
    (h.coreRestart cause aged fault).RestartedFrom h 5 aged h.fw.prev := by
  have heq : h.coreRestart cause aged fault = (h.faulted fault).revert.handOver 5 aged := by
    have hne : (cause != 4) = true := by simpa using hcause
    simp only [Hub.coreRestart, htrial, hne, Bool.and_self, if_true]
    rfl
  have hframe := h.faulted_coreFrame fault
  have hagrees := h.faulted_agrees fault
  rw [heq]
  generalize h.faulted fault = k at hframe hagrees
  have hprev : k.fw.prev = h.fw.prev := (congrArg (·.fw.prev) hframe :)
  have hback := k.revert_coreFrame
  have hmax := k.revert_crashMax
  generalize k.revert = r at hback hmax
  have hrun : r.fw.run = k.fw.prev := (congrArg (·.fw.run) hback :)
  have htrial' : r.fw.trial = false := (congrArg (·.fw.trial) hback :)
  exact ((r.handOver_restartedFrom 5 aged htrial').of_agrees (.of_revert hback hmax) hrun).of_agrees hagrees hprev

end

/-- A command that restarts the core. -/
theorem exec_restarted {s : State} {c : Instr} {f : Hub → Hub} {cause aged : Nat} {i : Option Image} (hup : s.dev.hub.up = true)
    (hc : exec c s = onHub f s) (hf : (f s.dev.hub).RestartedFrom s.dev.hub cause aged i) :
    ∃ t, exec c s = .next t ∧ t.dev.mem = s.dev.mem ∧ t.dev.otp = s.dev.otp ∧ t.dev.hub.RestartedFrom s.dev.hub cause aged i :=
  ⟨_, exec_onHub hup hc rfl, rfl, rfl, hf⟩

/-! ### The crash loop (R456) -/

theorem Hub.bitAt_flag_self (h : Hub) (a : Nat) {i : Nat} (hi : i < 32) : (h.flag a i).bitAt a i = true := by
  have hpow : 2 ^ i % 4294967296 = 2 ^ i := Nat.mod_eq_of_lt (Nat.pow_lt_pow_right (by decide) hi)
  simp [Hub.bitAt, Hub.flag, Hub.setReg, Hub.reg, hpow, Nat.testBit_or]

theorem Hub.jpStop_keeps {β : Type} (p : Hub → β) (hfw : ∀ h, p (h.updFw fun f => { f with jp := none }) = p h)
    (hevent : ∀ (h : Hub) c pl, p (h.event c pl) = p h) (h : Hub) : p h.jpStop = p h := by
  unfold Hub.jpStop
  split
  · rfl
  · exact (hevent ..).trans (hfw h)

theorem Hub.endSessions_fw (h : Hub) (cause : Nat) : (h.endSessions cause).fw = h.fw :=
  foldl_keeps Hub.fw (fun _ _ => Hub.event_fw ..) _ _

theorem Hub.endSessions_hods (h : Hub) (cause : Nat) : (h.endSessions cause).hods = h.hods :=
  foldl_keeps Hub.hods (fun _ _ => Hub.event_hods ..) _ _

theorem Hub.enterKiln_hods (h : Hub) (cause : Nat) : (h.enterKiln cause).hods = h.hods :=
  (Hub.event_hods ..).trans ((Hub.endSessions_hods ..).trans
    (Hub.jpStop_keeps Hub.hods (fun _ => rfl) (fun h c pl => h.event_hods c pl _ _) h))

/-- Kiln mode keeps the slot and the restarts. -/
theorem Hub.enterKiln_fw (h : Hub) (cause : Nat) : (h.enterKiln cause).fw = { h.jpStop.fw with
    phase := .kiln, kilnCause := cause, run := none, stage := none, prev := none, trial := false
    jpPart := none, jpNext := none, checked := false } :=
  (Hub.event_fw ..).trans (Hub.endSessions_fw ..)

theorem Hub.jpStop_slot (h : Hub) : h.jpStop.fw.slot = h.fw.slot :=
  Hub.jpStop_keeps (·.fw.slot) (fun _ => rfl) (fun h c pl => congrArg Fw.slot (h.event_fw c pl _ _)) h

theorem Hub.jpStop_restarts (h : Hub) : h.jpStop.fw.restarts = h.fw.restarts :=
  Hub.jpStop_keeps (·.fw.restarts) (fun _ => rfl) (fun h c pl => congrArg Fw.restarts (h.event_fw c pl _ _)) h

/-- With no request held, the core's return leaves the firmware block alone. -/
theorem Dev.coreReady_fw {d : Dev} (hparked : d.hub.hods.parked = []) (hafter : d.hub.hods.afterBoot = []) :
    d.coreReady.hub.fw = d.hub.fw := by
  unfold Dev.coreReady
  split
  · simp only [hparked, hafter, List.foldl_nil, Dev.hubMap_hub]
    split
    · rfl
    · exact Hub.event_fw ..
  · rfl

theorem Dev.coreReady_handover {d : Dev} (hphase : d.hub.fw.phase = .handover) : d.coreReady = d := by
  simp [Dev.coreReady, hphase]

/-- Kiln mode entered after a crash loop, with no request held (R456). -/
theorem Dev.coreReady_enterKiln {e : Dev} (hparked : e.hub.hods.parked = []) (hafter : e.hub.hods.afterBoot = []) (cause : Nat) :
    (e.hubMap (·.enterKiln cause)).coreReady.hub.fw = (e.hub.enterKiln cause).fw :=
  have hhods : (e.hubMap (·.enterKiln cause)).hub.hods = e.hub.hods := Hub.enterKiln_hods ..
  Dev.coreReady_fw (by rw [hhods, hparked]) (by rw [hhods, hafter])

/-- What a verification leaves of the hub: its verdict is noted, and a signature that fails is flagged. -/
theorem Dev.verify_hub (d : Dev) (kind t : Nat) : (d.verify kind t).2.2 = d.hubMap fun h =>
    (h.tick.updFw fun f => { f with verdict := f.verdict.set 0 t ((d.verify kind t).1 + 1) }).flagIf ((d.verify kind t).1 == 6)
      0x1300000 2 := rfl

section
variable {d : Dev} (hphase : d.hub.fw.phase = .off) (hrun : d.hub.fw.run ≠ none) (hmax : d.hub.crashMax ≤ d.hub.fw.restarts)
include hphase hrun hmax

theorem Dev.crashLoop_fellBack (hfell : d.hub.fw.fellBack = true) : d.crashLoop = d.hubMap (·.enterKiln 3) := by
  have hdue : ¬ (d.hub.fw.phase = .kiln ∨ d.hub.fw.run = none ∨ d.hub.fw.restarts < d.hub.crashMax) := by
    simp [hphase, hrun, hmax]
  exact (if_neg hdue).trans (if_pos hfell)

theorem Dev.crashLoop_bad (hfell : d.hub.fw.fellBack = false) (hbad : (d.verify 1 (b2n !d.hub.fw.slot)).1 ≠ 0) :
    d.crashLoop = (d.verify 1 (b2n !d.hub.fw.slot)).2.2.hubMap (·.enterKiln 3) := by
  have hdue : ¬ (d.hub.fw.phase = .kiln ∨ d.hub.fw.run = none ∨ d.hub.fw.restarts < d.hub.crashMax) := by
    simp [hphase, hrun, hmax]
  exact (if_neg hdue).trans ((if_neg (Bool.eq_false_iff.1 hfell)).trans (if_pos hbad))

theorem Dev.crashLoop_other (hfell : d.hub.fw.fellBack = false) (hgood : (d.verify 1 (b2n !d.hub.fw.slot)).1 = 0) :
    d.crashLoop = (d.verify 1 (b2n !d.hub.fw.slot)).2.2.hubMap fun h =>
      (((h.runImage (imageOf (!d.hub.fw.slot) (d.verify 1 (b2n !d.hub.fw.slot)).2.1) 6).updFw fun f => { f with
        fellBack := true, restarts := 0, stage := none, prev := none, trial := false }).flag 0x1200000 4).event 0x1202
        [.u8 (b2n (!!d.hub.fw.slot)), .u8 (d.verify 1 (b2n !d.hub.fw.slot)).1, .u8 (b2n !d.hub.fw.slot)] := by
  have hdue : ¬ (d.hub.fw.phase = .kiln ∨ d.hub.fw.run = none ∨ d.hub.fw.restarts < d.hub.crashMax) := by
    simp [hphase, hrun, hmax]
  exact (if_neg hdue).trans ((if_neg (Bool.eq_false_iff.1 hfell)).trans (if_neg (not_not_intro hgood)))

variable (hparked : d.hub.hods.parked = []) (hafter : d.hub.hods.afterBoot = [])
include hparked hafter

/-- A crash loop ends in kiln mode, its slot and its restarts as they were, where the other slot cannot be tried. -/
theorem Dev.crashRow_kiln (hfalls : (!d.hub.fw.fellBack && (d.verify 1 (b2n !d.hub.fw.slot)).1 == 0) = false) :
    d.crashRow.hub.fw.phase = .kiln ∧ d.crashRow.hub.fw.kilnCause = 3 ∧ d.crashRow.hub.fw.slot = d.hub.fw.slot ∧
      d.crashRow.hub.fw.restarts = d.hub.fw.restarts := by
  obtain ⟨e, hloop, hhods, hslot, hrestarts⟩ : ∃ e : Dev, d.crashLoop = e.hubMap (·.enterKiln 3) ∧ e.hub.hods = d.hub.hods ∧
      e.hub.fw.slot = d.hub.fw.slot ∧ e.hub.fw.restarts = d.hub.fw.restarts := by
    cases hfell : d.hub.fw.fellBack with
    | true => exact ⟨d, Dev.crashLoop_fellBack hphase hrun hmax hfell, rfl, rfl, rfl⟩
    | false =>
      have hbad : (d.verify 1 (b2n !d.hub.fw.slot)).1 ≠ 0 := by simpa [hfell] using hfalls
      refine ⟨_, Dev.crashLoop_bad hphase hrun hmax hfell hbad, ?_, ?_, ?_⟩ <;> rw [Dev.verify_hub] <;> simp [Hub.updFw]
  have hfw : d.crashRow.hub.fw = (e.hub.enterKiln 3).fw := by
    rw [Dev.crashRow, hloop]
    exact Dev.coreReady_enterKiln (by rw [hhods, hparked]) (by rw [hhods, hafter]) 3
  rw [hfw, Hub.enterKiln_fw]
  exact ⟨rfl, rfl, (Hub.jpStop_slot _).trans hslot, (Hub.jpStop_restarts _).trans hrestarts⟩

omit hparked hafter in
/-- Where the other slot verifies it is run, once, with FW.STATUS.FALLBACK set. -/
theorem Dev.crashRow_falls (hfalls : (!d.hub.fw.fellBack && (d.verify 1 (b2n !d.hub.fw.slot)).1 == 0) = true) :
    d.crashRow.hub.fw.phase = .handover ∧ d.crashRow.hub.fw.kilnCause = 0 ∧ d.crashRow.hub.fw.slot = (!d.hub.fw.slot) ∧
      d.crashRow.hub.fw.restarts = 0 ∧ d.crashRow.hub.bitAt 0x1200000 4 = true := by
  obtain ⟨hfell, hgood⟩ : d.hub.fw.fellBack = false ∧ (d.verify 1 (b2n !d.hub.fw.slot)).1 = 0 := by simpa using hfalls
  have hloop := Dev.crashLoop_other hphase hrun hmax hfell hgood
  generalize d.verify 1 (b2n !d.hub.fw.slot) = r at hloop
  have hready : d.crashRow = d.crashLoop := Dev.coreReady_handover (by rw [hloop]; simp [Hub.updFw, Hub.runImage])
  rw [hready, hloop]
  refine ⟨?_, ?_, ?_, ?_, ?_⟩
  all_goals simp [Hub.updFw, Hub.runImage, imageOf, Hub.bitAt_flag_self]

end

end Sys2Proof.Machine
end

section
/-!
Proofs of the pushes, the fuses, the debug port and the recorder's medium (R470 to R472, R480, R489, R492, R504, R509, R514).
-/

open Sys2Proof Sys2Proof.Machine

namespace Sys2Proof.Machine

/-! ### Pushes (R470 to R472) -/

theorem Dev.onHub_eq (d : Dev) (f : Hub → Hub) : d.onHub f = d.hubMap f := rfl

section
variable {d : Dev}

theorem Dev.pushStart_down (hphase : d.hub.fw.phase ≠ .up) : d.pushStart = d := if_pos (.inl hphase)

section
variable (hphase : d.hub.fw.phase = .up) (hchecked : d.hub.fw.checked = true)
include hphase hchecked

theorem Dev.pushStart_none (hnext : d.hub.nextPush = none) : d.pushStart = d := by
  simp [Dev.pushStart, hphase, hchecked, hnext]

variable {x t : Nat} (hnext : d.hub.nextPush = some x)
  (ht : t = 4 + 2 * d.hub.accClass x + b2n (d.hub.fw.accActive (d.hub.accClass x)))
include hnext ht

/-- A copy that has a verdict, and not a good one, leaves its position without an image (R470). -/
theorem Dev.pushStart_bad (hnone : d.hub.fw.verdict.get 0 t ≠ 0) (hbad : d.hub.fw.verdict.get 0 t ≠ 1) :
    d.pushStart = d.hubMap (·.updPush x fun p => { p with st := 6 }) := by
  subst ht
  simp only [Dev.pushStart, hphase, hchecked, hnext, if_neg hnone, if_pos hbad, ne_eq, not_true_eq_false, Bool.true_eq_false, or_self,
    if_false]
  rfl

/-- A copy without a verdict is verified first, and fails (R462). -/
theorem Dev.pushStart_fails (hnone : d.hub.fw.verdict.get 0 t = 0) (hbad : (d.verify 2 t).1 ≠ 0) :
    d.pushStart = (d.verify 2 t).2.2.hubMap (·.updPush x fun p => { p with st := 6 }) := by
  subst ht
  have hverdict : (d.verify 2 (4 + 2 * d.hub.accClass x + b2n (d.hub.fw.accActive (d.hub.accClass x)))).2.2.hub.fw.verdict.get 0
      (4 + 2 * d.hub.accClass x + b2n (d.hub.fw.accActive (d.hub.accClass x))) ≠ 1 := by
    rw [Dev.verify_hub]
    simpa [Hub.updFw] using hbad
  simp only [Dev.pushStart, hphase, hchecked, hnext, if_pos hnone, if_pos hverdict, ne_eq, not_true_eq_false, Bool.true_eq_false,
    or_self, if_false]
  rfl

/-- A good copy goes out (R470, R471). -/
theorem Dev.pushStart_starts (hgood : d.hub.fw.verdict.get 0 t = 1) : ∃ f, d.pushStart = d.hubMap f ∧
    ((f d.hub).push x).st = 2 ∧ ((f d.hub).push x).retries = (d.hub.push x).retries := by
  subst ht
  have hnone : d.hub.fw.verdict.get 0 (4 + 2 * d.hub.accClass x + b2n (d.hub.fw.accActive (d.hub.accClass x))) ≠ 0 := by simp [hgood]
  simp only [Dev.pushStart, hphase, hchecked, hnext, if_neg hnone, if_neg (not_not_intro hgood), ne_eq, not_true_eq_false,
    Bool.true_eq_false, or_self, if_false]
  rw [Dev.onHub_eq]
  exact ⟨_, rfl, by simp, by simp⟩

end

end

section
variable {h : Hub} {x cause : Nat} {reset : Bool}

theorem Hub.pushRetry_again (hroom : (h.push x).retries < h.fld 0x1200010 2 0) : h.pushRetry x cause reset =
    (h.updPush x fun p => { p with st := 1, retries := p.retries + 1, pulse := reset }).event 0x1207
      [.u8 x, .u8 (h.accClass x), .u8 (b2n (h.push x).copy), .u8 cause] := if_neg (Nat.not_le.2 hroom)

theorem Hub.pushRetry_spent (hspent : h.fld 0x1200010 2 0 ≤ (h.push x).retries) : h.pushRetry x cause reset =
    ((h.updPush x fun p => { p with st := 5, pulse := false }).flag 0x1200000 6).event 0x1207
      [.u8 x, .u8 (h.accClass x), .u8 (b2n (h.push x).copy), .u8 cause] := if_pos hspent

theorem Hub.imageTimeout_late (hst : (h.push x).st = 3) : h.imageTimeout x = h.pushRetry x 2 true := if_pos hst

theorem Hub.imageRead_good (hgood : (h.push x).good = true) : h.imageRead x = h.updPush x fun p => { p with st := 3 } := if_pos hgood

theorem Hub.imageDoneBrick_none (htake : h.takeMgmt x (fun m => m == 0x30) = none) : h.imageDoneBrick x = h := by
  simp only [Hub.imageDoneBrick, htake]

theorem Hub.imageDoneBrick_some {b : Brick} {k : Hub} (htake : h.takeMgmt x (fun m => m == 0x30) = some (b, k)) :
    h.imageDoneBrick x = k.imageDone x b := by
  simp only [Hub.imageDoneBrick, htake]

/-- IMAGE_DONE is what the push expects (R472). -/
def Push.accepts (p : Push) (b : Brick) : Bool :=
  p.st == 3 && !b.poison && b.data.length == 16 && leNat ((b.data.drop 4).take 4) == p.len &&
    leNat ((b.data.drop 8).take 4) == p.crc && zeroBytes b.data 1 4 && zeroBytes b.data 12 16

section
variable {b : Brick} (hst : (h.push x).st = 2 ∨ (h.push x).st = 3)
include hst

/-- An IMAGE_DONE that matches ends the push, and the image it carried is kept for its measurement. -/
theorem Hub.imageDone_right (hright : (h.push x).accepts b = true) :
    ((h.imageDone x b).push x).st = 4 ∧ (h.imageDone x b).sec.image.get [] x = (h.push x).digest := by
  have hin : ¬ ((h.push x).st ≠ 2 ∧ (h.push x).st ≠ 3) := by omega
  simp only [Push.accepts, Bool.and_eq_true, beq_iff_eq, Bool.not_eq_true'] at hright
  obtain ⟨⟨⟨⟨⟨⟨hthree, hpoison⟩, hlen⟩, himage⟩, hcrc⟩, hlow⟩, hhigh⟩ := hright
  have hall : (h.push x).st = 3 ∧ !b.poison ∧ b.data.length = 16 ∧ leNat ((b.data.drop 4).take 4) = (h.push x).len ∧
      leNat ((b.data.drop 8).take 4) = (h.push x).crc ∧ zeroBytes b.data 1 4 ∧ zeroBytes b.data 12 16 :=
    ⟨hthree, by simp [hpoison], hlen, himage, hcrc, hlow, hhigh⟩
  have hdone : h.imageDone x b = (((((h.imageMsg x 0x31 (h.push x).len (h.push x).crc).updPush x
      fun p => { p with st := 4, retries := 0 }).updSec fun s => { s with image := s.image.set [] x (h.push x).digest }).bump
      0x1200030).event 0x1207 [.u8 x, .u8 (h.accClass x), .u8 (b2n (h.push x).copy), .u8 0]) := (if_neg hin).trans (if_pos hall)
  rw [hdone]
  exact ⟨by simp, by simp [Hub.updSec]⟩

/-- One that does not match is a failed try. -/
theorem Hub.imageDone_wrong (hwrong : (h.push x).accepts b = false) :
    h.imageDone x b = ((h.dropImage x).imageMsg x 0x32 (h.push x).len (h.push x).crc).pushRetry x 1 false := by
  have hin : ¬ ((h.push x).st ≠ 2 ∧ (h.push x).st ≠ 3) := by omega
  have hnot : ¬ ((h.push x).st = 3 ∧ !b.poison ∧ b.data.length = 16 ∧ leNat ((b.data.drop 4).take 4) = (h.push x).len ∧
      leNat ((b.data.drop 8).take 4) = (h.push x).crc ∧ zeroBytes b.data 1 4 ∧ zeroBytes b.data 12 16) := by
    rintro ⟨hthree, hpoison, hlen, himage, hcrc, hlow, hhigh⟩
    simp [Push.accepts, hthree, Bool.eq_false_iff.2 (by simpa using hpoison), hlen, himage, hcrc, hlow, hhigh] at hwrong
  simp only [Hub.imageDone, if_neg hin, if_neg hnot]

/-- It is tried again, or has failed. -/
theorem Hub.imageDone_again (hwrong : (h.push x).accepts b = false) (hroom : (h.push x).retries < h.fld 0x1200010 2 0) :
    ((h.imageDone x b).push x).st = 1 ∧ ((h.imageDone x b).push x).retries = (h.push x).retries + 1 := by
  rw [Hub.imageDone_wrong hst hwrong, Hub.pushRetry_again (by simpa [Hub.imageMsg, Hub.dropImage] using hroom)]
  simp [Hub.imageMsg, Hub.dropImage]

theorem Hub.imageDone_spent (hwrong : (h.push x).accepts b = false) (hspent : h.fld 0x1200010 2 0 ≤ (h.push x).retries) :
    ((h.imageDone x b).push x).st = 5 := by
  rw [Hub.imageDone_wrong hst hwrong, Hub.pushRetry_spent (by simpa [Hub.imageMsg, Hub.dropImage] using hspent)]
  simp [Hub.imageMsg, Hub.dropImage]

end

theorem Hub.push_updPush_ne {y : Nat} (f : Push → Push) (hxy : x ≠ y) : (h.updPush y f).push x = h.push x := by
  simp only [Hub.push, Hub.updPush]
  exact Tbl.get_upd_ne _ _ _ hxy

/-- A copy that turns out corrupt leaves every position mapped to it without an image (R472). -/
theorem Hub.foldl_noImage_push (xs : List Nat) (h : Hub) {x : Nat} (hx : x ∈ xs ∨ (h.push x).st = 6) :
    ((xs.foldl (fun h x => h.updPush x fun p => { p with st := 6, pulse := false }) h).push x).st = 6 := by
  induction xs generalizing h with
  | nil => exact hx.elim (absurd · (by simp)) id
  | cons y ys ih =>
    refine ih _ ?_
    by_cases hxy : x = y
    · subst hxy
      exact .inr (by simp)
    · refine hx.imp (fun hmem => (List.mem_cons.1 hmem).resolve_left hxy) fun hst => ?_
      rwa [Hub.push_updPush_ne _ hxy]

theorem Hub.imageRead_corrupt (hx : x < 8) (hgood : (h.push x).good = false) : ((h.imageRead x).push x).st = 6 := by
  have hread : h.imageRead x = ((h.imageMsg x 0x33 (h.push x).len (h.push x).crc).copyBad (h.accClass x) (h.push x).copy).event 0x1208
      [.u8 (4 + 2 * h.accClass x + b2n (h.push x).copy), .u32 4096] := if_neg (Bool.eq_false_iff.1 hgood)
  have hclass : (h.imageMsg x 0x33 (h.push x).len (h.push x).crc).accClass x = h.accClass x :=
    congrArg b2n (Hub.bitAt_congr (Hub.send_regs ..) _ _)
  rw [hread, Hub.event_push]
  refine Hub.foldl_noImage_push _ _ (.inl (List.mem_filter.2 ⟨List.mem_range.2 hx, ?_⟩))
  exact beq_iff_eq.2 hclass

end

/-! ### The generator, the fuses and the debug port (R480, R489, R492, R493) -/

section
variable {h : Hub}

theorem Hub.levelExpiry_falls (hlevel : h.sec.level ≠ 0) (hnext : h.sec.next = none) : h.levelExpiry = h.setNextLevel 0 0 0xFF 0xFF :=
  if_pos ⟨hlevel, hnext⟩

theorem Hub.rngFail_stops (test : Nat) (hrng : h.sec.rng = true) :
    h.rngFail test = (h.updSec fun s => { s with rng := false }).event 0x1306 [.u8 test] := if_pos hrng

theorem Hub.rngReseed_due (hrng : h.sec.rng = true) (hdrawn : 2 ^ 20 ≤ h.sec.drawn) :
    h.rngReseed = h.updSec fun s => { s with drawn := 0 } := if_pos (by simpa [hrng] using hdrawn)

/-- What an instruction of the debug port leaves: the instruction in force, and what the port shifts out. -/
def Hub.scanned (h : Hub) (i : JtagInstr) (tdo : Nat) : Hub := h.tick.updSec fun s => { s with jtag := i, tdo }

/-- The instruction that the port takes at a debug level (R492). -/
def JtagInstr.taken (level : Nat) (i : JtagInstr) : JtagInstr :=
  let ok := match i with
    | .bypass | .idcode | .sample => true
    | .extest | .intest => decide (1 ≤ level)
    | .debug => level == 2
    | .other => false
  if ok then i else .bypass

/-- What the port shifts out: the identification code, the pins, or nothing. -/
def JtagInstr.out (code pins : Nat) : JtagInstr → Nat
  | .idcode => code
  | .sample | .extest | .intest => pins
  | .bypass | .debug | .other => 0

theorem JtagInstr.out_idcode (code pins : Nat) : JtagInstr.idcode.out code pins = code := rfl

theorem Hub.jtag_eq (h : Hub) (i : JtagInstr) : h.jtag i = h.scanned (i.taken h.sec.level) ((i.taken h.sec.level).out
    (Config.variant.toNat % 16 * 2 ^ 28 + 0x0A08 * 2 ^ 12 + 0x2B5 * 2 + 1) (Config.boundaryScan h.free)) := rfl

theorem Hub.jtag_idcode (h : Hub) : h.jtag .idcode =
    h.scanned .idcode (Config.variant.toNat % 16 * 2 ^ 28 + 0x0A08 * 2 ^ 12 + 0x2B5 * 2 + 1) :=
  (h.jtag_eq .idcode).trans (congrArg (h.scanned .idcode) (JtagInstr.out_idcode ..))

/-- An instruction that selects BYPASS, or is BYPASS, shifts nothing out. -/
theorem Hub.jtag_bypassed {i : JtagInstr} (hbypass : i.taken h.sec.level = .bypass) : h.jtag i = h.scanned .bypass 0 := by
  rw [Hub.jtag_eq, hbypass]
  rfl

theorem Hub.jtag_debug (hlevel : h.sec.level = 2) : h.jtag .debug = h.scanned .debug 0 := by
  have htaken : JtagInstr.taken h.sec.level .debug = .debug := by simp [JtagInstr.taken, hlevel]
  rw [Hub.jtag_eq, htaken]
  rfl

theorem JtagInstr.taken_extest {level : Nat} (hlevel : level = 0) : JtagInstr.extest.taken level = .bypass := by
  simp [JtagInstr.taken, hlevel]
theorem JtagInstr.taken_intest {level : Nat} (hlevel : level = 0) : JtagInstr.intest.taken level = .bypass := by
  simp [JtagInstr.taken, hlevel]
theorem JtagInstr.taken_debug {level : Nat} (hlevel : level ≠ 2) : JtagInstr.taken level .debug = .bypass := by
  simp [JtagInstr.taken, hlevel]

end

section
variable {d : Dev}

theorem Dev.otpProgram_locked (w : OtpWrite) (hlevel : d.hub.sec.level ≠ 2) : d.otpProgram w = d := if_neg hlevel

theorem Dev.otpProgram_unlocked (w : OtpWrite) (hlevel : d.hub.sec.level = 2) : d.otpProgram w = { d with otp := d.otp.program w } :=
  if_pos hlevel

end

section
variable {o : Otp} (key : List Byte)

theorem Otp.program_ok0 (hnone : o.ok0 = none) : o.program (.ok0 key) = { o with ok0 := some (padTo 96 key) } := by
  simp [Otp.program, hnone]
theorem Otp.program_ok1 (hnone : o.ok1 = none) : o.program (.ok1 key) = { o with ok1 := some (padTo 96 key) } := by
  simp [Otp.program, hnone]
theorem Otp.program_dk (hnone : o.dk = none) : o.program (.dk key) = { o with dk := some (padTo 96 key) } := by
  simp [Otp.program, hnone]
theorem Otp.program_dk_again (hsome : o.dk ≠ none) : o.program (.dk key) = o := by
  simp [Otp.program, Option.isNone_iff_eq_none, hsome]

end

/-! ### The recorder's medium (R504, R509, R514) -/

/-- The recorder once its shadow has drained. -/
def Evrec.drained (e : Evrec) : Evrec :=
  { e with log := e.log ++ e.shadow, shadow := [], footCount := e.footCount.map (· - e.shadow.length) }

theorem Evrec.drained_of_empty {e : Evrec} (hshadow : e.shadow = []) : e.drained = e := by
  cases e
  simp_all [Evrec.drained]

/-- The first record of the shadow on its way to the log. -/
theorem Evrec.drained_cons {e : Evrec} {r : Rec} {rest : List Rec} (hshadow : e.shadow = r :: rest) :
    Evrec.drained { e with log := e.log ++ [r], shadow := rest, footCount := e.footCount.map (· - 1) } = e.drained := by
  cases e
  simp_all [Evrec.drained, Function.comp_def, Nat.sub_sub, Nat.add_comm]

section
variable {h : Hub}

theorem Hub.logDrain_down (bad : Option Nat) (hphase : h.fw.phase ≠ .up) : h.logDrain bad = h := if_neg hphase

/-- While there is room, the records of the shadow go to the log in order (R504). -/
theorem Hub.drainN_all (n : Nat) (h : Hub) (hlen : h.ev.shadow.length = n) (hfull : h.ev.full = false) (hmedia : h.ev.mediaFail = false)
    (hclear : h.ev.clearing = false) (hroom : h.ev.log.length + n < 131072) : h.drainN n none = h.updEv Evrec.drained := by
  induction n generalizing h with
  | zero => simp [Hub.drainN, Hub.updEv, Evrec.drained_of_empty (List.length_eq_zero_iff.1 hlen)]
  | succ n ih =>
    obtain ⟨r, rest, hshadow⟩ := List.exists_cons_of_length_eq_add_one hlen
    have hslot : h.ev.log.length + 1 ≠ logSlots := by simp only [logSlots]; omega
    have hone : h.drainOne r rest = h.updEv fun e =>
        { e with log := e.log ++ [r], shadow := rest, footCount := e.footCount.map (· - 1) } := if_neg hslot
    have hrest : rest.length = n := by simpa [hshadow] using hlen
    simp only [Hub.drainN, hfull, hmedia, hclear, hshadow, Bool.or_self, Bool.false_eq_true, if_false, reduceCtorEq, hone,
      Option.map_none]
    have hroom' : (h.ev.log ++ [r]).length + n < 131072 := by simp; omega
    refine (ih (h.updEv fun e => { e with log := e.log ++ [r], shadow := rest, footCount := e.footCount.map (· - 1) })
      hrest hfull hmedia hclear hroom').trans ?_
    simp only [Hub.updEv, Evrec.drained_cons hshadow]

theorem Hub.eraseComplete_idle (ok : Bool) (hclear : h.ev.clearing = false) : h.eraseComplete ok = h :=
  if_neg (Bool.eq_false_iff.1 hclear)

/-- A drop counter without the records dropped before the clear (R512). -/
def Hub.dropsBack (h : Hub) (s : Nat) : Hub :=
  { h with ctrs := h.ctrs.set {} (dropCtr s) { val := (h.ctr (dropCtr s)).val - h.ev.dropsAt.getD s 0 } }

theorem Hub.resetDrops_eq (h : Hub) : h.resetDrops = ((List.range 9).foldl Hub.dropsBack h).updEv fun e => { e with dropsAt := [] } := rfl

theorem Hub.resetDrops_ev (h : Hub) : h.resetDrops.ev = { h.ev with dropsAt := [] } := by
  rw [Hub.resetDrops_eq, Hub.updEv, foldl_keeps Hub.ev (f := Hub.dropsBack) fun _ _ => rfl]

theorem Hub.resetDrops_hods (h : Hub) : h.resetDrops.hods = h.hods := by
  rw [Hub.resetDrops_eq, Hub.updEv_hods, foldl_keeps Hub.hods (f := Hub.dropsBack) fun _ _ => rfl]

theorem Hub.finishWait_none_ev (op : Nat) (st : Status) (n : Nat) (pl : List Byte) (hwait : h.hods.waiting = []) :
    (h.finishWait op st n pl).ev = h.ev := by
  simp [Hub.finishWait, Hub.finishWaitIf, hwait]

/-- The erases of a clear end, with no request that waits for it: the pair alone heads the log (R509). -/
theorem Hub.eraseComplete_ev (hclear : h.ev.clearing = true) (hwait : h.hods.waiting = []) (hmedia : h.ev.mediaFail = false) :
    (h.eraseComplete true).ev = { h.ev with log := h.ev.clearPair, clearing := false, clearPair := [], dropsAt := [] } := by
  have hdone : h.clearDone h.ev.clearPair =
      (h.updEv fun e => { e with log := h.ev.clearPair, clearing := false, clearPair := [], mediaFail := false }).resetDrops := by
    simp only [Hub.clearDone, hmedia, Bool.false_eq_true, if_false]
  have hidle : (h.clearDone h.ev.clearPair).hods.waiting = [] := by rw [hdone, Hub.resetDrops_hods]; exact hwait
  have herase : h.eraseComplete true = (h.clearDone h.ev.clearPair).finishWait 0x1402 .ok 0 [] := if_pos hclear
  rw [herase, Hub.finishWait_none_ev _ _ _ _ hidle, hdone, Hub.resetDrops_ev, ← hmedia]
  rfl

theorem Hub.wallWrap_some {v : BitVec 64} (hwall : h.ev.wallRef = some v) : h.wallWrap = h.setWall ((v.toNat + 2 ^ 31) % 2 ^ 64) 1 := by
  simp only [Hub.wallWrap, hwall]

end

end Sys2Proof.Machine
end

section
/-!
Proofs of the hods of firmware (R465, R467, R468, R470, R474), of the recorder and of safety (R507, R509, R517, R530).
-/

open Sys2Proof Sys2Proof.Machine

namespace Sys2Proof.Machine

/-! ### Chunks of an image (R465) -/

section
variable {d : Dev} {q : HodReq} {t o : Nat} {bs : List Byte}

/-- A chunk at offset 0, or where the last one ended, is written. -/
theorem Dev.writeChunk_next (hcursor : o = 0 ∨ d.hub.fw.cursor.get none t = some o) (hfit : o + bs.length ≤ targetSize t) :
    d.writeChunk t o bs = chunkWritten d t o bs := by
  have hnext : ¬ (o ≠ 0 ∧ d.hub.fw.cursor.get none t ≠ some o) := by tauto
  exact (if_neg hnext).trans (if_neg (Nat.not_lt.2 hfit))

variable (hright : q.who.isVf = false) (hpend : d.hub.fw.pend = none)
include hright hpend

theorem fwWriteHod_writes (ht : t ≤ 1) (hfree : d.hub.fw.kiln = true ∨ (t ≠ b2n d.hub.fw.active.hub ∧ t ≠ b2n d.hub.fw.slot)) :
    fwWriteHod q t o bs d = d.writeChunk t o bs := by
  have hused : (!d.hub.fw.kiln && (t == b2n d.hub.fw.active.hub || t == b2n d.hub.fw.slot)) = false := by
    rcases hfree with hkiln | ⟨hactive, hslot⟩
    · simp [hkiln]
    · simp [hactive, hslot]
  simp [fwWriteHod, hright, Nat.not_lt.2 ht, hused, hpend]

theorem accImageWriteHod_writes (ht : t ≤ 3) (hfree : d.hub.fw.accActive (t / 2) ≠ decide (t % 2 = 1)) :
    accImageWriteHod q t o bs d = d.writeChunk (4 + t) o bs := by
  have hused : (d.hub.fw.accActive (t / 2) == (t % 2 == 1)) = false := beq_eq_false_iff_ne.2 hfree
  simp only [accImageWriteHod, hright, if_neg (Nat.not_lt.2 ht), hused, hpend, Bool.false_eq_true, if_false, Option.any_none]

end

/-! ### Verification and activation (R465 to R467, R473) -/

/-- The image staged by a good verdict on a free region, or the positions of a copy that wait again (R465, R470). -/
def Hub.verifiedGood (h : Hub) (kind t : Nat) (unused : Bool) (b : List Byte) : Hub :=
  if kind = 1 then (if unused && !h.fw.trial then h.updFw (fun f => { f with stage := some (imageOf (t == 1) b) }) else h)
  else if h.fw.accActive (t / 2) == (t % 2 == 1) then
    (List.range 8).foldl (fun h x =>
      if h.accClass x == t / 2 && (h.push x).st == 6 then h.updPush x (fun p => { p with st := 1, retries := 0 }) else h) h
  else h

section
variable {d e : Dev} {q : HodReq} {kind t v : Nat} {b : List Byte} (hright : q.who.isVf = false)
  (hin : (kind = 1 ∧ t ≤ 1) ∨ (kind = 2 ∧ t ≤ 3)) (hverify : d.verify kind (if kind = 1 then t else 4 + t) = (v, b, e))
include hright hin hverify

theorem fwVerifyHod_unreadable (hv : v = 8) : fwVerifyHod q kind t d = (e, .fail .media) := by
  have hkind : ¬ (kind ≠ 1 ∧ kind ≠ 2) ∧ ¬ ((kind = 1 ∧ 1 < t) ∨ (kind = 2 ∧ 3 < t)) := by omega
  simp only [fwVerifyHod, hright, if_neg hkind.1, if_neg hkind.2, hverify, if_pos hv, Bool.false_eq_true, if_false]

theorem fwVerifyHod_bad (hread : v ≠ 8) (hv : v ≠ 0) : fwVerifyHod q kind t d = (e, .done .badArg 2 (encodeArgs [.u8 v])) := by
  have hkind : ¬ (kind ≠ 1 ∧ kind ≠ 2) ∧ ¬ ((kind = 1 ∧ 1 < t) ∨ (kind = 2 ∧ 3 < t)) := by omega
  simp only [fwVerifyHod, hright, if_neg hkind.1, if_neg hkind.2, hverify, if_neg hread, if_pos hv, Bool.false_eq_true, if_false]

theorem fwVerifyHod_good (hv : v = 0) : fwVerifyHod q kind t d =
    (e.hubMap (·.verifiedGood kind t (e.hub.fw.kiln || (t != b2n e.hub.fw.slot && t != b2n e.hub.fw.active.hub)) b),
      .ok [.u8 0, .u16 (imageOf false b).major, .u16 (imageOf false b).minor, .u8 (imageOf false b).svn,
        .u16 (imageOf false b).epoch, .u16 (imageOf false b).epochMin, .u32 (imageOf false b).jpIf]) := by
  have hkind : ¬ (kind ≠ 1 ∧ kind ≠ 2) ∧ ¬ ((kind = 1 ∧ 1 < t) ∨ (kind = 2 ∧ 3 < t)) := by omega
  have hread : v ≠ 8 := by omega
  simp only [fwVerifyHod, hright, if_neg hkind.1, if_neg hkind.2, hverify, if_neg hread, if_neg (not_not_intro hv),
    Bool.false_eq_true, if_false]
  rfl

end

section
variable {h : Hub} {kind t : Nat} {b : List Byte} {unused : Bool}

theorem Hub.verifiedGood_staged (hkind : kind = 1) (hunused : unused = true) (htrial : h.fw.trial = false) :
    h.verifiedGood kind t unused b = h.updFw fun f => { f with stage := some (imageOf (t == 1) b) } :=
  (if_pos hkind).trans (if_pos (by simp [hunused, htrial]))

theorem Hub.verifiedGood_kept (hkind : kind = 1) (hkept : unused = false ∨ h.fw.trial = true) : h.verifiedGood kind t unused b = h :=
  (if_pos hkind).trans (if_neg (by rcases hkept with e | e <;> simp [e]))

theorem Hub.verifiedGood_inactive (hkind : kind = 2) (hcopy : h.fw.accActive (t / 2) ≠ decide (t % 2 = 1)) :
    h.verifiedGood kind t unused b = h :=
  (if_neg (by omega)).trans (if_neg fun e => hcopy (beq_iff_eq.1 e))

theorem Hub.verifiedGood_active (hkind : kind = 2) (hcopy : h.fw.accActive (t / 2) = decide (t % 2 = 1)) :
    h.verifiedGood kind t unused b = (List.range 8).foldl (fun h x =>
      if h.accClass x == t / 2 && (h.push x).st == 6 then h.updPush x (fun p => { p with st := 1, retries := 0 }) else h) h :=
  (if_neg (by omega)).trans (if_pos (beq_iff_eq.2 hcopy))

variable {q : HodReq} {mask : Nat} (hright : q.who.isVf = false) (hpend : h.fw.pend = none)
include hright

section
include hpend

theorem fwActivateHod_pends (hin : (kind = 1 ∧ t ≤ 1 ∧ ∃ i, h.fw.stage = some i ∧ b2n i.slot = t) ∨ (kind = 2 ∧ t ≤ 3)) :
    fwActivateHod q kind t mask h = (h.updFw fun f => { f with pend := some { kind, target := t, mask } }, .wait) := by
  have hkind : ¬ (kind ≠ 1 ∧ kind ≠ 2) ∧ ¬ ((kind = 1 ∧ 1 < t) ∨ (kind = 2 ∧ 3 < t)) ∧ t ≠ 0xFF := by omega
  have hstage : ¬ (kind = 1 ∧ h.fw.stage.any (fun i => b2n i.slot == t) = false) := by
    rintro ⟨hone, hnone⟩
    obtain ⟨i, hi, hslot⟩ : ∃ i, h.fw.stage = some i ∧ b2n i.slot = t := by
      rcases hin with ⟨-, -, hi⟩ | ⟨htwo, -⟩
      · exact hi
      · omega
    simp [hi, hslot] at hnone
  simp only [fwActivateHod, hright, hkind.2.2, if_neg hkind.1, if_neg hkind.2.1, hpend, if_neg hstage, Bool.false_eq_true, if_false,
    Option.isSome_none]

theorem fwActivateHod_none : fwActivateHod q 0 0xFF 0 h = (h, .ok []) := by
  simp [fwActivateHod, hright, hpend]

end

theorem fwActivateHod_cancels {a : Activation} (hsome : h.fw.pend = some a) : fwActivateHod q 0 0xFF 0 h =
    ((h.updFw fun f => { f with pend := none }).finishWaitIf 0x1203 (fun r => r.args.head? == some (.u8 a.kind)) .busy 0 [],
      .ok []) := by
  simp [fwActivateHod, hright, hsome]

end

/-! ### The job-plane module (R468) -/

/-- The outcome of the LAST chunk: the module `m`, of which `p` had come before. -/
def Dev.jpChecked (d : Dev) (p m : List Byte) : Dev × HodOut :=
  match d.moduleCheck m with
  | some (.done .busy x y) => (d.onHub (·.updFw (fun f => { f with jpPart := some p })), .done .busy x y)
  | some (.done .version x y) =>
    (d.onHub (fun h => ((h.updFw (fun f => { f with jpPart := none })).flag 0x1200000 3).jpEvent m), .done .version x y)
  | some out => (d.onHub (fun h => (h.updFw (fun f => { f with jpPart := none })).jpEvent m), out)
  | none =>
    if d.hub.fw.jp = some m then (d.onHub (·.updFw (fun f => { f with jpPart := none })), .ok [])
    else (d.onHub (·.updFw (fun f => { f with jpPart := none, jpNext := some m })), .boundary)

/-- The device that takes a chunk: at the FIRST, what had come before is dropped. -/
def Dev.jpTake (d : Dev) (first : Bool) : Dev := if first then d.hubMap (·.updFw fun f => { f with jpPart := none }) else d

section
variable {d : Dev} {q : HodReq} {flags o : Nat} {p bs : List Byte} (hright : q.who.isVf = false)
  (hpart : flags.testBit 0 = true ∧ p = [] ∨ ¬ flags.testBit 0 = true ∧ (d.jpTake (flags.testBit 0)).hub.fw.jpPart = some p)
  (hflags : flags ≤ 3) (ho : o = p.length) (hfit : o + bs.length ≤ 4096 + 196608)
include hright hpart hflags ho hfit

/-- A chunk in sequence joins what came before, and the LAST is checked. -/
theorem jobplaneLoadHod_takes : jobplaneLoadHod q flags o bs d =
    if flags.testBit 1 then
      ((d.jpTake (flags.testBit 0)).hubMap
        (·.flagIf ((d.jpTake (flags.testBit 0)).moduleVerdict (p ++ bs) == 6) 0x1300000 2)).jpChecked p (p ++ bs)
    else ((d.jpTake (flags.testBit 0)).hubMap (·.updFw fun f => { f with jpPart := some (p ++ bs) }), .ok []) := by
  have hplace : ¬ (o ≠ p.length ∨ 4096 + 196608 < o + bs.length) := by omega
  have hpart' : (if flags.testBit 0 = true then some [] else d.hub.fw.jpPart) = some p := by
    rcases hpart with ⟨hfirst, rfl⟩ | ⟨hfirst, hp⟩
    · rw [if_pos hfirst]
    · rw [if_neg hfirst]
      simpa [Dev.jpTake, hfirst] using hp
  simp only [jobplaneLoadHod, hright, if_neg (Nat.not_lt.2 hflags), hpart', if_neg hplace, Bool.false_eq_true, if_false]
  cases flags.testBit 1 <;> rfl

end

section
variable {d : Dev} {p m : List Byte}

theorem Dev.jpChecked_running (hcheck : d.moduleCheck m = none) (hjp : d.hub.fw.jp = some m) :
    d.jpChecked p m = (d.hubMap (·.updFw fun f => { f with jpPart := none }), .ok []) := by
  simp only [Dev.jpChecked, hcheck, if_pos hjp]
  rfl

theorem Dev.jpChecked_starts (hcheck : d.moduleCheck m = none) (hjp : d.hub.fw.jp ≠ some m) :
    d.jpChecked p m = (d.hubMap (·.updFw fun f => { f with jpPart := none, jpNext := some m }), .boundary) := by
  simp only [Dev.jpChecked, hcheck, if_neg hjp]
  rfl

theorem Dev.jpChecked_badArg {n : Nat} (hcheck : d.moduleCheck m = some (.badArg n)) :
    d.jpChecked p m = (d.hubMap fun h => (h.updFw fun f => { f with jpPart := none }).jpEvent m, .badArg n) := by
  simp only [Dev.jpChecked, hcheck, HodOut.badArg]
  rfl

theorem Dev.jpChecked_version (hcheck : d.moduleCheck m = some (.fail .version)) : d.jpChecked p m =
    (d.hubMap fun h => ((h.updFw fun f => { f with jpPart := none }).flag 0x1200000 3).jpEvent m, .fail .version) := by
  simp only [Dev.jpChecked, hcheck, HodOut.fail]
  rfl

theorem Dev.jpChecked_busy (hcheck : d.moduleCheck m = some (.fail .busy)) :
    d.jpChecked p m = (d.hubMap (·.updFw fun f => { f with jpPart := some p }), .fail .busy) := by
  simp only [Dev.jpChecked, hcheck, HodOut.fail]
  rfl

end

/-! ### The recorder (R507, R509, R517) -/

section
variable {h : Hub} {q : HodReq} (hclear : h.ev.clearing = false)
include hclear

theorem logReadHod_reads {start count : Nat} (hlo : 1 ≤ count) (hhi : count ≤ 63) : logReadHod q start count h =
    (let k := h.logAged
     let v := k.logView q.who
     let rs := (v.drop start).take count
     let sus := (List.range rs.length).foldl (fun a j => a + b2n ((rs[j]?).any Rec.suspect) * 2 ^ j) 0
     (k.flagIf (sus != 0) 0x1400000 1, .ok [.u32 v.length, .u64 sus, .block (rs.flatMap Rec.bytes)])) := by
  have hcount : ¬ (count = 0 ∨ 63 < count) := by omega
  exact (if_neg hcount).trans (if_neg (Bool.eq_false_iff.1 hclear))

theorem logClearHod_starts (hcount : h.ev.clearCount ≠ 0xFFFFFFFF) : logClearHod q h =
    (if Config.flashOk h.free then h.clearStart q.who.id
      else (h.clearStart q.who.id).clearFailed 0 (0x800000 + b2n (!(h.clearStart q.who.id).ev.inForceB) * 4096),
      if Config.flashOk h.free then .wait else .fail .media) := by
  refine (if_neg (Bool.eq_false_iff.1 hclear)).trans ((if_neg hcount).trans ?_)
  cases Config.flashOk h.free <;> rfl

end

theorem safetyQueryHod_answers {h : Hub} {q : HodReq} (hright : q.who.isVf = false) : safetyQueryHod q h =
    (h, .ok [.u32 h.safetyStatus, .u32 h.safetyWires, .u32 h.safetyRecovery, .u32 h.safety.dataWord, .u32 h.safety.mgmtWord,
      .u64 (h.ctr 0x1500018).val.toNat]) := if_neg (by simp [hright])

/-! ### From the opcodes to the hods (R399) -/

section
variable {d : Dev} {q : HodReq}

theorem Dev.serveNow_fw (hop : q.op / 256 = 0x12) : d.serveNow q = d.serveFw q := by
  simp only [Dev.serveNow, hop]

theorem Dev.serveNow_top (hop : q.op / 256 = 0x14 ∨ q.op / 256 = 0x15) : d.serveNow q = d.serveTop q := by
  rcases hop with hop | hop <;> simp only [Dev.serveNow, hop]

theorem HodReq.chunk_args {n o : Nat} {bs : List Byte} (hargs : q.args = [.u8 n, .u32 o, .block bs]) :
    q.num 0 = n ∧ q.num 1 = o ∧ q.bytes 2 = bs := by
  simp [HodReq.num, HodReq.bytes, hargs]

end

/-- Each hod of firmware is what its opcode says. -/
theorem firmwareHodsAct : FirmwareHodsAct := by
  intro c
  refine ⟨fun flags offset bytes => ?_, fun target offset bytes => ?_, fun kind target => ?_, fun kind target copy => ?_, ?_, ?_,
    fun flags offset bytes => ?_⟩
  · refine hodServes_of_service (fun _ => rfl) (by decide) (by decide) fun d q ans hop hargs hwho hright act => ?_
    intro ht hfree hpend hcursor hfit
    obtain ⟨hnum0, hnum1, hnum2⟩ := HodReq.chunk_args hargs
    refine act ?_
    rw [Dev.serveNow_fw (by rw [hop])]
    simp only [Dev.serveFw, hop, hnum0, hnum1, hnum2]
    exact (fwWriteHod_writes (hwho ▸ hright) hpend ht hfree).trans (Dev.writeChunk_next hcursor hfit)
  · refine hodServes_of_service (fun _ => rfl) (by decide) (by decide) fun d q ans hop hargs hwho hright act => ?_
    intro ht hfree hpend hcursor hfit
    obtain ⟨hnum0, hnum1, hnum2⟩ := HodReq.chunk_args hargs
    refine act ?_
    rw [Dev.serveNow_fw (by rw [hop])]
    simp only [Dev.serveFw, hop, hnum0, hnum1, hnum2]
    exact (accImageWriteHod_writes (hwho ▸ hright) hpend ht hfree).trans (Dev.writeChunk_next hcursor hfit)
  · refine hodServes_of_service (fun _ => rfl) (by decide) (by decide) fun d q ans hop hargs hwho hright act => ?_
    have hright' : q.who.isVf = false := hwho ▸ hright
    have hserve : d.serveNow q = fwVerifyHod q kind.toNat target.toNat d := by
      have hnum : q.num 0 = kind.toNat ∧ q.num 1 = target.toNat := by simp [HodReq.num, hargs]
      rw [Dev.serveNow_fw (by rw [hop])]
      simp only [Dev.serveFw, hop, hnum]
    intro hin
    generalize hr : d.verify kind.toNat (if kind.toNat = 1 then target.toNat else 4 + target.toNat) = r
    obtain ⟨v, b, e⟩ := r
    have hgood (hv : v = 0) := hserve.trans (fwVerifyHod_good hright' hin hr hv)
    have hunused : (e.hub.fw.kiln = true ∨ (target.toNat ≠ b2n e.hub.fw.slot ∧ target.toNat ≠ b2n e.hub.fw.active.hub)) ↔
      (e.hub.fw.kiln || (target.toNat != b2n e.hub.fw.slot && target.toNat != b2n e.hub.fw.active.hub)) = true := by simp
    refine ⟨fun hv => act (hserve.trans (fwVerifyHod_unreadable hright' hin hr hv)),
      fun hread hv => act (hserve.trans (fwVerifyHod_bad hright' hin hr hread hv)), fun hv hk hfree htrial => act ((hgood hv).trans ?_),
      fun hv hk hkept => act ((hgood hv).trans ?_), fun hv hk hcopy => act ((hgood hv).trans ?_),
      fun hv hk hcopy => act ((hgood hv).trans ?_)⟩
    · exact congrArg (·, _) (Dev.hubMap_congr (Hub.verifiedGood_staged hk (hunused.1 hfree) htrial))
    · exact congrArg (·, _) (Dev.hubMap_congr (g := id) (Hub.verifiedGood_kept hk
        (hkept.imp_left fun hnot => Bool.eq_false_iff.2 fun h => hnot (hunused.2 h))))
    · exact congrArg (·, _) (Dev.hubMap_congr (g := id) (Hub.verifiedGood_inactive hk hcopy))
    · exact congrArg (·, _) (Dev.hubMap_congr (Hub.verifiedGood_active hk hcopy))
  · refine hodServes_of_service (fun _ => rfl) (by decide) (by decide) fun d q ans hop hargs hwho hright act => ?_
    intro f hpend hin
    have hnum : q.num 0 = kind.toNat ∧ q.num 1 = target.toNat ∧ q.num 2 = copy.toNat := by simp [HodReq.num, hargs]
    refine act ?_
    rw [Dev.serveNow_fw (by rw [hop])]
    simp only [Dev.serveFw, hop, hnum, Dev.byHub, fwActivateHod_pends (hwho ▸ hright) hpend hin]
    rfl
  · refine hodServes_of_service (fun _ => rfl) (by decide) (by decide) fun d q ans hop hargs hwho hright act => ?_
    have hserve : d.serveNow q = d.byHub (fwActivateHod q 0 0xFF 0) := by
      have hnum : q.num 0 = 0 ∧ q.num 1 = 0xFF ∧ q.num 2 = 0 := by simp [HodReq.num, hargs]
      rw [Dev.serveNow_fw (by rw [hop])]
      simp only [Dev.serveFw, hop, hnum]
    refine ⟨fun hpend => act ?_, fun a hsome => act ?_⟩
    · rw [hserve, Dev.byHub, fwActivateHod_none (hwho ▸ hright) hpend]
    · rw [hserve, Dev.byHub, fwActivateHod_cancels (hwho ▸ hright) hsome]
      rfl
  · refine hodServes_of_service (fun _ => rfl) (by decide) (by decide) fun d q ans hop hargs hwho hright act => act ?_
    rw [Dev.serveNow_fw (by rw [hop])]
    simp only [Dev.serveFw, hop, Dev.byHub, fwQueryHod, hwho, hright, Bool.false_eq_true, if_false]
  · refine hodServes_of_service (fun _ => rfl) (by decide) (by decide) fun d q ans hop hargs hwho hright act => ?_
    obtain ⟨hnum0, hnum1, hnum2⟩ := HodReq.chunk_args hargs
    have hserve : d.serveNow q = jobplaneLoadHod q flags.toNat offset.toNat bytes d := by
      rw [Dev.serveNow_fw (by rw [hop])]
      simp only [Dev.serveFw, hop, hnum0, hnum1, hnum2]
    intro first e p hpart hflags hoffset hfit
    have htakes := hserve.trans (jobplaneLoadHod_takes (hwho ▸ hright) hpart hflags hoffset hfit)
    refine ⟨fun hmore => act ?_, fun hlast => ?_⟩
    · rw [htakes, hmore]
      rfl
    · rw [hlast, if_pos rfl] at htakes
      exact ⟨fun hcheck hjp => act (htakes.trans (Dev.jpChecked_running hcheck hjp)),
        fun hcheck hjp => act (htakes.trans (Dev.jpChecked_starts hcheck hjp)),
        fun hcheck => act (htakes.trans (Dev.jpChecked_badArg hcheck)), fun hcheck => act (htakes.trans (Dev.jpChecked_version hcheck)),
        fun hcheck => act (htakes.trans (Dev.jpChecked_busy hcheck))⟩

/-- So is each of the recorder and of the safety block. -/
theorem recorderHodsAct : RecorderHodsAct := by
  intro c
  refine ⟨fun index count => hodServes_of_answer (.logRead index count) (by decide) ?_,
    hodServes_of_answer .logClear (by decide) ?_, hodServes_of_answer .logStatus (by decide) ?_, ?_⟩
  · intro d q ans hop hargs hwho act h v rs sus hlo hhi hclear
    have hnum : q.num 0 = index.toNat ∧ q.num 1 = count.toNat := by simp [HodReq.num, hargs]
    refine act ?_
    rw [Dev.serveNow_top (by simp [hop])]
    simp only [Dev.serveTop, hop, hnum, Dev.byHub, logReadHod_reads hclear hlo hhi]
    rfl
  · intro d q ans hop hargs hwho act hclear hcount
    refine act ?_
    rw [Dev.serveNow_top (by simp [hop])]
    simp only [Dev.serveTop, hop, Dev.byHub, logClearHod_starts hclear hcount]
    rfl
  · intro d q ans hop hargs hwho act h drop own
    refine act ?_
    rw [Dev.serveNow_top (by simp [hop])]
    simp only [Dev.serveTop, hop]
    rfl
  · refine hodServes_of_service (fun _ => rfl) (by decide) (by decide) fun d q ans hop hargs hwho hright act => act ?_
    rw [Dev.serveNow_top (by simp [hop])]
    simp only [Dev.serveTop, hop, Dev.byHub, safetyQueryHod_answers (h := d.hub) (hwho ▸ hright)]

end Sys2Proof.Machine
end

section
/-!
Proofs of the management core, the pushes, the debug port and the recorder's medium: the commands that run them.
-/

open Sys2Proof Sys2Proof.Machine

namespace Sys2Proof.Machine

/-- Settles O56: a restart is what `Hub.RestartedFrom` says, a crash loop ends as `Dev.crashRow_kiln` and `Dev.crashRow_falls` say,
every other command is the operation of its row, and the hods are `firmwareHodsAct` and `recorderHodsAct`. -/
theorem coreImagesAndRecorderAct : Obligations.CoreImagesAndRecorderAct := by
  refine ⟨?_, firmwareHodsAct, recorderHodsAct⟩
  intro s aged x hup h run restarts again told retry failed tdo scan
  have hagain {cause : Nat} {i : Option Image} {c : Instr} {f : Hub → Hub} (hc : exec c s = onHub f s)
      (hf : (f h).RestartedFrom h cause aged i) : again cause i (exec c s) := by
    obtain ⟨t, ht, hmem, hotp, hall⟩ := exec_restarted hup hc hf
    exact ⟨t, ht, hmem, hotp, hall.tile, hall.hs, hall.alias_, hall.run, hall.trial, hall.cause, hall.restarts, hall.bcr0, hall.bcr1,
      hall.phase⟩
  have stays {c : Instr} {f : Hub → Hub} (hc : exec c s = onHub f s) (hf : f h = h) : exec c s = .next s :=
    exec_onHub (g := id) hup hc hf
  have staysBase {c : Instr} {f : Dev → Dev} (hc : exec c s = onBase f s) (hf : f s.dev = s.dev) : exec c s = .next s :=
    exec_onBase (g := id) hup hc hf
  refine ⟨fun htrial => ⟨fun hphase => ?_, fun hphase => ?_, fun hphase => ?_, ?_⟩, fun htrial => ⟨?_, fun hphase => ?_⟩,
    fun hphase hrun hmax hparked hafter => ?_, fun hphase => staysBase rfl (Dev.pushStart_down hphase),
    fun hphase hchecked hnext => staysBase rfl (Dev.pushStart_none hphase hchecked hnext),
    fun hphase hchecked hnext => ⟨fun hnone hbad => ?_, fun hnone hbad => ?_, fun hgood => ?_⟩,
    fun b h' htake hst => ⟨fun hright => ?_, fun hwrong hroom => ?_, fun hwrong hspent => ?_⟩, Hub.imageRead_good,
    Hub.imageRead_corrupt x.isLt, fun htake => stays rfl (Hub.imageDoneBrick_none htake),
    fun hst => ⟨fun hroom => ?_, fun hspent => ?_⟩, ?_, fun hlevel hnext => ?_, fun test hrng => ?_,
    fun hrng hdrawn => ?_, fun w hlevel => staysBase rfl (Dev.otpProgram_locked w hlevel),
    fun hlevel => ⟨fun k => ?_, fun key hnone => ?_, fun key hnone => ?_, fun key hnone => ?_, fun key hsome => ?_⟩,
    ?_, ?_, ?_, fun hlevel => ⟨?_, ?_⟩, fun hlevel => ?_, fun hlevel => ?_,
    fun hphase => stays rfl (Hub.logDrain_down none hphase), fun hphase hfull hmedia hclear hroom => ?_,
    fun hclear hwait hmedia => ?_, fun hclear ok => stays rfl (Hub.eraseComplete_idle ok hclear), fun v hwall => ?_⟩
  · exact hagain rfl (by rw [Hub.watchdog, if_pos hphase]; exact Hub.coreRestart_again 2 aged true htrial)
  · exact hagain rfl (by rw [Hub.coreTrap, if_pos hphase]; exact Hub.coreRestart_again 3 aged true htrial)
  · exact hagain rfl (by rw [Hub.firstKickTimeout, if_pos hphase]; exact Hub.coreRestart_again 3 aged true htrial)
  · exact stays rfl (if_neg (Bool.eq_false_iff.1 htrial))
  · exact hagain rfl (by rw [Hub.trialTimeout, if_pos htrial]; exact Hub.coreRestart_reverts 5 aged false htrial (by decide))
  · exact hagain rfl (by rw [Hub.watchdog, if_pos hphase]; exact Hub.coreRestart_reverts 2 aged true htrial (by decide))
  · intro falls
    refine ⟨_, exec_onBase hup rfl rfl, ?_⟩
    cases hfalls : falls with
    | true =>
      obtain ⟨hp, hk, hs, hr, hf⟩ := Dev.crashRow_falls hphase hrun hmax hfalls
      exact ⟨hp, hk, hs, hr, fun _ => hf⟩
    | false =>
      obtain ⟨hp, hk, hs, hr⟩ := Dev.crashRow_kiln hphase hrun hmax hparked hafter hfalls
      exact ⟨hp, hk, hs, hr, fun hno => absurd hno Bool.false_ne_true⟩
  · exact exec_onBase hup rfl (Dev.pushStart_bad hphase hchecked hnext rfl hnone hbad)
  · exact exec_onBase hup rfl (Dev.pushStart_fails hphase hchecked hnext rfl hnone hbad)
  · obtain ⟨f, hstart, hst, hretries⟩ := Dev.pushStart_starts hphase hchecked hnext rfl hgood
    exact ⟨_, exec_onBase (g := fun d => d.hubMap f) hup rfl hstart, rfl, rfl, hst, hretries⟩
  · obtain ⟨hfour, himage⟩ := Hub.imageDone_right hst hright
    refine ⟨_, exec_onHub (g := (·.imageDoneBrick x)) hup rfl rfl, rfl, ?_⟩
    rw [State.hubMap_hub, Hub.imageDoneBrick_some htake]
    exact ⟨hfour, himage⟩
  · obtain ⟨hone, hretries⟩ := Hub.imageDone_again hst hwrong hroom
    refine ⟨_, exec_onHub (g := (·.imageDoneBrick x)) hup rfl rfl, rfl, ?_⟩
    rw [State.hubMap_hub, Hub.imageDoneBrick_some htake]
    exact ⟨hone, hretries⟩
  · refine ⟨_, exec_onHub (g := (·.imageDoneBrick x)) hup rfl rfl, rfl, ?_⟩
    rw [State.hubMap_hub, Hub.imageDoneBrick_some htake]
    exact Hub.imageDone_spent hst hwrong hspent
  · exact exec_onHub hup rfl ((Hub.imageTimeout_late hst).trans (Hub.pushRetry_again hroom))
  · exact exec_onHub hup rfl ((Hub.imageTimeout_late hst).trans (Hub.pushRetry_spent hspent))
  · exact exec_onHub hup rfl rfl
  · exact exec_onHub hup rfl (Hub.levelExpiry_falls hlevel hnext)
  · exact exec_onHub hup rfl (Hub.rngFail_stops test.toNat hrng)
  · exact exec_onHub hup rfl (Hub.rngReseed_due hrng hdrawn)
  · exact exec_onBase hup rfl (Dev.otpProgram_unlocked (.revoke k) hlevel)
  · exact exec_onBase hup rfl ((Dev.otpProgram_unlocked (.dk key) hlevel).trans
      (congrArg (Dev.mk s.dev.hub s.dev.mem) (Otp.program_dk key hnone)))
  · exact exec_onBase hup rfl ((Dev.otpProgram_unlocked (.ok0 key) hlevel).trans
      (congrArg (Dev.mk s.dev.hub s.dev.mem) (Otp.program_ok0 key hnone)))
  · exact exec_onBase hup rfl ((Dev.otpProgram_unlocked (.ok1 key) hlevel).trans
      (congrArg (Dev.mk s.dev.hub s.dev.mem) (Otp.program_ok1 key hnone)))
  · exact staysBase rfl ((Dev.otpProgram_unlocked (.dk key) hlevel).trans
      (congrArg (Dev.mk s.dev.hub s.dev.mem) (Otp.program_dk_again key hsome)))
  · exact exec_onHub hup rfl (Hub.jtag_bypassed rfl)
  · exact exec_onHub hup rfl (Hub.jtag_idcode _)
  · exact exec_onHub hup rfl (Hub.jtag_bypassed rfl)
  · exact exec_onHub hup rfl (Hub.jtag_bypassed (JtagInstr.taken_extest hlevel))
  · exact exec_onHub hup rfl (Hub.jtag_bypassed (JtagInstr.taken_intest hlevel))
  · exact exec_onHub hup rfl (Hub.jtag_bypassed (JtagInstr.taken_debug hlevel))
  · exact exec_onHub hup rfl (Hub.jtag_debug hlevel)
  · exact exec_onHub hup rfl ((if_pos hphase).trans (Hub.drainN_all _ _ rfl hfull hmedia hclear hroom))
  · exact ⟨_, exec_onHub (g := (·.eraseComplete true)) hup rfl rfl, rfl, Hub.eraseComplete_ev hclear hwait hmedia⟩
  · exact exec_onHub hup rfl (Hub.wallWrap_some hwall)

end Sys2Proof.Machine
end

section
/-!
Proofs of the family of the tiles: the accesses of the accelerators to tile space (R127, R135, R139, R143).
-/

open Sys2Proof Sys2Proof.Machine

namespace Sys2Proof.Machine

/-! ### The checks of a tile-space brick (R127) -/

section
variable {h : Hub} {x : Nat} {b : Brick}

/-- The accelerator has a lease on the VALID page of the brick's partition that the brick names (R127, checks 2 to 4). -/
def Hub.LeaseHeld (h : Hub) (x : Nat) (b : Brick) : Prop :=
  let page := bits b.addr.toNat 36 16
  b.addr.toNat < 2 ^ 37 ∧ page < h.tableSize ∧ (h.pte page).valid = true ∧ (h.pte page).part = b.part.toNat ∧
    (h.pte page).lessees.testBit x = true

theorem Brick.is_write_of_readReq (hread : b.is .readReq = true) : b.is .write = false := by
  have htyp : b.typ.toNat = BT.readReq.code := by simpa [Brick.is] using hread
  rw [Brick.is, htyp]
  decide

theorem Brick.is_readReq_of_write (hwrite : b.is .write = true) : b.is .readReq = false := by
  have htyp : b.typ.toNat = BT.write.code := by simpa [Brick.is] using hwrite
  rw [Brick.is, htyp]
  decide

theorem Hub.tileCheck_read (hread : b.is .readReq = true) :
    let o := b.addr.toNat % 65536
    let len := leNat (b.payload.take 2)
    h.tileCheck x b = true ↔ h.LeaseHeld x b ∧ b.grout = 254 ∧ 1 ≤ len ∧ len ≤ 4096 ∧ o % 4096 + len ≤ 4096 := by
  simp [Hub.tileCheck, Hub.LeaseHeld, Brick.is_write_of_readReq hread, and_assoc]

theorem Hub.tileCheck_write (hwrite : b.is .write = true) :
    h.tileCheck x b = true ↔ h.LeaseHeld x b ∧ (h.pte (bits b.addr.toNat 36 16)).writer = some x ∧
      b.addr.toNat % 65536 % 4096 + (256 - b.grout.toNat) ≤ 4096 := by
  simp [Hub.tileCheck, Hub.LeaseHeld, hwrite, and_assoc]

/-! ### The group of an access (R143) -/

/-- The physical address that the brick accesses in its page's frame. -/
def Hub.accessAddr (h : Hub) (b : Brick) : Nat := (h.pte (bits b.addr.toNat 36 16)).frame * 65536 + b.addr.toNat % 65536

/-- An access waits for no group where its page is spilled, or where its group is on. -/
theorem Hub.accessGroup_awake
    (hawake : (h.pte (bits b.addr.toNat 36 16)).res = true ∨ h.groupPower (groupOf (h.accessAddr b)) = .on) :
    (h.accessGroup b).filter h.groupAsleep = none := by
  cases hres : (h.pte (bits b.addr.toNat 36 16)).res with
  | true => simp [Hub.accessGroup, hres]
  | false =>
    have hon : h.groupAsleep (groupOf (h.accessAddr b)) = false := by
      simp [Hub.groupAsleep, hawake.resolve_left (by simp [hres])]
    have haccess : h.accessGroup b = some (groupOf (h.accessAddr b)) := by simp [Hub.accessGroup, hres, Hub.accessAddr]
    rw [haccess, Option.filter_some, if_neg (by simp [hon])]

theorem Hub.accessGroup_retained (hres : (h.pte (bits b.addr.toNat 36 16)).res = false)
    (hgroup : h.groupPower (groupOf (h.accessAddr b)) = .retained) :
    (h.accessGroup b).filter h.groupAsleep = some (groupOf (h.accessAddr b)) := by
  have hasleep : h.groupAsleep (groupOf (h.accessAddr b)) = true := by simp [Hub.groupAsleep, hgroup]
  have haccess : h.accessGroup b = some (groupOf (h.accessAddr b)) := by simp [Hub.accessGroup, hres, Hub.accessAddr]
  rw [haccess, Option.filter_some, if_pos hasleep]

/-- The first access that waits for a group in RETAIN wakes it, and is counted. -/
theorem Hub.waitWake_retained {g vc : Nat} (hgroup : h.groupPower g = .retained)
    (hnew : h.tile.wakeWait.contains (x, vc) = false) :
    h.waitWake g x vc = ({ h.setGroup g .waking with tile := { (h.setGroup g .waking).tile with
      wakeWait := h.tile.wakeWait ++ [(x, vc)] } } : Hub).bump 0x400020 := by
  unfold Hub.waitWake
  rw [if_pos hgroup]
  exact if_neg (by simpa [Hub.setGroup] using hnew)

end

/-! ### The oldest brick of a port on a VC (R127) -/

/-- The hub with the bricks that remain at its units. -/
def Hub.withInbox (h : Hub) (rest : List InItem) : Hub := { h with fab := { h.fab with inbox := rest } }

/-- The buffer of a tile-space brick is free again: its credit falls due, and its port waits for no group on the VC. -/
def Hub.tileTaken (h : Hub) (rest : List InItem) (x vc : Nat) : Hub :=
  ({ h.withInbox rest with tile := { h.tile with wakeWait := h.tile.wakeWait.erase (x, vc) } } : Hub).owe x vc

section
variable {d : Dev} {x vc : Nat} {i : InItem} {rest : List InItem} {t : BT} (ecc : EccReport)
  (htake : takeFirst (fun i => i.unit == 0x30 && i.port == x && i.brick.vc.toNat == vc) d.hub.fab.inbox = some (i, rest))
  (htype : i.brick.is t = true)
include htake htype

theorem Dev.serveTile_refuses (hcheck : d.hub.tileCheck x i.brick ≠ true) :
    d.serveTile x vc ecc (some t) false = d.hubMap fun h => (h.withInbox rest).refuseBrick x i.brick := by
  have hfails : d.hub.tileCheck x i.brick = false := by simpa using hcheck
  simp only [Dev.serveTile, htake, htype, hfails, Bool.not_true, Bool.false_eq_true, if_false, Bool.not_false, if_true]
  rfl

theorem Dev.serveTile_serves (hcheck : d.hub.tileCheck x i.brick = true)
    (hawake : (d.hub.accessGroup i.brick).filter d.hub.groupAsleep = none) :
    d.serveTile x vc ecc (some t) false = if i.brick.is .readReq then (d.hubMap (·.tileTaken rest x vc)).serveRead x i.brick ecc
      else (d.hubMap (·.tileTaken rest x vc)).serveWrite x i.brick ecc := by
  simp only [Dev.serveTile, htake, htype, hcheck, hawake, Bool.not_true, Bool.false_eq_true, if_false, Option.isSome_none,
    Bool.false_and]
  rfl

theorem Dev.serveTile_waits {g : Nat} (hcheck : d.hub.tileCheck x i.brick = true)
    (hasleep : (d.hub.accessGroup i.brick).filter d.hub.groupAsleep = some g) :
    d.serveTile x vc ecc (some t) false = d.hubMap (·.waitWake g x vc) := by
  simp only [Dev.serveTile, htake, htype, hcheck, hasleep, Bool.not_true, Bool.false_eq_true, if_false, Option.isSome_some,
    Bool.not_false, Bool.and_self, if_true, Option.getD_some]

end

section
variable {d : Dev} {x vc : Nat} {i : InItem} {rest : List InItem} (ecc : EccReport)
  (htake : takeFirst (fun i => i.unit == 0x30 && i.port == x && i.brick.vc.toNat == vc) d.hub.fab.inbox = some (i, rest))
  (hcheck : d.hub.tileCheck x i.brick = true)
  (hawake : (d.hub.pte (bits i.brick.addr.toNat 36 16)).res = true ∨
    d.hub.groupPower (groupOf (d.hub.accessAddr i.brick)) = .on)
include htake hcheck hawake

theorem Dev.serveTile_reads (hread : i.brick.is .readReq = true) :
    d.serveTile x vc ecc (some .readReq) false = (d.hubMap (·.tileTaken rest x vc)).serveRead x i.brick ecc :=
  (Dev.serveTile_serves ecc htake hread hcheck (Hub.accessGroup_awake hawake)).trans (if_pos hread)

theorem Dev.serveTile_writes (hwrite : i.brick.is .write = true) :
    d.serveTile x vc ecc (some .write) false = (d.hubMap (·.tileTaken rest x vc)).serveWrite x i.brick ecc :=
  (Dev.serveTile_serves ecc htake hwrite hcheck (Hub.accessGroup_awake hawake)).trans
    (if_neg (Bool.eq_false_iff.1 (Brick.is_readReq_of_write hwrite)))

end

/-! ### The bytes of a page (R127, R135, R139) -/

/-- An access in which ECC and the tag find nothing leaves the hub as it was. -/
theorem Hub.pageEcc_clean (h : Hub) (page o : Nat) : h.pageEcc page o {} = h := by
  unfold Hub.pageEcc
  cases hres : (h.pte page).res with
  | true => simp [hres]
  | false => simp [hres, Hub.countCe, Hub.noteBad]

section
variable {d : Dev} {page o n : Nat} (req : Nat)

/-- A spilled page meets no word of a tile. -/
theorem Dev.pageData_spilled (hres : (d.hub.pte page).res = true) (hgood : (d.hub.pte page).poison = false) :
    d.pageData page o n req = (d, d.mem.spill.readN ((d.hub.pte page).frame * 65536 + o) n, false) := by
  simp [Dev.pageData, Dev.readPage, hres, hgood]

theorem Dev.pageData_poisoned (hres : (d.hub.pte page).res = true) (hbad : (d.hub.pte page).poison = true) :
    d.pageData page o n req = (d.hubMap (·.tick), (List.range n).map (Config.badData d.hub.free), true) := by
  simp [Dev.pageData, hres, hbad]

theorem Dev.pageData_tile (hres : (d.hub.pte page).res = false) (hgood : (d.hub.pte page).poison = false)
    (hue : d.hub.ueIn ((d.hub.pte page).frame * 65536 + o) n = none) :
    d.pageData page o n req = (d, d.mem.tile.readN ((d.hub.pte page).frame * 65536 + o) n, false) := by
  simp [Dev.pageData, Dev.readPage, hres, hgood, hue]

end

/-! ### The answer to a read (R127) -/

/-- The READ_RESP bricks with the data of a read leave toward its sender, and its page has been accessed. -/
def Hub.answerRead (h : Hub) (x : Nat) (b : Brick) (src : Nat) (poison : Bool) (data : List Byte) : Hub :=
  let rs := mkBricks .readResp (pairVc b.vc.toNat) b.part.toNat b.stream.toNat x src 0 data
  (h.touch (bits b.addr.toNat 36 16)).sendAll x 0x30 (((List.range rs.length).zip rs).map fun (k, r) =>
    { r with addr := BitVec.ofNat 48 (b.addr.toNat + 256 * k), poison })

theorem Dev.serveRead_clean {d d' : Dev} {x : Nat} {b : Brick} {data : List Byte} {bad : Bool}
    (hdata : d.pageData (bits b.addr.toNat 36 16) (b.addr.toNat % 65536) (leNat (b.payload.take 2)) x = (d', data, bad)) :
    d.serveRead x b {} =
      d'.hubMap (·.answerRead x b ((d.hub.pte (bits b.addr.toNat 36 16)).src (b.addr.toNat % 65536)) bad data) := by
  have hecc : d.hubMap (·.pageEcc (bits b.addr.toNat 36 16) (b.addr.toNat % 65536) {}) = d :=
    congrArg (fun h => Dev.mk h d.mem d.otp) (Hub.pageEcc_clean ..)
  unfold Dev.serveRead
  simp only [hecc, hdata]
  rfl

/-- Settles O23: the brick at the front is refused, served or left waiting as its check and its group's power say, and a read's
answer follows from where its page lies. -/
theorem tileAccessesServed : Obligations.TileAccessesServed := by
  intro s x vc5 ecc i rest hup h vc b page o e g len lease readOk writeOk awake taken served answer htake
  have hserved (hread : b.is .readReq = true) (hlease : lease) (hok : readOk) (hawake : awake) (ecc : EccReport) :
      exec (.readReq x vc5 ecc) s = .next (s.devMap fun d => (d.hubMap served).serveRead x b ecc) :=
    exec_onBase hup rfl (Dev.serveTile_reads ecc htake ((Hub.tileCheck_read hread).2 ⟨hlease, hok⟩) hawake hread)
  refine ⟨fun hread => ⟨fun hlease hok hawake => ⟨?_, ?_, ?_, hserved hread hlease hok hawake ecc⟩, fun hnot => ?_⟩,
    fun hwrite => ⟨fun hlease hok hawake => ?_, fun hnot => ?_, fun hlease hok hres hgroup hnew => ?_⟩⟩
  · rintro hres hgood rfl hue
    refine (hserved hread hlease hok hawake {}).trans (congrArg _ (State.devMap_congr ?_))
    have hsrc : e.src o = 0x40 + g := if_neg (by simp [hres])
    rw [← hsrc]
    exact Dev.serveRead_clean (Dev.pageData_tile (d := s.dev.hubMap served) x hres hgood hue)
  · rintro hres hgood rfl
    refine (hserved hread hlease hok hawake {}).trans (congrArg _ (State.devMap_congr ?_))
    have hsrc : e.src o = 0x31 := if_pos hres
    rw [← hsrc]
    exact Dev.serveRead_clean (Dev.pageData_spilled (d := s.dev.hubMap served) x hres hgood)
  · rintro hres hbad rfl
    refine (hserved hread hlease hok hawake {}).trans (congrArg _ (State.devMap_congr ?_))
    have hsrc : e.src o = 0x31 := if_pos hres
    rw [← hsrc]
    exact Dev.serveRead_clean (Dev.pageData_poisoned (d := s.dev.hubMap served) x hres hbad)
  · exact exec_onBase hup rfl (Dev.serveTile_refuses ecc htake hread fun hcheck => hnot ((Hub.tileCheck_read hread).1 hcheck))
  · exact exec_onBase hup rfl (Dev.serveTile_writes ecc htake ((Hub.tileCheck_write hwrite).2 ⟨hlease, hok⟩) hawake hwrite)
  · exact exec_onBase hup rfl (Dev.serveTile_refuses ecc htake hwrite fun hcheck => hnot ((Hub.tileCheck_write hwrite).1 hcheck))
  · refine exec_onBase hup rfl ((Dev.serveTile_waits ecc htake hwrite ((Hub.tileCheck_write hwrite).2 ⟨hlease, hok⟩)
      (Hub.accessGroup_retained hres hgroup)).trans ?_)
    exact Dev.hubMap_congr (Hub.waitWake_retained hgroup hnew)

end Sys2Proof.Machine
end

section
/-!
Proofs of the family of the tiles: what the errors of words leave alone (R139, R141), and the bytes that a write stores (R127,
R139).
-/

open Sys2Proof Sys2Proof.Machine

namespace Sys2Proof.Machine

/-! ### What the errors of words leave of the tile block (R135, R139, R141) -/

/-- What noting errors and waking groups leave: everything but the tiles, the lists of boot repair, the uncorrectable words and
the groups' power. -/
def Tiles.NotedFrom (t' t : Tiles) : Prop :=
  ∃ tile spareBad failList ue group,
    t' = { t with tile := tile, spareBad := spareBad, failList := failList, ue := ue, group := group }

theorem Tiles.NotedFrom.refl (t : Tiles) : t.NotedFrom t := ⟨_, _, _, _, _, rfl⟩

theorem Tiles.NotedFrom.trans {a b c : Tiles} (h1 : a.NotedFrom b) (h2 : b.NotedFrom c) : a.NotedFrom c := by
  obtain ⟨_, _, _, _, _, rfl⟩ := h1
  obtain ⟨_, _, _, _, _, rfl⟩ := h2
  exact ⟨_, _, _, _, _, rfl⟩

theorem Tiles.NotedFrom.of_eq {a b : Tiles} (e : a = b) : a.NotedFrom b := e ▸ .refl a

theorem Tiles.NotedFrom.pte {t' t : Tiles} (h : t'.NotedFrom t) : t'.pte = t.pte := by
  obtain ⟨_, _, _, _, _, rfl⟩ := h
  rfl

theorem Tiles.NotedFrom.moves {t' t : Tiles} (h : t'.NotedFrom t) : t'.moves = t.moves := by
  obtain ⟨_, _, _, _, _, rfl⟩ := h
  rfl

theorem Hub.pte_of_notedFrom {h' h : Hub} (hn : h'.tile.NotedFrom h.tile) (p : Nat) : h'.pte p = h.pte p :=
  congrArg (fun t : Tbl Pte => Tbl.get ({} : Pte) t p) hn.pte

/-- A loop whose every step only notes errors only notes errors. -/
theorem Tiles.NotedFrom.foldl {α : Type} {f : Hub → α → Hub} (hf : ∀ h a, (f h a).tile.NotedFrom h.tile) (l : List α)
    (h : Hub) : (l.foldl f h).tile.NotedFrom h.tile := by
  induction l generalizing h with
  | nil => exact .refl _
  | cons a l ih => exact (ih _).trans (hf h a)

section
variable (h : Hub) (n : Nat)

theorem Hub.listFailed_notedFrom : (h.listFailed n).tile.NotedFrom h.tile := by
  unfold Hub.listFailed
  split <;> exact ⟨_, _, _, _, _, rfl⟩

theorem Hub.updTile_notedFrom (f : Tile → Tile) : (h.updTile n f).tile.NotedFrom h.tile := ⟨_, _, _, _, _, rfl⟩

theorem Hub.failTile_notedFrom : (h.failTile n).tile.NotedFrom h.tile :=
  (Tiles.NotedFrom.of_eq (Hub.event_tile ..)).trans ((Hub.listFailed_notedFrom ..).trans (Hub.updTile_notedFrom ..))

theorem Hub.flagTile_notedFrom : (h.flagTile n).tile.NotedFrom h.tile := by
  unfold Hub.flagTile
  dsimp only
  split
  · exact .refl _
  · split
    · exact (Hub.failTile_notedFrom ..).trans (Hub.updTile_notedFrom ..)
    · exact (Tiles.NotedFrom.of_eq (Hub.event_tile ..)).trans ((Hub.listFailed_notedFrom ..).trans (Hub.updTile_notedFrom ..))

theorem Hub.countCe_notedFrom (k : Nat) : (h.countCe n k).tile.NotedFrom h.tile := by
  unfold Hub.countCe
  dsimp only
  split
  · exact .refl _
  · split
    · exact (Hub.flagTile_notedFrom ..).trans (Hub.updTile_notedFrom ..)
    · exact Hub.updTile_notedFrom ..

theorem Hub.noteBad_notedFrom (bad : List Nat) : (h.noteBad bad).tile.NotedFrom h.tile := by
  refine Tiles.NotedFrom.foldl (fun h a => (Hub.flagTile_notedFrom ..).trans ?_) bad h
  split
  · exact .refl _
  · exact ⟨_, _, _, _, _, rfl⟩

theorem Hub.wakeNow_notedFrom : (h.wakeNow n).tile.NotedFrom h.tile := by
  unfold Hub.wakeNow
  split
  · exact ⟨_, _, _, _, _, rfl⟩
  · exact .refl _

@[simp] theorem Hub.faultMet_tile (code : Nat) : (h.faultMet code).tile = h.tile := by
  unfold Hub.faultMet
  split
  · rfl
  · simp only [Hub.event_tile, Hub.flag_tile]

@[simp] theorem Hub.ueRead_tile (a req : Nat) : (h.ueRead a req).tile = h.tile := by simp [Hub.ueRead]

/-! ### What a corrected word leaves of the uncorrectable ones -/

@[simp] theorem Hub.listFailed_ue : (h.listFailed n).tile.ue = h.tile.ue := by
  unfold Hub.listFailed
  split <;> rfl

@[simp] theorem Hub.updTile_ue (f : Tile → Tile) : (h.updTile n f).tile.ue = h.tile.ue := rfl

@[simp] theorem Hub.flagTile_ue : (h.flagTile n).tile.ue = h.tile.ue := by
  unfold Hub.flagTile Hub.failTile
  dsimp only
  (repeat' split) <;> simp

@[simp] theorem Hub.countCe_ue (k : Nat) : (h.countCe n k).tile.ue = h.tile.ue := by
  unfold Hub.countCe
  dsimp only
  (repeat' split) <;> simp

end

/-! ### What ECC and the tag of an access change (R135, R139) -/

section
variable (h : Hub) (page o : Nat) (ecc : EccReport)

/-- A tag that does not match poisons its page, and no other field of its entry changes. -/
theorem Hub.tagFail_pte (unit : Nat) : (h.tagFail page unit).pte page = { h.pte page with poison := true } := by
  simp [Hub.tagFail]

/-- Of the page's entry an access changes the poison at most. -/
theorem Hub.pageEcc_pte : ∃ poison, (h.pageEcc page o ecc).pte page = { h.pte page with poison } := by
  unfold Hub.pageEcc
  dsimp only
  split
  · split
    · exact ⟨_, Hub.tagFail_pte ..⟩
    · exact ⟨_, rfl⟩
  · exact ⟨_, Hub.pte_of_notedFrom ((Hub.noteBad_notedFrom ..).trans (Hub.countCe_notedFrom ..)) page⟩

/-- An access that meets no new uncorrectable word leaves those that there are. -/
theorem Hub.pageEcc_ue (hbad : ecc.bad = []) : (h.pageEcc page o ecc).tile.ue = h.tile.ue := by
  unfold Hub.pageEcc Hub.tagFail
  rw [hbad]
  dsimp only [Hub.noteBad, List.foldl]
  (repeat' split) <;> simp [Hub.updPte]

end

/-! ### The bytes that a write stores (R127, R139) -/

/-- The memories with bytes written to the page's frame. -/
def Memories.stored (m : Memories) (e : Pte) (o : Nat) (bs : List Byte) : Memories :=
  if e.res then { m with spill := m.spill.writeN (e.frame * 65536 + o) bs }
  else { m with tile := m.tile.writeN (e.frame * 65536 + o) bs }

section
variable (m : Memories) (e : Pte) (o : Nat) (bs : List Byte)

/-- Bytes stored are read back from the memory that holds the page, and no other byte has changed. -/
theorem Memories.stored_reads :
    let a := e.frame * 65536 + o
    let m' := m.stored e o bs
    m'.flash = m.flash ∧ (e.res = true → m'.tile = m.tile) ∧ (e.res = false → m'.spill = m.spill) ∧
      (e.res = false → m'.tile.readN a bs.length = bs ∧
        ∀ c, (c < a ∨ a + bs.length ≤ c) → m'.tile.read c = m.tile.read c) ∧
      (e.res = true → m'.spill.readN a bs.length = bs ∧
        ∀ c, (c < a ∨ a + bs.length ≤ c) → m'.spill.read c = m.spill.read c) := by
  intro a m'
  have hread (k : Mem) : (k.writeN a bs).readN a bs.length = bs ∧
      ∀ c, (c < a ∨ a + bs.length ≤ c) → (k.writeN a bs).read c = k.read c :=
    ⟨k.readN_writeN a bs, fun c hc => hc.elim (k.read_writeN_below bs) (k.read_writeN_above bs)⟩
  cases hres : e.res with
  | true =>
    have hm : m' = { m with spill := m.spill.writeN a bs } := if_pos hres
    rw [hm]
    exact ⟨rfl, fun _ => rfl, nofun, nofun, fun _ => hread _⟩
  | false =>
    have hm : m' = { m with tile := m.tile.writeN a bs } := if_neg (Bool.eq_false_iff.1 hres)
    rw [hm]
    exact ⟨rfl, nofun, fun _ => rfl, fun _ => hread _, nofun⟩

end

/-- Where no word is uncorrectable, every byte written to a page is stored. -/
theorem Dev.pageWrite_stores {d : Dev} (hue : d.hub.tile.ue = []) (page o : Nat) (bs : List Byte) (req : Nat) :
    d.pageWrite page o bs req = ({ d with mem := d.mem.stored (d.hub.pte page) o bs }, false) := by
  have hpartial : d.hub.uePartial ((d.hub.pte page).frame * 65536 + o) bs.length = none := by simp [Hub.uePartial, hue]
  cases hres : (d.hub.pte page).res with
  | true => simp [Dev.pageWrite, Dev.writePage, Memories.stored, Dev.hubMap, hres]
  | false => simp [Dev.pageWrite, Dev.writePage, Dev.putTile, Memories.stored, Dev.hubMap, hres, hpartial, hue]

/-- A WRITE brick's page is accessed, and its word's errors are met, before its bytes are stored. -/
def Hub.writeMet (h : Hub) (b : Brick) (ecc : EccReport) : Hub :=
  let page := bits b.addr.toNat 36 16
  (if b.first then h.touch page else h).pageEcc page (b.addr.toNat % 65536) ecc

section
variable (h : Hub) (b : Brick) (ecc : EccReport)

theorem Hub.writeMet_pte :
    ∃ acc poison, (h.writeMet b ecc).pte (bits b.addr.toNat 36 16) = { h.pte (bits b.addr.toNat 36 16) with acc, poison } := by
  obtain ⟨poison, hecc⟩ := (if b.first then h.touch (bits b.addr.toNat 36 16) else h).pageEcc_pte (bits b.addr.toNat 36 16)
    (b.addr.toNat % 65536) ecc
  unfold Hub.writeMet
  rw [hecc]
  split
  · exact ⟨sat 63 ((h.pte (bits b.addr.toNat 36 16)).acc + 1), poison, by simp only [Hub.touch, Hub.pte_updPte]⟩
  · exact ⟨_, poison, rfl⟩

theorem Hub.writeMet_ue (hbad : ecc.bad = []) : (h.writeMet b ecc).tile.ue = h.tile.ue := by
  unfold Hub.writeMet
  rw [Hub.pageEcc_ue _ _ _ _ hbad]
  split <;> rfl

end

section
variable {d : Dev} (x : Nat) {b : Brick} (ecc : EccReport)

/-- A poisoned brick stores nothing (R66, R127). -/
theorem Dev.serveWrite_poisoned (hpoison : b.poison = true) : ∃ k, d.serveWrite x b ecc = { d with hub := k } := by
  unfold Dev.serveWrite
  rw [hpoison]
  exact ⟨_, rfl⟩

theorem Dev.serveWrite_stores (hpoison : b.poison = false) (hue : d.hub.tile.ue = []) (hbad : ecc.bad = []) :
    ∃ k, d.serveWrite x b ecc =
      { d with hub := k, mem := d.mem.stored (d.hub.pte (bits b.addr.toNat 36 16)) (b.addr.toNat % 65536) b.data } := by
  obtain ⟨acc, poison, hpte⟩ := d.hub.writeMet_pte b ecc
  have hwrite := Dev.pageWrite_stores (d := d.hubMap (·.writeMet b ecc)) ((d.hub.writeMet_ue b ecc hbad).trans hue)
    (bits b.addr.toNat 36 16) (b.addr.toNat % 65536) b.data x
  rw [Dev.hubMap_hub, hpte] at hwrite
  unfold Dev.serveWrite
  simp only [hpoison, Bool.false_eq_true, if_false]
  exact ⟨_, (congrArg (fun w : Dev × Bool => w.1.hubMap _) hwrite).trans rfl⟩

end

/-- Settles O24: a write that its check lets pass is served, and its service stores the brick's bytes in its page's frame, or
nothing where the brick is poisoned. -/
theorem tileWriteStoresItsBytes : Obligations.TileWriteStoresItsBytes := by
  intro s x vc5 ecc i rest hup h b e a htake hwrite hcheck hawake _ _ hue hbad
  have hserve : exec (.write x vc5 ecc) s =
      .next (s.devMap fun d => (d.hubMap (·.tileTaken rest x (if vc5 then 5 else 0))).serveWrite x b ecc) :=
    exec_onBase hup rfl (Dev.serveTile_writes ecc htake hcheck hawake hwrite)
  refine ⟨_, hserve, ?_⟩
  rw [State.devMap_dev, State.devMap_pending]
  cases hpoison : b.poison with
  | true =>
    obtain ⟨k, hk⟩ := Dev.serveWrite_poisoned (d := s.dev.hubMap (·.tileTaken rest x (if vc5 then 5 else 0))) x ecc hpoison
    rw [hk]
    exact ⟨rfl, rfl, rfl, fun _ => rfl, fun _ => rfl, fun _ => rfl, nofun⟩
  | false =>
    obtain ⟨k, hk⟩ :=
      Dev.serveWrite_stores (d := s.dev.hubMap (·.tileTaken rest x (if vc5 then 5 else 0))) x ecc hpoison hue hbad
    obtain ⟨hflash, htile, hspill, hread⟩ := s.dev.mem.stored_reads e (b.addr.toNat % 65536) b.data
    rw [hk]
    exact ⟨rfl, hflash, rfl, nofun, htile, hspill, fun _ => hread⟩

end Sys2Proof.Machine
end

section
/-!
Proofs of the family of the tiles: the host's window BAR4 (R132, R135, R139), and the hods of pages (R131, R146).
-/

open Sys2Proof Sys2Proof.Machine

namespace Sys2Proof.Machine

/-! ### The host's window (R132) -/

section
variable {d : Dev} {m : Master} {addr : Nat}

/-- The page in the window is VALID, and a VF's own (R132). -/
def Hub.InWindow (h : Hub) (m : Master) (addr : Nat) : Prop :=
  let e := h.pte (addr / 65536)
  e.valid = true ∧ addr / 65536 < h.tableSize ∧ ∀ v, m = .vf v → e.part = v.val

/-- The check of a host access passes exactly where the page is in the master's window. -/
theorem Hub.inWindow_iff (h : Hub) : h.InWindow m addr ↔
    ((h.pte (addr / 65536)).valid && (match m with | .vf v => (h.pte (addr / 65536)).part == v.val | _ => true) &&
      decide (addr / 65536 < h.tableSize)) = true := by
  cases m <;> simp [Hub.InWindow, and_comm, and_assoc]

/-- The host access finds its group awake, or its page in spill memory. -/
def Hub.windowAwake (h : Hub) (addr : Nat) : Prop :=
  let e := h.pte (addr / 65536)
  e.res = true ∨ h.groupAsleep (groupOf (e.frame * 65536 + addr % 65536)) = false

/-- Such an access, in which ECC and the tag find nothing, leaves the hub as it was. -/
theorem Hub.windowMet_clean {h : Hub} (hawake : h.windowAwake addr) :
    (if (h.pte (addr / 65536)).res then h else h.wakeNow (groupOf ((h.pte (addr / 65536)).frame * 65536 + addr % 65536))).pageEcc
      (addr / 65536) (addr % 65536) {} = h := by
  rw [Hub.pageEcc_clean]
  split
  · rfl
  · next hres => exact if_neg (Bool.eq_false_iff.1 (hawake.resolve_left hres))

/-- The hub with what a host read returned. -/
def Hub.windowRead (h : Hub) (poison : Bool) (bytes : List Byte) : Hub :=
  { h with rb := { h.rb with rdata := BitVec.ofNat 64 (leNat bytes), barPoison := poison } }

theorem Dev.bar4_reads {n : Nat} {d' : Dev} {data : List Byte} {bad : Bool} (hown : d.hub.InWindow m addr)
    (hawake : d.hub.windowAwake addr) (hdata : d.pageData (addr / 65536) (addr % 65536) n 0xFF = (d', data, bad)) :
    d.bar4 m { addr } none n = d'.hubMap (·.windowRead bad data) := by
  have hmet := congrArg (fun h => Dev.mk h d.mem d.otp) (Hub.windowMet_clean hawake)
  refine (if_pos ((Hub.inWindow_iff _).1 hown)).trans ((congrArg (fun d : Dev =>
    let r := d.pageData (addr / 65536) (addr % 65536) n 0xFF
    r.1.hubMap (·.windowRead r.2.2 r.2.1)) hmet).trans ?_)
  simp only [hdata]

theorem Dev.bar4_writes {bs : List Byte} (n : Nat) (hown : d.hub.InWindow m addr) (hawake : d.hub.windowAwake addr) :
    d.bar4 m { addr } (some bs) n = (d.pageWrite (addr / 65536) (addr % 65536) bs 0xFF).1 := by
  have hmet := congrArg (fun h => Dev.mk h d.mem d.otp) (Hub.windowMet_clean hawake)
  refine (if_pos ((Hub.inWindow_iff _).1 hown)).trans ?_
  exact congrArg (fun d : Dev => (d.pageWrite (addr / 65536) (addr % 65536) bs 0xFF).1) hmet

theorem Dev.bar4_ignores (wr : Option (List Byte)) (n : Nat) (hown : ¬d.hub.InWindow m addr) :
    d.bar4 m { addr } wr n = d.hubMap fun h =>
      if wr.isNone then { h.bump 0x400028 with rb := { (h.bump 0x400028).rb with rdata := 0, barPoison := false } }
      else h.bump 0x400028 :=
  if_neg fun hcheck => hown ((Hub.inWindow_iff _).2 hcheck)

end

/-! ### Writes of the window (R132, R139) -/

section
variable {d : Dev} {page : Nat} (o : Nat) (bs : List Byte) (req : Nat)

theorem Hub.ueIn_nil {h : Hub} (hue : h.tile.ue = []) (a n : Nat) : h.ueIn a n = none := by simp [Hub.ueIn, hue]

theorem Dev.pageWrite_spilled (hres : (d.hub.pte page).res = true) : (d.pageWrite page o bs req).1 =
    { d with mem := { d.mem with spill := d.mem.spill.writeN ((d.hub.pte page).frame * 65536 + o) bs } } := by
  simp [Dev.pageWrite, Dev.writePage, Dev.hubMap, hres]

theorem Dev.pageWrite_tile (hres : (d.hub.pte page).res = false) (hue : d.hub.tile.ue = []) :
    (d.pageWrite page o bs req).1 = d.putTile ((d.hub.pte page).frame * 65536 + o) bs := by
  simp [Dev.pageWrite, Dev.writePage, Dev.hubMap, Hub.uePartial, hres, hue]

end

/-! ### From the opcodes to the hods of pages (R399) -/

section
variable {d : Dev} {q : HodReq}

/-- A request of the blocks of tiles and spill takes effect on tiles and pages. -/
theorem Dev.effect_tile (hblock : q.op / 256 = 0x04 ∨ q.op / 256 = 0x05) : d.effect q = d.effectTile q := by
  rcases hblock with h | h <;> simp only [Dev.effect, h]

theorem Dev.effect_pageAlloc {part n pin : Nat} (hop : q.op = 0x0401) (hargs : q.args = [.u8 part, .u16 n, .u8 pin])
    (hpin : pin ≤ 1) (hn : 1 ≤ n ∧ n ≤ 256) : d.effect q = pageAllocHod q part n (pin == 1) d := by
  have hnums : q.num 0 = part ∧ q.num 1 = n ∧ q.num 2 = pin := by simp [HodReq.num, hargs]
  obtain ⟨h0, h1, h2⟩ := hnums
  have hcount : ¬(n = 0 ∨ 256 < n) := by omega
  rw [Dev.effect_tile (Or.inl (by omega))]
  simp only [Dev.effectTile, hop, HodReq.choice_le (h2 ▸ hpin), h0, h1, h2, if_neg hcount]

theorem Dev.effect_pageFree {ps : List Nat} (hop : q.op = 0x0402) (hargs : q.args = [.list 4 ps]) (hlen : ps.length ≤ 256) :
    d.effect q = pageFreeHod q ps d := by
  have hps : q.entries 0 = ps := by simp [HodReq.entries, hargs]
  rw [Dev.effect_tile (Or.inl (by omega))]
  simp only [Dev.effectTile, hop, hps, if_neg (Nat.not_lt.2 hlen)]

theorem Dev.effect_leaseSet {p lessees writer : Nat} (hop : q.op = 0x0403) (hargs : q.args = [.u32 p, .u8 lessees, .u8 writer]) :
    d.effect q = leaseSetHod q p lessees writer d := by
  rw [Dev.effect_tile (Or.inl (by omega))]
  simp [Dev.effectTile, hop, HodReq.num, hargs]

theorem Dev.effect_pagePin {p unpin : Nat} (hop : q.op = 0x0404) (hargs : q.args = [.u32 p, .u8 unpin]) (hunpin : unpin ≤ 1) :
    d.effect q = pagePinHod q p (unpin == 1) d := by
  have hnums : q.num 0 = p ∧ q.num 1 = unpin := by simp [HodReq.num, hargs]
  obtain ⟨h0, h1⟩ := hnums
  rw [Dev.effect_tile (Or.inl (by omega))]
  simp only [Dev.effectTile, hop, HodReq.choice_le (h1 ▸ hunpin), h0, h1]

theorem Dev.effect_pteRead {p : Nat} (hop : q.op = 0x0405) (hargs : q.args = [.u32 p]) : d.effect q = pteReadHod q p d := by
  rw [Dev.effect_tile (Or.inl (by omega))]
  simp [Dev.effectTile, hop, HodReq.num, hargs]

theorem Dev.effect_pageMove {p demote : Nat} (hop : q.op = 0x0501) (hargs : q.args = [.u32 p, .u8 demote])
    (hdemote : demote ≤ 1) : d.effect q = pageMoveHod q p (demote == 1) d := by
  have hnums : q.num 0 = p ∧ q.num 1 = demote := by simp [HodReq.num, hargs]
  obtain ⟨h0, h1⟩ := hnums
  rw [Dev.effect_tile (Or.inr (by omega))]
  simp only [Dev.effectTile, hop, HodReq.choice_le (h1 ▸ hdemote), h0, h1]

end

/-! ### What the hods of pages do (R146) -/

section
variable {d : Dev} {q : HodReq} {p : Nat}

theorem pageAllocHod_allocates {part n : Nat} {pin : Bool} {ps : List Nat} {h : Hub}
    (halloc : d.hub.allocPages (q.part part) pin n = some (ps, h)) : pageAllocHod q part n pin d =
      (ps.foldl (fun d p => d.zeroFrame (h.pte p).res (h.pte p).frame) { d with hub := h }, .ok [.list 4 ps]) := by
  simp only [pageAllocHod, halloc]

theorem pageFreeHod_frees {ps : List Nat} (hpages : ∀ p ∈ ps, d.hub.ownPage q p = true ∧ d.hub.validPage p = true) :
    pageFreeHod q ps d = (ps.foldl (fun d p => d.freePage p) d, .ok []) := by
  have hown : ps.all (d.hub.ownPage q) = true := List.all_eq_true.2 fun p hp => (hpages p hp).1
  have hvalid : ps.all d.hub.validPage = true := List.all_eq_true.2 fun p hp => (hpages p hp).2
  simp only [pageFreeHod, hown, hvalid, Bool.not_true, Bool.false_eq_true, if_false]

theorem pteReadHod_answers (hown : d.hub.ownPage q p = true) (hp : p < d.hub.tableSize) :
    pteReadHod q p d = (d, .ok [.u64 (if (d.hub.pte p).valid then (d.hub.pte p).bits else 0)]) := by
  simp only [pteReadHod, hown, Bool.not_true, Bool.false_eq_true, if_false, if_neg (Nat.not_le.2 hp)]

section
variable (hown : d.hub.ownPage q p = true) (hvalid : d.hub.validPage p = true)
include hown hvalid

theorem leaseSetHod_sets {lessees writer : Nat} (hwriter : writer.testBit 3 = true → lessees.testBit (writer % 8) = true)
    (hroom : (d.hub.pte p).lessees = 0 → lessees ≠ 0 → d.hub.leaseUsed < 65536) : leaseSetHod q p lessees writer d =
      (d.hubMap (·.updPte p fun e => { e with
        lessees, writer := if writer.testBit 3 then some (writer % 8) else none }), .ok []) := by
  have hlessee : ¬(writer.testBit 3 && !lessees.testBit (writer % 8)) = true := by
    simpa using hwriter
  have hstore : ¬((d.hub.pte p).lessees = 0 ∧ lessees ≠ 0 ∧ 65536 ≤ d.hub.leaseUsed) :=
    fun hfull => Nat.not_le.2 (hroom hfull.1 hfull.2.1) hfull.2.2
  simp only [leaseSetHod, hown, hvalid, Bool.not_true, Bool.false_eq_true, if_false, if_neg hlessee, if_neg hstore]

theorem pagePinHod_unpins :
    pagePinHod q p true d = (d.hubMap (·.updPte p fun e => { e with pin := false }), .ok []) := by
  simp only [pagePinHod, hown, hvalid, Bool.not_true, Bool.false_eq_true, if_false, if_true]

theorem pagePinHod_pins (hstays : (d.hub.pte p).res = (d.hub.pte p).moving) :
    pagePinHod q p false d = (d.hubMap (·.updPte p fun e => { e with pin := true }), .ok []) := by
  simp only [pagePinHod, hown, hvalid, Bool.not_true, Bool.false_eq_true, if_false, hstays, Bool.and_not_self, Bool.not_and_self]

/-- A page whose demotion is in progress is promoted again (R137). -/
theorem pagePinHod_returns (hres : (d.hub.pte p).res = false) (hmoving : (d.hub.pte p).moving = true) :
    pagePinHod q p false d = (d.hubMap fun h => (h.updPte p fun e => { e with pin := true }).askMove p false, .ok []) := by
  simp only [pagePinHod, hown, hvalid, hres, hmoving, Bool.not_true, Bool.not_false, Bool.false_and, Bool.and_true,
    Bool.false_eq_true, if_false, if_true]

/-- A spilled page is promoted where a tile frame is free. -/
theorem pagePinHod_promotes (hres : (d.hub.pte p).res = true) (hmoving : (d.hub.pte p).moving = false)
    (hfree : d.hub.placeTile (d.hub.pte p).part ≠ none) :
    pagePinHod q p false d = (d.hubMap fun h => (h.updPte p fun e => { e with pin := true }).askMove p false, .ok []) := by
  have hplace : (d.hub.placeTile (d.hub.pte p).part).isNone = false :=
    Bool.eq_false_iff.2 fun hnone => hfree (Option.isNone_iff_eq_none.1 hnone)
  simp only [pagePinHod, hown, hvalid, hres, hmoving, hplace, Bool.not_true, Bool.not_false, Bool.and_true,
    Bool.false_eq_true, if_false, if_true]

theorem pageMoveHod_asks {demote : Bool} (hpinned : demote = true → (d.hub.pte p).pinned = false) :
    pageMoveHod q p demote d = (d.hubMap (·.askMove p demote), .done .accepted 0 []) := by
  have hmoves : (demote && (d.hub.pte p).pinned) = false := by
    cases demote with
    | true => exact hpinned rfl
    | false => rfl
  simp only [pageMoveHod, hown, hvalid, hmoves, Bool.not_true, Bool.false_eq_true, if_false]

end
end

/-- The hods of pages are staged for the boundary, and there do what R131 and R146 say. -/
theorem pageHodsAct : PageHodsAct := by
  intro c
  refine ⟨fun part n pin => hodStages_of_row (.pageAlloc part n pin) (by decide) ?_,
    fun pages => hodStages_of_row (.pageFree pages) (by decide) ?_,
    fun page lessees writer => hodStages_of_row (.leaseSet page lessees writer) (by decide) ?_,
    fun page unpin => hodStages_of_row (.pagePin page unpin) (by decide) ?_,
    fun page => hodStages_of_row (.pteRead page) (by decide) ?_,
    fun page demote => hodStages_of_row (.pageMove page demote) (by decide) ?_⟩
  · intro d q hop hargs hpin hlo hhi ps h halloc
    exact (Dev.effect_pageAlloc hop hargs hpin ⟨hlo, hhi⟩).trans (pageAllocHod_allocates halloc)
  · intro d q hop hargs hlen hpages
    refine (Dev.effect_pageFree hop hargs (by rwa [List.length_map])).trans (pageFreeHod_frees fun p hp => ?_)
    obtain ⟨w, hw, rfl⟩ := List.mem_map.1 hp
    exact hpages w hw
  · intro d q hop hargs hown hvalid hwriter hroom
    exact (Dev.effect_leaseSet hop hargs).trans (leaseSetHod_sets hown hvalid hwriter hroom)
  · intro d q hop hargs p e pinned hown hvalid
    refine ⟨fun hone => ?_, fun hzero hstays => ?_, fun hzero hres hmoving => ?_, fun hzero hres hmoving hfree => ?_⟩
    · rw [Dev.effect_pagePin hop hargs (by omega), hone]
      exact pagePinHod_unpins hown hvalid
    · rw [Dev.effect_pagePin hop hargs (by omega), hzero]
      exact pagePinHod_pins hown hvalid hstays
    · rw [Dev.effect_pagePin hop hargs (by omega), hzero]
      exact pagePinHod_returns hown hvalid hres hmoving
    · rw [Dev.effect_pagePin hop hargs (by omega), hzero]
      exact pagePinHod_promotes hown hvalid hres hmoving hfree
  · intro d q hop hargs hown hp
    exact (Dev.effect_pteRead hop hargs).trans (pteReadHod_answers hown hp)
  · intro d q hop hargs hdemote hown hvalid hpinned
    exact (Dev.effect_pageMove hop hargs hdemote).trans (pageMoveHod_asks hown hvalid fun hone => hpinned (by simpa using hone))

/-- Settles O26: an access in the window is one to its page, any other is counted, and the hods are `pageHodsAct`. -/
theorem hostWindowReachesPages : Obligations.HostWindowReachesPages := by
  refine ⟨?_, pageHodsAct⟩
  intro s m addr n bs hup h e a own reads
  refine ⟨fun hown hres => ⟨fun hgood => ?_, fun hbad => ?_, ?_⟩, fun hown hres hawake hue => ⟨fun hgood => ?_, ?_⟩,
    fun hnot => ⟨?_, ?_⟩⟩
  · exact exec_onBase hup rfl (Dev.bar4_reads hown (Or.inl hres) (Dev.pageData_spilled 0xFF hres hgood))
  · exact exec_onBase hup rfl (Dev.bar4_reads hown (Or.inl hres) (Dev.pageData_poisoned 0xFF hres hbad))
  · exact exec_onBase hup rfl ((Dev.bar4_writes n hown (Or.inl hres)).trans (Dev.pageWrite_spilled _ bs 0xFF hres))
  · exact exec_onBase hup rfl (Dev.bar4_reads hown (Or.inr hawake) (Dev.pageData_tile 0xFF hres hgood (Hub.ueIn_nil hue _ _)))
  · exact exec_onBase hup rfl ((Dev.bar4_writes n hown (Or.inr hawake)).trans (Dev.pageWrite_tile _ bs 0xFF hres hue))
  · exact exec_onBase hup rfl (Dev.bar4_ignores (some bs) n hnot)
  · exact exec_onBase hup rfl (Dev.bar4_ignores none n hnot)

end Sys2Proof.Machine
end

section
/-!
Proofs of the family of the tiles: tests, groups, scrub, ageing and migration (R122, R123, R136, R137, R140 to R143).
-/

open Sys2Proof Sys2Proof.Machine

namespace Sys2Proof.Machine

/-! ### The end of a test (R122, R123) -/

section
variable {d : Dev} {n : Nat} (hst : (d.hub.tileAt n).st = .testing) (htested : (d.hub.tileAt n).tested = false)
include hst htested

theorem Dev.testComplete_available (howner : d.hub.ownerReg n = 0xF) : d.testComplete n true =
    (d.zeroTile n).hubMap (·.updTile n fun t => { t with st := .available, tested := false, retest := false }) := by
  simp only [Dev.testComplete, hst, htested, howner, and_self, ne_eq, not_true_eq_false, if_true, if_false, decide_false]

theorem Dev.testComplete_owned (howner : d.hub.ownerReg n ≠ 0xF) : d.testComplete n true =
    (d.zeroTile n).hubMap (·.updTile n fun t => { t with st := .testing, tested := true, retest := false }) := by
  simp only [Dev.testComplete, hst, htested, howner, and_self, ne_eq, not_false_eq_true, if_true, decide_true]

variable (hretest : (d.hub.tileAt n).retest = false)
include hretest

theorem Dev.testComplete_fails (howner : d.hub.ownerReg n = 0xF) :
    d.testComplete n false = (d.zeroTile n).hubMap (·.failTile n) := by
  simp only [Dev.testComplete, hst, htested, howner, hretest, and_self, ne_eq, not_true_eq_false, if_true, if_false,
    Bool.false_and, Bool.false_eq_true]

/-- The partition that waited for the tile loses it. -/
theorem Dev.testComplete_failsOwned (howner : d.hub.ownerReg n ≠ 0xF) : d.testComplete n false = (d.zeroTile n).hubMap fun h =>
    ((h.setFld (0x400200 + 4 * n) 3 0 0xF).flag 0x400000 0).failTile n := by
  simp only [Dev.testComplete, hst, htested, howner, hretest, and_self, ne_eq, not_false_eq_true, if_true, if_false,
    Bool.false_and, Bool.false_eq_true]

end

/-! ### Tests of AVAILABLE tiles (R123) -/

section
variable {h : Hub} {n : Nat}

theorem Hub.retestStart_turn (hturn : h.retestNext = some n) (hfree : ∀ e ∈ h.tile.tile, e.2.retest = false)
    (hthrot : h.therm.throt = false) : h.retestStart n =
      let k := (h.wakeNow (tileGroup n)).updTile n fun t => { t with st := .testing, retest := true }
      { k with tile := { k.tile with retestAt := (n + 1) % 768 } } :=
  if_pos ⟨hturn, List.all_eq_true.2 fun e he => by simp [hfree e he], hthrot⟩

theorem Hub.retestStart_waits (hturn : h.retestNext ≠ some n) : h.retestStart n = h := if_neg fun hall => hturn hall.1

theorem Hub.retestNext_available (hnext : h.retestNext = some n) : (h.tileAt n).st = .available := by
  simpa using List.find?_some hnext

end

/-! ### Groups (R142, R143) -/

theorem Hub.groupRetain_idle {h : Hub} {g : Nat} (hset : h.fld (0x400040 + 4 * g) 1 0 = 1) (hon : h.groupPower g = .on) :
    h.groupRetain g = h.setGroup g .retained := if_pos ⟨hset, hon⟩

theorem Dev.groupWoken_waking {d : Dev} {g : Nat} (hwaking : d.hub.groupPower g = .waking) : d.groupWoken g =
    (d.hub.tile.wakeWait.filter fun w => d.hub.waitsFor w == some g).foldl (fun d w => d.serveTile w.1 w.2 {} none false)
      (d.hubMap (·.setGroup g .on)) := if_pos hwaking

/-! ### Scrub (R140, R141) -/

section
variable {h : Hub} {n k : Nat}

/-- A tile that scrub visits: OWNED or HUB. -/
def Hub.scrubbed (h : Hub) (n : Nat) : Bool := (h.tileAt n).st == .owned || (h.tileAt n).st == .hub

/-- The end of a scrub pass: every tile's count is at zero. -/
def Hub.scrubEnd (h : Hub) : Hub :=
  { h with tile := { h.tile with tile := h.tile.tile.foldl (fun t e => t.set {} e.1 { e.2 with ce := 0 }) [] } }

/-- A loop none of whose steps changes the start ends where it started. -/
theorem foldl_eq_self {α β : Type} {f : β → α → β} {b : β} {l : List α} (hf : ∀ a ∈ l, f b a = b) : l.foldl f b = b := by
  induction l with
  | nil => rfl
  | cons a l ih =>
    rw [List.foldl_cons, hf a List.mem_cons_self]
    exact ih fun c hc => hf c (List.mem_cons_of_mem a hc)

theorem Hub.wakeNow_awake {g : Nat} (hawake : h.groupAsleep g = false) : h.wakeNow g = h := if_neg (by simp [hawake])

/-- With every group awake, a scrub pass counts what it finds in the tiles that it visits. -/
theorem Hub.scrub_awake (hthrot : h.therm.throt = false) (hawake : ∀ e ∈ h.tile.tile, h.groupAsleep (tileGroup e.1) = false)
    (ces : List (Nat × Nat)) (bad : List Nat) : h.scrub ces bad =
      ((bad.filter fun a => h.scrubbed (tileOf a)).foldl (fun h a => (h.noteBad [a]).ueRead a 0xFF)
        ((ces.filter fun c => h.scrubbed c.1).foldl (fun h c => h.countCe c.1 c.2) h)).scrubEnd := by
  have hwoken : (h.tile.tile.filter fun e => h.scrubbed e.1).foldl (fun h e => h.wakeNow (tileGroup e.1)) h = h :=
    foldl_eq_self fun e he => Hub.wakeNow_awake (hawake e (List.mem_filter.1 he).1)
  refine (if_neg (by simp [hthrot])).trans ?_
  exact congrArg (fun k : Hub => ((bad.filter fun a => h.scrubbed (tileOf a)).foldl (fun h a => (h.noteBad [a]).ueRead a 0xFF)
    ((ces.filter fun c => h.scrubbed c.1).foldl (fun h c => h.countCe c.1 c.2) k)).scrubEnd) hwoken

/-- The words corrected are counted, and against their tile. -/
def Hub.ceCounted (h : Hub) (n k : Nat) : Hub := (h.bump 0x400010 k).updTile n fun t => { t with ce := t.ce + k }

theorem Hub.countCe_counts (hk : 0 < k) :
    h.countCe n k = if h.fld 0x400008 23 8 < (h.tileAt n).ce + k then (h.ceCounted n k).flagTile n else h.ceCounted n k := by
  have hfld : (h.ceCounted n k).fld 0x400008 23 8 = h.fld 0x400008 23 8 := rfl
  have hce : ((h.ceCounted n k).tileAt n).ce = (h.tileAt n).ce + k := by
    rw [Hub.ceCounted, Hub.tileAt_updTile]
    rfl
  rw [← hfld, ← hce]
  exact if_neg (Nat.ne_of_gt hk)

theorem Hub.countCe_within (hk : 0 < k) (hwithin : (h.tileAt n).ce + k ≤ h.fld 0x400008 23 8) :
    h.countCe n k = h.ceCounted n k := (Hub.countCe_counts hk).trans (if_neg (Nat.not_lt.2 hwithin))

theorem Hub.countCe_past (hk : 0 < k) (hpast : h.fld 0x400008 23 8 < (h.tileAt n).ce + k) :
    h.countCe n k = (h.ceCounted n k).flagTile n := (Hub.countCe_counts hk).trans (if_pos hpast)

variable (hthrot : h.therm.throt = false) (hawake : ∀ e ∈ h.tile.tile, h.groupAsleep (tileGroup e.1) = false)
  (hlive : (h.tileAt n).st = .owned ∨ (h.tileAt n).st = .hub)
include hthrot hawake hlive

/-- A scrub pass that corrects words of one tile. -/
theorem Hub.scrub_corrects (k : Nat) : h.scrub [(n, k)] [] = (h.countCe n k).scrubEnd := by
  have hscrubbed : h.scrubbed n = true := by simpa [Hub.scrubbed] using hlive
  rw [Hub.scrub_awake hthrot hawake, List.filter_cons_of_pos (by exact hscrubbed)]
  rfl

/-- A scrub pass that meets an uncorrectable word. -/
theorem Hub.scrub_meets {a : Nat} (ha : tileOf a = n) : h.scrub [] [a] = ((h.noteBad [a]).ueRead a 0xFF).scrubEnd := by
  have hscrubbed : h.scrubbed (tileOf a) = true := by simpa [Hub.scrubbed, ha] using hlive
  rw [Hub.scrub_awake hthrot hawake, List.filter_cons_of_pos (by exact hscrubbed)]
  rfl

end

/-! ### The end of a migration (R135, R137, R139) -/

section
variable (h : Hub) (m : MoveEnd)

theorem Hub.wakeTier_notedFrom (f : Nat) : (h.wakeTier f).tile.NotedFrom h.tile :=
  Tiles.NotedFrom.foldl (fun h _ => h.wakeNow_notedFrom _) _ h

/-- The units whose tag does not match poison their page, and nothing else of it changes. -/
theorem Hub.tagFails_keep (units : List Nat) (page : Nat) :
    let k := units.foldl (fun h u => h.tagFail page u) h
    k.tile.moves = h.tile.moves ∧ ∃ poison, k.pte page = { h.pte page with poison } := by
  induction units generalizing h with
  | nil => exact ⟨rfl, _, rfl⟩
  | cons u units ih =>
    obtain ⟨hmoves, poison, hpte⟩ := ih (h.tagFail page u)
    refine ⟨hmoves.trans ?_, poison, ?_⟩
    · simp [Hub.tagFail, Hub.updPte]
    · rw [List.foldl_cons, hpte, Hub.tagFail_pte]

/-- What the copy of a page in a tile finds is noted. -/
theorem Hub.copyFinds_notedFrom (hres : (h.pte m.page).res = false) : (h.copyFinds m).tile.NotedFrom h.tile := by
  have hces : (m.ces.foldl (fun h c => h.countCe c.1 c.2) h).tile.NotedFrom h.tile :=
    Tiles.NotedFrom.foldl (fun h c => h.countCe_notedFrom c.1 c.2) m.ces h
  unfold Hub.copyFinds
  dsimp only
  rw [if_neg (Bool.eq_false_iff.1 hres)]
  refine (Tiles.NotedFrom.foldl (fun k u => ?_) _ _).trans ((Hub.noteBad_notedFrom _ m.bad).trans hces)
  split
  · exact .of_eq (Hub.ueRead_tile ..)
  · exact .refl _

/-- What a copy finds leaves the migrations, and of its page's entry changes the poison at most. -/
theorem Hub.copyFinds_keeps : (h.copyFinds m).tile.moves = h.tile.moves ∧
    ∃ poison, (h.copyFinds m).pte m.page = { h.pte m.page with poison } := by
  cases hres : (h.pte m.page).res with
  | true =>
    have htags : h.copyFinds m = m.tags.foldl (fun h u => h.tagFail m.page u) h := if_pos hres
    rw [htags]
    exact h.tagFails_keep m.tags m.page
  | false =>
    have hnoted := h.copyFinds_notedFrom m hres
    exact ⟨hnoted.moves, _, Hub.pte_of_notedFrom hnoted m.page⟩

end

/-- What copying a page leaves: the fuses, the flash, and of the tile block all but the uncorrectable words. -/
structure Dev.CopiedFrom (d' d : Dev) : Prop where
  otp : d'.otp = d.otp
  flash : d'.mem.flash = d.mem.flash
  tile : d'.hub.tile.NotedFrom d.hub.tile

theorem Dev.CopiedFrom.refl (d : Dev) : d.CopiedFrom d := ⟨rfl, rfl, .refl _⟩

theorem Dev.CopiedFrom.trans {a b c : Dev} (h1 : a.CopiedFrom b) (h2 : b.CopiedFrom c) : a.CopiedFrom c :=
  ⟨h1.otp.trans h2.otp, h1.flash.trans h2.flash, h1.tile.trans h2.tile⟩

theorem Dev.CopiedFrom.foldl {α : Type} {f : Dev → α → Dev} (hf : ∀ d a, (f d a).CopiedFrom d) (l : List α) (d : Dev) :
    (l.foldl f d).CopiedFrom d := by
  induction l generalizing d with
  | nil => exact .refl _
  | cons a l ih => exact (ih _).trans (hf d a)

theorem Dev.zeroFrame_copiedFrom (d : Dev) (res : Bool) (f : Nat) : (d.zeroFrame res f).CopiedFrom d := by
  unfold Dev.zeroFrame
  split
  · exact ⟨rfl, rfl, .refl _⟩
  · exact ⟨rfl, rfl, ⟨_, _, _, _, _, rfl⟩⟩

theorem Dev.copyPage_copiedFrom (d : Dev) (e : Pte) (toSpill : Bool) (dst : Nat) : (d.copyPage e toSpill dst).CopiedFrom d := by
  refine (Dev.zeroFrame_copiedFrom ..).trans ((Dev.CopiedFrom.foldl (fun d c => ?_) _ _).trans (Dev.zeroFrame_copiedFrom ..))
  split <;> exact ⟨rfl, rfl, .refl _⟩

section
variable {d : Dev} {m : MoveEnd} {mv : Migration}

/-- The device when a page's copy is about to be made: the groups of its tile frame are awake, and its errors are met. -/
def Dev.moveMet (d : Dev) (m : MoveEnd) (mv : Migration) : Dev :=
  d.hubMap fun h => (h.wakeTier (if mv.toSpill then (h.pte m.page).frame else mv.dst)).copyFinds m

theorem Dev.moveMet_otp (d : Dev) (m : MoveEnd) (mv : Migration) : (d.moveMet m mv).otp = d.otp := Dev.hubMap_otp ..

theorem Dev.moveMet_mem (d : Dev) (m : MoveEnd) (mv : Migration) : (d.moveMet m mv).mem = d.mem := Dev.hubMap_mem ..

theorem Dev.moveMet_keeps (d : Dev) (m : MoveEnd) (mv : Migration) :
    (d.moveMet m mv).hub.tile.moves = d.hub.tile.moves ∧
      ∃ poison, (d.moveMet m mv).hub.pte m.page = { d.hub.pte m.page with poison } := by
  have hwoken := d.hub.wakeTier_notedFrom (if mv.toSpill then (d.hub.pte m.page).frame else mv.dst)
  obtain ⟨hmoves, poison, hpte⟩ :=
    (d.hub.wakeTier (if mv.toSpill then (d.hub.pte m.page).frame else mv.dst)).copyFinds_keeps m
  rw [Dev.moveMet, Dev.hubMap_hub, hmoves, hpte, Hub.pte_of_notedFrom hwoken m.page]
  exact ⟨hwoken.moves, poison, rfl⟩

/-- The page's entry once its copy is made (R137, R139). -/
def Pte.moved (e : Pte) (mv : Migration) (bad : Bool) : Pte :=
  { e with
    moving := false, res := mv.toSpill, frame := mv.dst, poison := e.poison || bad
    gen := if mv.toSpill then e.gen + 1 else e.gen }

/-- The migration is over, and the page's entry is the one that it takes (R137). -/
def Hub.moveEnded (h : Hub) (page : Nat) (mv : Migration) (part : Nat) (bad : Bool) : Hub :=
  let k := h.updPte page fun e => e.moved mv bad
  ({ k with tile := { k.tile with
    moves := k.tile.moves.filter (·.page != page)
    freeNext := if mv.freed then k.tile.freeNext ++ [page] else k.tile.freeNext
    demoted := if mv.toSpill then k.tile.demoted.upd 0 part (· + 1) else k.tile.demoted } } : Hub).bump
      (if mv.toSpill then 0x500018 else 0x500020)

theorem Hub.moveEnded_moves (h : Hub) (page : Nat) (mv : Migration) (part : Nat) (bad : Bool) :
    (h.moveEnded page mv part bad).tile.moves = h.tile.moves.filter (·.page != page) := by
  rw [Hub.moveEnded, Hub.bump_tile]
  rfl

theorem Hub.moveEnded_pte (h : Hub) (page : Nat) (mv : Migration) (part : Nat) (bad : Bool) :
    (h.moveEnded page mv part bad).pte page = (h.pte page).moved mv bad := by
  rw [Hub.moveEnded, Hub.bump_pte]
  exact Hub.pte_updPte h page fun e => e.moved mv bad

theorem Dev.moveDone_ends (hmove : d.hub.tile.moves.find? (·.page == m.page) = some mv) :
    let k := d.moveMet m mv
    let e := k.hub.pte m.page
    d.moveDone m = (k.copyPage e mv.toSpill mv.dst).hubMap
      (·.moveEnded m.page mv e.part (!e.res && (k.hub.ueIn (e.frame * 65536) 65536).isSome)) := by
  simp only [Dev.moveDone, hmove]
  rfl

/-- What a migration's end leaves: the page is no longer moving, and lies where the migration took it. -/
theorem Dev.moveDone_moves (hmove : d.hub.tile.moves.find? (·.page == m.page) = some mv) :
    let r := d.moveDone m
    let e := d.hub.pte m.page
    r.otp = d.otp ∧ r.mem.flash = d.mem.flash ∧ r.hub.tile.moves = d.hub.tile.moves.filter (·.page != m.page) ∧
      (r.hub.pte m.page).moving = false ∧ (r.hub.pte m.page).res = mv.toSpill ∧ (r.hub.pte m.page).frame = mv.dst ∧
      (r.hub.pte m.page).gen = if mv.toSpill then e.gen + 1 else e.gen := by
  intro r e
  obtain ⟨hkept, poison, hpte⟩ := d.moveMet_keeps m mv
  have hends : r = _ := Dev.moveDone_ends hmove
  have hcopied := (d.moveMet m mv).copyPage_copiedFrom ((d.moveMet m mv).hub.pte m.page) mv.toSpill mv.dst
  generalize (d.moveMet m mv).copyPage _ _ _ = copied at hends hcopied
  rw [hends, Dev.hubMap_hub, Dev.hubMap_mem, Dev.hubMap_otp, Hub.moveEnded_moves, Hub.moveEnded_pte,
    Hub.pte_of_notedFrom hcopied.tile, hcopied.tile.moves, hkept, hpte]
  have hflash := hcopied.flash.trans (congrArg Memories.flash (Dev.moveMet_mem ..))
  exact ⟨hcopied.otp.trans (Dev.moveMet_otp ..), hflash, rfl, rfl, rfl, rfl, rfl⟩

end

/-- Settles O25: each row is its operation with the row's condition met. -/
theorem tileUpkeep : Obligations.TileUpkeep := by
  intro s n g hup h t
  refine ⟨fun hst htested howner => ?_, fun hst htested howner => ?_, fun hst htested howner hretest => ?_,
    fun hst htested howner hretest => ?_, fun hturn hfree hthrot => ?_, fun hturn => ?_, fun m hnext => ?_, fun hset hon => ?_,
    fun hwaking => ?_, fun hthrot hawake k hk => ?_,
    fun hdecay => ?_, fun m mv hmove _ => ?_⟩
  · exact exec_onBase hup rfl (Dev.testComplete_available hst htested howner)
  · exact exec_onBase hup rfl (Dev.testComplete_owned hst htested howner)
  · exact exec_onBase hup rfl (Dev.testComplete_fails hst htested hretest howner)
  · exact exec_onBase hup rfl (Dev.testComplete_failsOwned hst htested hretest howner)
  · exact exec_onHub hup rfl (Hub.retestStart_turn hturn hfree hthrot)
  · exact exec_onHub (g := id) hup rfl (Hub.retestStart_waits hturn)
  · exact Hub.retestNext_available hnext
  · exact exec_onHub hup rfl (Hub.groupRetain_idle hset hon)
  · exact exec_onBase hup rfl (Dev.groupWoken_waking hwaking)
  · intro counted closed hlive
    have hcorrects := Hub.scrub_corrects hthrot hawake hlive k
    exact ⟨fun hwithin => exec_onHub hup rfl (hcorrects.trans (congrArg Hub.scrubEnd (Hub.countCe_within hk hwithin))),
      fun hpast => exec_onHub hup rfl (hcorrects.trans (congrArg Hub.scrubEnd (Hub.countCe_past hk hpast))),
      fun a ha => exec_onHub hup rfl (Hub.scrub_meets hthrot hawake hlive ha)⟩
  · exact exec_onHub hup rfl (if_pos hdecay)
  · obtain ⟨hotp, hflash, hmoves, hplaced⟩ := Dev.moveDone_moves hmove
    exact ⟨_, exec_onBase (g := (·.moveDone m)) hup rfl rfl, rfl, hotp, hflash, hmoves, hplaced⟩

end Sys2Proof.Machine
end

section
/-!
Proofs of the family of the hods: what some requests do once their time comes (R146, R171, R225, R226, R228, R301, R310, R369, R371,
R400).
-/

open Sys2Proof Sys2Proof.Machine

namespace Sys2Proof.Machine

section
variable {d : Dev} {q : HodReq}

/-! ### Requesters other than a VF (R388, R399) -/

/-- The partition that such a requester names is the one of its field. -/
theorem HodReq.part_of_not_vf (hright : q.who.isVf = false) (p : Nat) : q.part p = p := by
  unfold HodReq.part
  cases hwho : q.who with
  | vf n => simp [hwho, Requester.isVf] at hright
  | _ => rfl

/-- Such a requester may name any page. -/
theorem Hub.ownPage_of_not_vf (hright : q.who.isVf = false) (h : Hub) (p : Nat) : h.ownPage q p = true := by
  unfold Hub.ownPage
  cases hwho : q.who with
  | vf n => simp [hwho, Requester.isVf] at hright
  | _ => rfl

/-! ### From the opcodes to the hods -/

theorem Dev.effect_collAbort {part id : Nat} (hop : q.op = 0x0603) (hargs : q.args = [.u8 part, .u16 id]) :
    d.effect q = collAbortHod q part id d := by
  simp [Dev.effect, Dev.effectMortar, hop, HodReq.num, hargs]

theorem collAbortHod_ends {part id : Nat} {c : Coll} (hcoll : d.hub.coll? (q.part part) id = some c) :
    collAbortHod q part id d = (d.hubMap fun h => h.endColl c 0x06 0xFF 0, .ok []) := by
  simp only [collAbortHod, hcoll]

theorem Hub.effectPower_cfgRefSet {h : Hub} {ref : Nat} (hop : q.op = 0x0F04) (hargs : q.args = [.u32 ref]) :
    h.effectPower q = (h.updRb fun b => { b with refDue := some ref }, .ok []) := by
  simp [Hub.effectPower, hop, HodReq.num, hargs]

/-- A service of the system block that acts on the hub alone. -/
theorem Dev.serveNow_reg {f : Hub → Hub} {o : HodOut} (hblock : q.op / 256 = 0x0F) (e : d.hub.serveReg q = (f d.hub, o)) :
    d.serveNow q = (d.hubMap f, o) := by
  rw [Dev.serveNow_system hblock, Dev.byHub, e]
  rfl

theorem Hub.serveReg_txnBegin {h : Hub} (hop : q.op = 0x0F01) : h.serveReg q = h.txnBegin q.who := by
  simp only [Hub.serveReg, hop]

theorem Hub.serveReg_echo {h : Hub} {bs : List Byte} (hop : q.op = 0x0F06) (hargs : q.args = [.block bs]) :
    h.serveReg q = (h, .ok [.block bs]) := by
  simp [Hub.serveReg, hop, HodReq.bytes, hargs]

end

/-- A seated channel that HS_RELEASE frees waits for its slot (R301). -/
theorem hsReleaseHod_seated {h : Hub} {q : HodReq} {c : Nat} (hright : q.who.isVf = false) (hc : c < 10)
    (hst : (h.hsCh c).st = .latched) (hseated : (h.hsCh c).seated = true) (hhold : h.holdActive c = false) :
    hsReleaseHod q c h =
      ((h.updHs c fun k => { k with st := .waitSlot, retries := 0 }).event 0x0B04 [.u8 c, .u8 q.who.id], .ok []) := by
  have hupd : (h.updHs c fun k => { k with st := if k.seated then .waitSlot else .waitSeat, retries := 0 }) =
      h.updHs c fun k => { k with st := .waitSlot, retries := 0 } := by
    have hseat : (Tbl.get {} h.hs.ch c).seated = true := hseated
    simp only [Hub.updHs, Tbl.upd, hseat, if_true]
  rw [hsReleaseHod_releases hright hc (Or.inl hst) hhold, hupd]

/-- JOB_START of an enabled partition with a job plane, by a requester that is no VF, comes to the job's own checks (R225). -/
theorem Hub.effectStream_jobStart_enabled {h : Hub} {q : HodReq} {p seed : Nat} (hop : q.op = 0x0807)
    (hargs : q.args = [.u8 p, .u64 seed]) (hright : q.who.isVf = false) (hp : p < 8) (hen : h.partEn p = true)
    (hplane : h.fw.jp ≠ none) : h.effectStream q = h.jobStart p seed := by
  have hpart := HodReq.part_of_not_vf hright p
  rw [Hub.effectStream_jobStart hop hargs, Option.isSome_iff_ne_none.2 hplane,
    jobStartHod_enabled (hpart.symm ▸ hp) (hpart.symm ▸ hen), hpart]

/-- Settles O49: each request comes to its hod, and what that does with its checks met is read off the lemma about it. -/
theorem hodEffects : Obligations.HodEffects := by
  intro d q a b c h
  refine ⟨fun hop hargs hright hvalid hwriter hroom => ?_, fun col hop hargs hright hcoll => ?_, fun hop hargs hright hst => ?_,
    fun hop hargs hright ha hen hplane => ?_, fun hop hargs => ?_, fun hop hargs hright ha hst hseated hhold => ?_,
    fun hop hargs => ?_, fun hop hright hopen hfree => ?_, fun hop hopen => ?_, fun bs hop hargs => ?_⟩
  · exact (Dev.effect_leaseSet hop hargs).trans
      (leaseSetHod_sets (Hub.ownPage_of_not_vf hright h a) hvalid hwriter fun _ _ => hroom)
  · exact (Dev.effect_collAbort hop hargs).trans (collAbortHod_ends ((HodReq.part_of_not_vf hright a).symm ▸ hcoll))
  · exact Dev.effect_stream (by omega) ((Hub.effectStream_park hop hargs).trans (streamParkHod_ready hright hst))
  · have hstart : h.effectStream q = h.jobStart a b := Hub.effectStream_jobStart_enabled hop hargs hright ha hen hplane
    exact ⟨fun hjob => Dev.effect_stream (f := id) (by omega) (hstart.trans (Hub.jobStart_busy hjob b)),
      fun hjob hnum => Dev.effect_stream (by omega) (hstart.trans (Hub.jobStart_starts hjob hnum b))⟩
  · have hoff : h.effectPower q = hsOffHod q a h := Hub.effectPower_hsOff hop hargs
    exact ⟨fun hvf => Dev.effect_power (f := id) (by omega) (by omega) (hoff.trans (hsOffHod_vf hvf a)),
      fun hright => Dev.effect_power (by omega) (by omega) (hoff.trans (hsOffHod_turnsOff hright a))⟩
  · exact Dev.effect_power (by omega) (by omega)
      ((Hub.effectPower_hsRelease hop hargs).trans (hsReleaseHod_seated hright ha hst hseated hhold))
  · exact Dev.effect_power (by omega) (by omega) (Hub.effectPower_cfgRefSet hop hargs)
  · exact Dev.serveNow_reg (by omega)
      ((Hub.serveReg_txnBegin hop).trans (Hub.txnBegin_opens hopen ((if_neg (Bool.eq_false_iff.1 hright)).symm ▸ hfree)))
  · exact Dev.serveNow_reg (f := id) (by omega) ((Hub.serveReg_txnBegin hop).trans (Hub.txnBegin_busy hopen))
  · exact Dev.serveNow_reg (f := id) (by omega) (Hub.serveReg_echo hop hargs)

end Sys2Proof.Machine
end
